-- ==== Sys2Proof/Word.lean ====
section
/-! DEFINITION. The octet type, the sparse map type and the device's plain enumerations of width. -/

namespace Sys2Proof

/-- One octet, as every wire, cell, frame and record of the part is made of (R5, R6). -/
abbrev Byte := BitVec 8

/-- A sparse map from a key to a value: keys strictly rising, and no entry equal to what an unlisted key reads as. -/
abbrev NMap := List (Nat × Nat)

/-- An instant or a span, in ticks of 1/27 ns: a CORE cycle is 18 ticks, a TMC cycle 20, one ns 27 (R8). -/
abbrev Tick := Nat

/-- A TIME80 value: seconds in [79:32], nanoseconds in [31:0] (R7). -/
abbrev Time80 := Nat

end Sys2Proof
end

