-- ==== Sys2Proof/Syntax.lean ====
section
/-! DEFINITION. The commands of the block and their operands. A command that happens at an instant carries it as `t`,
in ticks of 1/27 ns since power-up (log entry 1); a dictionary request carries its path and tag. -/

namespace Sys2Proof

/-- A path on which a dictionary request arrives (R34): the I3C target, the mailbox, or a POP session slot. -/
inductive Path where
  | i3c
  | mailbox
  | pop (slot : Fin 4)
  deriving DecidableEq, Repr

/-- The sender of a POP datagram: link-layer source address, IP source address and UDP source port (R51). -/
structure Peer where
  mac : Nat
  ip : Nat
  port : Nat
  deriving DecidableEq, Repr

/-- The protocols the management port answers for its own addresses (R51). -/
inductive NeighbourMsg where
  | arp | icmpEcho | icmpv6Echo | neighbourSolicitation
  deriving DecidableEq, Repr

/-- The direction of a pipeline section (R78). -/
inductive Dir where
  | ingress | egress
  deriving DecidableEq, Repr

/-- The dies of the part (R11). -/
inductive Die where
  | fe | tm
  deriving DecidableEq, Repr

/-- The outcome of one read of a protected memory line: intact, corrected, uncorrectable (R204, R206, R207). -/
inductive MemErr where
  | none | corrected | uncorrectable
  deriving DecidableEq, Repr

/-- A place the scrubber visits: a line of a versioned table, or a learned bucket (R204 to R210). -/
inductive MemLine where
  | versioned (table line : Nat)
  | bucket (b : Fin 262144)
  deriving DecidableEq, Repr

/-- What a step of a pass reads of a benchmark (R507, R509, R512): its measure in tenths or, of a stage or logic path, the
delay of its replica in tenths of a picosecond; and the slack that a clock-margin sweep of the path finds, which only a
baseline pass makes. -/
structure PassRead where
  bench : Nat
  value : Int
  sweep : Int
  deriving DecidableEq, Repr

/-- The direction in which an HBM sweep shows the margin to be wider, when one does (R527). -/
structure HbmTrim where
  read : Option Bool
  write : Option Bool
  deriving DecidableEq, Repr

/-- What the plan review meets outside the part (R509, R523, R527): what the regulators of the FE and the TM rail read back,
and what the sweeps of the pseudo-channels showed; a channel that the list leaves out can be widened by neither trim. -/
structure PlanInput where
  railFe : Option Nat
  railTm : Option Nat
  trims : List (Nat × HbmTrim)
  deriving DecidableEq, Repr

/-- What one step of a stepped operation found, where the step depends on the outside: a check that fails ends the
operation with its abort code (R622), a reading is a reading of the benchmarks of that step, the last step of a pass is the
plan review (R509). -/
inductive StepResult where
  | ok
  | failed (abort : Nat)
  | readings (r : List PassRead)
  | review (p : PlanInput)
  deriving DecidableEq, Repr

/-- The control part of a stage operation: its packet context, the bundle in which it stands, and its condition
[Cn] or [not Cn] (R94, R95). -/
structure OpCtl where
  ctx : Nat
  bundle : Fin 16
  cond : Option (Fin 4 × Bool)
  deriving DecidableEq, Repr

/-- A metadata field of the header vector (R90). -/
inductive Meta where
  | sourcePort | epochTag | sequence | pass | pipeline | parseFlags | firstStamp | frameLength | parseReach
  | rxTimestamp | puntReason | destination | nextHop | ecmpGroup | class_ | puntClass | mirrorSession | requests
  | egressPort | flowHash | deferred0 | deferred1 | validMap
  deriving DecidableEq, Repr

/-- A destination of a stage operation: containers, metadata fields, the user area, temporaries (R89, R90, R95). -/
inductive Dest where
  | b (n : Fin 64)
  | h (n : Fin 64)
  | w (n : Fin 80)
  | field (f : Meta)
  | fieldBit (f : Meta) (n : Fin 80)
  | user (offset : Fin 64) (bytes : Fin 65)
  | temp (n : Fin 8)
  deriving DecidableEq, Repr

/-- A result field of a lookup port: `LKn.field` (R150, R170, R173, R174, R182). -/
inductive LkField where
  | hit | isGroup | index | group | counter | user | action | outLabel | vrf | data | kind | qid | egressPort
  | dmac | vlanId | vlanPresent | labelPresent | puntClass | count | result | slot | actionData
  deriving DecidableEq, Repr

/-- A source of a stage operation. -/
inductive Src where
  | place (d : Dest)
  | lk (port : Fin 4) (f : LkField)
  | imm (n : Nat)
  | cond (c : Fin 4)
  deriving DecidableEq, Repr

/-- The relations of CMP (R95). -/
inductive Rel where
  | eq | ne | lt | le | gt | ge
  deriving DecidableEq, Repr

/-- The header stacks of PUSH and POP (R95): MPLS labels, tags of the first and of the second Ethernet layer. -/
inductive HdrStack where
  | mpls | vlan | vlan2
  deriving DecidableEq, Repr

/-- What a lock word belongs to: a learned bucket or a block of 8 counter pairs (R197). -/
inductive LockTarget where
  | bucket (b : Fin 262144)
  | block (k : Fin 2097152)
  deriving DecidableEq, Repr

/-- Who takes a lock: a DMA engine or the table window (R197). -/
inductive Holder where
  | dma (e : Fin 4)
  | window
  deriving DecidableEq, Repr

/-- The pools of R252. -/
inductive Pool where
  | ingress | egress | hbm | feBody
  deriving DecidableEq, Repr

/-- A SerDes lane of R461. -/
inductive Lane where
  | line (n : Fin 128)
  | fabric (n : Fin 160)
  | pairing (n : Fin 2)
  deriving DecidableEq, Repr

/-- What a fault source reports on its path: class, FC-01 as 0, named level, die code, object and value of the detail, and
whether its raising statement names its own action at level F2 (R540, R552, R556). -/
structure FaultSource where
  cls : Fin 16
  level : Fin 4
  die : Fin 3
  object : Nat
  value : Nat
  ownAction : Bool
  deriving DecidableEq, Repr

/-- A configuration register of a channel block (R570, R571). -/
inductive ChReg where
  | cfg | baseLow | baseHigh
  deriving DecidableEq, Repr

/-- An error the PCIe side reports on an access of a descriptor (R580): a completion with status UR or CA, a poisoned
completion, a completion timeout, an uncorrectable error in data read on the part. -/
inductive HostErr where
  | none | completion | poisoned | timeout | dataRead
  deriving DecidableEq, Repr

/-- A PCIe configuration request (R565, R566, R642): a read of a 32-bit register by its number; writes of the memory space
enable, of a BAR, of the MSI-X enable and function mask, of the maximum payload 128 × 2^mps, the maximum read request
128 × 2^mrrs and the relaxed ordering enable; and what link training has brought: speed code 1 to 5, width 2^width. -/
inductive CfgReq where
  | read (reg : Fin 1024)
  | setMemory (on : Bool)
  | bar (n : Fin 3) (v : Nat)
  | msix (on mask : Bool)
  | link (speed : Fin 5) (width : Fin 4)
  | payload (mps : Fin 3) (mrrs : Fin 6) (relaxed : Bool)
  deriving DecidableEq, Repr

/-- The reset pins (R635). -/
inductive ResetPin where
  | rst | wrst
  deriving DecidableEq, Repr

/-- An IEEE 1149.1 instruction (R669); `other` is any instruction outside the list R669 keeps. -/
inductive TapInstr where
  | bypass | idcode | samplePreload | extest | highz | clamp | other (code : Nat)
  deriving DecidableEq, Repr

/-- What INIT_COMPLETE brings: its instant, and what the regulators of the FE and the TM rail read back for the plan
voltages (R525). -/
structure InitEnd where
  t : Nat
  fe : Option Nat
  tm : Option Nat
  deriving DecidableEq, Repr

/-- What a start finds: the strap pins (R668), the retention structures whose check fails, as a bit map in the order of
R651 (R652), and the lines whose intact copies differ, as table, line and the epoch stamps of the on-die and of the backing
copy (R209), and whether the flash has an SFDP table with the 4-byte Quad I/O read (R676). -/
structure Found where
  bootsel : Fin 4
  lost : Fin 64
  differ : List (Nat × Nat × Nat × Nat)
  flashOk : Bool
  deriving DecidableEq, Repr

/-- The commands of the block: one constructor per row of the table of operations and events. -/
inductive Instr where
  /-- READ (R702). -/
  | read (t : Nat) (p : Path) (tag : Nat) (idx sub : Nat)
  /-- WRITE (R702). -/
  | write (t : Nat) (p : Path) (tag : Nat) (idx sub : Nat) (val : List Byte)
  /-- DESCRIBE (R39). -/
  | describe (t : Nat) (p : Path) (tag : Nat) (idx sub : Nat)
  /-- NOP (R39). -/
  | nop (t : Nat) (p : Path) (tag : Nat) (idx sub : Nat)
  /-- REQUEST_SERVICE (R42). -/
  | requestService (t : Nat)
  /-- PERSISTENT_WRITE_COMMIT (R38). -/
  | persistentWriteCommit (t : Nat)
  /-- I3C_PRIVATE_WRITE (R46). -/
  | i3cPrivateWrite (t : Nat) (bytes : List Byte) (parityOk : Bool)
  /-- I3C_PRIVATE_READ (R46). -/
  | i3cPrivateRead (t : Nat)
  /-- ENTDAA (R46). -/
  | entdaa (t : Nat) (addr : Fin 128)
  /-- SETDASA (R46). -/
  | setdasa (t : Nat) (static : Fin 128) (addr : Fin 128)
  /-- RSTDAA (R46). -/
  | rstdaa (t : Nat)
  /-- ENEC (R47). -/
  | enec (t : Nat)
  /-- DISEC (R47). -/
  | disec (t : Nat)
  /-- GETPID (R46). -/
  | getpid (t : Nat)
  /-- GETBCR (R46). -/
  | getbcr (t : Nat)
  /-- GETDCR (R46). -/
  | getdcr (t : Nat)
  /-- GETSTATUS (R704). -/
  | getstatus (t : Nat)
  /-- GETMWL (R46). -/
  | getmwl (t : Nat)
  /-- GETMRL (R46). -/
  | getmrl (t : Nat)
  /-- SETMWL (R46). -/
  | setmwl (t : Nat) (n : Nat)
  /-- SETMRL (R46). -/
  | setmrl (t : Nat) (n : Nat)
  /-- RSTACT (R705). -/
  | rstact (t : Nat) (action : Option (Fin 256))
  /-- UNSUPPORTED_CCC (R46). -/
  | unsupportedCcc (t : Nat) (code : Fin 256) (direct : Bool)
  /-- TARGET_RESET_PATTERN (R705). -/
  | targetResetPattern (t : Nat) (found : Found)
  /-- MBX_GO (R49). -/
  | mbxGo (t : Nat) (buffer : List Byte)
  /-- MBX_STAT_CLEAR (R50). -/
  | mbxStatClear (t : Nat) (done ovr : Bool)
  /-- POP_HELLO (R53). -/
  | popHello (t : Nat) (src : Peer) (dgram : List Byte)
  /-- POP_PROOF (R34). -/
  | popProof (t : Nat) (src : Peer) (dgram : List Byte)
  /-- POP_REQUEST (R56). -/
  | popRequest (t : Nat) (src : Peer) (dgram : List Byte)
  /-- POP_CLOSE (R55). -/
  | popClose (t : Nat) (src : Peer) (dgram : List Byte)
  /-- POP_DATAGRAM_DISCARD (R61). -/
  | popDatagramDiscard (t : Nat) (src : Peer) (fragmented : Bool) (dgram : List Byte)
  /-- POP_HANDSHAKE_TIMEOUT (R54). -/
  | popHandshakeTimeout (t : Nat) (session : Nat)
  /-- POP_IDLE_TIMEOUT (R55). -/
  | popIdleTimeout (t : Nat) (slot : Fin 4)
  /-- POP_SOURCE_IGNORE_END (R62). -/
  | popSourceIgnoreEnd (t : Nat) (ip : Nat)
  /-- POP_KEY_WRITE (R60). -/
  | popKeyWrite (t : Nat) (p : Path) (tag : Nat) (role : Fin 3) (val : List Byte)
  /-- MGMT_NEIGHBOUR_PROTOCOL (R51). -/
  | mgmtNeighbourProtocol (t : Nat) (kind : NeighbourMsg) (v6 : Bool) (target : Nat) (src : Peer)
  /-- STEPPED_OPERATION_START (R65). -/
  | steppedOperationStart (t : Nat) (p : Path) (tag : Nat) (idx sub : Nat) (val : List Byte)
  /-- STEPPED_OPERATION_STEP (R70). -/
  | steppedOperationStep (t : Nat) (handle : Nat) (step : StepResult)
  /-- CANCEL (R68). -/
  | cancel (t : Nat) (p : Path) (tag : Nat) (val : List Byte)
  /-- ACKNOWLEDGE (R66). -/
  | acknowledge (t : Nat) (p : Path) (tag : Nat) (val : List Byte)
  /-- JOURNAL_SLOT_EXPIRE (R66). -/
  | journalSlotExpire (t : Nat) (slot : Fin 12)
  /-- ANTI_ROLLBACK_FLOOR_WRITE (R72). -/
  | antiRollbackFloorWrite (t : Nat) (p : Path) (tag : Nat) (val : List Byte)
  /-- IMAGE_KEY_WRITE (R613). -/
  | imageKeyWrite (t : Nat) (p : Path) (tag : Nat) (slot : Fin 2) (val : List Byte)
  /-- UNIT_NUMBER_WRITE (R75). -/
  | unitNumberWrite (t : Nat) (p : Path) (tag : Nat) (val : List Byte)
  /-- SURVEY_BASELINE_RETAKE (R514). -/
  | surveyBaselineRetake (t : Nat) (p : Path) (tag : Nat) (val : List Byte)
  /-- DEBUG_LOCK_WRITE (R75). -/
  | debugLockWrite (t : Nat) (p : Path) (tag : Nat) (val : List Byte)
  /-- LINE_FRAME_RECEIVE (R440). -/
  | lineFrameReceive (t : Nat) (port : Fin 128) (frame : List Byte) (codeError : Bool)
  /-- FRAME_DEAL (R83). -/
  | frameDeal (t : Nat) (dir : Dir)
  /-- STAGE_MATCH (R92): `errs` what the reads of LP0 to LP3 show, then those of their second candidate buckets. -/
  | stageMatch (t : Nat) (ctx : Nat) (stage : Fin 16) (errs : List MemErr)
  /-- BACKING_REPAIR (R206). -/
  | backingRepair (t : Nat) (table line : Nat) (backingBad : Bool)
  /-- SCRUB_VISIT (R204): `differ` the epoch stamps of intact copies that differ (R209). -/
  | scrubVisit (t : Nat) (place : MemLine) (onDie : MemErr) (backing : MemErr) (differ : Option (Nat × Nat))
  /-- MOV (R95). -/
  | mov (o : OpCtl) (d : Dest) (s : Src)
  /-- SET (R95). -/
  | set_ (o : OpCtl) (d : Dest) (imm : Nat)
  /-- ADD (R95). -/
  | add (o : OpCtl) (d : Dest) (a b : Src)
  /-- SUB (R95). -/
  | sub (o : OpCtl) (d : Dest) (a b : Src)
  /-- AND (R95). -/
  | and_ (o : OpCtl) (d : Dest) (a b : Src)
  /-- OR (R95). -/
  | or_ (o : OpCtl) (d : Dest) (a b : Src)
  /-- XOR (R95). -/
  | xor_ (o : OpCtl) (d : Dest) (a b : Src)
  /-- SHL (R95). -/
  | shl (o : OpCtl) (d : Dest) (a : Src) (n : Fin 32)
  /-- SHR (R95). -/
  | shr (o : OpCtl) (d : Dest) (a : Src) (n : Fin 32)
  /-- MIN (R95). -/
  | min_ (o : OpCtl) (d : Dest) (a b : Src)
  /-- MAX (R95). -/
  | max_ (o : OpCtl) (d : Dest) (a b : Src)
  /-- EXT (R95). -/
  | ext (o : OpCtl) (d : Dest) (s : Src) (hi lo : Nat)
  /-- INS (R95). -/
  | ins (o : OpCtl) (d : Dest) (s : Src) (hi lo : Nat)
  /-- CMP (R95). -/
  | cmp (o : OpCtl) (c : Fin 4) (a : Src) (rel : Rel) (b : Src)
  /-- HASH (R95). -/
  | hash (o : OpCtl) (d : Dest) (list : List Src) (seed : Nat)
  /-- VALID (R95). -/
  | valid (o : OpCtl) (n : Fin 64) (v : Bool)
  /-- PUSH (R95). -/
  | pushHdr (o : OpCtl) (stack : HdrStack)
  /-- POP (R95). -/
  | popHdr (o : OpCtl) (stack : HdrStack)
  /-- CSUM (R95). -/
  | csum (o : OpCtl) (n : Fin 64)
  /-- COUNT (R95). -/
  | count (o : OpCtl) (idx len : Src)
  /-- METER (R95). -/
  | meter (o : OpCtl) (idx : Src) (d : Dest)
  /-- SELECT (R179). -/
  | select (o : OpCtl) (d : Dest) (group h : Src)
  /-- LEARN (R186). -/
  | learn (o : OpCtl) (tbl : Nat) (key : List Src)
  /-- FWD (R95). -/
  | fwd (o : OpCtl) (qid : Src)
  /-- FWDM (R95). -/
  | fwdm (o : OpCtl) (group : Src)
  /-- DROP (R95). -/
  | dropReq (o : OpCtl)
  /-- RECIRC (R95). -/
  | recirc (o : OpCtl)
  /-- PUNT (R95). -/
  | punt (o : OpCtl) (cls reason : Src)
  /-- COPY (R95). -/
  | copy (o : OpCtl) (cls reason : Src)
  /-- MIRROR (R95). -/
  | mirror (o : OpCtl) (session : Src)
  /-- STAMP (R95). -/
  | stamp (o : OpCtl) (d : Dest)
  /-- BR (R94). -/
  | br (o : OpCtl) (target : Fin 16)
  /-- BRC (R94). -/
  | brc (o : OpCtl) (c : Fin 4) (target : Fin 16)
  /-- END (R94). -/
  | end_ (o : OpCtl)
  /-- FRAME_DISPOSITION (R99). -/
  | frameDisposition (t : Nat) (ctx : Nat)
  /-- REORDER_RELEASE (R101). -/
  | reorderRelease (t : Nat) (domain : Nat)
  /-- REORDER_TIMEOUT (R104). -/
  | reorderTimeout (t : Nat) (domain : Nat)
  /-- STALE_EPOCH_DROP (R109). -/
  | staleEpochDrop (t : Nat) (dir : Dir)
  /-- PIPELINE_FAILURE (R106). -/
  | pipelineFailure (t : Nat) (pl : Fin 32)
  /-- STAGE_SUBSTITUTE (R119). -/
  | stageSubstitute (t : Nat) (pl : Fin 32) (stage : Fin 16)
  /-- PIPELINE_DRAIN_COMPLETE (R119). -/
  | pipelineDrainComplete (t : Nat) (pl : Fin 32)
  /-- PIPELINE_RETIRE (R120). -/
  | pipelineRetire (t : Nat) (pl : Fin 32)
  /-- LEARN_NOTIFICATION (R187). -/
  | learnNotification (t : Nat) (dir : Dir)
  /-- AGEING_SWEEP_VISIT (R193). -/
  | ageingSweepVisit (t : Nat) (bucket : Fin 262144)
  /-- LOCK_ACQUIRE (R198). -/
  | lockAcquire (t : Nat) (target : LockTarget) (who : Holder)
  /-- LOCK_RELEASE (R198). -/
  | lockRelease (t : Nat) (target : LockTarget) (who : Holder)
  /-- LOCK_EXPIRE (R203). -/
  | lockExpire (t : Nat) (target : LockTarget)
  /-- TABLE_WINDOW_READ (R593). -/
  | tableWindowRead (t : Nat) (offset len : Nat)
  /-- TABLE_WINDOW_WRITE (R593). -/
  | tableWindowWrite (t : Nat) (offset : Nat) (data : List Byte)
  /-- BANK_RELAY (R211). -/
  | bankRelay (t : Nat) (bank : Fin 128)
  /-- LEARNED_TABLE_SIZE_WRITE (R214). -/
  | learnedTableSizeWrite (t : Nat) (p : Path) (tag : Nat) (tbl : Fin 8) (sub : Nat) (val : List Byte)
  /-- PARSER_PROFILE_WRITE (R141). -/
  | parserProfileWrite (t : Nat) (p : Path) (tag : Nat) (profile : Fin 8) (sub : Nat) (val : List Byte)
  /-- KEY_TEMPLATE_WRITE (R145). -/
  | keyTemplateWrite (t : Nat) (p : Path) (tag : Nat) (template : Fin 64) (val : List Byte)
  /-- CLASSIFICATION_WIDTH_WRITE (R706). -/
  | classificationWidthWrite (t : Nat) (p : Path) (tag : Nat) (tbl : Fin 32) (val : List Byte)
  /-- TXN_OPEN (R224). -/
  | txnOpen (t : Nat) (p : Path) (tag : Nat) (txn : Nat)
  /-- TXN_WRITE (R227). -/
  | txnWrite (t : Nat) (p : Path) (tag : Nat) (txn : Nat) (keystone : Bool) (tabref : List Byte) (payload : List Byte)
  /-- TXN_PROGRAM (R242). -/
  | txnProgram (t : Nat) (p : Path) (tag : Nat) (txn : Nat) (keystone : Bool) (dir : Nat) (offset : Nat) (payload : List Byte)
  /-- TXN_GRATICULE (R345). -/
  | txnGraticule (t : Nat) (p : Path) (tag : Nat) (txn : Nat) (keystone : Bool) (port part first : Nat) (payload : List Byte)
  /-- TXN_KEYSTONE (R231). -/
  | txnKeystone (t : Nat) (p : Path) (tag : Nat) (txn : Nat)
  /-- TXN_ABANDON (R224). -/
  | txnAbandon (t : Nat) (p : Path) (tag : Nat) (txn : Nat)
  /-- TXN_WRITE_RESUME (R229). -/
  | txnWriteResume (t : Nat)
  /-- TXN_IDLE_TIMEOUT (R224). -/
  | txnIdleTimeout (t : Nat) (txn : Nat)
  /-- COMMIT (R234). -/
  | commit (t : Nat)
  /-- ADMISSION (R272). -/
  | admission (t : Nat)
  /-- CELL_FREE (R261). -/
  | cellFree (t : Nat) (pool : Pool) (frees : List (Nat × Nat))
  /-- HANDOVER_OF_CELLS (R260). -/
  | handoverOfCells (t : Nat) (pool : Pool) (cells : List Nat) (fromCode toCode : Fin 8) (count : Nat)
  /-- POOL_ACCOUNT_MISMATCH (R265). -/
  | poolAccountMismatch (t : Nat) (pool : Pool)
  /-- EVICTION_RUN (R275). -/
  | evictionRun (t : Nat) (qid : Fin 524288)
  /-- PREFETCH (R278). -/
  | prefetch (t : Nat) (qid : Fin 524288) (readError : Bool)
  /-- PFC_REFRESH (R290). -/
  | pfcRefresh (t : Nat) (port : Fin 128) (prio : Fin 8)
  /-- PARTITION_BOUNDARY_WRITE (R253). -/
  | partitionBoundaryWrite (t : Nat) (p : Path) (tag : Nat) (val : List Byte)
  /-- BAD_TAIL (R297). -/
  | badTail (t : Nat) (qid : Fin 524288)
  /-- DEFAULT_MAP_APPLY (R305). -/
  | defaultMapApply (t : Nat) (p : Path) (tag : Nat) (val : List Byte)
  /-- NODE_RECORD_WRITE (R312). -/
  | nodeRecordWrite (t : Nat) (p : Path) (tag : Nat) (queue : Bool) (val : List Byte)
  /-- OUTLET_WRITE (R308). -/
  | outletWrite (t : Nat) (p : Path) (tag : Nat) (val : List Byte)
  /-- SCHEDULER_DECISION (R317). -/
  | schedulerDecision (t : Nat) (node : Fin 256)
  /-- SOJOURN_SWEEP (R333). -/
  | sojournSweep (t : Nat) (qid : Fin 524288) (localList : Bool)
  /-- REQUEST_REFRESH (R325). -/
  | requestRefresh (t : Nat) (qid : Fin 524288)
  /-- FABRIC_TRANSMIT (R326). -/
  | fabricTransmit (t : Nat)
  /-- GRANT_ISSUE (R328). -/
  | grantIssue (t : Nat) (qid : Fin 524288)
  /-- CREDIT_TIMEOUT (R330). -/
  | creditTimeout (t : Nat) (qid : Fin 524288)
  /-- HOLD_TIMER_EXPIRE (R334). -/
  | holdTimerExpire (t : Nat) (node : Fin 256)
  /-- SAMPLER_ROUND (R336). -/
  | samplerRound (t : Nat) (sampler : Fin 16)
  /-- GRATICULE_CHANGE_EFFECT (R356). -/
  | graticuleChangeEffect (t : Nat) (port : Fin 128)
  /-- FABRIC_CELL_RECEIVE (R364). -/
  | fabricCellReceive (t : Nat) (lane : Fin 161) (slot : List Byte)
  /-- REACHABILITY_EXPIRE (R372). -/
  | reachabilityExpire (t : Nat) (lane : Fin 160)
  /-- RESEQUENCING_TIMEOUT (R382). -/
  | resequencingTimeout (t : Nat) (src : Fin 512) (stream : Fin 9)
  /-- STREAM_IDLE (R383). -/
  | streamIdle (t : Nat) (src : Fin 512) (stream : Fin 9)
  /-- PIN_HOLD_END (R390). -/
  | pinHoldEnd (t : Nat) (unit : Fin 512)
  /-- LANE_RETIRE (R391). -/
  | laneRetire (t : Nat) (lane : Fin 160) (bySurvey : Bool)
  /-- RETIRE (R392). -/
  | retireCmd (t : Nat) (p : Path) (tag : Nat) (lane : Fin 160) (val : List Byte)
  /-- LANE_POWER_DOWN (R392). -/
  | lanePowerDown (t : Nat) (lane : Fin 160)
  /-- LANE_RETURN_HOLD_END (R393). -/
  | laneReturnHoldEnd (t : Nat) (lane : Fin 160)
  /-- LANE_SHORTFALL_TIMEOUT (R394). -/
  | laneShortfallTimeout (t : Nat)
  /-- LINK_FRAME_SEND (R402). -/
  | linkFrameSend (t : Nat) (lane : Fin 162)
  /-- LINK_FRAME_RECEIVE (R404). -/
  | linkFrameReceive (t : Nat) (lane : Fin 162) (rx : List Bool)
  /-- SLIP_BUFFER_DELIVER (R408). -/
  | slipBufferDeliver (t : Nat) (lane : Fin 162)
  /-- LOS_DECLARE (R411). -/
  | losDeclare (t : Nat) (lane : Fin 162)
  /-- LOS_CLEAR (R411). -/
  | losClear (t : Nat) (lane : Fin 162)
  /-- LOF_DECLARE (R411). -/
  | lofDeclare (t : Nat) (lane : Fin 162)
  /-- LOF_CLEAR (R411). -/
  | lofClear (t : Nat) (lane : Fin 162)
  /-- PERFORMANCE_SECOND (R421). -/
  | performanceSecond (t : Nat) (lane : Fin 162)
  /-- PERFORMANCE_POST (R423). -/
  | performancePost (t : Nat) (lane : Fin 162)
  /-- PORT_MODE_WRITE (R432). -/
  | portModeWrite (t : Nat) (p : Path) (tag : Nat) (port : Fin 128) (val : List Byte)
  /-- LINK_TRAINING_FAILURE (R434). -/
  | linkTrainingFailure (t : Nat) (port : Fin 128)
  /-- PORT_UP (R435). -/
  | portUp (t : Nat) (port : Fin 128)
  /-- PORT_DOWN (R435). -/
  | portDown (t : Nat) (port : Fin 128)
  /-- REMOTE_FAULT_RECEIVE (R436). -/
  | remoteFaultReceive (t : Nat) (port : Fin 128)
  /-- FLAP_HOLD_END (R437). -/
  | flapHoldEnd (t : Nat) (port : Fin 128)
  /-- LANE_LOCK_LOSS (R439). -/
  | laneLockLoss (t : Nat) (lane : Fin 128)
  /-- LRX_CLOCK_STOP (R23). -/
  | lrxClockStop (t : Nat) (group : Fin 32) (port : Fin 128) (partial_ : List Byte)
  /-- PFC_FRAME_RECEIVE (R442). -/
  | pfcFrameReceive (t : Nat) (port : Fin 128) (frame : List Byte)
  /-- PFC_PAUSE_EXPIRE (R442). -/
  | pfcPauseExpire (t : Nat) (port : Fin 128) (prio : Fin 8)
  /-- PFC_STORM (R444). -/
  | pfcStorm (t : Nat) (port : Fin 128) (prio : Fin 8)
  /-- STORM_RECOVERY_END (R444). -/
  | stormRecoveryEnd (t : Nat) (port : Fin 128) (prio : Fin 8)
  /-- MAC_CONTROL_FRAME_RECEIVE (R445). -/
  | macControlFrameReceive (t : Nat) (port : Fin 128) (frame : List Byte)
  /-- LINE_FRAME_TRANSMIT (R447). -/
  | lineFrameTransmit (t : Nat) (port : Fin 128)
  /-- TRANSMIT_PERMISSION_CHANGE (R448). -/
  | transmitPermissionChange (t : Nat)
  /-- PHASE_ADJUSTMENT (R450). -/
  | phaseAdjustment (t : Nat) (p : Path) (tag : Nat) (val : List Byte)
  /-- SLEW_COMPLETE (R450). -/
  | slewComplete (t : Nat)
  /-- STEP (R451). -/
  | timeStep (t : Nat) (p : Path) (tag : Nat) (val : List Byte)
  /-- TIME_STEP_APPLY (R451). -/
  | timeStepApply (t : Nat)
  /-- TIME_SECOND_CARRY (R449). -/
  | timeSecondCarry (t : Nat)
  /-- PPS_IN_EDGE (R452). -/
  | ppsInEdge (t : Nat)
  /-- PPS_OUT_PULSE (R452). -/
  | ppsOutPulse (t : Nat)
  /-- LOOP (R463). -/
  | loopSet (t : Nat) (p : Path) (tag : Nat) (val : List Byte)
  /-- GENERATOR (R464). -/
  | generator (t : Nat) (p : Path) (tag : Nat) (val : List Byte)
  /-- CHECKER (R464). -/
  | checker (t : Nat) (p : Path) (tag : Nat) (val : List Byte)
  /-- CLEAR_CHECKER (R468). -/
  | clearChecker (t : Nat) (p : Path) (tag : Nat) (val : List Byte)
  /-- TEST_MODE (R427). -/
  | testMode (t : Nat) (p : Path) (tag : Nat) (lane : Fin 162) (val : List Byte)
  /-- TRANSMIT_SLEEP (R466). -/
  | transmitSleep (t : Nat) (p : Path) (tag : Nat) (val : List Byte)
  /-- RECEIVE_SLEEP (R466). -/
  | receiveSleep (t : Nat) (p : Path) (tag : Nat) (val : List Byte)
  /-- LANE_WAKE_COMPLETE (R466). -/
  | laneWakeComplete (t : Nat) (lane : Lane) (receive : Bool)
  /-- PAIRING_ENABLE_WRITE (R470). -/
  | pairingEnableWrite (t : Nat) (p : Path) (tag : Nat) (val : List Byte)
  /-- CLAIM_CELL_SEND (R473). -/
  | claimCellSend (t : Nat)
  /-- CLAIM_CELL_RECEIVE (R475). -/
  | claimCellReceive (t : Nat) (lane : Fin 2) (slot : List Byte)
  /-- CLAIM_LOSS (R476). -/
  | claimLoss (t : Nat)
  /-- LONE_START_TIMEOUT (R479). -/
  | loneStartTimeout (t : Nat)
  /-- TAKE_OVER (R479). -/
  | takeOverCmd (t : Nat) (p : Path) (tag : Nat)
  /-- HANDOVER (R479). -/
  | handoverCmd (t : Nat) (p : Path) (tag : Nat)
  /-- RESYNC (R479). -/
  | resyncCmd (t : Nat) (p : Path) (tag : Nat)
  /-- ISOLATE (R479). -/
  | isolateCmd (t : Nat) (p : Path) (tag : Nat)
  /-- HANDOVER_TIMEOUT (R479). -/
  | handoverTimeout (t : Nat)
  /-- RANK_LOWER (R483). -/
  | rankLower (t : Nat)
  /-- TRANSFER_ITEM_RECEIVE (R492). -/
  | transferItemReceive (t : Nat) (lane : Fin 2) (slot : List Byte)
  /-- TRANSFER_RESEND (R492). -/
  | transferResend (t : Nat)
  /-- RESYNCHRONISATION (R494). -/
  | resynchronisation (t : Nat)
  /-- STREAM_RECORD_WRITE (R498). -/
  | streamRecordWrite (t : Nat) (p : Path) (tag : Nat) (val : List Byte)
  /-- STREAM_RESET_TIMEOUT (R503). -/
  | streamResetTimeout (t : Nat) (stream : Fin 16384)
  /-- BENCHMARK_READING (R508). -/
  | benchmarkReading (t : Nat) (bench : Nat) (reading : Int)
  /-- DAILY_PASS_START (R510). -/
  | dailyPassStart (t : Nat)
  /-- DAILY_PASS_SKIP (R510). -/
  | dailyPassSkip (t : Nat)
  /-- BASELINE_PASS_START (R512). -/
  | baselinePassStart (t : Nat)
  /-- SURVEY_REMEDY (R517). -/
  | surveyRemedy (t : Nat) (die : Die) (readBack : Option Nat) (trim : HbmTrim)
  /-- AVS_RETRY (R524). -/
  | avsRetry (t : Nat) (die : Die) (readBack : Option Nat)
  /-- MEMORY_REPAIR (R529). -/
  | memoryRepair (t : Nat) (code : Nat) (unit : Nat) (uncorrectable : Bool)
  /-- BOND_WIRE_SUBSTITUTE (R15). -/
  | bondWireSubstitute (t : Nat) (toTm : Bool) (wire : Fin 9216)
  /-- PIPELINE_FLOOR_WRITE (R521). -/
  | pipelineFloorWrite (t : Nat) (p : Path) (tag : Nat) (val : List Byte)
  /-- BOND_FLIT_UNCORRECTABLE (R13). -/
  | bondFlitUncorrectable (t : Nat) (toTm : Bool) (lost : List Nat)
  /-- SIDEBAND_SAFE_VALUE (R14). -/
  | sidebandSafeValue (t : Nat) (die : Die)
  /-- SIDEBAND_SAFE_TIMEOUT (R548). -/
  | sidebandSafeTimeout (t : Nat) (die : Die)
  /-- CROSSING_POINTER_MISMATCH (R21). -/
  | crossingPointerMismatch (t : Nat) (crossing : Nat)
  /-- FAULT_PATH_FAILURE (R541). -/
  | faultPathFailure (t : Nat) (path : Fin 2304) (src : FaultSource)
  /-- FAULT_PATH_ASSERT (R540). -/
  | faultPathAssert (t : Nat) (path : Option (Fin 2304)) (src : FaultSource)
  /-- REACTION_TIMER_EXPIRE (R545). -/
  | reactionTimerExpire (t : Nat) (event : Nat)
  /-- ACKNOWLEDGE_EVENT (R558). -/
  | acknowledgeEvent (t : Nat) (p : Path) (tag : Nat) (val : List Byte)
  /-- ACKNOWLEDGE_CLASS (R558). -/
  | acknowledgeClass (t : Nat) (p : Path) (tag : Nat) (val : List Byte)
  /-- SERVICE_CORE_WATCHDOG (R555). -/
  | serviceCoreWatchdog (t : Nat)
  /-- SERVICE_CORE_RESTART_COMPLETE (R555). -/
  | serviceCoreRestartComplete (t : Nat) (loadOk : Bool)
  /-- CONTROLLER_WATCHDOG (R703). -/
  | controllerWatchdog (t : Nat) (ctl : Fin 24)
  /-- CONTROLLER_LOAD_CHECK (R627). -/
  | controllerLoadCheck (t : Nat) (ctl : Fin 24) (ok : Bool)
  /-- FLT_N_PULSE_END (R561). -/
  | fltNPulseEnd (t : Nat)
  /-- FLT_N_HOLD (R561). -/
  | fltNHold (t : Nat) (p : Path) (tag : Nat) (val : List Byte)
  /-- TAIL (R573). -/
  | tailWrite (t : Nat) (ch : Fin 64) (v : Nat)
  /-- EN (R572). -/
  | enWrite (t : Nat) (ch : Fin 64) (on : Bool)
  /-- RESUME (R572). -/
  | resume (t : Nat) (ch : Fin 64)
  /-- CH_CFG (R571). -/
  | chCfg (t : Nat) (ch : Fin 64) (reg : ChReg) (v : Nat)
  /-- REGISTER_ACCESS_INVALID (R568): an access of BAR0 that no other row makes; `data` what a write brings, none of a read. -/
  | registerAccessInvalid (t : Nat) (offset size : Nat) (data : Option (List Byte))
  /-- DESCRIPTOR_FETCH (R574, R576): the 32 bytes of the descriptor in host memory. -/
  | descriptorFetch (t : Nat) (engine : Fin 4) (desc : List Byte)
  /-- DESCRIPTOR_COMPLETE (R582). -/
  | descriptorComplete (t : Nat) (engine : Fin 4) (err : HostErr)
  /-- DMA_PUNT (R589). -/
  | dmaPunt (t : Nat) (engine : Fin 4)
  /-- DMA_INJECT (R590). -/
  | dmaInject (t : Nat) (engine : Fin 4) (data : List Byte)
  /-- DMA_TIMESTAMP (R591). -/
  | dmaTimestamp (t : Nat) (engine : Fin 4)
  /-- DMA_TABLE_RECORDS (R221). -/
  | dmaTableRecords (t : Nat) (engine : Fin 4) (data : List Byte)
  /-- DMA_TABLE_READ (R241). -/
  | dmaTableRead (t : Nat) (engine : Fin 4)
  /-- DMA_BUCKET_READ (R199). -/
  | dmaBucketRead (t : Nat) (engine : Fin 4)
  /-- DMA_BUCKET_WRITE (R200). -/
  | dmaBucketWrite (t : Nat) (engine : Fin 4) (data : List Byte)
  /-- DMA_COUNTER_READ (R199). -/
  | dmaCounterRead (t : Nat) (engine : Fin 4)
  /-- DMA_COUNTER_WRITE (R202). -/
  | dmaCounterWrite (t : Nat) (engine : Fin 4) (data : List Byte)
  /-- DMA_STATS_COUNTERS (R600). -/
  | dmaStatsCounters (t : Nat) (engine : Fin 4)
  /-- DMA_STATS_SAMPLES (R600). -/
  | dmaStatsSamples (t : Nat) (engine : Fin 4)
  /-- DMA_LOCK_RETRY (R587). -/
  | dmaLockRetry (t : Nat) (engine : Fin 4)
  /-- TRANSFER_WITHDRAWN (R586). -/
  | transferWithdrawn (t : Nat) (engine : Fin 4)
  /-- TIMESTAMP_DESCRIPTOR_FLUSH (R591). -/
  | timestampDescriptorFlush (t : Nat) (engine : Fin 4)
  /-- PCIE_HOT_RESET (R588). -/
  | pcieHotReset (t : Nat) (linkDown : Bool)
  /-- PCIE_CONFIG_REQUEST (R642). -/
  | pcieConfigRequest (t : Nat) (req : CfgReq)
  /-- USER_WINDOW_READ (R599). -/
  | userWindowRead (t : Nat) (offset len : Nat)
  /-- COUNTER_SNAPSHOT (R597). -/
  | counterSnapshot (t : Nat)
  /-- CLEAR (R596). -/
  | clearCounters (t : Nat) (p : Path) (tag : Nat) (val : List Byte)
  /-- CARTOUCHE (R616). -/
  | cartouche (t : Nat) (p : Path) (tag : Nat) (val : List Byte)
  /-- CHUNK (R620). -/
  | chunk (t : Nat) (p : Path) (tag : Nat) (val : List Byte)
  /-- VERIFY (R622). -/
  | verify (t : Nat) (p : Path) (tag : Nat) (val : List Byte)
  /-- ACTIVATION_TIME (R623). -/
  | activationTime (t : Nat) (p : Path) (tag : Nat) (val : List Byte)
  /-- CLOSE (R630). -/
  | closeSession (t : Nat) (p : Path) (tag : Nat) (val : List Byte)
  /-- CONFIRM (R626). -/
  | confirm (t : Nat) (p : Path) (tag : Nat) (val : List Byte)
  /-- REVERT (R626). -/
  | revert (t : Nat) (p : Path) (tag : Nat) (val : List Byte)
  /-- UPDATE_ACTIVATE (R624). -/
  | updateActivate (t : Nat)
  /-- ACTIVATION_LOADS_COMPLETE (R624). -/
  | activationLoadsComplete (t : Nat) (ok : Bool)
  /-- TRIAL_EXPIRE (R626). -/
  | trialExpire (t : Nat)
  /-- RST_N_LOW (R635). -/
  | rstNLow (t : Nat) (held : Nat)
  /-- WRST_N_LOW (R635). -/
  | wrstNLow (t : Nat) (held : Nat)
  /-- RESET_PIN_RISE (R637). -/
  | resetPinRise (t : Nat) (pin : ResetPin) (found : Found)
  /-- PWRGD_FALL (R634). -/
  | pwrgdFall (t : Nat) (copiesDone : Fin 4) (copyCut burnCut : Bool)
  /-- PWRGD_RISE (R637). -/
  | pwrgdRise (t : Nat) (found : Found)
  /-- RESET_WORK_COMPLETE (R701). -/
  | resetWorkComplete (t : Nat) (found : Found)
  /-- SERVICE_CORE_START (R655). -/
  | serviceCoreStart (t : Nat)
  /-- INIT_COMPLETE (R655). -/
  | initComplete (e : InitEnd)
  /-- DEVICE_RECORD_REWRITE (R644). -/
  | deviceRecordRewrite (t : Nat)
  /-- START (R655). -/
  | startCmd (t : Nat) (p : Path) (tag : Nat)
  /-- STOP (R655). -/
  | stopCmd (t : Nat) (p : Path) (tag : Nat)
  /-- MAINT (R655). -/
  | maintCmd (t : Nat) (p : Path) (tag : Nat)
  /-- LEAVE (R655). -/
  | leaveCmd (t : Nat) (p : Path) (tag : Nat)
  /-- WARM_RESET_COMMAND (R639). -/
  | warmResetCommand (t : Nat) (p : Path) (tag : Nat)
  /-- COLD_RESET_COMMAND (R639). -/
  | coldResetCommand (t : Nat) (p : Path) (tag : Nat)
  /-- COMMANDED_RESET_BEGIN (R639). -/
  | commandedResetBegin (t : Nat) (found : Found)
  /-- CHOOSE_SOURCE (R649). -/
  | chooseSource (t : Nat) (p : Path) (tag : Nat) (val : List Byte)
  /-- CLEAR_RECORD (R700). -/
  | clearRecord (t : Nat) (p : Path) (tag : Nat) (val : List Byte)
  /-- SIDEBAND_SAFE_VALUE_CLEAR (R14). -/
  | sidebandSafeValueClear (t : Nat) (die : Die)
  /-- LANE_LOCK (R435). -/
  | laneLock (t : Nat) (lane : Lane)
  /-- CHECKER_LOCK (R464). -/
  | checkerLock (t : Nat) (lane : Lane) (bitsChecked errors : Nat)
  /-- FAULT_PATH_RECOVER (R542). -/
  | faultPathRecover (t : Nat) (path : Fin 2304)
  /-- LEARNED_TABLE_TICK (R192). -/
  | learnedTableTick (t : Nat) (tbl : Fin 8)
  /-- PAIR_CLAIM_EXPIRE (R484). -/
  | pairClaimExpire (t : Nat) (unit : Fin 512)
  /-- PPS_OUT_PULSE_END (R452). -/
  | ppsOutPulseEnd (t : Nat)
  /-- DIE_CLOCK_STOP (R560). -/
  | dieClockStop (t : Nat) (die : Die)
  /-- TEST_ACCESS_INSTRUCTION (R669). -/
  | testAccessInstruction (t : Nat) (instr : TapInstr)
  deriving DecidableEq, Repr

end Sys2Proof
end

