-- ==== Sys2Proof/Config.lean ====
section
/-! DEFINITION. What one part fixes (constants of R28 and of the domains of R19) and the free values: constants
without a body, of which nothing can be proved (R54 nonces, per-part identities, factory data, secret keys). -/

namespace Sys2Proof.Config

/-- Ticks of one ns (TIME and PCI cycle, R19). -/
def ns : Nat := 27
/-- Ticks of one CORE cycle, 1.5 GHz (R19). -/
def core : Nat := 18
/-- Ticks of one TMC cycle, 1.35 GHz (R19). -/
def tmc : Nat := 20
/-- Ticks of one microsecond. -/
def us : Nat := 27000
/-- Ticks of one millisecond. -/
def ms : Nat := 27000000
/-- Ticks of one second. -/
def sec : Nat := 27000000000

/-- Unit of the TIME fraction: one ns is this many units (R469: the frequency adjustment counts 1/1,024 ppb). -/
def timeUnit : Nat := 1024000000000

/-- Units of the TIME fraction to one ns: 27 × `timeUnit`, so that a tick of a ns / 27 at any adjustment is whole. -/
def timeFine : Nat := 27 * timeUnit

/-- A free value: the n-th value the manual leaves open (nonces, session ids, undetermined colours). -/
opaque freeNat : Nat → Nat
/-- 0x1000:19, "Per part" (R28). -/
opaque unitSerial : Nat
/-- 0x2010:03, "Per part". -/
opaque mipiManufacturer : Nat
/-- 0x2000:01, "Per part" (R602). -/
opaque pciVendor : Nat
/-- The revision ID byte of the type 0 header, which no statement gives (R565). -/
opaque pciRevision : Nat
/-- The registers of the configuration space whose contents no statement gives: subsystem identifiers, the capability list
and what lies behind it (R565). -/
opaque pciConfig : Nat → Nat
/-- Which share of an event that a table names for several blocks falls to one of them: block, event, the count of all
(R594, R595). -/
opaque perfShare : Nat → Nat → Nat → Nat
/-- 0x7100:01 at manufacture, "Factory" (R538). -/
opaque factoryRailFe : Nat
/-- 0x7100:02 at manufacture, "Factory" (R538). -/
opaque factoryRailTm : Nat
/-- 0x3201:02 default, "Per lane kind" (R468); the argument is the lane code of R461. -/
opaque laneEqualiser : Nat → Nat
/-- A byte of 0x3201:11, which the factory table gives for a lane code, an adaptation bound step and an offset (R527: a
factory table for each lane kind). -/
opaque laneBounds : Nat → Nat → Nat → Nat
/-- The thermal benchmark nearest to a path's replica (R507). -/
opaque nearestThermal : Nat → Nat
/-- The delay of a path's replica, read at a temperature, as it would be at 85 °C: benchmark, delay, temperature, in tenths
(R507 names the temperature and no slope). -/
opaque delayAt85 : Nat → Int → Int → Int
/-- In which row of its memory a line, a cell or a word lies: spare code of R528, number (R529; no statement gives it). -/
opaque memRow : Nat → Nat → Nat
/-- The stage engine in whose memory a word of an SRAM region lies: region, number of the word (R505, R552). -/
opaque regionEngine : Nat → Nat → Nat
/-- The factory public key of the boot ROM (R611). -/
opaque factoryKey : List Byte
/-- The cartouche of the image that a bank holds at manufacture. -/
opaque factoryCartouche : List Byte
/-- The family image key fused into every part, which no access path reads (R610). -/
opaque familyKey : List Byte
/-- The encoding of bundles, which is not published (R96): of a stage section, the first bundle that fails the checks
of abort 0x0315 of R97, how many SELECTs it holds (R163), and the length its bundles take. -/
opaque bundleFault : List Byte → Option Nat
/-- The SELECTs of a stage section (R163). -/
opaque selectCount : List Byte → Nat
/-- What link training on a trained interface agrees about the precoder (R434, R462): lane, instant of the lock ↦ transmit,
receive. The partner has a say in it, so no statement gives it. -/
opaque precoder : Nat → Nat → Bool × Bool
/-- The Next field of a free cell: its free list's link, which no statement gives (R255; log entry 128). -/
opaque freeLink : Nat → Nat
/-- The bundle that the action entry of a lookup port of a section names (R92); the encoding of bundles, in which it
stands, is not published (R96). -/
opaque hitBundle : List Byte → Nat → Nat
/-- The transmit equaliser that link training has agreed for a line lane (R434): lane, instant. -/
opaque trainedTaps : Nat → Nat → List (BitVec 8)
/-- Where an entry of a table without indices stands in the table's image (R491): table, key. -/
opaque imagePlace : Nat → Nat → Nat
/-- Where the part lays a line of a table: central bank × 128 + re-laying step (R211; how lines interleave over banks is
the part's own): table, line; for table + 0x10000 the place of the line in the reserve. -/
opaque linePlace : Nat → Nat → Nat
/-- The bucket that the search index of a classification table selects for a key (R707): table, key. -/
opaque keyBucket : Nat → Nat → Nat
/-- The leaf bucket of a route or an address (the part splits and merges leaf buckets itself): table, VRF, address
left-aligned in 128 bits. -/
opaque leafBucket : Nat → Nat → Nat → Nat

end Sys2Proof.Config
end

