-- ==== Sys2Proof/Machine/Bits.lean ====
section
/-! DEFINITION. Octets, bit fields, sparse maps, the CRCs of R698, R398 and R399, SHA-256 and SHA-384, HMAC-SHA-256,
and the LFSR of R191. -/

namespace Sys2Proof.Machine

/-- The octet of a number's low eight bits. -/
def byteOf (n : Nat) : Byte := BitVec.ofNat 8 n

/-- An element put before the first of a sorted list that is not below it. -/
def insertBy {α : Type} (f : α → Nat) (x : α) : List α → List α
  | [] => [x]
  | y :: l => if f x ≤ f y then x :: y :: l else y :: insertBy f x l

/-- A list in rising order of a number, equals in their order. -/
def sortBy {α : Type} (f : α → Nat) (l : List α) : List α := l.foldr (insertBy f) []

/-- `w` octets of `n`, least significant first (R6). -/
def leBytes : Nat → Nat → List Byte
  | 0, _ => []
  | w + 1, n => byteOf n :: leBytes w (n / 256)

/-- `w` octets of `n`, most significant first (R5). -/
def beBytes (w n : Nat) : List Byte := (leBytes w n).reverse

/-- The number octets spell, least significant first (R6). -/
def leNat : List Byte → Nat
  | [] => 0
  | b :: bs => b.toNat + 256 * leNat bs

/-- The number octets spell, most significant first (R5). -/
def beNat (bs : List Byte) : Nat := leNat bs.reverse

/-- The `n` octets from offset `o`; octets beyond the end read as zero. -/
def bytesAt (bs : List Byte) (o n : Nat) : List Byte :=
  let part := (bs.drop o).take n
  part ++ List.replicate (n - part.length) 0

/-- Network-order field at byte offset `o`, `n` bytes wide. -/
def beAt (bs : List Byte) (o n : Nat) : Nat := beNat (bytesAt bs o n)

/-- Little-endian field at byte offset `o`, `n` bytes wide. -/
def leAt (bs : List Byte) (o n : Nat) : Nat := leNat (bytesAt bs o n)

/-- `bs` with the octets at offset `o` replaced by `v`, length kept. -/
def putBytes (bs : List Byte) (o : Nat) (v : List Byte) : List Byte :=
  (bs.take o ++ v ++ bs.drop (o + v.length)).take bs.length

/-- Zero octets. -/
def zeros (n : Nat) : List Byte := List.replicate n 0

/-- Bits [hi:lo] of a number. -/
def bits (n hi lo : Nat) : Nat := (n / 2 ^ lo) % 2 ^ (hi + 1 - lo)

/-- Bit `i` of a number. -/
def bit (n i : Nat) : Bool := n.testBit i

/-- `n` with bits [hi:lo] replaced by `v`. -/
def setBits (n hi lo v : Nat) : Nat :=
  n - bits n hi lo * 2 ^ lo + (v % 2 ^ (hi + 1 - lo)) * 2 ^ lo

/-- `n` with bit `i` set to `b`. -/
def setBit (n i : Nat) (b : Bool) : Nat := setBits n i i (if b then 1 else 0)

/-- One for true. -/
def flag (b : Bool) : Nat := if b then 1 else 0

/-- The `n` octets of a bit map in the order of R372: bit u is byte u / 8, bit u mod 8 counted from the most
significant bit. The number holds octet 0 least significant, as the object store keeps OCTETS. -/
def mapBit (v u : Nat) : Bool := bit v (u / 8 * 8 + (7 - u % 8))

/-- The same map with bit u set to `b`. -/
def mapSet (v u : Nat) (b : Bool) : Nat := setBit v (u / 8 * 8 + (7 - u % 8)) b

/-- Two's complement of width `w` read as an integer. -/
def toInt (w n : Nat) : Int := if n < 2 ^ (w - 1) then n else (n : Int) - 2 ^ w

/-- An integer as a two's complement number of width `w`. -/
def ofInt (w : Nat) (i : Int) : Nat := (i % 2 ^ w).toNat

/-- Count of set bits among the low `w`. -/
def popCount : Nat → Nat → Nat
  | 0, _ => 0
  | w + 1, n => n % 2 + popCount w (n / 2)

/-! ### Sparse maps -/

/-- The value at a key; an unlisted key reads `d`. -/
def nget (m : NMap) (k d : Nat) : Nat :=
  match m with
  | [] => d
  | (a, v) :: r => if a = k then v else if k < a then d else nget r k d

/-- The map with `k ↦ v`, where an unlisted key reads `d`; the canonical form is kept. -/
def nset (m : NMap) (k v d : Nat) : NMap :=
  match m with
  | [] => if v = d then [] else [(k, v)]
  | (a, w) :: r =>
    if k < a then (if v = d then (a, w) :: r else (k, v) :: (a, w) :: r)
    else if k = a then (if v = d then r else (k, v) :: r)
    else (a, w) :: nset r k v d

/-- Replace the element at a position, leaving the list as it is beyond its end. -/
def setAt {α : Type} (l : List α) (i : Nat) (a : α) : List α := l.set i a

/-- Change the element at a position. -/
def modAt {α : Type} (l : List α) (i : Nat) (f : α → α) : List α :=
  match l, i with
  | [], _ => []
  | a :: r, 0 => f a :: r
  | a :: r, i + 1 => a :: modAt r i f

/-- The first element that satisfies `p`, changed by `f`; the list as it was when there is none. -/
def modFirst {α : Type} (p : α → Bool) (f : α → α) : List α → List α
  | [] => []
  | a :: r => if p a then f a :: r else a :: modFirst p f r

/-- The list without its first element that satisfies `p`. -/
def dropFirst {α : Type} (p : α → Bool) : List α → List α
  | [] => []
  | a :: r => if p a then r else a :: dropFirst p r

/-- Sum of a list. -/
def sumOf {α : Type} (f : α → Nat) : List α → Nat
  | [] => 0
  | a :: r => f a + sumOf f r

/-- Largest of a list, 0 when it is empty. -/
def maxOf {α : Type} (f : α → Nat) : List α → Nat
  | [] => 0
  | a :: r => max (f a) (maxOf f r)

/-! ### CRCs -/

/-- One bit of a reflected CRC of polynomial `poly` (already reflected). -/
def crcBitR (poly c : Nat) : Nat := if c % 2 = 1 then (c / 2) ^^^ poly else c / 2

/-- One octet of a reflected CRC. -/
def crcByteR (poly c : Nat) (b : Byte) : Nat :=
  let x := c ^^^ b.toNat
  crcBitR poly (crcBitR poly (crcBitR poly (crcBitR poly
    (crcBitR poly (crcBitR poly (crcBitR poly (crcBitR poly x)))))))

/-- A reflected 32-bit CRC with the given preset and the final XOR of R698. -/
def crcR (poly preset : Nat) (bs : List Byte) : Nat :=
  (bs.foldl (crcByteR poly) preset) ^^^ 0xFFFFFFFF

/-- CRC-32 of R698: polynomial 0x04C1_1DB7, reflected. -/
def crc32 (bs : List Byte) : Nat := crcR 0xEDB88320 0xFFFFFFFF bs

/-- CRC-32C of R698 with a seed in place of the preset: the seed stands in the reflected register as it is, its bits not
reversed (log entry 155). -/
def crc32cSeed (seed : Nat) (bs : List Byte) : Nat := crcR 0x82F63B78 (seed % 2 ^ 32) bs

/-- CRC-32C of R698 with the standard preset. -/
def crc32c (bs : List Byte) : Nat := crc32cSeed 0xFFFFFFFF bs

/-- One bit of an unreflected CRC of width `w`. -/
def crcBitM (w poly c : Nat) : Nat :=
  let s := (c * 2) % 2 ^ w
  if c / 2 ^ (w - 1) % 2 = 1 then s ^^^ poly else s

/-- One octet of an unreflected CRC of width `w` ≥ 8. -/
def crcByteM (w poly c : Nat) (b : Byte) : Nat :=
  let f := crcBitM w poly
  let x := c ^^^ (b.toNat * 2 ^ (w - 8))
  f (f (f (f (f (f (f (f x)))))))

/-- The overhead check of R398: CRC-8, polynomial x^8 + x^2 + x + 1, initial value 0. -/
def crc8 (bs : List Byte) : Nat := bs.foldl (crcByteM 8 0x07) 0

/-- The slot check of R399: CRC-16, polynomial x^16 + x^12 + x^5 + 1, initial value 0xFFFF. -/
def crc16 (bs : List Byte) : Nat := bs.foldl (crcByteM 16 0x1021) 0xFFFF

/-- A field fed as the fewest whole bytes that hold `w` bits, most significant byte first (R698). -/
def crcField (w v : Nat) : List Byte := beBytes ((w + 7) / 8) v

/-! ### SHA-2 and HMAC

The hashes are named by the spec and defined by FIPS 180-4. Their constants are computed here as that standard
derives them: the leading bits of the fractional parts of roots of the first primes. -/

/-- The first eighty primes. -/
def smallPrimes : List Nat :=
  [2, 3, 5, 7, 11, 13, 17, 19, 23, 29, 31, 37, 41, 43, 47, 53] ++
  [59, 61, 67, 71, 73, 79, 83, 89, 97, 101, 103, 107, 109, 113, 127, 131] ++
  [137, 139, 149, 151, 157, 163, 167, 173, 179, 181, 191, 193, 197, 199, 211, 223] ++
  [227, 229, 233, 239, 241, 251, 257, 263, 269, 271, 277, 281, 283, 293, 307, 311] ++
  [313, 317, 331, 337, 347, 349, 353, 359, 367, 373, 379, 383, 389, 397, 401, 409]

/-- The largest number that adds to `r` bits below 2^`n` and whose `k`-th power does not exceed `x`. -/
def rootFrom (k x : Nat) : Nat → Nat → Nat
  | 0, r => r
  | n + 1, r => rootFrom k x n (if (r + 2 ^ n) ^ k ≤ x then r + 2 ^ n else r)

/-- The first `w` bits of the fractional part of the `k`-th root of `p`. -/
def rootBits (k w p : Nat) : Nat := rootFrom k (p * 2 ^ (k * w)) (w + 4) 0 % 2 ^ w

/-- One hash of the family: octets of a word, rounds, and the three amounts of each of its four mixing functions. -/
structure ShaKind where
  octets : Nat
  rounds : Nat
  near : Nat × Nat × Nat
  far : Nat × Nat × Nat
  head : Nat × Nat × Nat
  tail : Nat × Nat × Nat

/-- Bits of a word. -/
def ShaKind.width (k : ShaKind) : Nat := 8 * k.octets

/-- A sum kept to the width of a word. -/
def ShaKind.wrap (k : ShaKind) (x : Nat) : Nat := x % 2 ^ k.width

/-- A word turned right by `n` bits. -/
def ShaKind.turn (k : ShaKind) (x n : Nat) : Nat := x / 2 ^ n + k.wrap (x * 2 ^ (k.width - n))

/-- A word mixed with itself: two turns and a shift. -/
def ShaKind.blend (k : ShaKind) (t : Nat × Nat × Nat) (x : Nat) : Nat :=
  k.turn x t.1 ^^^ k.turn x t.2.1 ^^^ x / 2 ^ t.2.2

/-- A word mixed with itself: three turns. -/
def ShaKind.stir (k : ShaKind) (t : Nat × Nat × Nat) (x : Nat) : Nat :=
  k.turn x t.1 ^^^ k.turn x t.2.1 ^^^ k.turn x t.2.2

/-- The round constants: cube roots of the first primes. -/
def ShaKind.constants (k : ShaKind) : List Nat := (smallPrimes.take k.rounds).map (rootBits 3 k.width)

/-- The rounds over the constants that remain. `ws` is the window of the next sixteen message words, `up` and `low`
the last four values, newest first, of the two sequences that a round lengthens. -/
def ShaKind.rounded (k : ShaKind) : List Nat → List Nat → List Nat → List Nat → List Nat × List Nat
  | [], _, up, low => (up, low)
  | c :: cs, ws, up, low =>
    let e := low.getD 0 0
    let pick := (e &&& low.getD 1 0) + (low.getD 2 0 - (e &&& low.getD 2 0))
    let most := (up.getD 0 0 &&& up.getD 1 0) ||| (up.getD 2 0 &&& (up.getD 0 0 ||| up.getD 1 0))
    let mixed := low.getD 3 0 + k.stir k.tail e + pick + c + ws.getD 0 0
    k.rounded cs
      (ws.drop 1 ++ [k.wrap (ws.getD 0 0 + k.blend k.near (ws.getD 1 0) + ws.getD 9 0 + k.blend k.far (ws.getD 14 0))])
      (k.wrap (mixed + k.stir k.head (up.getD 0 0) + most) :: up.take 3)
      (k.wrap (up.getD 3 0 + mixed) :: low.take 3)

/-- The words of one block of octets. -/
def ShaKind.words (k : ShaKind) (block : List Byte) : List Nat :=
  (List.range 16).map (fun i => beAt block (i * k.octets) k.octets)

/-- The chaining value after one block. -/
def ShaKind.absorb (k : ShaKind) (h block : List Nat) : List Nat :=
  let r := k.rounded k.constants block (h.take 4) (h.drop 4)
  List.zipWith (fun x y => k.wrap (x + y)) h (r.1 ++ r.2)

/-- The message with its closing bit, its padding and its length in bits, a whole number of blocks. -/
def ShaKind.padded (k : ShaKind) (m : List Byte) : List Byte :=
  let used := m.length + 1 + 2 * k.octets
  m ++ 0x80 :: zeros ((16 * k.octets - used % (16 * k.octets)) % (16 * k.octets)) ++ beBytes (2 * k.octets) (m.length * 8)

/-- The digest of a message from the chaining value `h0`. -/
def ShaKind.digest (k : ShaKind) (h0 : List Nat) (m : List Byte) : List Byte :=
  let p := k.padded m
  ((List.range (p.length / (16 * k.octets))).foldl
    (fun h i => k.absorb h (k.words (p.drop (i * (16 * k.octets))))) h0).flatMap (beBytes k.octets)

/-- SHA-256. -/
def sha256 (m : List Byte) : List Byte :=
  let k : ShaKind := ⟨4, 64, (7, 18, 3), (17, 19, 10), (2, 13, 22), (6, 11, 25)⟩
  k.digest ((smallPrimes.take 8).map (rootBits 2 32)) m

/-- HMAC-SHA-256, as the check of a POP datagram and the session key use it. -/
def hmac256 (key m : List Byte) : List Byte :=
  let short := if key.length > 64 then sha256 key else key
  let keyed := fun (mask : Byte) (t : List Byte) => sha256 ((short ++ zeros (64 - short.length)).map (· ^^^ mask) ++ t)
  keyed 0x5c (keyed 0x36 m)

/-! ### The LFSR of R191 -/

/-- One step: polynomial x^16 + x^14 + x^13 + x^11 + 1, shifting right (PRESUMED direction, log entry 12). -/
def lfsrStep (x : Nat) : Nat :=
  let b := (x % 2 + x / 4 % 2 + x / 8 % 2 + x / 32 % 2) % 2
  x / 2 + b * 2 ^ 15

/-- XOR of the columns whose bit is set in `x`. -/
def gfApply : List Nat → Nat → Nat
  | [], _ => 0
  | c :: cs, x => (if x % 2 = 1 then c else 0) ^^^ gfApply cs (x / 2)

/-- `n` steps of the LFSR by repeated squaring of the step's columns. -/
def lfsrPow : Nat → List Nat → Nat → Nat → Nat
  | 0, _, _, x => x
  | fuel + 1, cols, n, x =>
    let x' := if n % 2 = 1 then gfApply cols x else x
    lfsrPow fuel (cols.map (gfApply cols)) (n / 2) x'

/-- The LFSR after `n` CORE cycles from its reset state 0xACE1. -/
def lfsrAt (n : Nat) : Nat :=
  lfsrPow 16 ((List.range 16).map (fun i => lfsrStep (2 ^ i))) (n % 65535) 0xACE1

end Sys2Proof.Machine
end

