-- ==== Sys2Proof/Machine/Objects.lean ====
section
/-! DEFINITION. The object table of the Pemubo dictionary: for every object of chapters 1 to 20 its type, length,
access code, least writing role, persistence, legal values, the device states that allow a write, and its default. -/

namespace Sys2Proof.Machine

/-- Where an object's value lives and what keeps it (R36, R37, R72): a constant of the part, a value derived from the
state on each read, a value of the device record, a volatile value kept over a warm reset, a volatile value that a warm
reset returns to its default, a counter that only a cold reset clears, a counted (fused) object. -/
inductive ObjClass where
  | const | derived | persistent | kept | volatile | counter | counted
  deriving DecidableEq, Repr

/-- The legal values of an object taken alone (check 4 of R702). -/
inductive Legal where
  | any
  | bool
  | time
  | range (lo hi : Nat)
  | srange (lo hi : Int)
  | mask (m : Nat)
  | oneOf (l : List Nat)
  /-- A line lane 0 to 127, or 0xFFFF (R469). -/
  | laneOrOff
  /-- 262,144 to 655,360 in steps of 8,192 (R253, R301). -/
  | partition
  /-- 0, or 64 to 16,383 (R158). -/
  | snapshot
  /-- A multiple of 64 (R603). -/
  | aligned64
  deriving DecidableEq, Repr

/-- One row of a dictionary entry table. -/
structure ObjDesc where
  idxLo : Nat
  idxHi : Nat
  subLo : Nat
  subHi : Nat
  ty : Nat
  len : Nat
  acc : Nat
  cls : ObjClass
  role : Nat
  legal : Legal
  states : List Nat
  dflt : Nat
  deriving DecidableEq, Repr

/-- Identity, state, counted objects, device record (R28, R660, chapter 2, R684), part 1. -/
def objRows1_0 : List ObjDesc :=
  [⟨0x1000, 0x1000, 0x1, 0x1, 3, 2, 1, .const, 0, .any, [], 0xB1E⟩,
   ⟨0x1000, 0x1000, 0x2, 0x2, 3, 2, 1, .const, 0, .any, [], 0xC3E⟩,
   ⟨0x1000, 0x1000, 0x3, 0x3, 3, 2, 1, .const, 0, .any, [], 0x5120⟩,
   ⟨0x1000, 0x1000, 0x4, 0x4, 3, 2, 1, .const, 0, .any, [], 0xA1⟩,
   ⟨0x1000, 0x1000, 0x5, 0x6, 2, 1, 1, .const, 0, .any, [], 0x10⟩,
   ⟨0x1000, 0x1000, 0x7, 0x7, 2, 1, 1, .const, 0, .any, [], 0x10⟩,
   ⟨0x1000, 0x1000, 0x8, 0x8, 2, 1, 1, .const, 0, .any, [], 0x1⟩,
   ⟨0x1000, 0x1000, 0x9, 0x9, 3, 2, 1, .const, 0, .any, [], 0x300⟩,
   ⟨0x1000, 0x1000, 0xA, 0xA, 3, 2, 1, .const, 0, .any, [], 0x80⟩,
   ⟨0x1000, 0x1000, 0xB, 0xB, 3, 2, 1, .const, 0, .any, [], 0xA0⟩,
   ⟨0x1000, 0x1000, 0xC, 0xC, 2, 1, 1, .const, 0, .any, [], 0x2⟩,
   ⟨0x1000, 0x1000, 0xD, 0xD, 4, 4, 1, .const, 0, .any, [], 0x33E14⟩,
   ⟨0x1000, 0x1000, 0xE, 0xE, 4, 4, 1, .const, 0, .any, [], 0x6400⟩,
   ⟨0x1000, 0x1000, 0xF, 0xF, 4, 4, 1, .const, 0, .any, [], 0x80000⟩,
   ⟨0x1000, 0x1000, 0x10, 0x10, 2, 1, 1, .const, 0, .any, [], 0x5⟩,
   ⟨0x1000, 0x1000, 0x11, 0x11, 3, 2, 1, .const, 0, .any, [], 0x80⟩,
   ⟨0x1000, 0x1000, 0x12, 0x12, 4, 4, 1, .const, 0, .any, [], 0x800⟩,
   ⟨0x1000, 0x1000, 0x13, 0x13, 4, 4, 1, .const, 0, .any, [], 0x100⟩,
   ⟨0x1000, 0x1000, 0x14, 0x14, 4, 4, 1, .const, 0, .any, [], 0xC0000⟩,
   ⟨0x1000, 0x1000, 0x15, 0x15, 2, 1, 1, .const, 0, .any, [], 0x4⟩]

/-- Identity, state, counted objects, device record (R28, R660, chapter 2, R684), part 2. -/
def objRows1_1 : List ObjDesc :=
  [⟨0x1000, 0x1000, 0x16, 0x16, 4, 4, 1, .const, 0, .any, [], 0x4000⟩,
   ⟨0x1000, 0x1000, 0x17, 0x17, 4, 4, 1, .const, 0, .any, [], 0x16E360⟩,
   ⟨0x1000, 0x1000, 0x18, 0x18, 2, 1, 1, .const, 0, .any, [], 0x8⟩,
   ⟨0x1000, 0x1000, 0x19, 0x19, 9, 16, 1, .derived, 0, .any, [], 0x0⟩,
   ⟨0x1001, 0x1001, 0x1, 0x1, 7, 4, 1, .const, 0, .any, [], 0xFFF⟩,
   ⟨0x1001, 0x1001, 0x2, 0x2, 3, 2, 1, .const, 0, .any, [], 0x1⟩,
   ⟨0x1100, 0x1100, 0x1, 0x1, 2, 1, 1, .derived, 0, .any, [], 0x2⟩,
   ⟨0x1100, 0x1100, 0x2, 0x2, 2, 1, 6, .volatile, 2, .range 1 6, [], 0x0⟩,
   ⟨0x1100, 0x1100, 0x3, 0x3, 1, 1, 2, .persistent, 2, .bool, [], 0x0⟩,
   ⟨0x1100, 0x1100, 0x4, 0x4, 2, 1, 1, .derived, 0, .any, [], 0x1⟩,
   ⟨0x1100, 0x1100, 0x5, 0x5, 8, 10, 1, .derived, 0, .any, [], 0x0⟩,
   ⟨0x1100, 0x1100, 0x6, 0x6, 4, 4, 1, .derived, 0, .any, [], 0x0⟩,
   ⟨0x1100, 0x1100, 0x7, 0x7, 5, 8, 1, .counter, 0, .any, [], 0x0⟩,
   ⟨0x1100, 0x1100, 0x8, 0x8, 5, 8, 1, .counter, 0, .any, [], 0x0⟩,
   ⟨0x1200, 0x1200, 0x1, 0x1, 2, 1, 5, .counted, 2, .range 0 128, [], 0x0⟩,
   ⟨0x1200, 0x1200, 0x2, 0x2, 2, 1, 1, .derived, 0, .any, [], 0x80⟩,
   ⟨0x1201, 0x1202, 0x1, 0x1, 9, 97, 5, .counted, 2, .any, [], 0x0⟩,
   ⟨0x1201, 0x1202, 0x2, 0x2, 2, 1, 1, .derived, 0, .any, [], 0x6⟩,
   ⟨0x1203, 0x1203, 0x1, 0x1, 3, 2, 5, .counted, 2, .range 0 511, [], 0x0⟩,
   ⟨0x1203, 0x1203, 0x2, 0x2, 2, 1, 1, .derived, 0, .any, [], 0x8⟩]

/-- Identity, state, counted objects, device record (R28, R660, chapter 2, R684), part 3. -/
def objRows1_2 : List ObjDesc :=
  [⟨0x1204, 0x1204, 0x1, 0x1, 1, 1, 5, .counted, 2, .bool, [], 0x0⟩,
   ⟨0x1204, 0x1204, 0x2, 0x2, 2, 1, 1, .derived, 0, .any, [], 0x4⟩,
   ⟨0x1205, 0x1205, 0x1, 0x1, 1, 1, 5, .counted, 3, .bool, [], 0x0⟩,
   ⟨0x1205, 0x1205, 0x2, 0x2, 2, 1, 1, .derived, 0, .any, [], 0x1⟩,
   ⟨0x1300, 0x1300, 0x1, 0x1, 2, 1, 1, .derived, 0, .any, [], 0x0⟩,
   ⟨0x1300, 0x1300, 0x2, 0x2, 4, 4, 1, .derived, 0, .any, [], 0x0⟩,
   ⟨0x1300, 0x1300, 0x3, 0x3, 7, 4, 1, .derived, 0, .any, [], 0x0⟩,
   ⟨0x1300, 0x1300, 0x4, 0x6, 4, 4, 1, .derived, 0, .any, [], 0x0⟩,
   ⟨0x1300, 0x1300, 0x7, 0x7, 2, 1, 6, .volatile, 2, .range 0 3, [], 0x0⟩,
   ⟨0x1300, 0x1300, 0x8, 0x8, 5, 8, 1, .counter, 0, .any, [], 0x0⟩,
   ⟨0x1300, 0x1300, 0x9, 0x9, 1, 1, 6, .persistent, 3, .bool, [], 0x0⟩,
   ⟨0x1310, 0x1310, 0x1, 0x1, 4, 4, 1, .derived, 0, .any, [], 0x0⟩,
   ⟨0x1310, 0x1310, 0x2, 0x2, 4, 4, 2, .volatile, 2, .any, [], 0x0⟩,
   ⟨0x1310, 0x1310, 0x3, 0x3, 9, 64, 1, .derived, 0, .any, [], 0x0⟩]

/-- Identity, state, counted objects, device record (R28, R660, chapter 2, R684). -/
def objRows1 : List ObjDesc := objRows1_0 ++ objRows1_1 ++ objRows1_2

/-- The highest sub-index of each index (R30): Identity, state, counted objects, device record (R28, R660, chapter 2, R684). -/
def objTop1 : List (Nat × Nat × Nat) :=
  [(0x1000, 0x1000, 0x19), (0x1001, 0x1001, 0x2), (0x1100, 0x1100, 0x8), (0x1200, 0x1205, 0x2), (0x1300, 0x1300, 0x9), (0x1310, 0x1310, 0x3)]

/-- Host interfaces, clocks and TIME (chapter 2, R469, R602), part 1. -/
def objRows2_0 : List ObjDesc :=
  [⟨0x2000, 0x2000, 0x1, 0x1, 3, 2, 1, .derived, 0, .any, [], 0x0⟩,
   ⟨0x2000, 0x2000, 0x2, 0x2, 3, 2, 1, .const, 0, .any, [], 0x5120⟩,
   ⟨0x2000, 0x2000, 0x3, 0x4, 2, 1, 1, .volatile, 0, .any, [], 0x0⟩,
   ⟨0x2000, 0x2000, 0x5, 0x5, 3, 2, 1, .volatile, 0, .any, [], 0x80⟩,
   ⟨0x2000, 0x2000, 0x6, 0x6, 3, 2, 1, .volatile, 0, .any, [], 0x200⟩,
   ⟨0x2000, 0x2000, 0x7, 0xD, 5, 8, 1, .counter, 0, .any, [], 0x0⟩,
   ⟨0x2000, 0x2000, 0xE, 0xE, 1, 1, 1, .volatile, 0, .any, [], 0x0⟩,
   ⟨0x2003, 0x2003, 0x1, 0x5, 5, 8, 1, .counter, 0, .any, [], 0x0⟩,
   ⟨0x2010, 0x2010, 0x1, 0x1, 2, 1, 2, .persistent, 2, .range 8 119, [], 0x4A⟩,
   ⟨0x2010, 0x2010, 0x2, 0x2, 2, 1, 1, .derived, 0, .any, [], 0x0⟩,
   ⟨0x2010, 0x2010, 0x3, 0x3, 3, 2, 1, .derived, 0, .any, [], 0x0⟩,
   ⟨0x2020, 0x2020, 0x1, 0x1, 2, 1, 4, .persistent, 2, .range 0 1, [3, 10], 0x0⟩,
   ⟨0x2020, 0x2020, 0x2, 0x2, 4, 4, 2, .persistent, 2, .any, [], 0x0⟩,
   ⟨0x2020, 0x2020, 0x3, 0x3, 2, 1, 2, .persistent, 2, .range 1 32, [], 0x18⟩,
   ⟨0x2020, 0x2020, 0x4, 0x4, 9, 16, 2, .persistent, 2, .any, [], 0x0⟩,
   ⟨0x2020, 0x2020, 0x5, 0x5, 2, 1, 2, .persistent, 2, .range 1 128, [], 0x40⟩,
   ⟨0x2020, 0x2020, 0x6, 0x6, 3, 2, 2, .persistent, 2, .range 1 65535, [], 0xBAC3⟩,
   ⟨0x2020, 0x2020, 0x7, 0x7, 3, 2, 2, .persistent, 2, .range 5 600, [], 0x1E⟩,
   ⟨0x2020, 0x2020, 0x8, 0x8, 2, 1, 1, .derived, 0, .any, [], 0x0⟩,
   ⟨0x2020, 0x2020, 0x9, 0x9, 3, 2, 2, .persistent, 2, .range 100 50000, [], 0x2710⟩]

/-- Host interfaces, clocks and TIME (chapter 2, R469, R602), part 2. -/
def objRows2_1 : List ObjDesc :=
  [⟨0x2021, 0x2021, 0x1, 0x2, 9, 32, 3, .persistent, 2, .any, [], 0x0⟩,
   ⟨0x2021, 0x2021, 0x3, 0x3, 9, 32, 3, .persistent, 3, .any, [], 0x0⟩,
   ⟨0x2021, 0x2021, 0x4, 0x6, 9, 4, 2, .persistent, 2, .any, [], 0x0⟩,
   ⟨0x2030, 0x2030, 0x1, 0xD, 4, 4, 1, .counter, 0, .any, [], 0x0⟩,
   ⟨0x2100, 0x2100, 0x1, 0x1, 8, 10, 1, .derived, 0, .any, [], 0x0⟩,
   ⟨0x2100, 0x2100, 0x2, 0x2, 6, 4, 2, .kept, 2, .srange (-1024000000) 1024000000, [], 0x0⟩,
   ⟨0x2100, 0x2100, 0x3, 0x3, 6, 4, 6, .kept, 2, .srange (-1000000000) 1000000000, [], 0x0⟩,
   ⟨0x2100, 0x2100, 0x4, 0x4, 4, 4, 2, .kept, 2, .range 1000 1000000, [], 0x186A0⟩,
   ⟨0x2100, 0x2100, 0x5, 0x5, 6, 4, 1, .derived, 0, .any, [], 0x0⟩,
   ⟨0x2100, 0x2100, 0x6, 0x6, 8, 10, 6, .kept, 2, .time, [], 0x0⟩,
   ⟨0x2100, 0x2100, 0x7, 0x7, 8, 10, 1, .derived, 0, .any, [], 0x0⟩,
   ⟨0x2100, 0x2100, 0x8, 0x8, 4, 4, 1, .derived, 0, .any, [], 0x0⟩,
   ⟨0x2100, 0x2100, 0x9, 0x9, 4, 4, 2, .kept, 2, .range 100 500000000, [], 0xF4240⟩,
   ⟨0x2100, 0x2100, 0xA, 0xA, 6, 4, 2, .persistent, 2, .srange (-1000) 1000, [], 0x0⟩,
   ⟨0x2100, 0x2100, 0xB, 0xC, 3, 2, 2, .kept, 2, .laneOrOff, [], 0xFFFF⟩,
   ⟨0x2100, 0x2100, 0xD, 0xE, 3, 2, 2, .kept, 2, .oneOf [1360, 8500, 21250], [], 0x550⟩]

/-- Host interfaces, clocks and TIME (chapter 2, R469, R602). -/
def objRows2 : List ObjDesc := objRows2_0 ++ objRows2_1

/-- The highest sub-index of each index (R30): Host interfaces, clocks and TIME (chapter 2, R469, R602). -/
def objTop2 : List (Nat × Nat × Nat) :=
  [(0x2000, 0x2000, 0xE), (0x2003, 0x2003, 0x5), (0x2010, 0x2010, 0x3), (0x2020, 0x2020, 0x9), (0x2021, 0x2021, 0x6), (0x2030, 0x2030, 0xD), (0x2100, 0x2100, 0xE)]

/-- Line ports and lanes (R467, R468), part 1. -/
def objRows3_0 : List ObjDesc :=
  [⟨0x3000, 0x307F, 0x1, 0x1, 2, 1, 4, .persistent, 2, .any, [3, 4, 5, 6, 10], 0x0⟩,
   ⟨0x3000, 0x307F, 0x2, 0x2, 2, 1, 4, .persistent, 2, .range 0 1, [3, 4, 5, 6, 10], 0x0⟩,
   ⟨0x3000, 0x307F, 0x3, 0x3, 3, 2, 2, .persistent, 2, .range 64 16383, [], 0x2400⟩,
   ⟨0x3000, 0x307F, 0x4, 0x4, 2, 1, 1, .derived, 0, .any, [], 0x0⟩,
   ⟨0x3000, 0x307F, 0x5, 0x5, 3, 2, 2, .persistent, 2, .range 0 10000, [], 0xA⟩,
   ⟨0x3000, 0x307F, 0x6, 0x6, 4, 4, 2, .persistent, 2, .range 0 1000000, [], 0x0⟩,
   ⟨0x3000, 0x307F, 0x7, 0x7, 2, 1, 2, .persistent, 2, .range 0 7, [], 0x0⟩,
   ⟨0x3000, 0x307F, 0x8, 0x8, 4, 4, 2, .persistent, 2, .mask 0xFFFFFF, [], 0xFAC688⟩,
   ⟨0x3000, 0x307F, 0x9, 0x9, 7, 4, 2, .persistent, 2, .mask 0xFF, [], 0x0⟩,
   ⟨0x3000, 0x307F, 0xA, 0xA, 5, 8, 2, .persistent, 2, .any, [], 0x8040201008040201⟩,
   ⟨0x3000, 0x307F, 0xB, 0xB, 4, 4, 2, .persistent, 2, .range 1 10000, [], 0x64⟩,
   ⟨0x3000, 0x307F, 0xC, 0xC, 4, 4, 2, .persistent, 2, .range 1 60000, [], 0x3E8⟩,
   ⟨0x3000, 0x307F, 0xD, 0xD, 7, 4, 1, .derived, 0, .any, [], 0x0⟩,
   ⟨0x3000, 0x307F, 0xE, 0xE, 7, 4, 2, .persistent, 2, .mask 0x1F, [], 0x1C⟩,
   ⟨0x3000, 0x307F, 0xF, 0x10, 6, 4, 2, .persistent, 2, .srange (-1000) 1000, [], 0x0⟩,
   ⟨0x3000, 0x307F, 0x11, 0x11, 2, 1, 2, .persistent, 2, .range 0 1, [], 0x0⟩,
   ⟨0x3000, 0x307F, 0x12, 0x12, 2, 1, 2, .persistent, 2, .any, [], 0x8⟩,
   ⟨0x3000, 0x307F, 0x13, 0x13, 3, 2, 2, .persistent, 2, .range 1 3600, [], 0xA⟩,
   ⟨0x3000, 0x307F, 0x14, 0x14, 4, 4, 1, .derived, 0, .any, [], 0x0⟩,
   ⟨0x3000, 0x307F, 0x20, 0x32, 5, 8, 1, .counter, 0, .any, [], 0x0⟩]

/-- Line ports and lanes (R467, R468), part 2. -/
def objRows3_1 : List ObjDesc :=
  [⟨0x3201, 0x3201, 0x1, 0x1, 3, 2, 2, .kept, 2, .any, [], 0x0⟩,
   ⟨0x3201, 0x3201, 0x2, 0x2, 9, 8, 2, .persistent, 2, .any, [], 0x0⟩,
   ⟨0x3201, 0x3201, 0x3, 0x4, 1, 1, 2, .persistent, 2, .bool, [], 0x0⟩,
   ⟨0x3201, 0x3201, 0x5, 0x5, 2, 1, 2, .kept, 2, .any, [], 0x0⟩,
   ⟨0x3201, 0x3201, 0x6, 0x7, 2, 1, 2, .kept, 2, .range 0 2, [], 0x0⟩,
   ⟨0x3201, 0x3201, 0x8, 0x8, 1, 1, 1, .derived, 0, .any, [], 0x0⟩,
   ⟨0x3201, 0x3201, 0x9, 0xA, 5, 8, 1, .volatile, 0, .any, [], 0x0⟩,
   ⟨0x3201, 0x3201, 0xB, 0xB, 1, 1, 6, .volatile, 2, .bool, [], 0x0⟩,
   ⟨0x3201, 0x3201, 0xC, 0xD, 1, 1, 2, .kept, 2, .bool, [], 0x0⟩,
   ⟨0x3201, 0x3201, 0xE, 0xE, 2, 1, 1, .derived, 0, .any, [], 0x0⟩,
   ⟨0x3201, 0x3201, 0xF, 0x10, 3, 2, 1, .derived, 0, .any, [], 0x0⟩,
   ⟨0x3201, 0x3201, 0x11, 0x11, 9, 16, 1, .derived, 0, .any, [], 0x0⟩,
   ⟨0x3201, 0x3201, 0x12, 0x12, 1, 1, 1, .derived, 0, .any, [], 0x0⟩]

/-- Line ports and lanes (R467, R468). -/
def objRows3 : List ObjDesc := objRows3_0 ++ objRows3_1

/-- The highest sub-index of each index (R30): Line ports and lanes (R467, R468). -/
def objTop3 : List (Nat × Nat × Nat) :=
  [(0x3000, 0x307F, 0x32), (0x3201, 0x3201, 0x12)]

/-- Pipelines, parser, classification, punts (R123, R124, R158), part 1. That 0x4100:01 to :04 are kept is log entry 150. -/
def objRows4a_0 : List ObjDesc :=
  [⟨0x4000, 0x4000, 0x1, 0x1, 4, 4, 2, .persistent, 2, .range 1000 10000, [], 0x7D0⟩,
   ⟨0x4000, 0x4000, 0x2, 0x2, 2, 1, 2, .persistent, 2, .range 1 15, [], 0x3⟩,
   ⟨0x4000, 0x4000, 0x3, 0x3, 2, 1, 2, .persistent, 2, .range 1 15, [], 0x1⟩,
   ⟨0x4000, 0x4000, 0x4, 0x5, 7, 4, 1, .derived, 0, .any, [], 0x0⟩,
   ⟨0x4000, 0x4000, 0x6, 0x7, 4, 4, 1, .derived, 0, .any, [], 0x0⟩,
   ⟨0x4001, 0x4001, 0x1, 0x8, 5, 8, 1, .counter, 0, .any, [], 0x0⟩,
   ⟨0x4010, 0x402F, 0x1, 0x1, 2, 1, 1, .derived, 0, .any, [], 0x0⟩,
   ⟨0x4010, 0x402F, 0x2, 0x2, 2, 1, 1, .derived, 0, .any, [], 0xFF⟩,
   ⟨0x4010, 0x402F, 0x3, 0x3, 3, 2, 1, .derived, 0, .any, [], 0x0⟩,
   ⟨0x4010, 0x402F, 0x4, 0x4, 5, 8, 1, .counter, 0, .any, [], 0x0⟩,
   ⟨0x4010, 0x402F, 0x5, 0x5, 5, 8, 1, .volatile, 0, .any, [], 0x0⟩,
   ⟨0x4030, 0x4030, 0x1, 0x8, 4, 4, 1, .derived, 0, .any, [], 0x0⟩,
   ⟨0x4100, 0x4100, 0x1, 0x1, 2, 1, 2, .kept, 2, .range 1 63, [], 0x3D⟩,
   ⟨0x4100, 0x4100, 0x2, 0x2, 2, 1, 2, .kept, 2, .range 1 63, [], 0x3F⟩,
   ⟨0x4100, 0x4100, 0x3, 0x3, 2, 1, 2, .kept, 2, .range 1 63, [], 0x3E⟩,
   ⟨0x4100, 0x4100, 0x4, 0x4, 2, 1, 2, .kept, 2, .range 1 63, [], 0x3C⟩,
   ⟨0x4101, 0x4101, 0x1, 0x7, 5, 8, 1, .counter, 0, .any, [], 0x0⟩,
   ⟨0x4110, 0x4117, 0x1, 0x1, 7, 4, 2, .kept, 2, .mask 0xFFF, [], 0xFFF⟩,
   ⟨0x4110, 0x4117, 0x2, 0x2, 3, 2, 2, .kept, 2, .range 1 65535, [], 0x12B5⟩,
   ⟨0x4110, 0x4117, 0x3, 0x3, 7, 4, 2, .kept, 2, .mask 7, [], 0x7⟩,
   ⟨0x4110, 0x4117, 0x4, 0x4, 9, 256, 2, .kept, 2, .any, [], (2 ^ 2048 - 1)⟩]

/-- Pipelines, parser, classification, punts (R123, R124, R158), part 2. -/
def objRows4a_1 : List ObjDesc :=
  [⟨0x4110, 0x4117, 0x5, 0x5, 1, 1, 1, .derived, 0, .any, [], 0x0⟩,
   ⟨0x4180, 0x41BF, 0x1, 0x1, 9, 76, 2, .kept, 2, .any, [], 0x0⟩,
   ⟨0x4180, 0x41BF, 0x2, 0x2, 1, 1, 1, .derived, 0, .any, [], 0x0⟩,
   ⟨0x4200, 0x4200, 0x1, 0x1, 4, 4, 1, .const, 0, .any, [], 0x40000⟩,
   ⟨0x4200, 0x4200, 0x2, 0x3, 4, 4, 1, .derived, 0, .any, [], 0x0⟩,
   ⟨0x4200, 0x4200, 0x4, 0x4, 5, 8, 1, .counter, 0, .any, [], 0x0⟩,
   ⟨0x4300, 0x4300, 0x1, 0x1, 4, 4, 2, .kept, 2, .range 1000 20000000, [], 0x1312D00⟩,
   ⟨0x4300, 0x4300, 0x2, 0x2, 4, 4, 2, .kept, 2, .range 64 1048576, [], 0x9C40⟩,
   ⟨0x4301, 0x433F, 0x1, 0x1, 4, 4, 2, .kept, 2, .range 0 20000000, [], 0x2710⟩,
   ⟨0x4301, 0x433F, 0x2, 0x2, 3, 2, 2, .kept, 2, .range 1 65535, [], 0x3E8⟩,
   ⟨0x4301, 0x433F, 0x3, 0x3, 2, 1, 2, .kept, 2, .range 0 3, [], 0x2⟩,
   ⟨0x4301, 0x433F, 0x4, 0x4, 3, 2, 2, .kept, 2, .snapshot, [], 0x0⟩,
   ⟨0x4301, 0x433F, 0x5, 0x5, 2, 1, 2, .kept, 2, .range 0 15, [], 0x0⟩,
   ⟨0x4301, 0x433F, 0x6, 0x8, 5, 8, 1, .counter, 0, .any, [], 0x0⟩]

/-- Pipelines, parser, classification, punts (R123, R124, R158). -/
def objRows4a : List ObjDesc := objRows4a_0 ++ objRows4a_1

/-- The highest sub-index of each index (R30): Pipelines, parser, classification, punts (R123, R124, R158). -/
def objTop4a : List (Nat × Nat × Nat) :=
  [(0x4000, 0x4000, 0x7), (0x4001, 0x4001, 0x8), (0x4010, 0x402F, 0x5), (0x4030, 0x4030, 0x8), (0x4100, 0x4100, 0x4), (0x4101, 0x4101, 0x7), (0x4110, 0x4117, 0x5), (0x4180, 0x41BF, 0x2), (0x4200, 0x4200, 0x4), (0x4300, 0x4300, 0x2), (0x4301, 0x433F, 0x8)]

/-- Tables, transactions, learning (R213, R251), part 1. -/
def objRows4b_0 : List ObjDesc :=
  [⟨0x4400, 0x4400, 0x1, 0x1, 4, 4, 1, .const, 0, .any, [], 0x400000⟩,
   ⟨0x4400, 0x4400, 0x2, 0x4, 4, 4, 1, .derived, 0, .any, [], 0x0⟩,
   ⟨0x4400, 0x4400, 0x5, 0x7, 5, 8, 1, .counter, 0, .any, [], 0x0⟩,
   ⟨0x4400, 0x4400, 0x8, 0x8, 2, 1, 1, .derived, 0, .any, [], 0x2⟩,
   ⟨0x4410, 0x4411, 0x1, 0x1, 2, 1, 1, .derived, 0, .any, [], 0x0⟩,
   ⟨0x4410, 0x4411, 0x2, 0x3, 4, 4, 1, .derived, 0, .any, [], 0x0⟩,
   ⟨0x4410, 0x4411, 0x4, 0x4, 4, 4, 4, .kept, 2, .any, [3, 10], 0x0⟩,
   ⟨0x4410, 0x4411, 0x5, 0x5, 1, 1, 4, .kept, 2, .bool, [3, 10], 0x0⟩,
   ⟨0x4410, 0x4411, 0x6, 0x6, 2, 1, 1, .derived, 0, .any, [], 0x0⟩,
   ⟨0x4410, 0x4411, 0x7, 0x7, 3, 2, 1, .derived, 0, .any, [], 0x0⟩,
   ⟨0x4410, 0x4411, 0x8, 0x8, 5, 8, 1, .counter, 0, .any, [], 0x0⟩,
   ⟨0x4420, 0x4423, 0x1, 0x1, 2, 1, 1, .derived, 0, .any, [], 0x0⟩,
   ⟨0x4420, 0x4423, 0x2, 0x3, 4, 4, 1, .derived, 0, .any, [], 0x0⟩,
   ⟨0x4420, 0x4423, 0x4, 0x4, 4, 4, 4, .kept, 2, .any, [3, 10], 0x0⟩,
   ⟨0x4420, 0x4423, 0x5, 0x5, 1, 1, 4, .kept, 2, .bool, [3, 10], 0x0⟩,
   ⟨0x4420, 0x4423, 0x6, 0x6, 2, 1, 1, .derived, 0, .any, [], 0x0⟩,
   ⟨0x4420, 0x4423, 0x7, 0x7, 3, 2, 1, .derived, 0, .any, [], 0x0⟩,
   ⟨0x4420, 0x4423, 0x8, 0x8, 5, 8, 1, .counter, 0, .any, [], 0x0⟩,
   ⟨0x4430, 0x4433, 0x1, 0x1, 2, 1, 1, .derived, 0, .any, [], 0x0⟩,
   ⟨0x4430, 0x4433, 0x2, 0x3, 4, 4, 1, .derived, 0, .any, [], 0x0⟩]

/-- Tables, transactions, learning (R213, R251), part 2. -/
def objRows4b_1 : List ObjDesc :=
  [⟨0x4430, 0x4433, 0x4, 0x4, 4, 4, 4, .kept, 2, .any, [3, 10], 0x0⟩,
   ⟨0x4430, 0x4433, 0x5, 0x5, 1, 1, 4, .kept, 2, .bool, [3, 10], 0x0⟩,
   ⟨0x4430, 0x4433, 0x6, 0x6, 2, 1, 1, .derived, 0, .any, [], 0x0⟩,
   ⟨0x4430, 0x4433, 0x7, 0x7, 3, 2, 1, .derived, 0, .any, [], 0x0⟩,
   ⟨0x4430, 0x4433, 0x8, 0x8, 5, 8, 1, .counter, 0, .any, [], 0x0⟩,
   ⟨0x4440, 0x4442, 0x1, 0x1, 2, 1, 1, .derived, 0, .any, [], 0x0⟩,
   ⟨0x4440, 0x4442, 0x2, 0x3, 4, 4, 1, .derived, 0, .any, [], 0x0⟩,
   ⟨0x4440, 0x4442, 0x4, 0x4, 4, 4, 4, .kept, 2, .any, [3, 10], 0x0⟩,
   ⟨0x4440, 0x4442, 0x5, 0x5, 1, 1, 4, .kept, 2, .bool, [3, 10], 0x0⟩,
   ⟨0x4440, 0x4442, 0x6, 0x6, 2, 1, 1, .derived, 0, .any, [], 0x0⟩,
   ⟨0x4440, 0x4442, 0x7, 0x7, 3, 2, 1, .derived, 0, .any, [], 0x0⟩,
   ⟨0x4440, 0x4442, 0x8, 0x8, 5, 8, 1, .counter, 0, .any, [], 0x0⟩,
   ⟨0x4450, 0x4457, 0x1, 0x1, 2, 1, 1, .derived, 0, .any, [], 0x0⟩,
   ⟨0x4450, 0x4457, 0x2, 0x3, 4, 4, 1, .derived, 0, .any, [], 0x0⟩,
   ⟨0x4450, 0x4457, 0x4, 0x4, 4, 4, 4, .kept, 2, .any, [3, 10], 0x0⟩,
   ⟨0x4450, 0x4457, 0x5, 0x5, 1, 1, 4, .kept, 2, .bool, [3, 10], 0x0⟩,
   ⟨0x4450, 0x4457, 0x6, 0x6, 2, 1, 1, .derived, 0, .any, [], 0x0⟩,
   ⟨0x4450, 0x4457, 0x7, 0x7, 3, 2, 1, .derived, 0, .any, [], 0x0⟩,
   ⟨0x4450, 0x4457, 0x8, 0x8, 5, 8, 1, .counter, 0, .any, [], 0x0⟩,
   ⟨0x4460, 0x447F, 0x1, 0x1, 2, 1, 1, .derived, 0, .any, [], 0x0⟩]

/-- Tables, transactions, learning (R213, R251), part 3. -/
def objRows4b_2 : List ObjDesc :=
  [⟨0x4460, 0x447F, 0x2, 0x3, 4, 4, 1, .derived, 0, .any, [], 0x0⟩,
   ⟨0x4460, 0x447F, 0x4, 0x4, 4, 4, 4, .kept, 2, .any, [3, 10], 0x0⟩,
   ⟨0x4460, 0x447F, 0x5, 0x5, 1, 1, 4, .kept, 2, .bool, [3, 10], 0x0⟩,
   ⟨0x4460, 0x447F, 0x6, 0x6, 2, 1, 1, .derived, 0, .any, [], 0x0⟩,
   ⟨0x4460, 0x447F, 0x7, 0x7, 3, 2, 1, .derived, 0, .any, [], 0x0⟩,
   ⟨0x4460, 0x447F, 0x8, 0x8, 5, 8, 1, .counter, 0, .any, [], 0x0⟩,
   ⟨0x4460, 0x447F, 0x9, 0x9, 2, 1, 2, .kept, 2, .range 0 2, [], 0x0⟩,
   ⟨0x4480, 0x4480, 0x1, 0x1, 2, 1, 1, .derived, 0, .any, [], 0x0⟩,
   ⟨0x4480, 0x4480, 0x2, 0x3, 4, 4, 1, .derived, 0, .any, [], 0x0⟩,
   ⟨0x4480, 0x4480, 0x4, 0x4, 4, 4, 4, .kept, 2, .any, [3, 10], 0x0⟩,
   ⟨0x4480, 0x4480, 0x5, 0x5, 1, 1, 4, .kept, 2, .bool, [3, 10], 0x0⟩,
   ⟨0x4480, 0x4480, 0x6, 0x6, 2, 1, 1, .derived, 0, .any, [], 0x0⟩,
   ⟨0x4480, 0x4480, 0x7, 0x7, 3, 2, 1, .derived, 0, .any, [], 0x0⟩,
   ⟨0x4480, 0x4480, 0x8, 0x8, 5, 8, 1, .counter, 0, .any, [], 0x0⟩,
   ⟨0x4500, 0x4500, 0x1, 0x1, 5, 8, 1, .derived, 0, .any, [], 0x0⟩,
   ⟨0x4500, 0x4500, 0x2, 0x2, 5, 8, 1, .derived, 0, .any, [], 0x0⟩,
   ⟨0x4500, 0x4500, 0x3, 0x3, 2, 1, 1, .derived, 0, .any, [], 0x1⟩,
   ⟨0x4500, 0x4500, 0x4, 0x4, 2, 1, 1, .derived, 0, .any, [], 0x0⟩,
   ⟨0x4500, 0x4500, 0x5, 0x5, 4, 4, 1, .derived, 0, .any, [], 0x100000⟩,
   ⟨0x4500, 0x4500, 0x6, 0x6, 3, 2, 2, .persistent, 2, .range 1 600, [], 0xA⟩]

/-- Tables, transactions, learning (R213, R251), part 4. -/
def objRows4b_3 : List ObjDesc :=
  [⟨0x4500, 0x4500, 0x7, 0xB, 5, 8, 1, .counter, 0, .any, [], 0x0⟩,
   ⟨0x4500, 0x4500, 0xC, 0xC, 4, 4, 1, .derived, 0, .any, [], 0x0⟩,
   ⟨0x4501, 0x4501, 0x1, 0x1, 9, 192, 3, .volatile, 2, .any, [], 0x0⟩,
   ⟨0x4502, 0x4502, 0x1, 0x8, 5, 8, 1, .derived, 0, .any, [], 0x0⟩,
   ⟨0x4510, 0x4510, 0x1, 0x1, 4, 4, 2, .volatile, 2, .any, [], 0x0⟩,
   ⟨0x4510, 0x4510, 0x2, 0x2, 9, 64, 1, .derived, 0, .any, [], 0x0⟩,
   ⟨0x4510, 0x4510, 0x3, 0x3, 3, 2, 1, .derived, 0, .any, [], 0x0⟩,
   ⟨0x4511, 0x4511, 0x1, 0x30, 5, 8, 1, .derived, 0, .any, [], 0x0⟩,
   ⟨0x4600, 0x4600, 0x1, 0x3, 5, 8, 1, .counter, 0, .any, [], 0x0⟩,
   ⟨0x4610, 0x4610, 0x1, 0x1, 2, 1, 4, .kept, 2, .any, [3, 10], 0x20⟩,
   ⟨0x4611, 0x4617, 0x1, 0x1, 2, 1, 4, .kept, 2, .any, [3, 10], 0x0⟩,
   ⟨0x4610, 0x4617, 0x2, 0x2, 2, 1, 2, .kept, 2, .range 0 1, [], 0x0⟩,
   ⟨0x4610, 0x4617, 0x3, 0x3, 4, 4, 2, .kept, 2, .range 1 3600000, [], 0x3E8⟩,
   ⟨0x4610, 0x4617, 0x4, 0x4, 3, 2, 2, .kept, 2, .range 0 32767, [], 0x12C⟩,
   ⟨0x4610, 0x4617, 0x5, 0x5, 2, 1, 4, .kept, 2, .range 1 128, [3, 10], 0x40⟩,
   ⟨0x4610, 0x4617, 0x6, 0xB, 5, 8, 1, .counter, 0, .any, [], 0x0⟩,
   ⟨0x4610, 0x4617, 0xC, 0xC, 5, 8, 4, .kept, 2, .any, [3, 10], 0x1D0F5A5AC3E10B1E⟩,
   ⟨0x4610, 0x4617, 0xD, 0xD, 5, 8, 1, .counter, 0, .any, [], 0x0⟩]

/-- Tables, transactions, learning (R213, R251). -/
def objRows4b : List ObjDesc := objRows4b_0 ++ objRows4b_1 ++ objRows4b_2 ++ objRows4b_3

/-- The highest sub-index of each index (R30): Tables, transactions, learning (R213, R251). -/
def objTop4b : List (Nat × Nat × Nat) :=
  [(0x4400, 0x4400, 0x8), (0x4410, 0x4411, 0x8), (0x4420, 0x4423, 0x8), (0x4430, 0x4433, 0x8), (0x4440, 0x4442, 0x8), (0x4450, 0x4457, 0x8), (0x4460, 0x447F, 0x9), (0x4480, 0x4480, 0x8), (0x4500, 0x4500, 0xC), (0x4501, 0x4501, 0x1), (0x4502, 0x4502, 0x8), (0x4510, 0x4510, 0x3), (0x4511, 0x4511, 0x30), (0x4600, 0x4600, 0x3), (0x4610, 0x4617, 0xD)]

/-- Buffers, queues, graticules (R301, R339 to R341, R360), part 1. -/
def objRows5_0 : List ObjDesc :=
  [⟨0x5000, 0x5000, 0x1, 0x1, 4, 4, 1, .const, 0, .any, [], 0xC0000⟩,
   ⟨0x5000, 0x5000, 0x2, 0x2, 4, 4, 4, .kept, 2, .partition, [3, 10], 0x80000⟩,
   ⟨0x5000, 0x5000, 0x3, 0x3, 4, 4, 1, .const, 0, .any, [], 0x20000⟩,
   ⟨0x5000, 0x5000, 0x4, 0x4, 4, 4, 1, .const, 0, .any, [], 0x1800000⟩,
   ⟨0x5000, 0x5000, 0x5, 0x5, 3, 2, 2, .kept, 2, .range 64 4096, [], 0x200⟩,
   ⟨0x5000, 0x5000, 0x6, 0x6, 4, 4, 2, .kept, 2, .range 0 65536, [], 0x400⟩,
   ⟨0x5000, 0x5000, 0x7, 0x7, 1, 1, 2, .kept, 2, .bool, [], 0x1⟩,
   ⟨0x5000, 0x5000, 0x8, 0x8, 2, 1, 2, .kept, 2, .range 1 8, [], 0x2⟩,
   ⟨0x5000, 0x5000, 0x9, 0xA, 4, 4, 1, .derived, 0, .any, [], 0x0⟩,
   ⟨0x5000, 0x5000, 0xB, 0xB, 4, 4, 1, .derived, 0, .any, [], 0x60000⟩,
   ⟨0x5000, 0x5000, 0xC, 0xC, 4, 4, 1, .derived, 0, .any, [], 0x30000⟩,
   ⟨0x5001, 0x5001, 0x1, 0xF, 5, 8, 1, .counter, 0, .any, [], 0x0⟩,
   ⟨0x5002, 0x5002, 0x1, 0x1, 2, 1, 2, .kept, 2, .range 0 2, [], 0x0⟩,
   ⟨0x5002, 0x5002, 0x2, 0x2, 4, 4, 2, .kept, 2, .any, [], 0x0⟩,
   ⟨0x5002, 0x5002, 0x3, 0x3, 9, 16, 1, .derived, 0, .any, [], 0x0⟩,
   ⟨0x5010, 0x5013, 0x1, 0x1, 4, 4, 1, .derived, 0, .any, [], 0x0⟩,
   ⟨0x5010, 0x5013, 0x2, 0x2, 4, 4, 2, .kept, 2, .range 0 0, [], 0x0⟩,
   ⟨0x5010, 0x5010, 0x3, 0x3, 4, 4, 2, .kept, 2, .any, [], 0x60000⟩,
   ⟨0x5010, 0x5010, 0x4, 0x4, 4, 4, 2, .kept, 2, .any, [], 0x70000⟩,
   ⟨0x5010, 0x5010, 0x5, 0x5, 4, 4, 2, .kept, 2, .any, [], 0x7C000⟩]

/-- Buffers, queues, graticules (R301, R339 to R341, R360), part 2. -/
def objRows5_1 : List ObjDesc :=
  [⟨0x5011, 0x5011, 0x3, 0x3, 4, 4, 2, .kept, 2, .any, [], 0x30000⟩,
   ⟨0x5011, 0x5011, 0x4, 0x4, 4, 4, 2, .kept, 2, .any, [], 0x38000⟩,
   ⟨0x5011, 0x5011, 0x5, 0x5, 4, 4, 2, .kept, 2, .any, [], 0x3E000⟩,
   ⟨0x5012, 0x5012, 0x3, 0x3, 4, 4, 2, .kept, 2, .any, [], 0x1200000⟩,
   ⟨0x5012, 0x5012, 0x4, 0x4, 4, 4, 2, .kept, 2, .any, [], 0x1500000⟩,
   ⟨0x5012, 0x5012, 0x5, 0x5, 4, 4, 2, .kept, 2, .any, [], 0x1740000⟩,
   ⟨0x5013, 0x5013, 0x3, 0x3, 4, 4, 2, .kept, 2, .any, [], 0x18000⟩,
   ⟨0x5013, 0x5013, 0x4, 0x4, 4, 4, 2, .kept, 2, .any, [], 0x1C000⟩,
   ⟨0x5013, 0x5013, 0x5, 0x5, 4, 4, 2, .kept, 2, .any, [], 0x1F000⟩,
   ⟨0x5010, 0x5013, 0x6, 0x6, 2, 1, 1, .derived, 0, .any, [], 0x0⟩,
   ⟨0x5010, 0x5013, 0x7, 0x7, 5, 8, 1, .counter, 0, .any, [], 0x0⟩,
   ⟨0x5020, 0x503F, 0x1, 0x1, 4, 4, 2, .kept, 2, .range 0 65536, [], 0x0⟩,
   ⟨0x5020, 0x503F, 0x2, 0x2, 4, 4, 2, .kept, 2, .range 1 201326592, [], 0x10000⟩,
   ⟨0x5020, 0x503F, 0x3, 0x3, 2, 1, 2, .kept, 2, .range 0 11, [], 0x7⟩,
   ⟨0x5020, 0x503F, 0x4, 0x4, 4, 4, 1, .derived, 0, .any, [], 0x0⟩,
   ⟨0x5020, 0x503F, 0x5, 0x5, 5, 8, 1, .counter, 0, .any, [], 0x0⟩,
   ⟨0x5080, 0x50FF, 0x1, 0x2, 1, 1, 2, .kept, 2, .bool, [], 0x0⟩,
   ⟨0x5080, 0x50FF, 0x3, 0x3, 7, 4, 2, .kept, 2, .mask 0xFF, [], 0x0⟩,
   ⟨0x5080, 0x50FF, 0x4, 0x4, 4, 4, 2, .kept, 2, .range 1 65536, [], 0x800⟩,
   ⟨0x5080, 0x50FF, 0x5, 0x5, 4, 4, 2, .kept, 2, .any, [], 0x600⟩]

/-- Buffers, queues, graticules (R301, R339 to R341, R360), part 3. -/
def objRows5_2 : List ObjDesc :=
  [⟨0x5080, 0x50FF, 0x6, 0x6, 4, 4, 2, .kept, 2, .range 0 65536, [], 0x0⟩,
   ⟨0x5080, 0x50FF, 0x7, 0x7, 3, 2, 2, .kept, 2, .range 1 65535, [], 0xFFFF⟩,
   ⟨0x5080, 0x50FF, 0x8, 0x8, 4, 4, 1, .derived, 0, .any, [], 0x0⟩,
   ⟨0x5080, 0x50FF, 0x9, 0x9, 5, 8, 1, .counter, 0, .any, [], 0x0⟩,
   ⟨0x5100, 0x5100, 0x1, 0x1, 4, 4, 2, .kept, 2, .range 0 524287, [], 0x0⟩,
   ⟨0x5100, 0x5100, 0x2, 0x2, 9, 32, 2, .derived, 2, .any, [], 0x0⟩,
   ⟨0x5100, 0x5100, 0x3, 0x3, 2, 1, 1, .derived, 0, .any, [], 0x0⟩,
   ⟨0x5100, 0x5100, 0x4, 0x6, 4, 4, 1, .derived, 0, .any, [], 0x0⟩,
   ⟨0x5100, 0x5100, 0x7, 0x7, 6, 4, 1, .derived, 0, .any, [], 0x0⟩,
   ⟨0x5100, 0x5100, 0x8, 0x8, 4, 4, 1, .derived, 0, .any, [], 0x0⟩,
   ⟨0x5100, 0x5100, 0x9, 0xC, 5, 8, 1, .counter, 0, .any, [], 0x0⟩,
   ⟨0x5100, 0x5100, 0xD, 0xD, 3, 2, 1, .derived, 0, .any, [], 0x0⟩,
   ⟨0x5101, 0x5101, 0x1, 0x1, 1, 1, 6, .volatile, 2, .bool, [], 0x0⟩,
   ⟨0x5101, 0x5101, 0x2, 0x2, 2, 1, 2, .kept, 2, .range 4 64, [], 0x10⟩,
   ⟨0x5101, 0x5101, 0x3, 0x3, 3, 2, 2, .kept, 2, .range 10 1000, [], 0x32⟩,
   ⟨0x5101, 0x5101, 0x4, 0x4, 3, 2, 2, .kept, 2, .range 10 10000, [], 0x64⟩,
   ⟨0x5101, 0x5101, 0x5, 0xD, 5, 8, 1, .counter, 0, .any, [], 0x0⟩,
   ⟨0x5102, 0x5102, 0x1, 0x1, 3, 2, 2, .kept, 2, .any, [], 0x0⟩,
   ⟨0x5102, 0x5102, 0x2, 0x2, 5, 8, 2, .kept, 2, .any, [], 0x0⟩,
   ⟨0x5103, 0x5103, 0x1, 0x1, 4, 4, 2, .kept, 2, .range 0 1048575, [], 0x0⟩]

/-- Buffers, queues, graticules (R301, R339 to R341, R360), part 4. -/
def objRows5_3 : List ObjDesc :=
  [⟨0x5103, 0x5103, 0x2, 0x2, 4, 4, 2, .kept, 2, .any, [], 0x0⟩,
   ⟨0x5104, 0x5104, 0x1, 0xFF, 4, 4, 2, .kept, 2, .mask 0x8007FFFF, [], 0x0⟩,
   ⟨0x5200, 0x5200, 0x1, 0x1, 2, 1, 2, .kept, 2, .range 1 4, [], 0x1⟩,
   ⟨0x5200, 0x5200, 0x2, 0x2, 4, 4, 2, .kept, 2, .any, [], 0x0⟩,
   ⟨0x5200, 0x5200, 0x3, 0x3, 9, 32, 2, .derived, 2, .any, [], 0x0⟩,
   ⟨0x5200, 0x5200, 0x4, 0x4, 6, 4, 1, .derived, 0, .any, [], 0x0⟩,
   ⟨0x5200, 0x5200, 0x5, 0x5, 1, 1, 1, .derived, 0, .any, [], 0x0⟩,
   ⟨0x5200, 0x5200, 0x6, 0x7, 5, 8, 1, .counter, 0, .any, [], 0x0⟩,
   ⟨0x5201, 0x5201, 0x1, 0x1, 3, 2, 2, .kept, 2, .range 0 255, [], 0x0⟩,
   ⟨0x5201, 0x5201, 0x2, 0x2, 3, 2, 2, .kept, 2, .any, [], 0x0⟩,
   ⟨0x5201, 0x5201, 0x3, 0x3, 2, 1, 2, .kept, 2, .range 0 63, [], 0x18⟩,
   ⟨0x5201, 0x5201, 0x4, 0x4, 4, 4, 2, .kept, 2, .range 0 1000000, [], 0x2710⟩,
   ⟨0x5201, 0x5201, 0x5, 0x5, 4, 4, 2, .kept, 2, .range 32 65536, [], 0x400⟩,
   ⟨0x5201, 0x5201, 0x6, 0x6, 2, 1, 1, .derived, 0, .any, [], 0x0⟩,
   ⟨0x5201, 0x5201, 0x7, 0x7, 5, 8, 1, .counter, 0, .any, [], 0x0⟩,
   ⟨0x5300, 0x5300, 0x1, 0x1, 4, 4, 1, .derived, 0, .any, [], 0x0⟩,
   ⟨0x5310, 0x531F, 0x1, 0x1, 1, 1, 2, .kept, 2, .bool, [], 0x0⟩,
   ⟨0x5310, 0x531F, 0x2, 0x2, 4, 4, 2, .kept, 2, .range 1000 1000000000, [], 0xF4240⟩,
   ⟨0x5310, 0x531F, 0x3, 0x3, 4, 4, 2, .kept, 2, .range 0 524287, [], 0x0⟩,
   ⟨0x5310, 0x531F, 0x4, 0x4, 3, 2, 2, .kept, 2, .range 1 4096, [], 0x1⟩]

/-- Buffers, queues, graticules (R301, R339 to R341, R360), part 5. -/
def objRows5_4 : List ObjDesc :=
  [⟨0x5310, 0x531F, 0x5, 0x5, 5, 8, 1, .counter, 0, .any, [], 0x0⟩,
   ⟨0x5400, 0x5400, 0x1, 0x1, 3, 2, 1, .const, 0, .any, [], 0x132⟩,
   ⟨0x5400, 0x5400, 0x2, 0x2, 3, 2, 1, .const, 0, .any, [], 0x13D⟩,
   ⟨0x5400, 0x5400, 0x3, 0x3, 2, 1, 1, .derived, 0, .any, [], 0x0⟩,
   ⟨0x5400, 0x5400, 0x4, 0x6, 5, 8, 1, .counter, 0, .any, [], 0x0⟩,
   ⟨0x5410, 0x548F, 0x1, 0x1, 2, 1, 1, .derived, 0, .any, [], 0x0⟩,
   ⟨0x5410, 0x548F, 0x2, 0x2, 7, 4, 1, .derived, 0, .any, [], 0x0⟩,
   ⟨0x5410, 0x548F, 0x3, 0x3, 3, 2, 1, .derived, 0, .any, [], 0x0⟩,
   ⟨0x5410, 0x548F, 0x4, 0x4, 4, 4, 1, .derived, 0, .any, [], 0x0⟩,
   ⟨0x5410, 0x548F, 0x5, 0x5, 8, 10, 1, .derived, 0, .any, [], 0x0⟩,
   ⟨0x5410, 0x548F, 0x6, 0x6, 2, 1, 1, .derived, 0, .any, [], 0x0⟩,
   ⟨0x5410, 0x548F, 0x7, 0x7, 3, 2, 1, .derived, 0, .any, [], 0x0⟩,
   ⟨0x5410, 0x548F, 0x8, 0x8, 3, 2, 2, .volatile, 2, .range 0 1023, [], 0x0⟩,
   ⟨0x5410, 0x548F, 0x9, 0x9, 9, 8, 1, .derived, 0, .any, [], 0x0⟩,
   ⟨0x5410, 0x548F, 0xA, 0xA, 8, 10, 1, .derived, 0, .any, [], 0x0⟩,
   ⟨0x5410, 0x548F, 0xB, 0xD, 5, 8, 1, .counter, 0, .any, [], 0x0⟩,
   ⟨0x5410, 0x548F, 0xE, 0xE, 5, 8, 1, .derived, 0, .any, [], 0x0⟩,
   ⟨0x5410, 0x548F, 0xF, 0xF, 2, 1, 1, .const, 0, .any, [], 0x0⟩,
   ⟨0x5410, 0x548F, 0x10, 0x17, 4, 4, 1, .derived, 0, .any, [], 0xFFFFFFFF⟩]

/-- Buffers, queues, graticules (R301, R339 to R341, R360). -/
def objRows5 : List ObjDesc := objRows5_0 ++ objRows5_1 ++ objRows5_2 ++ objRows5_3 ++ objRows5_4

/-- The highest sub-index of each index (R30): Buffers, queues, graticules (R301, R339 to R341, R360). -/
def objTop5 : List (Nat × Nat × Nat) :=
  [(0x5000, 0x5000, 0xC), (0x5001, 0x5001, 0xF), (0x5002, 0x5002, 0x3), (0x5010, 0x5013, 0x7), (0x5020, 0x503F, 0x5), (0x5080, 0x50FF, 0x9), (0x5100, 0x5101, 0xD), (0x5102, 0x5103, 0x2), (0x5104, 0x5104, 0xFF), (0x5200, 0x5201, 0x7), (0x5300, 0x5300, 0x1), (0x5310, 0x531F, 0x5), (0x5400, 0x5400, 0x6), (0x5410, 0x548F, 0x17)]

/-- Fabric, links, redundancy (R395, R396, R429, R504), part 1. -/
def objRows6_0 : List ObjDesc :=
  [⟨0x6000, 0x6000, 0x1, 0x1, 2, 1, 1, .derived, 0, .any, [], 0xA0⟩,
   ⟨0x6000, 0x6000, 0x2, 0x2, 2, 1, 1, .derived, 0, .any, [], 0x0⟩,
   ⟨0x6000, 0x6000, 0x3, 0x3, 2, 1, 1, .derived, 0, .any, [], 0x8⟩,
   ⟨0x6000, 0x6000, 0x4, 0x4, 3, 2, 2, .persistent, 2, .range 100 125, [], 0x78⟩,
   ⟨0x6000, 0x6000, 0x5, 0x5, 4, 4, 1, .derived, 0, .any, [], 0x0⟩,
   ⟨0x6000, 0x6000, 0x6, 0x6, 3, 2, 1, .derived, 0, .any, [], 0x0⟩,
   ⟨0x6000, 0x6000, 0x7, 0x7, 3, 2, 2, .kept, 2, .range 5 1000, [], 0x14⟩,
   ⟨0x6000, 0x6000, 0x8, 0x8, 9, 64, 2, .persistent, 2, .any, [], 0x0⟩,
   ⟨0x6000, 0x6000, 0x9, 0x9, 9, 20, 1, .derived, 0, .any, [], 0x0⟩,
   ⟨0x6001, 0x6001, 0x1, 0x9, 5, 8, 1, .counter, 0, .any, [], 0x0⟩,
   ⟨0x6010, 0x6010, 0x1, 0x1, 2, 1, 2, .kept, 2, .any, [], 0x0⟩,
   ⟨0x6010, 0x6010, 0x2, 0x2, 4, 4, 2, .persistent, 2, .mask 0x81FF01FF, [], 0x0⟩,
   ⟨0x6020, 0x60BF, 0x1, 0x1, 2, 1, 1, .derived, 0, .any, [], 0x1⟩,
   ⟨0x6020, 0x60BF, 0x2, 0x2, 9, 64, 1, .derived, 0, .any, [], 0x0⟩,
   ⟨0x6020, 0x60BF, 0x3, 0x5, 5, 8, 1, .counter, 0, .any, [], 0x0⟩,
   ⟨0x6020, 0x60BF, 0x6, 0x6, 1, 1, 6, .volatile, 2, .bool, [], 0x0⟩,
   ⟨0x6100, 0x6100, 0x1, 0x2, 2, 1, 2, .kept, 2, .range 0 159, [], 0x0⟩,
   ⟨0x6100, 0x6100, 0x3, 0x4, 2, 1, 2, .kept, 2, .any, [], 0x0⟩,
   ⟨0x6100, 0x6100, 0x5, 0x6, 5, 8, 1, .counter, 0, .any, [], 0x0⟩,
   ⟨0x6100, 0x6100, 0x7, 0x7, 3, 2, 2, .kept, 2, .range 1 65535, [], 0x10⟩]

/-- Fabric, links, redundancy (R395, R396, R429, R504), part 2. -/
def objRows6_1 : List ObjDesc :=
  [⟨0x6120, 0x61C1, 0x1, 0x1, 2, 1, 1, .derived, 0, .any, [], 0x0⟩,
   ⟨0x6120, 0x61C1, 0x2, 0x2, 7, 4, 1, .derived, 0, .any, [], 0x0⟩,
   ⟨0x6120, 0x61C1, 0x3, 0x3, 2, 1, 2, .kept, 2, .range 0 2, [], 0x0⟩,
   ⟨0x6120, 0x61C1, 0x4, 0x4, 9, 16, 1, .derived, 0, .any, [], 0x0⟩,
   ⟨0x6120, 0x61C1, 0x5, 0x11, 5, 8, 1, .counter, 0, .any, [], 0x0⟩,
   ⟨0x6120, 0x61C1, 0x12, 0x12, 2, 1, 1, .derived, 0, .any, [], 0x0⟩,
   ⟨0x6200, 0x6200, 0x1, 0x1, 4, 4, 2, .persistent, 2, .range 5000 1000000, [], 0x9C40⟩,
   ⟨0x6200, 0x6200, 0x2, 0x8, 5, 8, 1, .counter, 0, .any, [], 0x0⟩,
   ⟨0x6200, 0x6200, 0x9, 0x9, 4, 4, 1, .derived, 0, .any, [], 0x0⟩,
   ⟨0x6201, 0x6201, 0x1, 0x1, 3, 2, 2, .kept, 2, .range 0 511, [], 0x0⟩,
   ⟨0x6201, 0x6201, 0x2, 0x2, 2, 1, 2, .kept, 2, .range 0 8, [], 0x0⟩,
   ⟨0x6201, 0x6201, 0x3, 0x3, 2, 1, 1, .derived, 0, .any, [], 0x0⟩,
   ⟨0x6201, 0x6201, 0x4, 0x5, 4, 4, 1, .derived, 0, .any, [], 0x0⟩,
   ⟨0x6800, 0x6800, 0x1, 0x1, 1, 1, 4, .persistent, 2, .bool, [3, 10], 0x0⟩,
   ⟨0x6800, 0x6800, 0x2, 0x2, 3, 2, 4, .persistent, 2, .range 0 511, [3, 10], 0x0⟩,
   ⟨0x6800, 0x6800, 0x3, 0x3, 2, 1, 4, .persistent, 2, .range 1 15, [3, 10], 0x1⟩,
   ⟨0x6800, 0x6800, 0x4, 0x4, 2, 1, 2, .persistent, 2, .range 0 1, [], 0x0⟩,
   ⟨0x6800, 0x6800, 0x5, 0x5, 4, 4, 2, .persistent, 2, .range 100 60000, [], 0x7D0⟩,
   ⟨0x6800, 0x6800, 0x6, 0x9, 2, 1, 1, .derived, 0, .any, [], 0x0⟩,
   ⟨0x6800, 0x6800, 0xA, 0xA, 1, 1, 1, .derived, 0, .any, [], 0x1⟩]

/-- Fabric, links, redundancy (R395, R396, R429, R504), part 3. -/
def objRows6_2 : List ObjDesc :=
  [⟨0x6800, 0x6800, 0xB, 0xB, 2, 1, 6, .volatile, 2, .range 1 4, [], 0x0⟩,
   ⟨0x6800, 0x6800, 0xC, 0xC, 5, 8, 1, .derived, 0, .any, [], 0x0⟩,
   ⟨0x6800, 0x6800, 0xD, 0xD, 1, 1, 1, .derived, 0, .any, [], 0x0⟩,
   ⟨0x6800, 0x6800, 0xE, 0x14, 5, 8, 1, .counter, 0, .any, [], 0x0⟩,
   ⟨0x6900, 0x6900, 0x1, 0x1, 3, 2, 2, .kept, 2, .range 0 16383, [], 0x0⟩,
   ⟨0x6900, 0x6900, 0x2, 0x2, 9, 16, 2, .kept, 2, .any, [], 0x0⟩,
   ⟨0x6900, 0x6900, 0x3, 0x4, 3, 2, 1, .derived, 0, .any, [], 0x0⟩,
   ⟨0x6900, 0x6900, 0x5, 0xC, 5, 8, 1, .counter, 0, .any, [], 0x0⟩,
   ⟨0x6901, 0x6901, 0x1, 0x1, 9, 16, 2, .kept, 2, .any, [], 0x0⟩]

/-- Fabric, links, redundancy (R395, R396, R429, R504). -/
def objRows6 : List ObjDesc := objRows6_0 ++ objRows6_1 ++ objRows6_2

/-- The highest sub-index of each index (R30): Fabric, links, redundancy (R395, R396, R429, R504). -/
def objTop6 : List (Nat × Nat × Nat) :=
  [(0x6000, 0x6001, 0x9), (0x6010, 0x6010, 0x2), (0x6020, 0x60BF, 0x6), (0x6100, 0x6100, 0x7), (0x6120, 0x61C1, 0x12), (0x6200, 0x6200, 0x9), (0x6201, 0x6201, 0x5), (0x6800, 0x6800, 0x14), (0x6900, 0x6900, 0xC), (0x6901, 0x6901, 0x1)]

/-- Survey, margin plan, spares (R537 to R539), part 1. -/
def objRows7_0 : List ObjDesc :=
  [⟨0x7000, 0x7000, 0x1, 0x1, 2, 1, 1, .derived, 0, .any, [], 0x0⟩,
   ⟨0x7000, 0x7000, 0x2, 0x2, 8, 10, 1, .derived, 0, .any, [], 0x0⟩,
   ⟨0x7000, 0x7000, 0x3, 0x3, 2, 1, 1, .derived, 0, .any, [], 0x0⟩,
   ⟨0x7000, 0x7000, 0x4, 0x4, 4, 4, 2, .persistent, 2, .range 0 86399, [], 0x1C20⟩,
   ⟨0x7000, 0x7000, 0x5, 0x5, 8, 10, 1, .kept, 0, .any, [], 0x0⟩,
   ⟨0x7000, 0x7000, 0x6, 0x6, 8, 10, 1, .derived, 0, .any, [], 0x0⟩,
   ⟨0x7000, 0x7000, 0x7, 0x8, 5, 8, 1, .counter, 0, .any, [], 0x0⟩,
   ⟨0x7000, 0x7000, 0x9, 0xC, 3, 2, 1, .derived, 0, .any, [], 0x0⟩,
   ⟨0x7001, 0x7001, 0x1, 0x1, 3, 2, 2, .kept, 2, .any, [], 0x1000⟩,
   ⟨0x7001, 0x7001, 0x2, 0x3, 6, 4, 1, .derived, 0, .any, [], 0x0⟩,
   ⟨0x7001, 0x7001, 0x4, 0x4, 2, 1, 1, .derived, 0, .any, [], 0x0⟩,
   ⟨0x7001, 0x7001, 0x5, 0x5, 8, 10, 1, .derived, 0, .any, [], 0x0⟩,
   ⟨0x7100, 0x7100, 0x1, 0x2, 3, 2, 1, .derived, 0, .any, [], 0x0⟩,
   ⟨0x7100, 0x7100, 0x3, 0x4, 3, 2, 2, .persistent, 2, .range 760 800, [], 0x320⟩,
   ⟨0x7100, 0x7100, 0x5, 0x5, 5, 8, 1, .derived, 0, .any, [], 0x0⟩,
   ⟨0x7100, 0x7100, 0x6, 0x6, 3, 2, 2, .volatile, 2, .range 0 543, [], 0x0⟩,
   ⟨0x7100, 0x7100, 0x7, 0x7, 2, 1, 1, .derived, 0, .any, [], 0x0⟩,
   ⟨0x7100, 0x7100, 0x8, 0x8, 9, 16, 1, .derived, 0, .any, [], 0x0⟩,
   ⟨0x7100, 0x7100, 0x9, 0x9, 2, 1, 1, .derived, 0, .any, [], 0x0⟩,
   ⟨0x7100, 0x7100, 0xA, 0xA, 2, 1, 2, .volatile, 2, .range 0 127, [], 0x0⟩]

/-- Survey, margin plan, spares (R537 to R539), part 2. -/
def objRows7_1 : List ObjDesc :=
  [⟨0x7100, 0x7100, 0xB, 0xB, 3, 2, 1, .derived, 0, .any, [], 0x0⟩,
   ⟨0x7200, 0x7200, 0x1, 0x1, 2, 1, 2, .persistent, 2, .range 13 16, [], 0xD⟩,
   ⟨0x7200, 0x7200, 0x2, 0x2, 4, 4, 2, .persistent, 2, .range 0 1048576, [], 0x40000⟩,
   ⟨0x7200, 0x7200, 0x3, 0x3, 4, 4, 1, .derived, 0, .any, [], 0x0⟩,
   ⟨0x7200, 0x7200, 0x4, 0x4, 2, 1, 2, .volatile, 2, .any, [], 0x1⟩,
   ⟨0x7200, 0x7200, 0x5, 0x7, 4, 4, 1, .derived, 0, .any, [], 0x0⟩,
   ⟨0x7200, 0x7200, 0x8, 0x8, 5, 8, 1, .counter, 0, .any, [], 0x0⟩]

/-- Survey, margin plan, spares (R537 to R539). -/
def objRows7 : List ObjDesc := objRows7_0 ++ objRows7_1

/-- The highest sub-index of each index (R30): Survey, margin plan, spares (R537 to R539). -/
def objTop7 : List (Nat × Nat × Nat) :=
  [(0x7000, 0x7000, 0xC), (0x7001, 0x7001, 0x5), (0x7100, 0x7100, 0xB), (0x7200, 0x7200, 0x8)]

/-- Faults (R564), part 1. -/
def objRows8_0 : List ObjDesc :=
  [⟨0x8000, 0x8000, 0x1, 0x1, 2, 1, 1, .derived, 0, .any, [], 0x0⟩,
   ⟨0x8000, 0x8000, 0x2, 0x2, 1, 1, 1, .derived, 0, .any, [], 0x0⟩,
   ⟨0x8000, 0x8000, 0x3, 0x3, 4, 4, 6, .volatile, 1, .any, [], 0x0⟩,
   ⟨0x8000, 0x8000, 0x4, 0x4, 2, 1, 6, .volatile, 1, .range 1 16, [], 0x0⟩,
   ⟨0x8000, 0x8000, 0x5, 0x5, 3, 2, 1, .const, 0, .any, [], 0x900⟩,
   ⟨0x8000, 0x8000, 0x6, 0x6, 3, 2, 1, .derived, 0, .any, [], 0x0⟩,
   ⟨0x8000, 0x8000, 0x7, 0x7, 5, 8, 1, .counter, 0, .any, [], 0x0⟩,
   ⟨0x8000, 0x8000, 0x8, 0x8, 7, 4, 1, .derived, 0, .any, [], 0x0⟩,
   ⟨0x8000, 0x8000, 0x9, 0xB, 3, 2, 1, .derived, 0, .any, [], 0x0⟩,
   ⟨0x8000, 0x8000, 0xC, 0xC, 3, 2, 2, .persistent, 2, .range 800 1000, [], 0x3B6⟩,
   ⟨0x8000, 0x8000, 0xD, 0xD, 3, 2, 2, .persistent, 2, .range 850 1040, [], 0x3E8⟩,
   ⟨0x8000, 0x8000, 0xE, 0xF, 5, 8, 1, .counter, 0, .any, [], 0x0⟩,
   ⟨0x8010, 0x801F, 0x1, 0x1, 4, 4, 2, .persistent, 2, .range 10 1000000, [], 0x3E8⟩,
   ⟨0x8010, 0x801F, 0x2, 0x2, 2, 1, 1, .derived, 0, .any, [], 0x0⟩,
   ⟨0x8010, 0x801F, 0x3, 0x8, 5, 8, 1, .counter, 0, .any, [], 0x0⟩,
   ⟨0x8100, 0x8100, 0x1, 0x2, 4, 4, 1, .derived, 0, .any, [], 0x0⟩,
   ⟨0x8100, 0x8100, 0x3, 0x3, 4, 4, 2, .kept, 2, .any, [], 0x0⟩,
   ⟨0x8100, 0x8100, 0x4, 0x4, 9, 64, 1, .derived, 0, .any, [], 0x0⟩,
   ⟨0x8100, 0x8100, 0x5, 0x5, 5, 8, 1, .counter, 0, .any, [], 0x0⟩,
   ⟨0x8100, 0x8100, 0x6, 0x6, 2, 1, 1, .derived, 0, .any, [], 0x0⟩]

/-- Faults (R564), part 2. -/
def objRows8_1 : List ObjDesc :=
  [⟨0x8200, 0x8200, 0x1, 0x1, 4, 4, 2, .persistent, 2, .range 1000 1000000, [], 0x3E8⟩,
   ⟨0x8200, 0x8200, 0x2, 0x2, 1, 1, 2, .kept, 2, .bool, [], 0x0⟩,
   ⟨0x8200, 0x8200, 0x3, 0x3, 2, 1, 2, .persistent, 2, .range 1 4, [], 0x1⟩,
   ⟨0x8200, 0x8200, 0x4, 0x4, 7, 4, 1, .derived, 0, .any, [], 0x0⟩]

/-- Faults (R564). -/
def objRows8 : List ObjDesc := objRows8_0 ++ objRows8_1

/-- The highest sub-index of each index (R30): Faults (R564). -/
def objTop8 : List (Nat × Nat × Nat) :=
  [(0x8000, 0x8000, 0xF), (0x8010, 0x801F, 0x8), (0x8100, 0x8100, 0x6), (0x8200, 0x8200, 0x4)]

/-- Update and banks (R630), part 1. -/
def objRows9_0 : List ObjDesc :=
  [⟨0x9000, 0x9000, 0x1, 0x1, 9, 1024, 6, .volatile, 2, .any, [], 0x0⟩,
   ⟨0x9000, 0x9000, 0x2, 0x2, 9, 1024, 3, .volatile, 2, .any, [], 0x0⟩,
   ⟨0x9000, 0x9000, 0x3, 0x3, 2, 1, 7, .volatile, 2, .any, [], 0x0⟩,
   ⟨0x9000, 0x9000, 0x4, 0x4, 8, 10, 6, .volatile, 2, .time, [], 0x0⟩,
   ⟨0x9000, 0x9000, 0x5, 0x5, 2, 1, 6, .volatile, 2, .any, [], 0x0⟩,
   ⟨0x9000, 0x9000, 0x6, 0x7, 2, 1, 6, .volatile, 2, .any, [], 0x0⟩,
   ⟨0x9000, 0x9000, 0x8, 0x8, 4, 4, 2, .persistent, 2, .range 60 86400, [], 0x258⟩,
   ⟨0x9000, 0x9000, 0x9, 0x9, 9, 64, 1, .derived, 0, .any, [], 0x0⟩,
   ⟨0x9000, 0x9000, 0xA, 0xA, 3, 2, 1, .derived, 0, .any, [], 0x0⟩,
   ⟨0x9100, 0x9100, 0x1, 0x2, 2, 1, 1, .derived, 0, .any, [], 0x0⟩,
   ⟨0x9100, 0x9100, 0x3, 0x3, 1, 1, 1, .derived, 0, .any, [], 0x1⟩,
   ⟨0x9110, 0x9111, 0x1, 0x1, 2, 1, 1, .derived, 0, .any, [], 0x0⟩,
   ⟨0x9110, 0x9111, 0x2, 0x2, 4, 4, 1, .derived, 0, .any, [], 0x0⟩,
   ⟨0x9110, 0x9111, 0x3, 0x4, 2, 1, 1, .derived, 0, .any, [], 0x0⟩,
   ⟨0x9110, 0x9111, 0x5, 0x5, 9, 48, 1, .derived, 0, .any, [], 0x0⟩,
   ⟨0x9110, 0x9111, 0x6, 0x6, 4, 4, 1, .derived, 0, .any, [], 0x0⟩,
   ⟨0x9110, 0x9111, 0x7, 0x7, 10, 32, 1, .derived, 0, .any, [], 0x0⟩]

/-- Update and banks (R630). -/
def objRows9 : List ObjDesc := objRows9_0

/-- The highest sub-index of each index (R30): Update and banks (R630). -/
def objTop9 : List (Nat × Nat × Nat) :=
  [(0x9000, 0x9000, 0xA), (0x9100, 0x9100, 0x3), (0x9110, 0x9111, 0x7)]

/-- Counters and statistics (R603), part 1. -/
def objRowsA_0 : List ObjDesc :=
  [⟨0xA000, 0xA000, 0x1, 0x1, 2, 1, 2, .kept, 2, .range 0 95, [], 0x0⟩,
   ⟨0xA000, 0xA000, 0x2, 0x2, 9, 8, 2, .kept, 2, .any, [], 0x0⟩,
   ⟨0xA000, 0xA000, 0x3, 0x3, 1, 1, 6, .volatile, 2, .bool, [], 0x0⟩,
   ⟨0xA000, 0xA000, 0x4, 0x4, 7, 4, 2, .kept, 2, .mask 0xFFF, [], 0x0⟩,
   ⟨0xA000, 0xA000, 0x5, 0x5, 5, 8, 1, .counter, 0, .any, [], 0x0⟩,
   ⟨0xA000, 0xA000, 0x6, 0x6, 1, 1, 2, .kept, 2, .bool, [], 0x0⟩,
   ⟨0xA000, 0xA000, 0x7, 0x7, 4, 4, 2, .kept, 2, .range 10 1000000, [], 0x3E8⟩,
   ⟨0xA000, 0xA000, 0x8, 0x8, 5, 8, 4, .kept, 2, .aligned64, [], 0x0⟩,
   ⟨0xA000, 0xA000, 0x9, 0x9, 3, 2, 4, .kept, 2, .range 2 4096, [], 0x2⟩,
   ⟨0xA000, 0xA000, 0xA, 0xA, 3, 2, 2, .kept, 2, .range 0 4096, [], 0x0⟩,
   ⟨0xA000, 0xA000, 0xB, 0xC, 5, 8, 1, .counter, 0, .any, [], 0x0⟩,
   ⟨0xA100, 0xA100, 0x1, 0x5, 5, 8, 1, .counter, 0, .any, [], 0x0⟩]

/-- Counters and statistics (R603). -/
def objRowsA : List ObjDesc := objRowsA_0

/-- The highest sub-index of each index (R30): Counters and statistics (R603). -/
def objTopA : List (Nat × Nat × Nat) :=
  [(0xA000, 0xA000, 0xC), (0xA100, 0xA100, 0x5)]

/-- Stepped operations and journal (chapter 2), part 1. -/
def objRowsC_0 : List ObjDesc :=
  [⟨0xC000, 0xC000, 0x1, 0x1, 2, 1, 1, .derived, 0, .any, [], 0x0⟩,
   ⟨0xC000, 0xC000, 0x2, 0x2, 3, 2, 6, .volatile, 1, .any, [], 0x0⟩,
   ⟨0xC000, 0xC000, 0x3, 0x3, 3, 2, 6, .volatile, 2, .any, [], 0x0⟩,
   ⟨0xC001, 0xC001, 0x1, 0xC, 9, 48, 1, .derived, 0, .any, [], 0x0⟩]

/-- Stepped operations and journal (chapter 2). -/
def objRowsC : List ObjDesc := objRowsC_0

/-- The highest sub-index of each index (R30): Stepped operations and journal (chapter 2). -/
def objTopC : List (Nat × Nat × Nat) :=
  [(0xC000, 0xC000, 0x3), (0xC001, 0xC001, 0xC)]

/-- The rows among which an index stands. -/
def objRowsOf (idx : Nat) : List ObjDesc :=
  match idx / 0x1000 with
  | 1 => objRows1
  | 2 => objRows2
  | 3 => objRows3
  | 4 => if idx < 0x4400 then objRows4a else objRows4b
  | 5 => objRows5
  | 6 => objRows6
  | 7 => objRows7
  | 8 => objRows8
  | 9 => objRows9
  | 10 => objRowsA
  | 12 => objRowsC
  | _ => []

/-- The highest sub-indices among which an index stands. -/
def objTopsOf (idx : Nat) : List (Nat × Nat × Nat) :=
  match idx / 0x1000 with
  | 1 => objTop1
  | 2 => objTop2
  | 3 => objTop3
  | 4 => if idx < 0x4400 then objTop4a else objTop4b
  | 5 => objTop5
  | 6 => objTop6
  | 7 => objTop7
  | 8 => objTop8
  | 9 => objTop9
  | 10 => objTopA
  | 12 => objTopC
  | _ => []

/-- The highest sub-index of an index, none when the index is not defined (R4, R30). -/
def objTop (idx : Nat) : Option Nat :=
  ((objTopsOf idx).find? (fun r => r.1 ≤ idx && idx ≤ r.2.1)).map (fun r => r.2.2)

/-- The row of an object, none when the sub-index is not defined (R4); sub-index 0 is R30's. -/
def objDesc (idx sub : Nat) : Option ObjDesc :=
  if sub = 0 then (objTop idx).map (fun h => ⟨idx, idx, 0, 0, 2, 1, 1, .const, 0, .any, [], h⟩)
  else (objRowsOf idx).find? (fun d => d.idxLo ≤ idx && idx ≤ d.idxHi && d.subLo ≤ sub && sub ≤ d.subHi)

/-- The default of an object that has one in its row. -/
def objDflt (idx sub : Nat) : Nat := ((objDesc idx sub).map (·.dflt)).getD 0

/-- Where an object's value lives; an undefined object is nowhere. -/
def objClass (idx sub : Nat) : ObjClass := ((objDesc idx sub).map (·.cls)).getD .const

end Sys2Proof.Machine
end

