-- ==== Sys2Proof/Machine/State.lean ====
section
/-! DEFINITION. The state of the part as plain data: one structure for each group of units, and `State` over them.
Every piece of state that the manual names stands here; values of dictionary objects that are settings or counters
stand in `Store` (volatile) and in `Rec` (the device record). -/

namespace Sys2Proof.Machine

/-- The device states (R654). -/
inductive DevState where
  | boot | init | ready | run | degraded | standby | sync | handover | halt | maint
  deriving DecidableEq, Repr

/-- The stages of a reset (R637, R655, R701). -/
inductive BootPhase where
  /-- Held in reset by a pin or by PWRGD. -/
  | held
  /-- A reset asked for while flash or fuse work is finished (R701). -/
  | finishing
  /-- Step 1 onwards, in state BOOT. -/
  | booting
  /-- State INIT, controllers, memories and lanes brought up. -/
  | bringUp
  /-- The start is complete. -/
  | done
  deriving DecidableEq, Repr

/-! ### Dictionary (chapter 2) -/

/-- A request record on its way to service (chapter 2): `bad` names the offset of the first bad byte of a malformed
record (R39), `refuse` an abort its path gives it (R48, R59, R61). -/
structure Req where
  path : Path
  role : Nat
  requester : Nat
  label : Nat
  seq : Nat
  op : Nat
  tag : Nat
  idx : Nat
  sub : Nat
  val : List Byte
  bad : Option Nat
  refuse : Option Nat
  deriving DecidableEq, Repr

/-- The I3C target (R46 to R48, R704, R705). -/
structure I3c where
  dyn : Nat
  ibi : Bool
  mwl : Nat
  mrl : Nat
  queue : List Req
  resp : List (List Byte)
  off : Nat
  perr : Bool
  action : Nat
  deriving DecidableEq, Repr

/-- The mailbox (R49, R50). -/
structure Mbx where
  busy : Bool
  done : Bool
  ovr : Bool
  reqBuf : List Byte
  respBuf : List Byte
  req : Option Req
  deriving DecidableEq, Repr

/-- A handshake awaiting its PROOF (R54). -/
structure PopHs where
  sid : Nat
  role : Nat
  peerNonce : List Byte
  partNonce : List Byte
  src : Peer
  at_ : Tick
  deriving DecidableEq, Repr

/-- An open POP session (R51, R55 to R59): `held` keeps the datagrams sent for the last 16 requests, `acc` the responses that
have not been sent, each with the number of the REQUEST it answers. -/
structure PopSess where
  sid : Nat
  role : Nat
  key : List Byte
  label : Nat
  peer : Peer
  high : Nat
  seen : List Nat
  held : List (Nat × List (List Byte))
  queue : List Req
  acc : List (Nat × List Byte)
  txSeq : Nat
  last : Tick
  deriving DecidableEq, Repr

/-- The management port (R51 to R62): `mism` the check mismatches of the last second, by source address. -/
structure Pop where
  hs : List PopHs
  sess : List (Option PopSess)
  ignored : List (Nat × Tick)
  mism : List (Nat × Tick)
  rateSec : Nat
  rateCount : Nat
  deriving DecidableEq, Repr

/-- A slot of the stepped-operation journal (R64 to R71); handle 0 is a free slot. `final` is the instant of the final
state, `cancel` a cancel waiting for the next step boundary, `arg` the number the operation works on. -/
structure JSlot where
  handle : Nat
  state : Nat
  idx : Nat
  sub : Nat
  requester : Nat
  steps : Nat
  planned : Nat
  result : Nat
  started : Time80
  mark : List Byte
  final : Tick
  cancel : Bool
  arg : Nat
  deriving DecidableEq, Repr

/-- A write whose answer waits for flash (R38, R43, R75). -/
structure Deferred where
  req : Req
  idx : Nat
  sub : Nat
  oldVal : List Byte
  newVal : List Byte
  counted : Bool
  /-- The response's status and value, sent once the record is rewritten. -/
  answer : List Byte
  at_ : Time80
  deriving DecidableEq, Repr

/-- The service core's view of its paths (R42, R43, R64): `rot` the group whose turn it is (0 I3C, 1 mailbox, 2 POP,
3 stepped operations), `rotPop` and `rotStep` the member whose turn it is within its group. -/
structure Dict where
  i3c : I3c
  mbx : Mbx
  pop : Pop
  slots : List JSlot
  nextHandle : Nat
  rot : Nat
  rotPop : Nat
  rotStep : Nat
  deferred : List Deferred
  deriving DecidableEq, Repr

/-- The fuses (R72 to R76, R534, R535, R611): they outlive every reset. -/
structure Fuses where
  floor : Nat
  floorSpent : Nat
  key0 : Nat
  key0Spent : Nat
  key1 : Nat
  key1Spent : Nat
  unit : Nat
  unitSpent : Nat
  retakeSpent : Nat
  debugLock : Bool
  debugSpent : Nat
  factoryKey : Bool
  repairs : List (Nat × Nat)
  retirements : List Nat
  deriving DecidableEq, Repr

/-! ### Survey, margin plan, spares as the device record keeps them (chapter 14) -/

/-- The Survey's part of the record: per benchmark the baseline, the present reading, its level and its time. -/
structure SurveyRec where
  present : Bool
  baseTime : Time80
  taken : Nat
  base : NMap
  /-- The replicas' delays at 85 °C at the baseline (R507). -/
  delays : NMap
  /-- What the stage trims gave each path at the baseline, in tenths of a picosecond (R526). -/
  gains : NMap
  deriving DecidableEq, Repr

/-- The margin plan (R523 to R527, R538). -/
structure Margin where
  railFe : Nat
  railTm : Nat
  raises : Nat
  stageTrims : NMap
  sramAssist : NMap
  laneSteps : NMap
  hbmRead : NMap
  hbmWrite : NMap
  refresh : NMap
  deriving DecidableEq, Repr

/-- Spares spent and units withdrawn (R528 to R535): keys of `spent` are code × 65,536 + unit. -/
structure Spares where
  spent : NMap
  /-- Pipelines 0 to 31 retired (R121). -/
  pipeRetired : List Nat
  /-- Pipeline ↦ substituted stage + 1 (R121). -/
  pipeSubst : NMap
  /-- Fabric lanes retired (R391). -/
  laneRetired : List Nat
  /-- Banks moved into the reserve (R211). -/
  banksRelaid : List Nat
  /-- Withdrawn HBM pseudo-channels (R531). -/
  channels : List Nat
  /-- Bond wires on spares: direction × 65,536 + wire (R15). -/
  wires : List Nat
  /-- An entry beyond a full retirement fuse array has been made (R535). -/
  fuseOver : Bool
  deriving DecidableEq, Repr

/-- The body of the device record (R643): persistent objects, the change record (newest first, each entry of 64 bytes
as R77 lays down), survey baseline, margin plan, spare accounting. -/
structure Rec where
  objs : NMap
  changes : List (List Byte)
  lastEntry : Nat
  clearMark : Bool
  survey : SurveyRec
  margin : Margin
  spares : Spares
  deriving DecidableEq, Repr

/-- One copy of the record in flash (R643 to R645). -/
structure RecCopy where
  damaged : Bool
  gen : Nat
  written : Time80
  body : Rec
  deriving DecidableEq, Repr

/-- The device record (R643 to R650). -/
structure RecState where
  mem : Rec
  gen : Nat
  divergent : Bool
  copies : List RecCopy
  /-- The persistent writes answered while divergent, oldest first (R649): object key and value. -/
  divWrites : List (Nat × Nat)
  /-- A rewrite is owed (R644). -/
  dirty : Bool
  deriving DecidableEq, Repr

/-! ### Faults (chapter 15) -/

/-- An event record (R556); flags as in the byte of that record. -/
structure Event where
  num : Nat
  cls : Nat
  level : Nat
  first : Nat
  flags : Nat
  ctrIdx : Nat
  ctrSub : Nat
  die : Nat
  path : Nat
  devState : Nat
  raised : Time80
  ackBy : Nat
  detail : List Byte
  deriving DecidableEq, Repr

/-- A standing event (R544, R557): kept apart from the queue. -/
structure Standing where
  num : Nat
  cls : Nat
  level : Nat
  deadline : Tick
  object : Nat
  value : Nat
  /-- The object of an event of FC-14 is a line port, and no lane or unit (R552). -/
  port : Bool
  /-- The evidence or detail bytes of the event. -/
  detail : List Byte
  deriving DecidableEq, Repr

/-- A failed fault path (R541, R542). -/
structure FailedPath where
  path : Nat
  event : Nat
  recovered : Bool
  /-- The FC-06 event has been acknowledged. -/
  acked : Bool
  source : FaultSource
  deriving DecidableEq, Repr

/-- A containment that an event calls for (R552): class, object, detail value, event; `port` as in `Standing`. -/
structure Contain where
  cls : Nat
  object : Nat
  value : Nat
  event : Nat
  port : Bool
  deriving DecidableEq, Repr

/-- A subordinate controller (R18, R627, R703): loaded and checked, failed checks of the present load, missing signal
since, and whether its units are out of service until the next start. -/
structure Ctl where
  loaded : Bool
  fails : Nat
  out : Bool
  deriving DecidableEq, Repr

/-- The fault collector (chapter 15). -/
structure Faults where
  queue : List Event
  standing : List Standing
  newest : Nat
  paths : List FailedPath
  todo : List Contain
  /-- Containments of FC-03 that wait for a draining pipeline of their direction (R120, R519). -/
  waiting : List Contain
  /-- Fabric lanes held UNUSABLE by a containment of FC-08 (R552): event, lane as the event names it. -/
  laneHolds : List (Nat × Nat)
  haltTm : Bool
  haltFe : Bool
  fltUntil : Tick
  fltPulsed : Bool
  fltHeld : Bool
  hotFe : Nat
  hotTm : Nat
  hotHbm : Nat
  armed : NMap
  tripped : Bool
  selfRefresh : Bool
  /-- First-in-each-second marks (R61, R203, R375, R382, R601): kind ↦ TIME second + 1. -/
  marks : NMap
  /-- A bank is beyond repair with no reserve left (R212, R550). -/
  bankLost : Bool
  restarting : Bool
  ctls : List Ctl
  deriving DecidableEq, Repr

/-- The receiving side of the bond link on one die (R13 to R15, R548): the transmit permission and the epoch commit signal
as the last correctly received word had them. -/
structure Sideband where
  permit : Bool
  commit : Nat
  safe : Bool
  since : Tick
  /-- R548's level F4 event has been raised for this safe span. -/
  raised : Bool
  deriving DecidableEq, Repr

/-! ### Pipelines and frames (chapters 3 and 4) -/

/-- A frame in the part, without FCS. `src` the source port of its first pass, `dom` and `seq` its order domain and
number of the present pass, `stamp` the CORE cycle of its first dealing, `user` the user area, `rx` the receive
timestamp, `token` a requested transmit timestamp, `bad` a frame whose FCS is to be stomped (R298 to R300). -/
structure Frame where
  src : Nat
  dom : Nat
  seq : Nat
  data : List Byte
  rx : Time80
  tag : Nat
  stamp : Nat
  pass : Nat
  user : List Byte
  gated : Bool
  err : Bool
  bad : Bool
  tc : Nat
  dp : Nat
  port : Nat
  /-- The destination word a first pass starts with: 0 on ingress, the packet header's queue on egress. -/
  dest : Nat
  token : Option Nat
  inject : Option (List Byte)
  /-- The priority of R441. -/
  prio : Nat
  /-- The sequence number of an R-TAG received, or generated for the line MAC (R499 to R501). -/
  rtag : Option Nat
  /-- The TM packet it was dequeued from, and its bytes that have not yet arrived from the fabric (R295). -/
  pkt : Nat
  short : Nat
  /-- Of the bytes still to come, those after the declared end, which a deparser has removed (R134). -/
  cut : Nat := 0
  /-- The stored length L of the packet it was dequeued from (R352). -/
  stored : Nat
  /-- Its cells of the FE body store (R252, R270). -/
  cells : List Nat
  deriving DecidableEq, Repr

/-- What a lookup port delivered. -/
structure LkRes where
  hit : Bool
  fields : List (LkField × Nat)
  deriving DecidableEq, Repr

/-- A packet context (R89 to R95): the header vector now and as the present bundle found it, temporaries, conditions,
lookup results, the header instances followed with their bytes, and the rest of the frame. -/
structure Ctx where
  id : Nat
  dir : Dir
  pipe : Nat
  frame : Frame
  hv : List Byte
  pre : List Byte
  temps : List Nat
  preTemps : List Nat
  conds : List Bool
  preConds : List Bool
  lks : List LkRes
  /-- Stages matched so far; the present stage is one below it. -/
  stage : Nat
  bundle : Option Nat
  started : Bool
  branch : Option Nat
  ended : Bool
  insts : List (Nat × List Byte)
  body : List Byte
  csum : List Nat
  /-- Malformed or punted by the parser: no lookups and no actions (R133, R138). -/
  skip : Bool
  /-- A lookup of the pass has read a poisoned line: the frame is dropped whatever its program does (R206). -/
  poisoned : Bool
  /-- The stage that set the punt request, and the one that set the copy request (R112). -/
  origin : Nat
  copyOrigin : Nat
  detail : Nat
  ownReason : Bool
  /-- An unresolved port has been met in this pass (R132). -/
  unres : Bool
  /-- Central-store reads issued in this pass (R81). -/
  reads : Nat
  /-- The bundles of the section at work (R94). -/
  bundles : Nat
  /-- A SELECT whose member is read in the next stage (R179): destination, group, hash. -/
  sel : Option (Dest × Nat × Nat)
  /-- Bytes of trailer that the deparser removes (R134). -/
  trailer : Nat
  deriving DecidableEq, Repr

/-- How a number of an order domain is settled (R101). -/
inductive Settle where
  | waiting
  | forward (f : Frame) (kind dest mirror : Nat)
  | recirc (f : Frame)
  | punt (f : Frame) (bytes : List Byte) (cls : Nat)
  | gone
  | lost
  deriving DecidableEq, Repr

/-- A number of an order domain that has not been released (R101 to R105); `at_` the instant of completion. -/
structure RoEntry where
  dom : Nat
  seq : Nat
  res : Settle
  at_ : Tick
  deriving DecidableEq, Repr

/-- A learn notification (R186). -/
structure Learn where
  tbl : Nat
  key : Nat
  result : Nat
  deriving DecidableEq, Repr

/-- A frame on its way over the bond link to the TM die: kind 1 queue, 2 multicast group, 3 mirror copy of an ingress
frame, 9 of an egress frame, 8 a punt or a copy to the processor; 4 to 7 as the program gave them (log entry 125); `dest`
the queue, group, session or punt class; a punt's frame carries its bytes in `data`. `pid` is the packet that has been admitted with its
first cells only, `data` then the bytes still to come of it (R294). -/
structure ToTm where
  frame : Frame
  kind : Nat
  dest : Nat
  mirror : Nat
  pid : Option Nat
  deriving DecidableEq, Repr

/-- A punt on the TM die, with its cells of the ingress partition (R157, R258). -/
structure Punt where
  cls : Nat
  bytes : List Byte
  cells : List Nat
  deriving DecidableEq, Repr

/-- Spreaders, pipelines, reorder unit (chapter 3). -/
structure Flow where
  /-- Per pipeline 0 to 31: DRAINING or SUBSTITUTING code, 0 when neither (R120). -/
  pipeBusy : NMap
  /-- The stage being substituted, by pipeline, plus one. -/
  pipeStage : NMap
  /-- The frames dealt to a pipeline in the CORE cycle of its last deal: pipeline ↦ cycle × 4 + frames (R83). -/
  slots : NMap
  ctxs : List Ctx
  nextCtx : Nat
  rotI : Nat
  rotE : Nat
  rotIn : Nat
  mix : Nat
  lineIn : List (Nat × Frame)
  /-- Ingress-mode inject frames on the TM die, each with its cells of the egress partition (R116, R258). -/
  injectIn : List (Frame × List Nat)
  recircI : List Frame
  recircE : List Frame
  egressIn : List Frame
  nextSeq : NMap
  ro : List RoEntry
  learnI : List Learn
  learnE : List Learn
  /-- The first CORE cycle in which the learning engine of a direction (0 ingress, 1 egress) takes its next notification
  (R186). -/
  learnAt : NMap
  toTm : List ToTm
  /-- Punts waiting for their DMA ring (R157). -/
  punts : List Punt
  /-- Frames handed to a line MAC, by port. -/
  toLine : List (Nat × Frame)
  puntTok : NMap
  puntAt : NMap
  aggTok : Nat
  aggAt : Tick
  deriving DecidableEq, Repr

/-! ### Tables (chapter 5) -/

/-- One version of an entry of a versioned table: the commit that wrote it and its bits (R159, R205). -/
structure Ver where
  table : Nat
  key : Nat
  commit : Nat
  data : Nat
  deriving DecidableEq, Repr

/-- The protection state of a line (R206 to R210): `rewritten` the entries of a poisoned line that transactions have
written anew (R208). -/
structure LineState where
  table : Nat
  line : Nat
  poisoned : Bool
  backingBad : Bool
  rewritten : List Nat
  deriving DecidableEq, Repr

/-- A lock of R197 with the credits collected for a counter block (R202). -/
structure Lock where
  target : LockTarget
  holder : Holder
  since : Tick
  packets : NMap
  bytes : NMap
  deriving DecidableEq, Repr

/-- A copy of a rule in a classification bucket (R152, R153, R707): its body stands there, and its valid bit. -/
structure RulePlace where
  table : Nat
  slot : Nat
  bucket : Nat
  valid : Bool
  deriving DecidableEq, Repr

/-- Tables, learned buckets, counters, locks (chapter 5). -/
structure Tables where
  /-- The versions of entries on the die, newest first; `commit` is the epoch stamp (R205, R218). -/
  vers : List Ver
  /-- The backing copies in HBM: the newest committed version of each entry, with its epoch stamp (R205). -/
  back : List Ver
  /-- Where the rules of the classification tables stand (R707). -/
  places : List RulePlace
  lines : List LineState
  learned : NMap
  /-- Learned entries, as bucket × 8 + slot, that the sweep removed, with the CORE cycle of the removal (R194). -/
  swept : List (Nat × Nat)
  tickCount : NMap
  tickAt : NMap
  tickPeriod : NMap
  lfsrBase : Tick
  packets : NMap
  bytes : NMap
  locks : List Lock
  /-- Banks beyond repair, and the next line of a bank being re-laid (R211). -/
  relaying : List (Nat × Nat)
  deriving DecidableEq, Repr


/-! ### Transactions (chapter 6) -/

/-- A transaction record of the journal (R246). -/
structure JRec where
  tag : Nat
  state : Nat
  cause : Nat
  slot : Nat
  flags : Nat
  requester : Nat
  records : Nat
  shadow : Nat
  result : Nat
  commit : Nat
  ktime : Time80
  ctime : Time80
  deriving DecidableEq, Repr

/-- A version laid by an uncommitted transaction (R227, R228). -/
structure PWrite where
  table : Nat
  key : Nat
  data : Nat
  deriving DecidableEq, Repr

/-- A graticule record laid (R345): port, part, first entry, payload. -/
structure PGrat where
  port : Nat
  part : Nat
  first : Nat
  payload : List Byte
  deriving DecidableEq, Repr

/-- What an OPEN or STAGED transaction holds: its pending versions, the leaf buckets touched, the pieces of program
objects, graticule records, the instant of its last record, its place in keystone order and the keystone's instant, and
its accepted records as the mirror sends them (R487). -/
structure TxWork where
  tag : Nat
  writes : List PWrite
  leaves : List (Nat × Nat)
  progI : Option (List Byte)
  progE : Option (List Byte)
  grats : List PGrat
  last : Tick
  kseq : Nat
  kat : Tick
  recs : List (List Byte)
  deriving DecidableEq, Repr

/-- A record held off for shadow slots (R229): the request it came in and the record's bytes. -/
structure WaitRec where
  req : Option Req
  requester : Nat
  bytes : List Byte
  deriving DecidableEq, Repr

/-- A committed program object (R96, R98): direction 0 or 1. -/
structure Prog where
  dir : Nat
  commit : Nat
  data : List Byte
  deriving DecidableEq, Repr

/-- Transactions and epochs (chapter 6). `freed` lists the shadow slots held by committed transactions with their commit
numbers (R237). -/
structure Tx where
  commit : Nat
  journal : List JRec
  work : List TxWork
  waits : List WaitRec
  kseq : Nat
  digest : NMap
  lastCommit : Option Tick
  paceTok : Nat
  paceAt : Tick
  held : List (Nat × Nat)
  progs : List Prog
  longest : Nat
  deriving DecidableEq, Repr


/-! ### Buffer pools and queues (chapters 7 and 8) -/

/-- The descriptor of an allocated cell (R255); `pool` 0 is the on-die pool, 2 the FE body store, as 0x5002:01 has it. -/
structure Cell where
  pool : Nat
  num : Nat
  owner : Nat
  count : Nat
  last : Bool
  bad : Bool
  next : Nat
  deriving DecidableEq, Repr

/-- The descriptor of an allocated HBM block (R257). -/
structure Block where
  num : Nat
  owner : Nat
  cells : Nat
  lastMap : Nat
  badMap : Nat
  next : Nat
  qid : Nat
  deriving DecidableEq, Repr

/-- Where a cell's worth of a packet lies: a cell, or a cell of a block (R275). -/
inductive Place where
  | die (n : Nat)
  | block (b i : Nat)
  deriving DecidableEq, Repr

/-- The charge of a packet to its port and priority, which lasts while its last cell is held (R264, R289, R291). -/
structure Charge where
  last : Nat
  port : Nat
  prio : Nat
  cells : Nat
  headroom : Bool
  deriving DecidableEq, Repr

/-- The pools of R252: allocated cells and blocks, units withdrawn until the next reset (R266, R552), the level of each
pool (R282), charges, and the ports and priorities in XOFF with the instant of the last pause (R289, R290). -/
structure Buf where
  cells : List Cell
  blocks : List Block
  withdrawn : List (Nat × Nat)
  levels : List Nat
  charges : List Charge
  xoff : List (Nat × Nat × Tick)
  /-- Port ↦ the TMC cycle of its last PFC frame, plus one (R290). -/
  pfcAt : NMap
  /-- The allocators, by pool: units granted, counted on from the cycle's number times what a cycle grants (R267). -/
  granted : List Nat
  /-- The HBM packet bandwidth (R26, R279): the instant, in units of a tick / 15,880, up to which eviction and prefetch
  together have used it, and up to which prefetch alone has. -/
  hbmAll : Nat
  hbmRead : Nat
  /-- The packets of eviction runs that wait to go on (R269, R275, R279). -/
  evicting : List Nat
  deriving DecidableEq, Repr

/-- A packet on the TM die (R256): `got` bytes of its stored length `len` have arrived, `gen` is the number of a
generating stream (R499), `copy` a multicast or mirror copy. -/
structure Pkt where
  id : Nat
  qid : Nat
  data : List Byte
  len : Nat
  bad : Bool
  copy : Bool
  inject : Option (List Byte)
  stamp : Bool
  tc : Nat
  dp : Nat
  arrival : Nat
  unit : Nat
  src : Nat
  mirror : Nat
  rx : Time80
  charge : Option (Nat × Nat)
  token : Nat
  gen : Option Nat
  owner : Nat
  places : List Place
  deriving DecidableEq, Repr

/-- A queue (R302 to R304, R325 to R330): its packets oldest first, its local list, credit balance and request on the
ingress side, outstanding count and requesting sources (unit, its queue) on the egress side, shaper tokens in units of a
byte / 216,000,000. -/
structure Que where
  qid : Nat
  pkts : List Pkt
  locals : List Pkt
  bal : Int
  on : Bool
  onAt : Tick
  out : Nat
  outAt : Tick
  srcs : List (Nat × Nat)
  lastSrc : Nat
  deriving DecidableEq, Repr

/-- What the scheduler keeps of a node (R318, R323); `key` is level × 2^20 + number, `turns` per priority the child in
turn and whether its turn begins. -/
structure Node where
  key : Nat
  tok : Int
  tokAt : Tick
  deficit : Nat
  turns : List (Nat × Nat × Bool)
  deriving DecidableEq, Repr

/-- Queues, the scheduling tree, ports, samplers (chapter 8). -/
structure Sched where
  /-- Node records that differ from the default map: key ↦ record (R311). -/
  recs : NMap
  /-- The unit number with which the default map was last applied (R305). -/
  mapUnit : Nat
  ques : List Que
  nodes : List Node
  /-- Port node ↦ 0 UP, 1 HELD, 2 FLUSHED (R334), and the instant at which its hold ends. -/
  portSt : NMap
  portHold : NMap
  /-- Port node ↦ the earliest instant of its next dequeue (R320), and the TMC cycle of its last, plus one (R321). -/
  portNext : NMap
  portAt : NMap
  cycle : Nat
  cycleCount : Nat
  coreAt : Nat
  coreCount : Nat
  grantAt : Nat
  grantCount : Nat
  /-- The queue granted last, plus one (R329); the grants of the cycle `grantAt`: queue, source, its queue, cells, the
  source granted before (R335). -/
  grantRot : Nat
  granted : List (Nat × Nat × Nat × Nat × Nat)
  /-- The round robin of R326, by class: the queue served last, plus one. -/
  rrAt : NMap
  /-- The sample rings (R336): sampler × 2^23 + position ↦ record. -/
  samples : NMap
  /-- Sampler ↦ the TIME, in ns, of its last round, plus one. -/
  sampAt : NMap
  nextPkt : Nat
  deriving DecidableEq, Repr



/-! ### Graticules (chapter 9) -/

/-- A graticule in force (R342 to R347): gated classes, entries (open mask, duration in ns), length allowance, base time,
and the commit that carried it. -/
structure Grat where
  gated : Nat
  entries : List (Nat × Nat)
  allow : Nat
  base : Time80
  commit : Nat
  deriving DecidableEq, Repr

/-- A committed change that has not reached its X (R355). -/
structure GratChange where
  port : Nat
  x : Nat
  enable : Bool
  grat : Grat
  deriving DecidableEq, Repr

/-- The graticules of the line ports (chapter 9); `x` counts ns of TIME; `holds` the head packets that have been
counted as a guard hold (R353). -/
structure Gates where
  inForce : List (Nat × Grat)
  pending : List GratChange
  holds : List Nat
  deriving DecidableEq, Repr


/-! ### Fabric (chapter 10) -/

/-- A packet in a transmit stream: the octets of header and content not yet cut into cells, its stream number of R499
carried beside it, and the octets of its QID and source port for R388. -/
structure TxPkt where
  pid : Nat
  qid : Nat
  bytes : List Byte
  started : Bool
  bad : Bool
  gen : Option Nat
  src : Nat
  /-- The lane that a packet for a pinned unit has begun on (R388), and the packet whose cells are held until its last
  cell is cut. -/
  lane : Option Nat
  held : Option Pkt
  /-- Bytes that have not yet arrived over the bond link (R294). -/
  short : Nat
  deriving DecidableEq, Repr

/-- A transmit stream (R368, R369): destination unit, class 0 to 7 or 8 for control, next number, the instant of its
last cell, packets of a data stream, messages of the control stream. -/
structure TxStream where
  dest : Nat
  cls : Nat
  seq : Nat
  last : Option Tick
  pkts : List TxPkt
  msgs : List (List Byte)
  deriving DecidableEq, Repr

/-- A cell of a stream (R361): the 264 octets that are sent, the arrival word that its receiver has written (R363), and
the stream numbers of the packets whose headers stand at the offsets named. -/
structure FCell where
  bytes : List Byte
  arrival : Nat
  gens : List (Nat × Nat)
  deriving DecidableEq, Repr

/-- A cell held by the resequencer (R381 to R383), with its cell of the egress partition. -/
structure HeldCell where
  seq : Nat
  at_ : Tick
  cell : FCell
  place : Option Nat
  deriving DecidableEq, Repr

/-- A packet in reassembly (R384, R385): its header and bytes so far; `placed` when it stands in its queue already
(R295), `refused` when admission or the claim filter refused it and its bytes are only counted off, `counted` when its
cells lower its queue's outstanding count (R330). -/
structure Asm where
  pkt : Pkt
  placed : Bool
  refused : Bool
  counted : Bool
  deriving DecidableEq, Repr

/-- A receive stream (R381 to R385); `lost` says that a lost cell came before the next one. -/
structure RxStream where
  src : Nat
  cls : Nat
  active : Bool
  r : Nat
  held : List HeldCell
  last : Tick
  asm : Option Asm
  lost : Bool
  deriving DecidableEq, Repr

/-- A packet in reassembly outside the resequencer: from a pinned unit by priority and lane (R389), or on a pairing lane,
whose unit reads 512 (R496). -/
structure PinAsm where
  src : Nat
  prio : Nat
  lane : Nat
  asm : Option Asm
  /-- What comes next follows lost octets (R384); the sequence that the next cell of a pairing lane carries (R496). -/
  lost : Bool
  next : Option Nat
  deriving DecidableEq, Repr

/-- The fabric interface (chapter 10). -/
structure Fabric where
  txs : List TxStream
  rxs : List RxStream
  pins : List PinAsm
  /-- Cells on the loop path (R376), the TMC cycle in which it last took one, and the cells it took in it. -/
  loop : List FCell
  loopAt : Nat
  loopCount : Nat
  /-- Destination unit ↦ lane on which it was last dealt a cell, plus one (R373). -/
  lastLane : NMap
  /-- Unit ↦ highest claim kept, and the cells from which it is kept: unit, claim, instant (R387, R484). -/
  claims : List (Nat × Nat × Tick)
  /-- Pinned unit ↦ the end of its hold (R390), and the lanes usable for it when last looked at. -/
  pinHold : NMap
  pinLanes : NMap
  /-- Units for which FC-08 has been raised for want of a lane (R375). -/
  cut : List Nat
  /-- Since when the usable lanes have been below the lanes needed, plus one (R394). -/
  shortAt : Tick
  /-- The shortfall of usable lanes, and that of lanes not retired, has been raised. -/
  shortRaised : Bool
  floorRaised : Bool
  deriving DecidableEq, Repr



/-! ### Link framing (chapter 11) -/

/-- A lane of the fabric (0 to 159) or of the pair (160, 161): transmit frame, framer, defects, trace, slip buffer,
performance, and for a fabric lane its reachability and retirement (R371, R391 to R393). -/
structure FLane where
  num : Nat
  /-- Cells dealt to the present link frame (R373). -/
  slots : List FCell
  frameNo : Nat
  /-- The overhead channel bytes of the present multiframe (R424). -/
  oh0 : Nat
  oh1 : Nat
  /-- The frame number expected of the next received frame. -/
  rxNo : Nat
  /-- Received bits not yet taken, the distance from them of the FAW next expected, framer state (R406). -/
  buf : List Bool
  off : Nat
  st : Nat
  found : Nat
  checked : Bool
  fawBad : Bool
  fawRun : Nat
  /-- Since when the framer has been, or not been, in IN FRAME. -/
  stAt : Tick
  detect : Bool
  los : Bool
  lof : Bool
  ais : Bool
  rdi : Bool
  aisRun : Nat
  rdiRun : Nat
  /-- Trace bytes of the present multiframe, the whole message of the one before, the accepted message (R419). -/
  mfTrace : List Byte
  lastTrace : List Byte
  trace : List Byte
  /-- The slip buffer: frames oldest first, each with its 8 slots (R408). -/
  slip : List (List (Option (List Byte)))
  /-- Cells delivered to cell extraction. -/
  extracted : List (List Byte)
  /-- The frames received in a row since frame number 0 of the present multiframe; failed slot checks of the present and of
  the last complete multiframe (R416). -/
  mfSeen : Nat
  fails : Nat
  failsLast : Nat
  /-- Errored frames, forced slips of the present second; forced slips raised (R410, R420). -/
  errs : Nat
  forced : Nat
  forcedRaised : Bool
  /-- The lane was in test mode within the present second (R427). -/
  tested : Bool
  /-- Seconds not yet posted: end, 0 clean, 1 ES, 2 SES, 3 UAS, 4 not counted (R423). -/
  secs : List (Tick × Nat)
  sesRun : Nat
  okRun : Nat
  unavail : Bool
  reach : Nat
  reachAt : Option Tick
  retiring : Bool
  /-- The lane is UNUSABLE by a defect, since it has not been usable yet, and the end of its return hold (R393). -/
  bad : Bool
  holdEnd : Tick
  /-- It was USABLE when last looked at (R393). -/
  up : Bool
  /-- The instants at which it became UNUSABLE within the last hour (R391). -/
  events : List Tick
  deriving DecidableEq, Repr



/-! ### Line ports and SerDes lanes (chapter 12) -/

/-- A line port (R435 to R437, R442 to R444). -/
structure Port where
  num : Nat
  /-- 0 down, 1 up, 2 negotiating or training, 3 flap hold (0x3000 + p:04). -/
  link : Nat
  /-- Remote fault is being received (R436). -/
  remote : Bool
  /-- The conditions of R435 hold, as far as the commands tell, and since when they have held or have failed. -/
  good : Bool
  okAt : Tick
  failAt : Tick
  /-- The down transitions of the last 10 s, and the end of the flap hold (R437). -/
  downs : List Tick
  flapEnd : Tick
  /-- Paused priorities: priority, since, until (R442, R444). -/
  paused : List (Nat × Tick × Tick)
  /-- Priorities in storm recovery, and its end (R444). -/
  storm : List (Nat × Tick)
  /-- The conditions of R435 that the lanes show hold; no loss of alignment has been reported since the port was last up or
  brought up (R435, R436). -/
  laneOk : Bool
  aligned : Bool
  deriving DecidableEq, Repr

/-- A SerDes lane, by its code of R461: locked, adapting, the instants at which its directions wake or went to sleep. -/
structure Serdes where
  code : Nat
  locked : Bool
  adapting : Bool
  txWake : Tick
  rxWake : Tick
  rxSleepAt : Tick
  /-- The wake in progress: transmitter, receiver. -/
  txWaking : Bool
  rxWaking : Bool
  checkLock : Bool
  /-- Link training has agreed the precoder for the direction (R462): transmitter, receiver. -/
  preTx : Bool
  preRx : Bool
  /-- The registers of the pattern generator and, once it follows the pattern received, of the checker (R427, R464). -/
  gen : Nat
  check : Option Nat
  deriving DecidableEq, Repr

/-- The line side (chapter 12); `stamps` the transmit timestamp records that wait for their ring (R458). -/
structure Lines where
  ports : List Port
  serdes : List Serdes
  stamps : List (List Byte)
  /-- The transmit permission that the line MACs last saw (R448). -/
  perm : Bool
  deriving DecidableEq, Repr



/-! ### Unit redundancy and streams (chapter 13) -/

/-- The pair states (R472, 0x6800:06). -/
inductive PairSt where
  | unpaired | isolated | sync | standby | active
  deriving DecidableEq, Repr

/-- The redundancy pair (R470 to R497); `partnerSt` reads unpaired while the partner is lost. -/
structure Pair where
  st : PairSt
  partnerSt : PairSt
  request : Bool
  requestAt : Tick
  rank : Nat
  released : Bool
  incomplete : Bool
  lostFlag : Bool
  /-- The partner's latest valid claim cell: claim, flags, commit number, sequence, instant. -/
  pClaim : Nat
  pFlags : Nat
  pCommit : Nat
  pSeq : Option Nat
  pAt : Tick
  /-- Since when the partner has been lost, or pairing enabled without a claim. -/
  lostAt : Tick
  /-- Valid partner claims of the last 6 ms (R482): instant, claim. -/
  recent : List (Tick × Nat)
  /-- Since when every valid partner claim has been of rank 1, plus one (R483). -/
  rankOne : Tick
  /-- Own claim sequence, the claim cell last sent, and the CORE cycle multiple of its tick (R472, R473). -/
  seq : Nat
  lastCell : List Byte
  lastTick : Nat
  /-- Claim cells due on a pairing lane: lane, cell. -/
  claimOut : List (Nat × List Byte)
  /-- Claim cells and transfer cells received in frames (R475): lane, cell. -/
  claimIn : List (Nat × List Byte)
  itemIn : List (Nat × List Byte)
  /-- Transfer items sent and not acknowledged, oldest first: sequence, payload (R491, R492). -/
  items : List (Nat × List Byte)
  /-- Payloads of transfer cells waiting for a slot, and data cells cut that found none: lane, cell (R493). -/
  itemOut : List (List Byte)
  cellOut : List (Nat × List Byte)
  itemSeq : Nat
  ackAt : Tick
  acked : Nat
  /-- The last item received without a gap. -/
  got : Nat
  /-- Mirrored transactions whose marker has not arrived (R487, R490), and the commit number of a sync end (R495). -/
  mirrored : List Nat
  syncEnd : Option Nat
  /-- The progress mark of the last item of a resynchronisation, and that an item has come since its last step (R70,
  R494). -/
  syncMark : List Byte
  syncMoved : Bool
  /-- The handle of the resynchronisation that the stay in SYNC has started (R494). -/
  syncOp : Option Nat
  /-- Packets for the pairing lanes (R496). -/
  data : List (Nat × List TxPkt)
  deriving DecidableEq, Repr

/-- The sequence state of an 802.1CB stream (R499, R502, R503). -/
structure StreamSt where
  num : Nat
  next : Nat
  rcv : Nat
  history : Nat
  takeAny : Bool
  last : Tick
  deriving DecidableEq, Repr



/-! ### The Survey's working state (chapter 14) -/

/-- The AVSBus side of one rail (R523, R524): read-backs that failed in a row, the instant of the last, whether the rail
is treated as standing at its ceiling until the next start, and the instant of its last raise. -/
structure Avs where
  tries : Nat
  at_ : Tick
  stuck : Bool
  raised : Option Tick
  deriving DecidableEq, Repr

/-- An error that a memory row or column, or a bond wire, has produced (R529): spare code, row, instant, uncorrectable. -/
structure Find where
  code : Nat
  row : Nat
  at_ : Tick
  hard : Bool
  deriving DecidableEq, Repr

/-- The Survey (R507 to R522): present readings (32-bit two's complement, tenths), their times, levels above 0, the
readings of a baseline pass in progress, the next benchmark of a pass, the day whose pass has been dealt with and the
instant since which a pass waits, the benchmarks whose last resort has been given, rails of the FE and TM die. -/
structure Survey where
  readings : NMap
  readAt : NMap
  levels : NMap
  sweep : NMap
  /-- The replicas' delays of a baseline pass in progress (R507, R512). -/
  sweepDelays : NMap
  /-- The replicas' delays at 85 °C as last read (R507). -/
  delays : NMap
  /-- The TIME day, plus one, whose pass time has been reached and dealt with (R510). -/
  day : Nat
  /-- A pass whose time has come has yet to start (R510). -/
  pend : Bool
  waitFrom : Option Tick
  /-- Benchmarks, and the last reason for which nothing more can be done: benchmark ↦ level at which it was said. -/
  given : NMap
  avsFe : Avs
  avsTm : Avs
  /-- Retirements deferred under R520 that await: benchmark identifiers, or 2^32 + code × 2^24 + unit. -/
  waiting : List Nat
  /-- Errors found in rows and columns, and in bond wires, newest first (R529). -/
  finds : List Find
  /-- Repairs that are due and wait for their die (R519, R529): spare code, row. -/
  repairs : List (Nat × Nat)
  /-- Pipelines whose retirement waits for another of their direction to end its drain (R120, R519). -/
  retires : List Nat
  deriving DecidableEq, Repr



/-! ### PCIe, DMA engines, performance counters (chapter 16) -/

/-- A DMA channel (R570 to R573); `starved` when a fetched descriptor was not owned and no TAIL write has come since. -/
structure Chan where
  base : Nat
  cfg : Nat
  tail : Nat
  head : Nat
  en : Bool
  stopped : Bool
  stopErr : Nat
  stopIdx : Nat
  done : Nat
  starved : Bool
  deriving DecidableEq, Repr

/-- The words of a descriptor in host memory (R576); the result word is the part's to write. -/
structure Desc where
  control : Nat
  length : Nat
  addr : Nat
  arg : Nat
  status : Nat
  deriving DecidableEq, Repr

/-- A descriptor in service (R574, R578 to R587): its channel and index, the words fetched, bytes moved, error code,
flags, whether its data part is over, whether its first data access has been issued, the lock it waits for or holds, and
the instant of its first timestamp record, the cells of a punt, and what TRANSFER_WITHDRAWN looks at: the queue of an
inject, the records written by the sampler when a read of samples began. -/
structure Xfer where
  ch : Nat
  idx : Nat
  desc : Desc
  moved : Nat
  err : Nat
  trunc : Bool
  wdrn : Bool
  ended : Bool
  begun : Bool
  lockFrom : Option Tick
  lockTry : Tick
  firstAt : Option Tick
  cells : List Nat
  mark : Nat
  deriving DecidableEq, Repr

/-- A DMA engine: the descriptor in service and the channel served last. -/
structure Engine where
  xfer : Option Xfer
  last : Nat
  deriving DecidableEq, Repr

/-- The PCIe endpoint, the DMA engines and the performance counters (R565 to R603): `perf` counter b × 8 + n ↦ value and
overflow flag in bit 63, `perfAt` the instant to which it has been counted; `snap` the number of the last snapshot,
`snapAt` the instant in ns of TIME last dealt with, plus one, `snapEnd` the end of the write of the last snapshot. -/
structure Pcie where
  /-- The link is up and software has enabled memory space (R642). -/
  memory : Bool
  chans : List Chan
  engines : List Engine
  perf : NMap
  perfAt : Tick
  snap : Nat
  snapAt : Nat
  snapEnd : Tick
  /-- The three BARs' base addresses (R566). -/
  bars : List Nat
  /-- What the sources of the enabled counters' events had come to when they were last counted (R595): block × 64 + event. -/
  perfMarks : NMap
  deriving DecidableEq, Repr

/-- The MSI-X structures (R565, R567): enable and function mask of the capability, the words of the table that differ from
their reset values, the pending bits. -/
structure Msi where
  on : Bool
  mask : Bool
  table : NMap
  pending : List Nat
  deriving DecidableEq, Repr



/-! ### Image banks and the update session (chapter 17) -/

/-- What a bank holds: nothing, the image it left the factory with, or a cartouche and the payload bytes received. -/
inductive Image where
  | none
  | factory
  | bytes (cart payload : List Byte)
  deriving DecidableEq, Repr

/-- An image bank and its status (R604, R605). -/
structure Bank where
  st : Nat
  img : Image
  deriving DecidableEq, Repr

/-- The update session (R615 to R629): state, cause, holder, bank, bytes received, payload length, result, times, digest,
version; the holder's last request, the end of the trial, and the bank that was ACTIVE when a trial began. -/
structure Session where
  st : Nat
  cause : Nat
  holder : Nat
  bank : Nat
  recv : Nat
  len : Nat
  result : Nat
  opened : Time80
  act : Time80
  digest : List Byte
  version : Nat
  lastReq : Tick
  trialEnd : Tick
  former : Nat
  /-- The activation in progress is a reversion by R626's command or after a failed trial. -/
  reverting : Bool
  deriving DecidableEq, Repr

/-- A copy of the bank status in flash (R604, R605): damaged or whole, its generation, the state of each bank. -/
structure BankCopy where
  damaged : Bool
  gen : Nat
  states : List Nat
  deriving DecidableEq, Repr

/-- The flash but for the device record (R604): banks, the generation of the bank status, the bank loaded, whether a
loadable bank was found at the last start. -/
structure Update where
  banks : List Bank
  gen : Nat
  /-- The two copies of the bank status, and those that stood before the rewrite of this instant (R605). -/
  copies : List BankCopy
  prior : Option (Tick × List BankCopy)
  loaded : Nat
  loadable : Bool
  sess : Session
  deriving DecidableEq, Repr



/-! ### The machine -/

/-- The clock and TIME (R7, R449 to R451): `now` in ticks since power-up, `sub` in units of `Config.timeFine` to the ns,
`phase` the adjustment still to be applied, in the same units. -/
structure Clock where
  now : Tick
  sec : Nat
  sub : Nat
  phase : Int
  /-- A step to be loaded at the next second (R451), and the second in which it was written. -/
  step : Option (Time80 × Nat)
  capture : Time80
  edges : Nat
  /-- PPS_OUT is high until this instant (R452). -/
  ppsUntil : Tick
  ppsHigh : Bool
  deriving DecidableEq, Repr

/-- The device state and the reset logic (R634 to R660, R701, R705). -/
structure Dev where
  st : DevState
  phase : BootPhase
  cause : Nat
  entered : Time80
  duration : Nat
  /-- The instant at which the reset pin last rose (R641). -/
  rise : Tick
  rstN : Bool
  wrstN : Bool
  pwrgd : Bool
  /-- A commanded reset waiting for its begin (R639): 5 warm, 6 cold, and the instant it begins. -/
  cmd : Option (Nat × Tick)
  /-- The reset being carried out is a warm one. -/
  warm : Bool
  /-- The CORE cycle counter's origin. -/
  coreBase : Tick
  bootsel : Nat
  /-- ALIVE_F may toggle: the FE housekeeping controller has passed its check (R560). -/
  feAlive : Bool
  /-- Work owed before a reset takes effect (R701). -/
  finishing : Bool
  /-- The clock of a die has stopped (R560). -/
  tmStopped : Bool
  feStopped : Bool
  /-- The counted write whose fuses may still be burning though the writes that waited have been set aside (R72, R701). -/
  burn : Option Deferred
  /-- The instruction of the test access port; `none` stands for one outside the list of R669. -/
  tap : TapInstr
  deriving DecidableEq, Repr

/-- What the part puts on its pins, wires and host memory, newest first in `State.outbox`. -/
inductive Output where
  /-- An MSI-X message (R569). -/
  | msix (vector : Nat)
  /-- An I3C in-band interrupt with its mandatory data byte (R47, R562). -/
  | ibi (data : Nat)
  /-- The octets of an I3C read or CCC answer; empty is a NACK. -/
  | i3c (data : List Byte)
  /-- An I3C NACK (R46, R47). -/
  | nack
  /-- A datagram or reply on the management port (R51, R58). -/
  | datagram (dst : Peer) (data : List Byte)
  /-- A neighbour protocol reply. -/
  | neighbour (kind : NeighbourMsg) (dst : Peer)
  /-- A frame on a line port, without FCS; `stomp` when its FCS is inverted (R299). -/
  | line (port : Nat) (data : List Byte) (stomp : Bool)
  /-- A PFC frame: priorities with their pause times (R289, R290). -/
  | pfc (port : Nat) (times : List (Nat × Nat))
  /-- A cell given to a fabric lane. -/
  | cell (lane : Nat) (data : List Byte)
  /-- What a lane of R397 sends: the PAM4 levels of its bits, 0 the lowest (R462). -/
  | linkFrame (lane : Nat) (levels : List (Fin 4))
  /-- A write into host memory by an engine or the gatherer; `relaxed` when it carries the relaxed ordering attribute (R584). -/
  | host (addr : Nat) (data : List Byte) (relaxed : Bool)
  /-- A read of host memory by an engine (R581). -/
  | hostRead (addr len : Nat)
  /-- The zero-length read of a fence (R583). -/
  | hostFence (addr : Nat)
  /-- The data of a completed register, window or host read. -/
  | readData (value : Nat) (bytes : Nat)
  /-- An unsupported request or a retry status on PCIe (R642). -/
  | pcieStatus (code : Nat)
  /-- Overhead octets at the OHC pins (R424, R425). -/
  | ohc (pin : Nat) (data : List Bool)
  /-- A voltage requested over AVSBus: rail 0 VDD_FE or 1 VDD_TM, millivolts (R523, R525). -/
  | avs (rail millivolts : Nat)
  /-- A pulse or edge on a pin named by number. -/
  | pin (n : Nat) (high : Bool)
  deriving DecidableEq, Repr

/-- The state of the part. -/
structure State where
  clock : Clock
  dev : Dev
  /-- Volatile object values that differ from their defaults: key of `objKey` ↦ value. -/
  objs : NMap
  dict : Dict
  fuses : Fuses
  record : RecState
  faults : Faults
  sbFe : Sideband
  sbTm : Sideband
  flow : Flow
  tables : Tables
  tx : Tx
  gates : Gates
  pair : Pair
  streams : List StreamSt
  buf : Buf
  sched : Sched
  fabric : Fabric
  lanes : List FLane
  lines : Lines
  survey : Survey
  pcie : Pcie
  msi : Msi
  update : Update
  /-- What the part has put out, newest first. -/
  outbox : List Output
  /-- The model's own: how many free values have been used (log entry 2). -/
  freeCtr : Nat
  /-- Commands waiting, first in, first out. -/
  pending : List Instr
  deriving DecidableEq, Repr

/-- A machine stop. No command of this part stops it: misuse is answered by abort codes, counters and events. -/
inductive Fault where
  /-- Never raised: the part has no command that the manual lets stop it (safe). -/
  | none
  deriving DecidableEq, Repr

/-- A refusal by the model. -/
inductive Refusal where
  /-- Raised by an arm of `exec` whose command has no meaning in the model yet (safe). -/
  | notModelled (mnemonic : String)
  deriving DecidableEq, Repr

/-! ### Reset -/

/-- The dictionary with nothing in it. -/
def Dict.blank : Dict :=
  { i3c := { dyn := 0, ibi := false, mwl := 1036, mrl := 1036, queue := [], resp := [], off := 0, perr := false, action := 0 }
    mbx := { busy := false, done := false, ovr := false, reqBuf := [], respBuf := [], req := none }
    pop := { hs := [], sess := [none, none, none, none], ignored := [], mism := [], rateSec := 0, rateCount := 0 }
    slots := List.replicate 12 ⟨0, 0, 0, 0, 0, 0, 0, 0, 0, zeros 12, 0, false, 0⟩
    nextHandle := 1, rot := 0, rotPop := 0, rotStep := 0, deferred := [] }

/-- The margin plan of a part on which the Survey has done nothing (R538). -/
def Margin.blank : Margin :=
  { railFe := Config.factoryRailFe, railTm := Config.factoryRailTm, raises := 0, stageTrims := [], sramAssist := [],
    laneSteps := [], hbmRead := [], hbmWrite := [], refresh := [] }

/-- The spare accounting of a part that has spent none (R528). -/
def Spares.blank : Spares :=
  { spent := [], pipeRetired := [], pipeSubst := [], laneRetired := [], banksRelaid := [], channels := [], wires := [],
    fuseOver := false }

/-- The body of the record of a new part: every persistent object at its Default (R36). -/
def Rec.blank : Rec :=
  { objs := [], changes := [], lastEntry := 0, clearMark := false
    survey := { present := false, baseTime := 0, taken := 0, base := [], delays := [], gains := [] }, margin := Margin.blank, spares := Spares.blank }

/-- The record of a new part: three intact copies of it (log entry 26). -/
def RecState.blank : RecState :=
  let c : RecCopy := ⟨false, 0, 0, Rec.blank⟩
  { mem := Rec.blank, gen := 0, divergent := false, copies := [c, c, c], divWrites := [], dirty := false }

/-- The collector with nothing standing. -/
def Faults.blank : Faults :=
  { queue := [], standing := [], newest := 0, paths := [], todo := [], waiting := [], laneHolds := [], haltTm := false, haltFe := false, fltUntil := 0
    fltPulsed := false, fltHeld := false, hotFe := 0, hotTm := 0, hotHbm := 0, armed := [], tripped := false
    selfRefresh := false, marks := [], bankLost := false, restarting := false, ctls := List.replicate 24 ⟨false, 0, false⟩ }

/-- The frame paths empty. -/
def Flow.blank : Flow :=
  { pipeBusy := [], pipeStage := [], slots := [], ctxs := [], nextCtx := 0, rotI := 0, rotE := 0, rotIn := 0, mix := 0, lineIn := []
    injectIn := [], recircI := [], recircE := [], egressIn := [], nextSeq := [], ro := [], learnI := []
    learnE := [], learnAt := [], toTm := [], punts := [], toLine := [], puntTok := [], puntAt := [], aggTok := 0, aggAt := 0 }

/-- The tables empty. -/
def Tables.blank : Tables :=
  { vers := [], back := [], places := [], lines := [], learned := [], swept := [], tickCount := [], tickAt := [], tickPeriod := [], lfsrBase := 0, packets := []
    bytes := [], locks := [], relaying := [] }

/-- No transaction, commit number 0 (R250). -/
def Tx.blank : Tx :=
  { commit := 0, journal := [], work := [], waits := [], kseq := 0, digest := [], lastCommit := none, paceTok := 0
    paceAt := 0, held := [], progs := [], longest := 0 }

/-- No pair (R470). -/
def Pair.blank : Pair :=
  { st := .unpaired, partnerSt := .unpaired, request := false, requestAt := 0, rank := 0, released := false,
    incomplete := false, lostFlag := false, pClaim := 0, pFlags := 0, pCommit := 0, pSeq := none, pAt := 0, lostAt := 0,
    recent := [], rankOne := 0, seq := 0, lastCell := [], lastTick := 0, claimOut := [], claimIn := [], itemIn := [],
    items := [], itemOut := [], cellOut := [], itemSeq := 0, ackAt := 0, acked := 0, got := 0, mirrored := [],
    syncEnd := none, syncMark := [], syncMoved := false, syncOp := none, data := [] }

/-- The pools free, every level 0 (R254). -/
def Buf.blank : Buf :=
  { cells := [], blocks := [], withdrawn := [], levels := [0, 0, 0, 0], charges := [], xoff := [], pfcAt := []
    granted := [0, 0, 0, 0], hbmAll := 0, hbmRead := 0, evicting := [] }

/-- Every queue and node at the default map, empty (R305). -/
def Sched.blank : Sched :=
  { recs := [], mapUnit := 0, ques := [], nodes := [], portSt := [], portHold := [], portNext := [], portAt := [], cycle := 0
    cycleCount := 0, coreAt := 0, coreCount := 0, grantAt := 0, grantCount := 0, grantRot := 0, granted := [], rrAt := [], samples := [], sampAt := []
    nextPkt := 0 }

/-- The fabric interface empty. -/
def Fabric.blank : Fabric :=
  { txs := [], rxs := [], pins := [], loop := [], loopAt := 0, loopCount := 0, lastLane := [], claims := [], pinHold := [], pinLanes := [], cut := []
    shortAt := 0, shortRaised := false, floorRaised := false }

/-- The Survey before its first reading. -/
def Survey.blank : Survey :=
  { readings := [], readAt := [], levels := [], sweep := [], sweepDelays := [], delays := [], day := 0, pend := false
    waitFrom := none, given := [], avsFe := ⟨0, 0, false, none⟩, avsTm := ⟨0, 0, false, none⟩, waiting := [], finds := []
    repairs := [], retires := [] }

/-- PCIe with its link down, every channel off (R570 to R572, R642). -/
def Pcie.blank : Pcie :=
  { memory := false, chans := List.replicate 64 ⟨0, 0, 0, 0, false, false, 0, 0, 0, false⟩
    engines := List.replicate 4 ⟨none, 15⟩, perf := [], perfAt := 0, snap := 0, snapAt := 0, snapEnd := 0
    bars := [0, 0, 0], perfMarks := [] }

/-- MSI-X as a reset of the configuration space leaves it: disabled, every vector masked. -/
def Msi.blank : Msi := ⟨false, false, [], []⟩

/-- No update session (R629). -/
def Session.blank : Session :=
  { st := 0, cause := 0, holder := 0, bank := 0, recv := 0, len := 0, result := 0, opened := 0, act := 0
    digest := zeros 16, version := 0, lastReq := 0, trialEnd := 0, former := 0, reverting := false }

/-- The fuses of a new part: none burned, the factory key accepted (R611). -/
def Fuses.blank : Fuses :=
  { floor := 0, floorSpent := 0, key0 := 0, key0Spent := 0, key1 := 0, key1Spent := 0, unit := 0, unitSpent := 0
    retakeSpent := 0, debugLock := false, debugSpent := 0, factoryKey := true, repairs := [], retirements := [] }

/-- The part right after its first cold reset, the reset pins high: state BOOT (R655), the record of a new part chosen, the
bank of manufacture checked (R606); every register at its Default (R36, R37), no command waiting. -/
def State.reset : State :=
  { clock := { now := 0, sec := 0, sub := 0, phase := 0, step := none, capture := 0, edges := 0, ppsUntil := 0, ppsHigh := false }
    dev := { st := .boot, phase := .booting, cause := 1, entered := 0, duration := 0, rise := 0, rstN := true, wrstN := true
             pwrgd := true, cmd := none, warm := false, coreBase := 0, bootsel := 0, feAlive := false, finishing := false
             tmStopped := false, feStopped := false,
             burn := none, tap := .idcode }
    objs := [], dict := Dict.blank, fuses := Fuses.blank, record := RecState.blank, faults := Faults.blank
    sbFe := ⟨false, 0, false, 0, false⟩, sbTm := ⟨false, 0, false, 0, false⟩, flow := Flow.blank, tables := Tables.blank, tx := Tx.blank
    gates := { inForce := [], pending := [], holds := [] }, pair := Pair.blank, streams := [], buf := Buf.blank
    sched := Sched.blank, fabric := Fabric.blank, lanes := []
    lines := { ports := [], serdes := [], stamps := [], perm := false }, survey := Survey.blank, pcie := Pcie.blank, msi := Msi.blank
    update := { banks := [⟨4, .factory⟩, ⟨0, .none⟩], gen := 0, copies := [⟨false, 0, [4, 0]⟩, ⟨false, 0, [4, 0]⟩], prior := none,
                loaded := 0, loadable := true, sess := Session.blank }
    outbox := [], freeCtr := 0, pending := [] }

end Sys2Proof.Machine
end

