-- ==== Sys2Proof/Machine/Ops.lean ====
section
/-! DEFINITION. The named operations over the state: the clock and TIME, the object store, counters, outputs, free
values, requester identifiers, device state. -/

namespace Sys2Proof.Machine

/-! ### Clock and TIME -/

/-- The TIME value as a TIME80 (R7). -/
def State.time80 (s : State) : Time80 := s.clock.sec * 2 ^ 32 + s.clock.sub / Config.timeFine

/-- A TIME80 of seconds and ns. -/
def mkTime (sec ns : Nat) : Time80 := sec * 2 ^ 32 + ns

/-- The seconds of a TIME80. -/
def timeSec (t : Time80) : Nat := t / 2 ^ 32

/-- The ns of a TIME80. -/
def timeNs (t : Time80) : Nat := t % 2 ^ 32

/-- A TIME80 as a count of ns. -/
def timeToNs (t : Time80) : Nat := timeSec t * 1000000000 + timeNs t

/-- A count of ns as a TIME80. -/
def nsToTime (n : Nat) : Time80 := mkTime (n / 1000000000) (n % 1000000000)

/-- Ten octets of a TIME80, little-endian (R6). -/
def timeLe (t : Time80) : List Byte := leBytes 10 t

/-- Ten octets of a TIME80 in network order (R5). -/
def timeBe (t : Time80) : List Byte := beBytes 10 t

/-- The CORE cycle count since reset. -/
def State.coreCycle (s : State) : Nat := (s.clock.now - s.dev.coreBase) / Config.core

/-! ### Object store -/

/-- The key of an object; `inst` tells the lanes, queues, streams of one selector apart. -/
def objKey (idx sub inst : Nat) : Nat := (idx * 256 + sub) * 2 ^ 24 + inst

/-- The default of an object of an instance, where the row of the table does not hold it: equalisers (R468), outlets
(R307), stream records (R498). -/
def objDfltI (idx sub inst : Nat) : Nat :=
  if idx = 0x3201 ∧ sub = 2 then Config.laneEqualiser inst
  else if idx = 0x5201 ∧ sub = 2 then
    outletDefault
  else if idx = 0x6900 ∧ sub = 2 then streamDefault
  else objDflt idx sub
where
  /-- The default outlets of R307: line, program, pairing lanes 0 and 1. -/
  outletDefault : Nat :=
    if inst < 128 then 0x0100 + inst else if inst < 0xFE then 0x0200 else 0x0300 + (inst - 0xFE)
  /-- The Reset column of R498: history length 256, reset time 2. -/
  streamDefault : Nat := 256 * 2 ^ 77 + 2 * 2 ^ 67

/-- The value of an object's instance. -/
def State.objI (s : State) (idx sub inst : Nat) : Nat :=
  match objClass idx sub with
  | .persistent => nget s.record.mem.objs (objKey idx sub inst) (objDfltI idx sub inst)
  | _ => nget s.objs (objKey idx sub inst) (objDfltI idx sub inst)

/-- The value of an object. -/
def State.obj (s : State) (idx sub : Nat) : Nat := s.objI idx sub 0

/-- The state with an object's instance set. -/
def State.setObjI (s : State) (idx sub inst v : Nat) : State :=
  match objClass idx sub with
  | .persistent =>
    { s with record := { s.record with mem := { s.record.mem with
      objs := nset s.record.mem.objs (objKey idx sub inst) v (objDfltI idx sub inst) } } }
  | _ => { s with objs := nset s.objs (objKey idx sub inst) v (objDfltI idx sub inst) }

/-- The state with an object set. -/
def State.setObj (s : State) (idx sub v : Nat) : State := s.setObjI idx sub 0 v

/-- Where a counter saturates: U32 at 0xFFFF_FFFF (R61), U64 at 2^64 − 1. -/
def counterMax (idx : Nat) : Nat := if idx = 0x2030 then 2 ^ 32 - 1 else 2 ^ 64 - 1

/-- A saturating count of `n` at a counter's instance. -/
def State.bumpI (s : State) (idx sub inst n : Nat) : State :=
  s.setObjI idx sub inst (min (counterMax idx) (s.objI idx sub inst + n))

/-- A saturating count of one. -/
def State.bump (s : State) (idx sub : Nat) : State := s.bumpI idx sub 0 1

/-- A saturating count of `n`. -/
def State.bumpN (s : State) (idx sub n : Nat) : State := s.bumpI idx sub 0 n

/-! ### Time passing -/

/-- The frequency adjustment of 0x2100:02 as an integer (R469). -/
def State.freqAdj (s : State) : Int := toInt 32 (s.obj 0x2100 2)

/-- The part of the phase adjustment that `dt` ticks slew at the limit of 0x2100:04 (R450). -/
def slewPart (phase : Int) (limit dt : Nat) : Int :=
  let m : Int := (dt * limit * 1024 : Nat)
  if phase ≥ 0 then min phase m else max phase (-m)

/-- The clock after `dt` ticks. -/
def Clock.advance (c : Clock) (dt : Nat) (adj : Int) (limit : Nat) : Clock :=
  let sl := slewPart c.phase limit dt
  let d : Int := (dt : Int) * ((Config.timeUnit : Int) + adj) + sl
  let total : Nat := ((c.sec * (1000000000 * Config.timeFine) + c.sub : Nat) + d).toNat
  { c with
    now := c.now + dt
    sec := (total / (1000000000 * Config.timeFine)) % 2 ^ 48
    sub := total % (1000000000 * Config.timeFine)
    phase := c.phase - sl }

/-- The state at instant `t`: the clock never goes back (log entry 1). -/
def State.tick (s : State) (t : Tick) : State :=
  if t ≤ s.clock.now then s
  else { s with clock := s.clock.advance (t - s.clock.now) s.freqAdj (s.obj 0x2100 4) }

/-! ### Outputs and free values -/

/-- The state with one more output. -/
def State.out (s : State) (o : Output) : State := { s with outbox := o :: s.outbox }

/-- A 32-bit word of the MSI-X table (R567): of each entry the last is vector control, set at reset. -/
def Msi.word (m : Msi) (i : Nat) : Nat := nget m.table i (flag (i % 4 == 3))

/-- A vector is masked, by its own bit or by the function's. -/
def Msi.masked (m : Msi) (v : Nat) : Bool := m.mask || bit (m.word (4 * v + 3)) 0

/-- An MSI-X message on a vector (R565, R567, R569): none while MSI-X is disabled, a pending bit while the vector is masked. -/
def State.msix (s : State) (vector : Nat) : State :=
  if ¬ s.msi.on then s
  else if s.msi.masked vector then
    { s with msi := { s.msi with pending := if s.msi.pending.contains vector then s.msi.pending else s.msi.pending ++ [vector] } }
  else s.out (.msix vector)

/-- The messages that wait for vectors masked no longer. -/
def State.msixFlush (s : State) : State :=
  if ¬ s.msi.on then s
  else
    let go := s.msi.pending.filter (fun v => !s.msi.masked v)
    go.foldl (fun s v => s.out (.msix v)) { s with msi := { s.msi with pending := s.msi.pending.filter (fun v => !go.contains v) } }

/-- The next free value and the state that has used it (log entry 2). -/
def State.fresh (s : State) : Nat × State :=
  (Config.freeNat s.freeCtr, { s with freeCtr := s.freeCtr + 1 })

/-- `n` octets of a free value. -/
def State.freshBytes (s : State) (n : Nat) : List Byte × State :=
  (leBytes n (Config.freeNat s.freeCtr), { s with freeCtr := s.freeCtr + 1 })

/-- An I3C in-band interrupt, while ENEC allows them (R47, R562). -/
def State.ibi (s : State) (data : Nat) : State := if s.dict.i3c.ibi then s.out (.ibi data) else s

/-! ### Device state -/

/-- The code of a device state (R654). -/
def DevState.code : DevState → Nat
  | .boot => 1 | .init => 2 | .ready => 3 | .run => 4 | .degraded => 5
  | .standby => 6 | .sync => 7 | .handover => 8 | .halt => 9 | .maint => 10

/-- The states in which frames of the line are dealt (R656). -/
def DevState.inService : DevState → Bool
  | .run | .degraded | .standby | .sync | .handover => true
  | _ => false

/-- Entry into a device state, with the time of entry (0x1100:05). -/
def State.enter (s : State) (d : DevState) : State :=
  if s.dev.st = d then s
  else { s with dev := { s.dev with st := d, entered := s.time80 } }

/-- Counts and marks something as the first of its kind in the present TIME second (R61, R601): whether it is. -/
def State.firstInSecond (s : State) (kind : Nat) : Bool × State :=
  if nget s.faults.marks kind 0 = s.clock.sec + 1 then (false, s)
  else (true, { s with faults := { s.faults with marks := nset s.faults.marks kind (s.clock.sec + 1) 0 } })

/-- The unit number (0x1203:01). -/
def State.unit (s : State) : Nat := s.fuses.unit

/-- The least role code that R33 requires where nothing else is named. -/
def maintainer : Nat := 2

/-- The requester identifier of the part itself. -/
def selfId : Nat := 0x4000

/-- The requester identifier of a path (chapter 2). -/
def State.requesterOf (s : State) : Path → Nat
  | .i3c => 0x1000 + s.dict.i3c.dyn
  | .mailbox => 0x2000
  | .pop slot => 0x3000 + slot.val

/-- The requester identifier of a DMA engine and its channels. -/
def engineId (e : Nat) : Nat := 0x2010 + e

/-- The part's claim number (R471): 0 while it belongs to no pair. -/
def State.claimNo (s : State) : Nat :=
  if s.pair.st = .unpaired then 0 else s.pair.rank % 16 * 16 + s.obj 0x6800 3

/-- The source that a failed path reported on is contained until the path is taken back into use: by class and object (R541,
R542). -/
def State.sourceHeld (s : State) (cls object : Nat) : Bool :=
  s.faults.paths.any (fun p => p.source.cls.val + 1 == cls && p.source.object == object)

/-- A subordinate controller's units are out of service (R552, R703). The order is that of the controller table: 0 to 7
line SerDes, 8 to 17 fabric SerDes, 18 survey, 19 to 22 HBM, 23 FE housekeeping. -/
def State.ctlOut (s : State) (i : Nat) : Bool :=
  (s.faults.ctls.getD i ⟨true, 0, false⟩).out || s.sourceHeld 15 i

/-! ### Line ports and the transmit permission -/

/-- A line port that nothing has touched since reset. -/
def Port.fresh (n : Nat) : Port :=
  { num := n, link := 0, remote := false, good := false, okAt := 0, failAt := 0, downs := [], flapEnd := 0,
    paused := [], storm := [], laneOk := false, aligned := true }

/-- A line port. -/
def State.port (s : State) (p : Nat) : Port := (s.lines.ports.find? (fun x => x.num == p)).getD (Port.fresh p)

/-- A line port set. -/
def State.setPort (s : State) (x : Port) : State :=
  { s with lines := { s.lines with ports := s.lines.ports.filter (fun y => y.num != x.num) ++ [x] } }

/-- A line port is up (R435). -/
def State.linkUp (s : State) (p : Nat) : Bool := (s.port p).link == 1

/-- A port that is up and yet starts no frame: a fault stands through its down debounce (R435, R436). -/
def State.faultStands (s : State) (p : Nat) : Bool := s.linkUp p && ((s.port p).remote || !(s.port p).good)

/-- The transmit timestamp record of an injected frame (R458). -/
def stampRecord (token port : Nat) (stamp : Option Time80) : List Byte :=
  leBytes 4 token ++ [byteOf port, byteOf (flag stamp.isNone), 0, 0] ++ timeLe (stamp.getD 0) ++ zeros 14

/-- A record of a frame that is not transmitted (R458). -/
def State.noStamp (s : State) (token port : Nat) : State :=
  { s with lines := { s.lines with stamps := s.lines.stamps ++ [stampRecord token port none] } }

/-- The transmit permission as the TM die sends it over the sideband (R474, R656): in service, and unpaired or ACTIVE with a
claim above the partner's. -/
def State.permitSent (s : State) : Bool :=
  s.dev.st.inService && (s.pair.st == .unpaired || (s.pair.st == .active && decide (s.pair.pClaim < s.claimNo)))

/-- A sideband word taken over: a die in which the safe values stand takes none (R14). -/
def Sideband.take (x : Sideband) (permit : Bool) (commit : Nat) : Sideband :=
  if x.safe then x else { x with permit := permit, commit := commit }

/-- The sideband words that follow a command (R14): they come in every cycle of the bond domain. -/
def State.sideWords (s : State) : State :=
  { s with sbFe := s.sbFe.take s.permitSent s.tx.commit, sbTm := s.sbTm.take s.permitSent s.tx.commit }

/-- The transmit permission as the line MACs have it (R14, R447, R551): the last value received, which is withdrawn while the
safe value stands, and no die halted. -/
def State.mayTransmit (s : State) : Bool :=
  s.sbFe.permit && !s.sbFe.safe && !s.faults.haltTm && !s.faults.haltFe

end Sys2Proof.Machine
end

