-- ==== Sys2Proof/Machine/Collector.lean ====
section
/-! DEFINITION. The fault collector (chapter 15): raising, rising, acknowledging, the history queue, the interrupts and
FLT_N. Containments are noted in `Faults.todo` and carried out at the end of the command (Machine/Settle.lean). -/

namespace Sys2Proof.Machine

/-- What a raising statement gives: class, named level, die code, path, object, value, the counter of the cause, whether
the statement names its own action at level F2 (R552), further detail bytes (R536), R541's flag, whether the object of an
event of FC-14 is a line port (R552). -/
structure Raise where
  cls : Nat
  level : Nat
  die : Nat := 0
  path : Nat := 0xFFFF
  object : Nat := 0
  value : Nat := 0
  own : Bool := false
  ctrIdx : Nat := 0
  ctrSub : Nat := 0
  rest : List Byte := []
  failed : Bool := false
  port : Bool := false
  deriving DecidableEq, Repr

/-- The highest standing level of a class (R546, 0x800F + class:02). -/
def Faults.levelOf (f : Faults) (cls : Nat) : Nat :=
  maxOf (fun e => if e.cls = cls then e.level else 0) f.standing

/-- The highest standing level of all. -/
def Faults.topLevel (f : Faults) : Nat :=
  if f.haltTm || f.haltFe then 4 else maxOf (fun e => e.level) f.standing

/-- The level at which an event is raised, and whether the standing level of its class decides (R546). -/
def Faults.raisedLevel (f : Faults) (cls named : Nat) : Nat × Bool :=
  if named = 0 ∨ named ≥ 4 then (named, false)
  else
    let up := if f.levelOf cls = 0 then 0 else f.levelOf cls + 1
    if up > named then (min 3 up, decide (min 3 up > named)) else (named, false)

/-- Whether an event stands (R544, R557). -/
def Faults.isStanding (f : Faults) (num : Nat) : Bool := f.standing.any (fun e => e.num == num)

/-- The queue with its oldest entry that is not standing taken out (R557). -/
def Faults.dropOldest (f : Faults) : Option (List Event) :=
  if f.queue.all (fun e => f.isStanding e.num) then none
  else some (dropFirst (fun e => !f.isStanding e.num) f.queue)

/-- An event entered in the queue, or counted as not entered (R557). The queue runs oldest first. -/
def State.enterEvent (s : State) (e : Event) : State :=
  if s.faults.queue.length < 64 then
    { s with faults := { s.faults with queue := s.faults.queue ++ [e] } }
  else match s.faults.dropOldest with
    | some q => { s with faults := { s.faults with queue := q ++ [e] } }
    | none => s.bump 0x8100 5

/-- FLT_N driven low for the pulse width of 0x8200:01 (R561). -/
def State.fltPulse (s : State) : State :=
  { s with faults := { s.faults with
      fltUntil := s.clock.now + s.obj 0x8200 1 * Config.ns, fltPulsed := true } }

/-- FLT_N is low (R561): while a die is at level F4, during a pulse, and under the hold; released in BOOT (R638). -/
def State.fltLow (s : State) : Bool :=
  s.dev.st != .boot && (s.faults.haltTm || s.faults.haltFe || s.faults.fltPulsed || s.faults.fltHeld)

/-- An event at level F2 or F3 stands while the hold reads 1 (R561). -/
def State.holdsFlt (s : State) : Bool := s.obj 0x8200 2 == 1 && s.faults.standing.any (fun e => decide (2 ≤ e.level))

/-- FLT_N_PULSE_END (R561): the width of the last pulse has run; the pin is released, or held. -/
def State.fltPulseEnd (s : State) : State :=
  if s.faults.fltPulsed ∧ s.faults.fltUntil ≤ s.clock.now then
    { s with faults := { s.faults with fltPulsed := false, fltHeld := s.holdsFlt } }
  else s

/-- A held FLT_N released once nothing holds it (R561). -/
def State.fltSync (s : State) : State :=
  if s.faults.fltHeld ∧ ¬ s.holdsFlt then { s with faults := { s.faults with fltHeld := false } } else s

/-- IRQ_N is low (R562); released in BOOT (R638). -/
def State.irqLow (s : State) : Bool :=
  s.dev.st != .boot && (s.faults.haltTm || s.faults.haltFe ||
    s.faults.standing.any (fun e => decide (s.obj 0x8200 3 ≤ e.level)))

/-- The signals of an event at a level (R561, R562): FLT_N from level F2, interrupts from the IRQ level. -/
def State.signal (s : State) (level : Nat) : State :=
  let s := if 2 ≤ level then s.fltPulse else s
  if 1 ≤ level ∧ s.obj 0x8200 3 ≤ level then (s.msix 2).ibi 0x46 else s

/-- The HALT of R551: the die's bit, the device state; the data path, the lines and the transactions follow from
Machine/Settle.lean, which finds class 0 in the list. -/
def State.halt (s : State) (die : Nat) : State :=
  let f := { s.faults with
    haltTm := s.faults.haltTm || die == 0
    haltFe := s.faults.haltFe || die == 1
    todo := s.faults.todo ++ [Contain.mk 0 die 0 0 false] }
  let s := { s with faults := f }
  if s.dev.st = .boot then s else s.enter .halt

/-- The part is ACTIVE and its partner STANDBY (R549). -/
def State.handoverFits (s : State) : Bool :=
  decide (s.pair.st = .active) && decide (s.pair.partnerSt = .standby)

/-- Level F3: the handover request of R479 where it fits; the degraded mark stands by R550 (R549). -/
def State.levelThree (s : State) : State :=
  if s.handoverFits ∧ ¬ s.pair.request then
    { s with pair := { s.pair with request := true, requestAt := s.clock.now } }
  else s

/-- The 32 detail bytes of an event (R556). -/
def Raise.detail (r : Raise) : List Byte :=
  if r.rest.length = 32 then r.rest else (leBytes 4 r.object ++ leBytes 4 r.value ++ zeros 24)

/-- An event raised (R544 to R549, R552, R556, R557, R562). -/
def State.raise (s : State) (r : Raise) : State :=
  let (lvl, rose) := s.faults.raisedLevel r.cls r.level
  let num := (s.faults.newest + 1) % 2 ^ 32
  let flags := flag rose + (if lvl = 0 then 4 else 0) + (if r.failed then 8 else 0)
  let ev : Event := ⟨num, r.cls, lvl, lvl, flags, r.ctrIdx, r.ctrSub, r.die, r.path, s.dev.st.code, s.time80,
    if lvl = 0 then selfId else 0, r.detail⟩
  let s := { s with faults := { s.faults with newest := num } }
  let s := if 1 ≤ lvl ∧ lvl ≤ 3 then
      { s with faults := { s.faults with standing := s.faults.standing ++
        [Standing.mk num r.cls lvl (s.clock.now + s.obj (0x800F + r.cls) 1 * Config.us) r.object r.value r.port r.detail] } }
    else s
  let s := s.enterEvent ev
  let s := s.bump (0x800F + r.cls) (3 + lvl)
  let s := if rose then s.bump (0x800F + r.cls) 8 else s
  let s := if lvl = 3 then s.levelThree else s
  let s := if lvl = 4 then s.halt r.die else s
  let s := if lvl = 2 ∧ ¬ (r.own ∧ r.level = 2) then
      { s with faults := { s.faults with todo := s.faults.todo ++ [Contain.mk r.cls r.object r.value num r.port] } }
    else s
  s.signal lvl

/-- An event of one class at one level, with an object. -/
def State.raiseAt (s : State) (cls level die object : Nat) : State :=
  s.raise { cls := cls, level := level, die := die, object := object }

/-- The rise of a standing F1 event whose timer has expired (R545): level F2, flag [1], the effects of F2. An acknowledgement
in the TMC cycle of the expiry prevails, so the rise comes after that cycle (R547). -/
def State.rise (s : State) (num : Nat) : State :=
  match s.faults.standing.find? (fun e => e.num == num && e.level == 1) with
  | none => s
  | some e =>
    if s.clock.now / Config.tmc ≤ e.deadline / Config.tmc then s
    else
      let s := { s with faults := { s.faults with
        standing := modFirst (fun x => x.num == num) (fun x => { x with level := 2 }) s.faults.standing
        queue := modFirst (fun x => x.num == num)
          (fun x => { x with level := 2, flags := setBit x.flags 1 true }) s.faults.queue
        todo := s.faults.todo ++ [Contain.mk e.cls e.object e.value num e.port] } }
      ((s.bump (0x800F + e.cls) 5).bump (0x800F + e.cls) 8).signal 2

/-- The failed paths whose FC-06 event is acknowledged with a set of events (R542). -/
def Faults.ackPaths (f : Faults) (acked : Nat → Bool) : List FailedPath :=
  f.paths.map (fun p => if acked p.event then { p with acked := true } else p)

/-- An event held in the queue acknowledged by a requester (R558), one that a reset or level F4 has ended like any other: it
stands no more, and what was contained stays contained; a repeated acknowledgement has no effect. -/
def State.ackEvent (s : State) (num who : Nat) : State :=
  { s with faults := { s.faults with
      standing := dropFirst (fun e => e.num == num) s.faults.standing
      paths := s.faults.ackPaths (· == num)
      queue := modFirst (fun e => e.num == num && !bit e.flags 2)
        (fun e => { e with flags := setBit e.flags 2 true, ackBy := who }) s.faults.queue } }

/-- Every standing event of a class acknowledged (R558). -/
def State.ackClass (s : State) (cls who : Nat) : State :=
  { s with faults := { s.faults with
      paths := s.faults.ackPaths (fun n => s.faults.standing.any (fun e => e.num == n && e.cls == cls))
      queue := s.faults.queue.map (fun e =>
        if e.cls = cls ∧ s.faults.isStanding e.num then { e with flags := setBit e.flags 2 true, ackBy := who } else e)
      standing := s.faults.standing.filter (fun e => e.cls ≠ cls) } }

/-- The 64 octets of an event record, little-endian (R556). -/
def Event.bytes (e : Event) : List Byte :=
  let head := leBytes 4 e.num ++ [byteOf e.cls, byteOf e.level, byteOf e.first, byteOf e.flags] ++
    leBytes 2 e.ctrIdx ++ [byteOf e.ctrSub, byteOf e.die] ++ leBytes 2 e.path ++ [byteOf e.devState, 0] ++
    timeLe e.raised ++ leBytes 2 e.ackBy
  head ++ leBytes 4 (crc32 (head ++ e.detail)) ++ e.detail

end Sys2Proof.Machine
end

