-- ==== Sys2Proof/Machine/Pools.lean ====
section
/-! DEFINITION. The buffer pools (chapter 7): allocation, frees, handover, levels, charges and priority flow control
towards the line. -/

namespace Sys2Proof.Machine

/-! ### Pools and their ranges (R252, R270) -/

/-- The code of a pool: 0 ingress partition, 1 egress partition, 2 HBM block pool, 3 FE body store (R301). -/
def poolCode : Pool → Nat
  | .ingress => 0
  | .egress => 1
  | .hbm => 2
  | .feBody => 3

/-- The kind of unit of a pool (0x5002:01): 0 on-die cell, 1 HBM block, 2 FE body store cell. -/
def unitKind (k : Nat) : Nat :=
  match k with
  | 2 => 1
  | 3 => 2
  | _ => 0

/-- The die code of a pool's events (R556). -/
def poolDie (k : Nat) : Nat :=
  match k with
  | 2 => 2
  | 3 => 1
  | _ => 0

/-- The first unit of a pool and the one after its last; the partitions divide at 0x5000:02 (R252). -/
def State.poolRange (s : State) (k : Nat) : Nat × Nat :=
  match k with
  | 0 => (0, s.obj 0x5000 2)
  | 1 => (s.obj 0x5000 2, 786432)
  | 2 => (0, 25165824)
  | _ => (0, 131072)

/-- The units of a pool. -/
def State.poolSize (s : State) (k : Nat) : Nat := (s.poolRange k).2 - (s.poolRange k).1

/-- The numbers of a kind that are allocated or withdrawn. -/
def Buf.usedNums (b : Buf) (kind : Nat) : List Nat :=
  let w := (b.withdrawn.filter (fun x => x.1 == kind)).map (·.2)
  let a := if kind = 1 then b.blocks.map (·.num) else (b.cells.filter (fun c => c.pool == kind)).map (·.num)
  a ++ w.filter (fun n => !a.contains n)

/-- The key of `Spares.spent` under which a withdrawn group of 8 HBM blocks stands (R529, R535). -/
def groupKey (g : Nat) : Nat := 0x11 * 2 ^ 24 + g

/-- An HBM block is withdrawn, by itself or with its pseudo-channel (R531). -/
def Spares.blockOut (p : Spares) (n : Nat) : Bool := p.channels.contains (n % 128) || nget p.spent (groupKey (n / 8)) 0 == 1

/-- The groups of 8 HBM blocks withdrawn. -/
def Spares.groups (p : Spares) : List Nat :=
  (p.spent.filter (fun e => decide (groupKey 0 ≤ e.1))).map (fun e => e.1 - groupKey 0)

/-- The HBM blocks withdrawn (0x7200:03): 196,608 for each pseudo-channel, 8 for each group outside those. -/
def Spares.blocksOut (p : Spares) : Nat :=
  p.channels.dedup.length * 196608 +
    sumOf (fun g => ((List.range 8).filter (fun i => !p.channels.contains ((8 * g + i) % 128))).length) p.groups

/-- Units of a pool in use: a withdrawn unit counts as allocated (R531, R552). -/
def State.poolUse (s : State) (k : Nat) : Nat :=
  let l := (s.buf.usedNums (unitKind k)).filter (fun n => decide ((s.poolRange k).1 ≤ n ∧ n < (s.poolRange k).2))
  if k = 2 then (l.filter (fun n => !s.record.mem.spares.blockOut n)).length + s.record.mem.spares.blocksOut
  else l.length

/-- An allocated cell. -/
def Buf.cell (b : Buf) (pool num : Nat) : Option Cell := b.cells.find? (fun c => c.pool == pool && c.num == num)

/-- An allocated block. -/
def Buf.block (b : Buf) (num : Nat) : Option Block := b.blocks.find? (fun c => c.num == num)

/-- A cell entered in its place: the list rises by pool and number. -/
def insertCell (c : Cell) : List Cell → List Cell
  | [] => [c]
  | d :: r =>
    if d.pool < c.pool ∨ (d.pool = c.pool ∧ d.num < c.num) then d :: insertCell c r else c :: d :: r

/-- A block entered in its place. -/
def insertBlock (c : Block) : List Block → List Block
  | [] => [c]
  | d :: r => if d.num < c.num then d :: insertBlock c r else c :: d :: r

/-! ### Levels (R282 to R285) -/

/-- The level that a use has under thresholds, from the level before it (R282). -/
def levelOf (use size w1 w2 w3 old : Nat) : Nat :=
  let up := if w3 ≤ use then 3 else if w2 ≤ use then 2 else if w1 ≤ use then 1 else 0
  let h := size / 32
  let keep := if 3 ≤ old ∧ w3 - h ≤ use then 3 else if 2 ≤ old ∧ w2 - h ≤ use then 2
    else if 1 ≤ old ∧ w1 - h ≤ use then 1 else 0
  max up keep

/-- The level of a pool (0x5010 + k:06). -/
def State.poolLevel (s : State) (k : Nat) : Nat := s.buf.levels.getD k 0

/-- A buffer accounting event (R552): object [31:29] pool, [28:0] cell or queue. -/
def State.bufFault (s : State) (level k num value : Nat) (idx sub : Nat) : State :=
  s.raise { cls := 4, level := level, die := poolDie k, object := k * 2 ^ 29 + num % 2 ^ 29, value := value,
            ctrIdx := idx, ctrSub := sub }

/-- The level and the peak of a pool brought up to its present use; a rise is counted and raised (R282, R284). -/
def State.poolSync (s : State) (k : Nat) : State :=
  let use := s.poolUse k
  let o := 0x5010 + k
  let old := s.poolLevel k
  let lvl := levelOf use (s.poolSize k) (s.obj o 3) (s.obj o 4) (s.obj o 5) old
  let s := { s with buf := { s.buf with levels := s.buf.levels.set k lvl } }
  let s := if s.obj o 2 < use then s.setObj o 2 use else s
  if old < lvl then (s.bump o 7).bufFault 0 k 0 lvl o 7 else s

/-- The thresholds of a pool set to 3/4, 7/8 and 31/32 of its size (R288), and its level brought up to them. -/
def State.poolMarks (s : State) (k : Nat) : State :=
  let n := s.poolSize k
  (((s.setObj (0x5010 + k) 3 (n * 3 / 4)).setObj (0x5010 + k) 4 (n * 7 / 8)).setObj (0x5010 + k) 5 (n * 31 / 32)).poolSync k

/-! ### Priority flow control towards the line (R289, R290) -/

/-- The cells charged to a port and priority. -/
def Buf.charged (b : Buf) (port prio : Nat) : Nat :=
  sumOf (fun c => if c.port = port ∧ c.prio = prio then c.cells else 0) b.charges

/-- The cells in the headroom of a port (0x5080 + p:08). -/
def Buf.headroomUsed (b : Buf) (port : Nat) : Nat :=
  sumOf (fun c => if c.port = port ∧ c.headroom then c.cells else 0) b.charges

/-- A port and priority stand in XOFF. -/
def Buf.isXoff (b : Buf) (port prio : Nat) : Bool := b.xoff.any (fun x => x.1 == port && x.2.1 == prio)

/-- Packets of a priority are charged on a port (0x5080 + p:03). -/
def State.pfcOn (s : State) (port prio : Nat) : Bool := bit (s.obj (0x5080 + port) 3) prio

/-- The TMC cycle. -/
def State.tmcCycle (s : State) : Nat := s.clock.now / Config.tmc

/-- The loop of a lane (0x3201:05). -/
def State.laneLoop (s : State) (code : Nat) : Nat := s.objI 0x3201 5 code

/-- A lane is in a near-end loop. -/
def State.nearLoop (s : State) (code : Nat) : Bool := s.laneLoop code == 1 || s.laneLoop code == 2

/-- The rate of a port mode in Gb/s (R430). -/
def modeRate (m : Nat) : Nat :=
  match m with
  | 1 => 100
  | 2 => 200
  | 3 => 400
  | 4 => 800
  | _ => 0

/-- The rate of a line port (0x3000 + p:14). -/
def State.portRate (s : State) (p : Nat) : Nat := modeRate (s.obj (0x3000 + p) 1)

/-- The priorities of a port that are paused now (R442). -/
def Port.pausedNow (x : Port) (now : Tick) (n : Nat) : Bool := x.paused.any (fun e => e.1 == n && decide (now < e.2.2))

/-- A priority of a port is in storm recovery (R444). -/
def Port.storming (x : Port) (now : Tick) (n : Nat) : Bool := x.storm.any (fun e => e.1 == n && decide (now < e.2))

/-- A pause time in ticks: quanta of 512 bit times (R442); the first tick at which it has passed. -/
def pauseTicks (quanta rate : Nat) : Nat := (quanta * 512 * Config.ns + rate - 1) / rate

/-- One priority of a PFC frame (R442, R444). -/
def State.pausePrio (s : State) (p n quanta : Nat) : State :=
  let x := s.port p
  if x.storming s.clock.now n then s
  else
    let since := match x.paused.find? (fun e => e.1 == n && decide (s.clock.now < e.2.2)) with
      | some e => e.2.1
      | none => s.clock.now
    let rest := x.paused.filter (fun e => e.1 != n)
    s.setPort { x with paused := if quanta = 0 then rest
      else rest ++ [(n, since, s.clock.now + pauseTicks quanta (s.portRate p))] }

/-- The priorities of a PFC frame that a port receives, with their pause times (R442). -/
def State.pfcTimes (s : State) (p : Nat) (times : List (Nat × Nat)) : State :=
  times.foldl (fun s x => if bit (s.obj (0x3000 + p) 9) x.1 then s.pausePrio p x.1 x.2 else s) s

/-- A PFC frame of its own that a port in a near-end loop receives back (R440, R442, R463): a good frame of 64 bytes, but for
the priorities that join a frame already sent. -/
def State.pfcLoop (s : State) (p : Nat) (again : Bool) (times : List (Nat × Nat)) : State :=
  if ¬ s.nearLoop p then s
  else
    let o := 0x3000 + p
    (if again then s else ((s.bump o 0x20).bumpN o 0x21 64).bump o 0x29).pfcTimes p times

/-- More priorities in a PFC frame: the later pause of a priority stands. -/
def joinPfc (old times : List (Nat × Nat)) : List (Nat × Nat) :=
  old.filter (fun x => !times.any (fun y => y.1 == x.1)) ++ times

/-- The newest PFC frame of a port takes more priorities. -/
def extendPfc (port : Nat) (times : List (Nat × Nat)) : List Output → List Output
  | [] => []
  | .pfc p old :: r => if p = port then .pfc p (joinPfc old times) :: r else .pfc p old :: extendPfc port times r
  | o :: r => o :: extendPfc port times r

/-- A PFC frame sent by the MAC of a port (R289, R290), or withheld like any frame while the port is down or transmission
is not permitted (R438, R447); while a fault stands on a port that is up no frame is started (R436; log entry 160). Priorities whose state changes in one cycle share one frame. -/
def State.sendPfc (s : State) (port : Nat) (times : List (Nat × Nat)) : State :=
  if times.isEmpty then s
  else
    let again := nget s.buf.pfcAt port 0 == s.tmcCycle + 1
    let s := { s with buf := { s.buf with pfcAt := nset s.buf.pfcAt port (s.tmcCycle + 1) 0 } }
    if s.linkUp port ∧ s.mayTransmit then
      if s.faultStands port then s
      else (if again then { s with outbox := extendPfc port times s.outbox }
        else (s.out (.pfc port times)).bump (0x3000 + port) 0x2A).pfcLoop port again times
    else if again then s else s.bump (0x3000 + port) 0x27

/-- The priorities of a port whose state the charged cells change, with the quanta to be sent (R289). -/
def State.pfcChanges (s : State) (port : Nat) : List (Nat × Nat) :=
  (List.range 8).filterMap (fun c =>
    let n := s.buf.charged port c
    if ¬ s.pfcOn port c then none
    else if ¬ s.buf.isXoff port c ∧ s.obj (0x5080 + port) 4 ≤ n then some (c, s.obj (0x5080 + port) 7)
    else if s.buf.isXoff port c ∧ n ≤ s.obj (0x5080 + port) 5 then some (c, 0)
    else none)

/-- The pauses of a port brought up to its charged cells, in one PFC frame (R289, R290). -/
def State.pfcSync (s : State) (port : Nat) : State :=
  let ch := s.pfcChanges port
  let x := s.buf.xoff.filter (fun e => !(e.1 == port && (ch.any (fun c => c.1 == e.2.1) || !s.pfcOn port e.2.1)))
  let x := x ++ (ch.filter (fun c => c.2 != 0)).map (fun c => (port, c.1, s.clock.now))
  { s with buf := { s.buf with xoff := x } }.sendPfc port ch

/-- The ports that hold charges or stand in XOFF. -/
def Buf.pfcPorts (b : Buf) : List Nat := (b.charges.map (·.port) ++ b.xoff.map (·.1)).dedup

/-- Every port's pauses brought up to its charged cells. -/
def State.pfcSyncAll (s : State) (ports : List Nat) : State := ports.foldl State.pfcSync s

/-! ### Allocation (R259, R267 to R269) -/

/-- The units that a pool's allocator grants in a cycle (R267). -/
def grantCeiling (k : Nat) : Nat :=
  match k with
  | 2 => 8
  | 3 => 32
  | _ => 48

/-- The cycle of a pool's allocator: of CORE for the FE body store, of TMC for the others (R267). -/
def State.allocCycle (s : State) (k : Nat) : Nat := if k = 3 then s.clock.now / Config.core else s.tmcCycle

/-- How far a pool's allocator has granted. -/
def State.grantMark (s : State) (k : Nat) : Nat := max (s.buf.granted.getD k 0) (s.allocCycle k * grantCeiling k)

/-- A pool's allocator has granted all that the present cycle allows: a requester that can wait does (R267; log entry
129). -/
def State.allocBusy (s : State) (k : Nat) : Bool := decide ((s.allocCycle k + 1) * grantCeiling k ≤ s.grantMark k)

/-- Units granted counted against the allocator's cycles (R267). -/
def State.noteGrant (s : State) (k n : Nat) : State :=
  { s with buf := { s.buf with granted := s.buf.granted.set k (s.grantMark k + n) } }

/-- `need` numbers of [lo, hi) that are not taken, from `cur` upwards, wrapping; `fuel` bounds the numbers looked at. -/
def takeFree (taken : Nat → Bool) (lo hi : Nat) : Nat → Nat → Nat → List Nat
  | 0, _, _ => []
  | fuel + 1, need, cur =>
    if need = 0 then []
    else
      let nxt := if cur + 1 < hi then cur + 1 else lo
      if taken cur then takeFree taken lo hi fuel need nxt
      else cur :: takeFree taken lo hi fuel (need - 1) nxt

/-- Withdrawn blocks, and those of a stack whose controller is out of service, are not granted (R531, R552). -/
def State.unitTaken (s : State) (kind : Nat) (used : List Nat) (n : Nat) : Bool :=
  used.contains n || (kind == 1 && (s.record.mem.spares.blockOut n || s.ctlOut (19 + n % 128 / 32)))

/-- The numbers granted to a request for `n` units of a range, or EMPTY (R268, R269): which free units are granted is a
free value (log entry 2), and requests of one cycle are taken in the order of the commands (log entry 38). -/
def State.grantUnits (s : State) (kind lo hi n : Nat) : Option (List Nat) × State :=
  let used := s.buf.usedNums kind
  let (start, s') := s.fresh
  let got := takeFree (s.unitTaken kind used) lo hi ((n + used.length + 8 * s.record.mem.spares.groups.length + 1) * 129) n (lo + start % (hi - lo))
  if (hi - lo) - (used.filter (fun u => decide (lo ≤ u ∧ u < hi))).length < n ∨ got.length ≠ n
    then (none, s.bump 0x5001 3) else (some got, s')

/-- Cells chained as one packet or body under an owner: count 1, Last in the last cell (R255, R259). -/
def chainCells (pool owner : Nat) : List Nat → List Cell
  | [] => []
  | [n] => [Cell.mk pool n owner 1 true false 0]
  | n :: m :: r => Cell.mk pool n owner 1 false false m :: chainCells pool owner (m :: r)

/-- Cells of pool `k` (0, 1 or 3) allocated whole or not at all; `lo` and `hi` narrow the range for R270. -/
def State.allocIn (s : State) (k lo hi n owner : Nat) : Option (List Nat) × State :=
  match s.grantUnits (unitKind k) lo hi n with
  | (none, s) => (none, s)
  | (some l, s) =>
    let cs := (chainCells (unitKind k) owner l).foldl (fun a c => insertCell c a) s.buf.cells
    (some l, ({ s with buf := { s.buf with cells := cs } }.noteGrant k n).poolSync k)

/-- Cells of a partition allocated to a holder. -/
def State.allocCells (s : State) (k n owner : Nat) : Option (List Nat) × State :=
  s.allocIn k (s.poolRange k).1 (s.poolRange k).2 n owner

/-- The first cell of the reserve of R270: bodies of frames from BOND-TF take cells from here upwards. -/
def feReserveBase : Nat := 98304

/-- Cells of the FE body store for a body: first-pass ingress bodies outside the reserve, bodies from BOND-TF within it
(R270). -/
def State.allocBody (s : State) (egress : Bool) (n : Nat) : Option (List Nat) × State :=
  if egress then s.allocIn 3 feReserveBase 131072 n 6 else s.allocIn 3 0 feReserveBase n 1

/-! ### Frees and handovers (R260 to R262, R264) -/

/-- The pool code of a cell. -/
def State.poolOfCell (s : State) (pool num : Nat) : Nat :=
  if pool = 2 then 3 else if num < s.obj 0x5000 2 then 0 else 1

/-- A free that the part rejects: double or not by the owner (R261). -/
def State.badFree (s : State) (sub k num : Nat) : State := (s.bump 0x5001 sub).bufFault 1 k num num 0x5001 sub

/-- One free of one cell (R261); the charge of a packet ends with its last cell (R264). -/
def State.freeCell (s : State) (pool num code : Nat) : State :=
  match s.buf.cell pool num with
  | none => s.badFree 1 (s.poolOfCell pool num) num
  | some c =>
    if c.count = 0 then s.badFree 1 (s.poolOfCell pool num) num
    else if c.owner ≠ code then s.badFree 2 (s.poolOfCell pool num) num
    else if c.count = 1 then
      { s with buf := { s.buf with
          cells := dropFirst (fun x => x.pool == pool && x.num == num) s.buf.cells
          charges := if pool = 0 then s.buf.charges.filter (fun x => x.last != num) else s.buf.charges } }
    else
      { s with buf := { s.buf with
          cells := modFirst (fun x => x.pool == pool && x.num == num) (fun x => { x with count := x.count - 1 })
            s.buf.cells } }

/-- A free of a block: its one reference goes with it. -/
def State.freeBlock (s : State) (num code : Nat) : State :=
  match s.buf.block num with
  | none => s.badFree 1 2 num
  | some b =>
    if b.owner ≠ code then s.badFree 2 2 num
    else { s with buf := { s.buf with blocks := dropFirst (fun x => x.num == num) s.buf.blocks } }

/-- A free of a unit of a pool. -/
def State.freeUnit (s : State) (k num code : Nat) : State :=
  if k = 2 then s.freeBlock num code else s.freeCell (unitKind k) num code

/-- Frees of one cycle in rising holder code (R262). -/
def sortFrees (l : List (Nat × Nat)) : List (Nat × Nat) := sortBy (·.2) l

/-- CELL_FREE: the frees of one cycle applied one after another (R261, R262), levels and pauses after them. -/
def State.freeCells (s : State) (k : Nat) (frees : List (Nat × Nat)) : State :=
  let ports := s.buf.pfcPorts
  (((sortFrees frees).foldl (fun s f => s.freeUnit k f.1 f.2) s).poolSync k).pfcSyncAll ports

/-- One cell handed over by the holder `code`, or the attempt of another holder handled as a non-owner free (R260). -/
def State.handCell (s : State) (pool num code dst count : Nat) : State :=
  match s.buf.cell pool num with
  | some c =>
    if c.owner = code then
      { s with buf := { s.buf with
          cells := modFirst (fun x => x.pool == pool && x.num == num) (fun x => { x with owner := dst, count := count })
            s.buf.cells } }
    else s.badFree 2 (s.poolOfCell pool num) num
  | none => s.badFree 2 (s.poolOfCell pool num) num

/-- HANDOVER_OF_CELLS (R260): holders 1 to 6, a count of 1 to 4,095. -/
def State.handover (s : State) (k : Nat) (cells : List Nat) (code dst count : Nat) : State :=
  if k = 2 ∨ dst = 0 ∨ dst = 7 ∨ count = 0 ∨ 4095 < count then s
  else cells.foldl (fun s n => s.handCell (unitKind k) n code dst count) s

/-- POOL_ACCOUNT_MISMATCH (R265). -/
def State.poolMismatch (s : State) (k : Nat) : State := s.bufFault 2 k (2 ^ 29 - 1) k 0 0

/-- PFC_REFRESH (R290): a port and priority in XOFF whose last pause is half its quanta old sends it again; one quantum is
512 bit times at the port rate of `rate` Gb/s. -/
def State.pfcRefresh (s : State) (port prio rate : Nat) : State :=
  match s.buf.xoff.find? (fun x => x.1 == port && x.2.1 == prio) with
  | none => s
  | some (_, _, at_) =>
    let q := s.obj (0x5080 + port) 7
    if rate = 0 ∨ (s.clock.now - at_) * 2 * rate < q * 512 * Config.ns then s
    else
      let x := s.buf.xoff.map (fun e => if e.1 = port ∧ e.2.1 = prio then (port, prio, s.clock.now) else e)
      { s with buf := { s.buf with xoff := x } }.sendPfc port [(prio, q)]

/-! ### Reserved totals (R271) -/

/-- The headroom of every line port (R271). -/
def State.headroomTotal (s : State) : Nat := sumOf (fun p => s.obj (0x5080 + p) 6) (List.range 128)

/-- The reservation limit of a side: 3/4 of its partition (R271). -/
def State.reserveLimit (s : State) (k : Nat) : Nat := s.poolSize k * 3 / 4

/-- The octets of an inspected descriptor (0x5002:03): R255 or R257 as a little-endian 128-bit value; a withdrawn block reads
Allocated, Cells 0 (R531). A free cell shows its
free list's link, 0 as after reset while every cell is free (log entry 128). -/
def State.inspect (s : State) : Nat :=
  let n := s.obj 0x5002 2
  let kind := s.obj 0x5002 1
  if kind = 1 then
    match s.buf.block n with
    | none => if s.record.mem.spares.blockOut n then 2 ^ 127 else 0
    | some b => 2 ^ 127 + b.owner * 2 ^ 124 + b.cells * 2 ^ 120 + b.lastMap * 2 ^ 112 + b.badMap * 2 ^ 104 +
        b.next * 2 ^ 32 + b.qid
  else match s.buf.cell (if kind = 2 then 2 else 0) n with
  | none => if s.buf.cells.isEmpty then 0 else Config.freeLink (kind * 2 ^ 20 + n) % 2 ^ (if kind = 2 then 17 else 20)
  | some c => c.owner * 2 ^ 37 + c.count * 2 ^ 25 + flag c.last * 2 ^ 24 + flag c.bad * 2 ^ 23 + c.next

end Sys2Proof.Machine
end

