-- ==== Sys2Proof/Machine/Parser.lean ====
section
/-! DEFINITION. The parser (chapter 4, R125 to R139, R142): header instances, depth, lengths that contradict, fragments,
the parser's own punts, and extraction into the header vector. -/

namespace Sys2Proof.Machine

/-- A parser profile (R158, 0x4110 + n). -/
structure Profile where
  enabled : Nat
  vxlan : Nat
  punts : Nat
  map : List Byte
  deriving DecidableEq, Repr

/-- The kinds of header that R126 can name as the next one. -/
inductive Hdr where
  | eth | stag | ctag | mpls | ip4 | ip6 | hbh | dopt | rh | frag | gre | udp | vxlan | tcp
  deriving DecidableEq, Repr

/-- The parser at work: position, instances followed (newest first: number, start, length), IP layers followed, whether
the label stack is in use, the end of the present payload, flags, and what stopped it. `fault` is the counter of R133. -/
structure PState where
  off : Nat
  insts : List (Nat × Nat × Nat)
  layers : Nat
  second : Bool
  labels : Bool
  payEnd : Nat
  firstEnd : Option Nat
  flags : Nat
  fault : Option Nat
  next : Option Hdr
  /-- The EtherType at which layer 2 of instance 0 ended, when R126 does not follow it. -/
  unknown : Option Nat
  /-- The last next-header value of the first IPv6 header itself (R137). -/
  hbh : Bool
  deriving DecidableEq, Repr

/-- The enable bit of a kind (R158). -/
def Hdr.enable : Hdr → Nat
  | .eth => 12 | .ctag => 0 | .stag => 1 | .mpls => 2 | .ip4 => 3 | .ip6 => 4
  | .hbh | .dopt | .rh | .frag => 5
  | .gre => 7 | .udp => 8 | .vxlan => 9 | .tcp => 10

/-- The next header of an EtherType (R126). -/
def etherNext (t : Nat) : Option Hdr :=
  if t = 0x88A8 then some .stag else if t = 0x8100 then some .ctag
  else if t = 0x8847 ∨ t = 0x8848 then some .mpls
  else if t = 0x0800 then some .ip4 else if t = 0x86DD then some .ip6 else none

/-- The next header of an IP protocol number after an IPv4 header (R126). -/
def protoNext (p : Nat) : Option Hdr :=
  if p = 4 then some .ip4 else if p = 41 then some .ip6 else if p = 47 then some .gre
  else if p = 17 then some .udp else if p = 6 then some .tcp else none

/-- The next header of an IPv6 Next Header value (R126); hop-by-hop only directly after the IPv6 header. -/
def v6Next (direct : Bool) (p : Nat) : Option Hdr :=
  if p = 0 then (if direct then some .hbh else none)
  else if p = 60 then some .dopt else if p = 43 then some .rh else if p = 44 then some .frag
  else protoNext p

/-- Whether a header is of the second layer in the present position (R126). -/
def PState.isSecond (p : PState) (h : Hdr) : Bool :=
  match h with
  | .eth => true
  | .ip4 | .ip6 => p.second || decide (0 < p.layers)
  | .hbh | .dopt | .rh | .frag | .udp | .tcp => decide (2 ≤ p.layers) || (p.second && decide (1 < p.layers))
  | .stag | .ctag => p.second
  | _ => false

/-- The instance a header would take, none when there is no instance left for it (R125, R128). -/
def PState.instOf (p : PState) (h : Hdr) : Option Nat :=
  let used (n : Nat) : Bool := p.insts.any (fun i => i.1 == n)
  let give (n : Nat) : Option Nat := if used n then none else some n
  match h with
  | .eth => give 26
  | .stag | .ctag =>
    if p.second then give 27 else if used 1 then give 2 else give 1
  | .mpls =>
    match p.insts with
    | (n, _, _) :: _ =>
      if 3 ≤ n ∧ n < 14 then some (n + 1) else if p.labels then none else some 3
    | [] => none
  | .ip4 => if 2 ≤ p.layers then none else if p.isSecond .ip4 then give 28 else give 16
  | .ip6 => if 2 ≤ p.layers then none else if p.isSecond .ip6 then give 29 else give 17
  | .hbh => give (if used 29 then 30 else 18)
  | .dopt => give (if used 29 then 31 else 19)
  | .rh => give (if used 29 then 32 else 20)
  | .frag => give (if used 29 then 33 else 21)
  | .gre => if 2 ≤ p.layers ∨ p.second then none else give 22
  | .udp => give (if used 28 || used 29 then 34 else 23)
  | .vxlan => if 2 ≤ p.layers ∨ p.second then none else give 24
  | .tcp => give (if used 28 || used 29 then 35 else 25)

/-- The length of a header at an offset (R125). -/
def hdrLen (d : List Byte) (o : Nat) : Hdr → Nat
  | .eth => 14
  | .stag | .ctag | .mpls => 4
  | .ip4 => (beAt d o 1 % 16) * 4
  | .ip6 => 40
  | .hbh | .dopt | .rh => (beAt d (o + 1) 1 + 1) * 8
  | .frag | .udp | .vxlan => 8
  | .gre => 4 + 4 * (flag (bit (beAt d o 1) 7) + flag (bit (beAt d o 1) 5) + flag (bit (beAt d o 1) 4))
  | .tcp => (beAt d (o + 12) 1 / 16) * 4

/-- The ones' complement sum of 16-bit words. -/
def onesSum : List Byte → Nat
  | [] => 0
  | [a] => a.toNat * 256
  | a :: b :: r => a.toNat * 256 + b.toNat + onesSum r

/-- The Internet checksum field value over octets whose checksum field is zero. -/
def inetCsum (bs : List Byte) : Nat :=
  let s := onesSum bs
  let f (x : Nat) : Nat := x % 65536 + x / 65536
  0xFFFF - f (f (f s))

/-- The header checksum of an IPv4 header is right: the sum of the header is all ones. -/
def ip4CsumOk (hdr : List Byte) : Bool := inetCsum hdr == 0

/-- The checks of R133 on a header followed at `o` of length `len`: the counter of the first that fails. -/
def lenFault (p : PState) (d : List Byte) (o len : Nat) (h : Hdr) : Option Nat :=
  match h with
  | .ip4 =>
    let total := beAt d (o + 2) 2
    if total > p.payEnd - o then some 3
    else if beAt d o 1 % 16 < 5 ∨ total < len ∨ ¬ ip4CsumOk (bytesAt d o len) then some 4 else none
  | .ip6 =>
    let pl := beAt d (o + 4) 2
    if 40 + pl > p.payEnd - o then some 3 else if pl = 0 then some 4 else none
  | .hbh | .dopt | .frag | .gre | .vxlan => if o + len > p.payEnd then some 4 else none
  | .rh =>
    if o + len > p.payEnd then some 4
    else if beAt d (o + 2) 1 = 4 ∧
        (beAt d (o + 3) 1 > beAt d (o + 4) 1 ∨ (beAt d (o + 4) 1 + 1) * 16 + 8 > len) then some 4
    else none
  | .udp =>
    if o + len > p.payEnd then some 4
    else if beAt d (o + 4) 2 < 8 ∨ beAt d (o + 4) 2 > p.payEnd - o then some 4 else none
  | .tcp => if o + len > p.payEnd ∨ beAt d (o + 12) 1 / 16 < 5 then some 4 else none
  | _ => none

/-- A header is of a kind that the profile enables (R126, R158). -/
def hdrEnabled (pr : Profile) (p : PState) (d : List Byte) (h : Hdr) : Bool :=
  let kind := match h with
    | .eth => bit pr.enabled 11
    | .rh => bit pr.enabled 5 && (beAt d (p.off + 2) 1 != 4 || bit pr.enabled 6)
    | _ => bit pr.enabled h.enable
  kind && (!(p.isSecond h) || bit pr.enabled 11)

/-- What follows a header that has been taken in (R126, R129, R136). -/
def afterHdr (pr : Profile) (p : PState) (d : List Byte) (o len inst : Nat) (h : Hdr) : PState :=
  let e := o + len
  let stop := { p with next := none }
  match h with
  | .eth | .stag | .ctag =>
    let t := beAt d (e - 2) 2
    let n := etherNext t
    { p with next := n, unknown := if p.second then p.unknown else some t }
  | .mpls =>
    if bit (beAt d (o + 2) 1) 0 then
      let nib := beAt d e 1 / 16
      { p with next := if nib = 4 then some .ip4 else if nib = 6 then some .ip6 else none }
    else if inst = 14 then { p with next := none, flags := p.flags ||| 0x11 }
    else { p with next := some .mpls }
  | .ip4 =>
    let ff := beAt d (o + 6) 2
    if bit ff 13 ∨ ff % 8192 ≠ 0 then { stop with flags := p.flags ||| 4 }
    else { p with next := protoNext (beAt d (o + 9) 1) }
  | .ip6 => { p with next := v6Next true (beAt d (o + 6) 1) }
  | .hbh | .dopt | .rh => { p with next := v6Next false (beAt d o 1) }
  | .frag => { stop with flags := p.flags ||| 4 }
  | .gre =>
    if beAt d (o + 1) 1 % 8 ≠ 0 then stop
    else
      let t := beAt d (o + 2) 2
      { p with second := true
               next := if t = 0x6558 then some .eth else if t = 0x0800 then some .ip4
                       else if t = 0x86DD then some .ip6 else if t = 0x8847 then some .mpls else none }
  | .udp => { p with next := if beAt d (o + 2) 2 = pr.vxlan then some .vxlan else none }
  | .vxlan => { p with second := true, next := if bit (beAt d o 1) 3 then some .eth else none }
  | .tcp => stop

/-- One more header: disabled ends the parse, R128 stops it with flag [0], R133 with flag [1]; an Ethernet, tag or label
header that would end beyond its payload is not followed and sets no flag, since R133 names none (log entry 123). -/
def parseStep (pr : Profile) (d : List Byte) (p : PState) : PState :=
  match p.next with
  | none => p
  | some h =>
    let o := p.off
    let len := hdrLen d o h
    if ¬ hdrEnabled pr p d h then { p with next := none }
    else match p.instOf h with
    | none => { p with next := none, flags := p.flags ||| 1 }
    | some inst =>
      if p.insts.length ≥ 16 ∨ o + len > 384 then { p with next := none, flags := p.flags ||| 1 }
      else if (h = .eth ∨ h = .stag ∨ h = .ctag ∨ h = .mpls) ∧ o + len > p.payEnd then { p with next := none }
      else match lenFault p d o len h with
      | some c =>
        { p with next := none, flags := p.flags ||| 2, fault := some c, off := o + len
                 insts := (inst, o, len) :: p.insts }
      | none =>
        let ipEnd := match h with
          | .ip4 => o + beAt d (o + 2) 2
          | .ip6 => o + 40 + beAt d (o + 4) 2
          | _ => p.payEnd
        let isIp := h = .ip4 ∨ h = .ip6
        let p1 := { p with
          off := o + len
          insts := (inst, o, len) :: p.insts
          layers := if isIp then p.layers + 1 else p.layers
          labels := p.labels || h == .mpls
          unknown := if inst = 1 ∨ inst = 2 ∨ p.second then p.unknown else none
          flags := if isIp ∧ ipEnd < p.payEnd then p.flags ||| 8 else p.flags
          firstEnd := if isIp ∧ p.layers = 0 then some ipEnd else p.firstEnd
          payEnd := ipEnd
          hbh := p.hbh || (h == .ip6 && p.layers == 0 && beAt d (o + 6) 1 == 0) }
        afterHdr pr p1 d o len inst h

/-- Repeated parse steps. -/
def parseSteps (pr : Profile) (d : List Byte) : Nat → PState → PState
  | 0, p => p
  | n + 1, p => parseSteps pr d n (parseStep pr d p)

/-- The parse of a frame without FCS. A frame too short for an Ethernet header has no instance. -/
def parse (pr : Profile) (d : List Byte) : PState :=
  let p0 : PState := ⟨0, [], 0, false, false, d.length, none, 0, none, none, none, false⟩
  if d.length < 14 then p0
  else
    parseSteps pr d 20
      (afterHdr pr { p0 with off := 14, insts := [(0, 0, 14)] } d 0 14 0 .eth)

/-- An instance was followed. -/
def PState.has (p : PState) (n : Nat) : Bool := p.insts.any (fun i => i.1 == n)

/-- The parse reach (R130). -/
def PState.reach (p : PState) : Nat := p.insts.length * 2 ^ 11 + p.off % 512

/-- The header valid map: one bit for each instance followed. -/
def PState.valid (p : PState) : Nat := p.insts.foldl (fun m i => setBit m i.1 true) 0

/-- The part's own punt of a frame (R137, R139): reason, class register, detail. -/
def PState.punt (pr : Profile) (p : PState) (d : List Byte) : Option (Nat × Nat × Nat) :=
  let dst := beAt d 0 6
  let opts4 := p.insts.any (fun i => i.1 == 16 && decide (20 < i.2.2))
  if bit pr.punts 0 ∧ 0x0180C2000000 ≤ dst ∧ dst ≤ 0x0180C200000F then some (0xFF02, 2, dst % 256)
  else if bit pr.punts 1 ∧ p.unknown.isSome ∧ ¬ bit p.flags 0 then some (0xFF03, 3, p.unknown.getD 0)
  else if bit pr.punts 2 ∧ opts4 then some (0xFF04, 4, 16)
  else if bit pr.punts 2 ∧ p.has 18 then some (0xFF04, 4, 18)
  else if bit pr.punts 2 ∧ p.hbh then some (0xFF04, 4, 17)
  else none

/-- The extraction area of an instance: start, length (R142); none when it is not extracted. -/
def Profile.area (pr : Profile) (inst : Nat) : Option (Nat × Nat) :=
  let st := leAt pr.map (4 * inst) 2
  let ln := leAt pr.map (4 * inst + 2) 1
  if st = 0xFFFF then none else some (st, ln)

/-- The bytes of an instance as R127 and R142 extract them. -/
def instBytes (d : List Byte) (inst o len : Nat) : List Byte :=
  if (inst = 20 ∨ inst = 32) ∧ beAt d (o + 2) 1 = 4 then
    bytesAt d o 8 ++ bytesAt d (o + 8 + 16 * beAt d (o + 3) 1) 16
  else bytesAt d o len

/-- Vector bytes 0 to 511 after extraction (R125, R142). -/
def extract (pr : Profile) (d : List Byte) (p : PState) : List Byte :=
  p.insts.foldl (fun hv i =>
    match pr.area i.1 with
    | none => hv
    | some (st, ln) => putBytes hv st ((instBytes d i.1 i.2.1 i.2.2).take ln)) (zeros 512)

end Sys2Proof.Machine
end

