-- ==== Sys2Proof/Machine/Tables.lean ====
section
/-! DEFINITION. Tables (chapter 5): versions, lookups, learned buckets, counter pairs, locks. -/

namespace Sys2Proof.Machine

/-! ### Table numbers (R159) -/

/-- The kinds of 0x4400 + n:01: 1 LPM, 2 direct, 3 learned, 4 classification, 5 counter; 0 no table. -/
def tableKind (n : Nat) : Nat :=
  if n = 0x10 ∨ n = 0x11 then 1
  else if (0x20 ≤ n ∧ n ≤ 0x23) ∨ (0x30 ≤ n ∧ n ≤ 0x33) ∨ (0x40 ≤ n ∧ n ≤ 0x42) then 2
  else if 0x50 ≤ n ∧ n ≤ 0x57 then 3
  else if 0x60 ≤ n ∧ n ≤ 0x7F then 4
  else if n = 0x80 then 5 else 0

/-- The table changes by transactions (R159). -/
def isVersioned (n : Nat) : Bool := let k := tableKind n; k == 1 || k == 2 || k == 4

/-- The entries of a table whose entries are indexed (R159, R222). -/
def tableEntries (n : Nat) : Nat :=
  if 0x20 ≤ n ∧ n ≤ 0x23 then 1048576
  else if n = 0x30 then 4096 else if n = 0x31 then 65536 else if n = 0x32 then 256 else if n = 0x33 then 16384
  else if n = 0x40 then 1048576 else if n = 0x41 then 65536 else if n = 0x42 then 4718592
  else if 0x60 ≤ n ∧ n ≤ 0x7F then 262144
  else if n = 0x10 ∨ n = 0x11 then 4194304
  else if n = 0x80 then 16777216 else 0

/-- The bits of an entry (R159, R220). -/
def entryBytes (n : Nat) : Nat :=
  if n = 0x10 ∨ n = 0x11 then 32
  else if (0x20 ≤ n ∧ n ≤ 0x23) ∨ (0x30 ≤ n ∧ n ≤ 0x33) then 8
  else if n = 0x40 then 16 else if n = 0x41 then 2 else if n = 0x42 then 4
  else if 0x60 ≤ n ∧ n ≤ 0x7F then 176 else 0

/-- Central reads of a port bound to the table (R162, 0x4400 + n:06). -/
def centralReads (n : Nat) : Nat :=
  if n = 0x30 ∨ n = 0x32 ∨ n = 0x33 ∨ n = 0x41 ∨ n = 0x80 ∨ tableKind n = 0 then 0 else 1

/-- Stage-local need in KiB of a port bound to the table (R162, 0x4400 + n:07). -/
def stageLocal (n : Nat) : Nat :=
  if n = 0x10 ∨ n = 0x11 then 128
  else if n = 0x30 then 32 else if n = 0x32 then 2 else if n = 0x33 then 128 else if n = 0x41 then 80
  else if tableKind n = 4 then 64 else 0

/-- Width in bits of a classification table (R706). -/
def State.ruleWidth (s : State) (n : Nat) : Nat := 160 * 2 ^ s.obj (0x4400 + n) 9

/-- The widest key that a port of the table takes; a wider one is refused for direct (R171) and classification tables
(R706), and cut to its most significant bits elsewhere. -/
def State.keyWidth (s : State) (n : Nat) : Nat :=
  if n = 0x10 then 44 else if n = 0x11 then 140
  else if 0x20 ≤ n ∧ n ≤ 0x23 then 20
  else if n = 0x30 then 12 else if n = 0x31 then 16 else if n = 0x32 then 8 else if n = 0x33 then 14
  else if n = 0x40 then 20 else if n = 0x41 then 16
  else if tableKind n = 3 then s.obj (0x4610 + (n - 0x50)) 5
  else if tableKind n = 4 then s.ruleWidth n else 0

/-! ### Versions and epochs -/

/-- The entry of a table as the commits numbered up to `c` left it (R218); 0 where none wrote it. The list runs newest
first. -/
def verAt (vs : List Ver) (table key c : Nat) : Nat :=
  match vs.find? (fun v => v.table == table && v.key == key && decide (v.commit ≤ c)) with
  | some v => v.data
  | none => 0

/-- The keys of a table that any version names. -/
def verKeys (vs : List Ver) (table : Nat) : List Nat :=
  ((vs.filter (fun v => v.table == table)).map (·.key)).dedup

/-- The commit a tag names: the newest number with that residue, 0 when there is none yet (R216, 0x4502). -/
def tagCommit (commit tag : Nat) : Nat :=
  let back := (commit + 8 - tag % 8) % 8
  if back ≤ commit then commit - back else 0

/-- The key of a route: VRF, length, prefix (R167). -/
def routeKey (vrf len pfx : Nat) : Nat := vrf * 2 ^ 136 + len * 2 ^ 128 + pfx

/-- The key of a route entry. -/
def routeKeyOf (data : Nat) : Nat := routeKey (bits data 243 232) (bits data 231 224) (bits data 223 96)

/-- A 128-bit address cut to a prefix length. -/
def cutPrefix (addr len : Nat) : Nat := addr - addr % 2 ^ (128 - len)

/-- The longest route of a VRF that covers an address (R170): `fuel` is one more than the longest length tried. -/
def lpmFind (vs : List Ver) (table c vrf addr : Nat) : Nat → Option Nat
  | 0 => none
  | n + 1 =>
    let d := verAt vs table (routeKey vrf n (cutPrefix addr n)) c
    if bit d 255 then some d else lpmFind vs table c vrf addr n

/-- The lowest slot of the lowest priority that matches a key (R149): rules as 176-byte entries, value and mask in
their first `w` bits. -/
def ruleMatches (w key data : Nat) : Bool :=
  let control := data / 2 ^ (175 * 8)
  let value := (data / 2 ^ (80 * 8)) % 2 ^ 640 / 2 ^ (640 - w)
  let mask := data % 2 ^ 640 / 2 ^ (640 - w)
  bit control 7 && (key &&& mask) == value

/-- Bytes `o` to `o + n - 1` of a 176-byte rule entry. -/
def ruleField (data o n : Nat) : Nat := (data / 2 ^ ((176 - o - n) * 8)) % 2 ^ (8 * n)

/-- The better of two matches: lower priority number, then lower slot. -/
def ruleBetter (a : Option (Nat × Nat × Nat)) (p slot data : Nat) : Option (Nat × Nat × Nat) :=
  match a with
  | none => some (p, slot, data)
  | some (p', slot', d') => if p < p' ∨ (p = p' ∧ slot < slot') then some (p, slot, data) else some (p', slot', d')

/-- The matching rule of a classification table: priority, slot, entry (R149). -/
def ruleFind (vs : List Ver) (table c w key : Nat) : Option (Nat × Nat × Nat) :=
  (verKeys vs table).foldl (fun best slot =>
    let d := verAt vs table slot c
    if ruleMatches w key d then ruleBetter best (ruleField d 2 2) slot d else best) none

/-! ### Lines -/

/-- The protection state of a line. -/
def Tables.lineAt (t : Tables) (table line : Nat) : Option LineState :=
  t.lines.find? (fun l => l.table == table && l.line == line)

/-- A line is poisoned (R206, R208). -/
def Tables.poisoned (t : Tables) (table line : Nat) : Bool :=
  match t.lineAt table line with
  | some l => l.poisoned
  | none => false

/-- The line states with one replaced; a line with no damage is not listed. -/
def Tables.setLine (t : Tables) (table line : Nat) (poisoned backingBad : Bool) : Tables :=
  let rest := t.lines.filter (fun l => !(l.table == table && l.line == line))
  { t with lines := if poisoned || backingBad then ⟨table, line, poisoned, backingBad, []⟩ :: rest else rest }

/-- The bucket in which a rule stands validly (R707). -/
def Tables.ruleBucket (t : Tables) (table slot : Nat) : Option Nat :=
  (t.places.find? (fun p => p.table == table && p.slot == slot && p.valid)).map (·.bucket)

/-- The line in which an entry of a versioned table stands: the leaf bucket of a route, the bucket of a rule, else the
entry itself (log entry 14). -/
def Tables.lineOf (t : Tables) (table key : Nat) : Nat :=
  if tableKind table = 1 then Config.leafBucket table (key / 2 ^ 136) (key % 2 ^ 128)
  else if tableKind table = 4 then (t.ruleBucket table key).getD 0 else key

/-- A version lies in a line. -/
def Tables.inLine (t : Tables) (table line : Nat) (v : Ver) : Bool :=
  v.table == table && t.lineOf table v.key == line

/-- The versions of `new` laid over those of `old`, entry by entry. -/
def overlay (new old : List Ver) : List Ver :=
  new ++ old.filter (fun v => !new.any (fun w => w.table == v.table && w.key == v.key))

/-- The backing copies of the lines that a commit changes, written (R205). -/
def Tables.writeBack (t : Tables) (new : List Ver) : Tables := { t with back := overlay new t.back }

/-- A line rewritten from its backing copy, which lifts its poison (R206, R209, R211): the newest version of each of its
entries is that of the backing copy; older versions stand in the shadow pool and stay. -/
def Tables.restoreLine (t : Tables) (table line : Nat) : Tables :=
  let b := t.back.filter (t.inLine table line)
  let old := t.vers.filter (fun v => !b.any (fun w => w.table == v.table && w.key == v.key && w.commit ≤ v.commit))
  { t.setLine table line false false with vers := b ++ old }

/-- A backing copy rewritten from its on-die line (R209, R210). -/
def Tables.saveLine (t : Tables) (table line : Nat) : Tables :=
  t.writeBack ((t.vers.filter (t.inLine table line)).foldr (fun v l =>
    v :: l.filter (fun w => w.key != v.key)) [])

/-- The epoch stamp of a line among some versions: the commit that last wrote it (R205, R209). -/
def Tables.lineStamp (t : Tables) (vs : List Ver) (table line : Nat) : Nat :=
  maxOf (fun (v : Ver) => v.commit) (vs.filter (t.inLine table line))

/-- A line stands in the reserve: its bank has been re-laid, or the step that moves it is done (R211). `done` gives the
steps done of a bank being re-laid. -/
def inReserve (relaid : List Nat) (done : Nat → Nat) (table line : Nat) : Bool :=
  let b := Config.linePlace table line / 128 % 128
  relaid.contains b || decide (Config.linePlace table line % 128 < done b)

/-! ### The places of rules (R152, R153, R707) -/

/-- The rules that stand in a bucket of a table. -/
def Tables.bucketRules (t : Tables) (table b : Nat) : List RulePlace :=
  t.places.filter (fun p => p.table == table && p.bucket == b)

/-- A rule's body written into a bucket, its valid bit clear: the first write of R152. -/
def Tables.writeBody (t : Tables) (table slot b : Nat) : Tables :=
  { t with places := t.places ++ [⟨table, slot, b, false⟩] }

/-- The valid bit of a rule set in a bucket that holds its body: the second write of R152. -/
def Tables.setValid (t : Tables) (table slot b : Nat) : Tables :=
  { t with places := t.places.map (fun p =>
      if p.table == table && p.slot == slot && p.bucket == b then { p with valid := true } else p) }

/-- The valid bit of a rule cleared in a bucket: the last write of R152. -/
def Tables.clearValid (t : Tables) (table slot b : Nat) : Tables :=
  { t with places := t.places.filter (fun p => !(p.table == table && p.slot == slot && p.bucket == b)) }

/-- A rule placed in a bucket (R152). -/
def Tables.place (t : Tables) (table slot b : Nat) : Tables := (t.writeBody table slot b).setValid table slot b

/-- A rule moved from one bucket to another: body, valid bit, and only then the source (R152). -/
def Tables.moveRule (t : Tables) (table slot src dst : Nat) : Tables :=
  (t.place table slot dst).clearValid table slot src

/-- The first bucket of a table at or after `b` in which no rule stands. -/
def Tables.emptyBucket (t : Tables) (table : Nat) : Nat → Nat → Nat
  | 0, b => b
  | n + 1, b => if (t.bucketRules table b).isEmpty then b else t.emptyBucket table n (b + 1)

/-- Rules leave the bucket `src` for `dst`, each move counted (R152, R707). -/
def State.moveRules (s : State) (table src dst : Nat) (l : List RulePlace) : State :=
  l.foldl (fun s p => { s with tables := s.tables.moveRule table p.slot src dst }.bump 0x4200 4) s

/-- A rule that stands nowhere is placed: the search index, a free value of the model, names its bucket; a bucket of
eight rules is split first, four of them moving into an empty one (R152, R707, log entry 122). -/
def State.placeRule (s : State) (table slot : Nat) : State :=
  if (s.tables.ruleBucket table slot).isSome then s
  else
    let (b, s) := s.fresh
    let l := s.tables.bucketRules table b
    let s := if l.length < 8 then s
      else s.moveRules table b (s.tables.emptyBucket table (s.tables.places.length + 1) b) (l.drop 4)
    { s with tables := s.tables.place table slot b }

/-- Two buckets of a table that hold at most four rules together may be merged: a free value says whether they are
(R707, log entry 122). -/
def State.mergeBucket (s : State) (table b : Nat) : State :=
  let l := s.tables.bucketRules table b
  match s.tables.places.find? (fun p => p.table == table && p.bucket != b &&
      decide ((s.tables.bucketRules table p.bucket).length + l.length ≤ 4)) with
  | none => s
  | some p =>
    let (v, s) := s.fresh
    if v % 2 = 1 then s.moveRules table b p.bucket l else s

/-- A rule that no live version makes valid leaves its bucket, which may then be merged with another. -/
def State.unplaceRule (s : State) (p : RulePlace) : State :=
  { s with tables := s.tables.clearValid p.table p.slot p.bucket }.mergeBucket p.table p.bucket

/-! ### Counter pairs (R195, R196, R202) -/

/-- The block of 8 counter pairs that an index lies in. -/
def counterBlock (idx : Nat) : Nat := idx / 8

/-- The lock on a target. -/
def Tables.lockOf (t : Tables) (target : LockTarget) : Option Lock := t.locks.find? (fun l => l.target == target)

/-- A counter block's lock target, for indices that exist. -/
def blockTarget (k : Nat) : LockTarget := .block (Fin.ofNat 2097152 k)

/-- A bucket's lock target. -/
def bucketTarget (b : Nat) : LockTarget := .bucket (Fin.ofNat 262144 b)

/-- A credit of one packet and `len` bytes to a pair; a locked block collects it aside; no pair, no credit. -/
def Tables.credit (t : Tables) (idx len : Nat) : Tables :=
  if idx > 16777215 then t
  else match t.lockOf (blockTarget (counterBlock idx)) with
  | some l =>
    let add (x : Lock) : Lock :=
      { x with
        packets := nset x.packets idx (nget x.packets idx 0 + 1) 0
        bytes := nset x.bytes idx (nget x.bytes idx 0 + len) 0 }
    { t with locks := modFirst (fun x => x.target == l.target) add t.locks }
  | none =>
    { t with packets := nset t.packets idx ((nget t.packets idx 0 + 1) % 2 ^ 64) 0
             bytes := nset t.bytes idx ((nget t.bytes idx 0 + len) % 2 ^ 64) 0 }

/-- A pair as its 128-bit value (R195). -/
def Tables.pair (t : Tables) (idx : Nat) : Nat := nget t.bytes idx 0 * 2 ^ 64 + nget t.packets idx 0

/-- A pair written. -/
def Tables.setPair (t : Tables) (idx v : Nat) : Tables :=
  { t with packets := nset t.packets idx (v % 2 ^ 64) 0, bytes := nset t.bytes idx (v / 2 ^ 64 % 2 ^ 64) 0 }

/-! ### Locks (R197 to R203) -/

/-- The collected credits of a lock added to their pairs (R202). -/
def Tables.settleCredits (t : Tables) (l : Lock) : Tables :=
  { t with
    packets := l.packets.foldl (fun m c => nset m c.1 ((nget m c.1 0 + c.2) % 2 ^ 64) 0) t.packets
    bytes := l.bytes.foldl (fun m c => nset m c.1 ((nget m c.1 0 + c.2) % 2 ^ 64) 0) t.bytes }

/-- A lock released. -/
def Tables.unlock (t : Tables) (target : LockTarget) : Tables :=
  match t.lockOf target with
  | none => t
  | some l => { t.settleCredits l with locks := dropFirst (fun x => x.target == target) t.locks }

/-- An acquire: granted when the word is free and one of the 64 lock slots is (R198). -/
def Tables.lock (t : Tables) (target : LockTarget) (who : Holder) (now : Tick) : Tables :=
  match t.lockOf target with
  | some _ => t
  | none => if t.locks.length < 64 then { t with locks := t.locks ++ [⟨target, who, now, [], []⟩] } else t

/-- The code of a holder in a lock word. -/
def holderCode : Holder → Nat
  | .dma e => e.val + 1
  | .window => 8

/-- The requester identifier of a holder (R203). -/
def holderRequester : Holder → Nat
  | .dma e => engineId e.val
  | .window => 0x2021

/-- The lock word of a target (R197). -/
def Tables.lockWord (t : Tables) (target : LockTarget) : Nat :=
  match t.lockOf target with
  | some l => 2 ^ 31 + holderCode l.holder * 2 ^ 24
  | none => 0

/-- A requester holds a lock. -/
def Tables.holds (t : Tables) (target : LockTarget) (who : Holder) : Bool :=
  match t.lockOf target with
  | some l => l.holder == who
  | none => false

/-- A bucket is locked (R201). -/
def Tables.locked (t : Tables) (b : Nat) : Bool := (t.lockOf (bucketTarget b)).isSome

/-! ### Learned tables (R181 to R194, R708) -/

/-- The buckets of a learned table. -/
def State.bucketCount (s : State) (t : Nat) : Nat := s.obj (0x4610 + t) 1 * 8192

/-- The first bucket of a learned table (R708). -/
def State.firstBucket (s : State) : Nat → Nat
  | 0 => 0
  | t + 1 => s.firstBucket t + s.bucketCount t

/-- The learned table a bucket belongs to. -/
def State.bucketTable (s : State) (b : Nat) : Option Nat :=
  (List.range 8).find? (fun t => decide (s.firstBucket t ≤ b) && decide (b < s.firstBucket t + s.bucketCount t))

/-- The key of an entry in the low bits of the table's width (R182). -/
def learnedKey (w e : Nat) : Nat := bits e 231 104 / 2 ^ (128 - w)

/-- The octets fed to the hash of a key of width `w` (R183). -/
def learnedKeyBytes (w key : Nat) : List Byte :=
  let n := (w + 7) / 8
  beBytes n (key * 2 ^ (8 * n - w))

/-- The two candidate buckets of a key (R183). -/
def State.candidates (s : State) (t key : Nat) : Nat × Nat :=
  let w := s.obj (0x4610 + t) 5
  let n := s.bucketCount t
  let seeds := s.obj (0x4610 + t) 0x0C
  let bs := learnedKeyBytes w key
  let a := crc32cSeed (seeds / 2 ^ 32) bs % n
  let b := crc32cSeed (seeds % 2 ^ 32) bs % n
  let f := s.firstBucket t
  (f + a, f + (if a = b then (a + 1) % n else b))

/-- An entry of a learned bucket. -/
def Tables.slotAt (t : Tables) (b i : Nat) : Nat := nget t.learned (b * 8 + i) 0

/-- An entry of a learned bucket written. -/
def Tables.setSlot (t : Tables) (b i v : Nat) : Tables := { t with learned := nset t.learned (b * 8 + i) v 0 }

/-- A learned entry is valid. -/
def entryValid (e : Nat) : Bool := bit e 255

/-- A learned entry is static. -/
def entryStatic (e : Nat) : Bool := bit e 254

/-- The slot of a bucket that holds a key. -/
def Tables.findKey (t : Tables) (w b key : Nat) : Option Nat :=
  (List.range 8).find? (fun i => let e := t.slotAt b i; entryValid e && learnedKey w e == key)

/-- The lowest free slot of a bucket. -/
def Tables.freeSlot (t : Tables) (b : Nat) : Option Nat := (List.range 8).find? (fun i => !entryValid (t.slotAt b i))

/-- The tick count of a learned table. -/
def Tables.tickNow (t : Tables) (tbl : Nat) : Nat := nget t.tickCount tbl 0

/-- An entry with its age stamp at the current tick (R185). -/
def Tables.stamp (t : Tables) (tbl e : Nat) : Nat := setBits e 247 232 (t.tickNow tbl)

/-- The entry that the learning engine writes (R187). -/
def Tables.newEntry (t : Tables) (tbl w key result : Nat) : Nat :=
  2 ^ 255 + t.tickNow tbl * 2 ^ 232 + key * 2 ^ (128 - w) * 2 ^ 104 + 0xFFFFFFFF * 2 ^ 72 + result % 2 ^ 64

/-- The other candidate bucket of the entry in a slot. -/
def State.otherBucket (s : State) (tbl b e : Nat) : Nat :=
  let (x, y) := s.candidates tbl (learnedKey (s.obj (0x4610 + tbl) 5) e)
  if b = x then y else x

/-- One level of the breadth-first search of R188. A path lists the slots whose entries move, the deepest first; a path
whose deepest entry has a free slot in its other bucket ends the search. -/
def State.relocStep (s : State) (tbl : Nat) (paths : List (List (Nat × Nat))) :
    Option (List (Nat × Nat) × (Nat × Nat)) :=
  paths.findSome? (fun p => match p with
    | [] => none
    | (b, i) :: _ =>
      let o := s.otherBucket tbl b (s.tables.slotAt b i)
      if s.tables.locked o then none else (s.tables.freeSlot o).map (fun j => (p, (o, j))))

/-- The paths of one more move, through buckets not locked and not on the path. -/
def State.relocExpand (s : State) (tbl : Nat) (paths : List (List (Nat × Nat))) : List (List (Nat × Nat)) :=
  paths.flatMap (fun p => match p with
    | [] => []
    | (b, i) :: _ =>
      let o := s.otherBucket tbl b (s.tables.slotAt b i)
      if s.tables.locked o || p.any (fun x => x.1 == o) then []
      else (List.range 8).map (fun j => (o, j) :: p))

/-- The breadth-first search of R188, at most `n` moves deep. -/
def State.relocSearch (s : State) (tbl : Nat) : Nat → List (List (Nat × Nat)) → Option (List (Nat × Nat) × (Nat × Nat))
  | 0, _ => none
  | n + 1, paths =>
    match s.relocStep tbl paths with
    | some r => some r
    | none => s.relocSearch tbl n (s.relocExpand tbl paths)

/-- The moves of a path, from its far end backwards (R188, R189): each slot's entry goes to `dst`. -/
def Tables.doMoves (t : Tables) (dst : Nat × Nat) : List (Nat × Nat) → Tables
  | [] => t
  | src :: rest => (t.setSlot dst.1 dst.2 (t.slotAt src.1 src.2)).doMoves src rest

/-- The non-static entries of the candidate buckets, in the order of R191. -/
def Tables.evictable (t : Tables) (a b : Nat) : List (Nat × Nat) :=
  let of (x : Nat) := ((List.range 8).filter (fun i => !entryStatic (t.slotAt x i))).map (fun i => (x, i))
  of a ++ of b

/-- The age of an entry in ticks (R192). -/
def Tables.age (t : Tables) (tbl e : Nat) : Nat := (t.tickNow tbl + 65536 - bits e 247 232) % 65536

/-- The entry evicted under policy 0: greatest age, then lower slot, then the first candidate (R191). -/
def Tables.oldestOf (t : Tables) (tbl : Nat) : List (Nat × Nat) → Option (Nat × Nat)
  | [] => none
  | x :: r =>
    match t.oldestOf tbl r with
    | none => some x
    | some y =>
      let ax := t.age tbl (t.slotAt x.1 x.2)
      let ay := t.age tbl (t.slotAt y.1 y.2)
      if ax > ay ∨ (ax = ay ∧ x.2 ≤ y.2) then some x else some y

/-- The entry that the eviction policy of a table chooses (R191). -/
def State.victim (s : State) (tbl a b : Nat) : Option (Nat × Nat) :=
  let l := s.tables.evictable a b
  if s.obj (0x4610 + tbl) 2 = 0 then s.tables.oldestOf tbl l
  else match l with
    | [] => none
    | _ => l[lfsrAt ((s.clock.now - s.tables.lfsrBase) / Config.core) % l.length]?

/-- The state with its tables changed. -/
def State.setTables (s : State) (t : Tables) : State := { s with tables := t }

/-- A notification handled by the learning engine: the first case of R187 that holds. -/
def State.learn (s : State) (n : Learn) : State :=
  let tbl := n.tbl
  let w := s.obj (0x4610 + tbl) 5
  let bump (s : State) (c : Nat) : State := s.bump (0x4610 + tbl) c
  if s.bucketCount tbl = 0 then bump s 0x0A
  else
    let (a, b) := s.candidates tbl n.key
    let t := s.tables
    let at_ (x : Nat) : Option (Nat × Nat) :=
      if t.locked x then none else (t.findKey w x n.key).map (fun i => (x, i))
    match (at_ a).or (at_ b) with
    | some (x, i) =>
      let e := t.slotAt x i
      let e := if bits e 63 0 ≠ n.result ∧ ¬ entryStatic e then setBits e 63 0 n.result else e
      bump (s.setTables (t.setSlot x i (t.stamp tbl e))) 7
    | none =>
      if t.locked a ∨ t.locked b then bump s 0x0D
      else
        let new := t.newEntry tbl w n.key n.result
        let free := ((t.freeSlot a).map (fun i => (a, i))).or ((t.freeSlot b).map (fun i => (b, i)))
        match free with
        | some (x, i) => bump (s.setTables (t.setSlot x i new)) 6
        | none =>
          let start := ((List.range 8).map (fun i => [(a, i)])) ++ ((List.range 8).map (fun i => [(b, i)]))
          match s.relocSearch tbl 4 start with
          | some (path, dst) =>
            let t' := t.doMoves dst path
            match path.getLast? with
            | some (x, i) => bump (s.setTables (t'.setSlot x i new)) 8
            | none => s
          | none =>
            match s.victim tbl a b with
            | some (x, i) => bump (s.setTables (t.setSlot x i new)) 9
            | none => bump s 0x0A

/-- An entry has reached its table's age limit (R192). -/
def State.expired (s : State) (tbl e : Nat) : Bool :=
  let limit := s.obj (0x4610 + tbl) 4
  entryValid e && !entryStatic e && limit != 0 && decide (limit ≤ s.tables.age tbl e)

/-- The sweep's visit to one slot: an expired entry's valid bit is cleared in the access that reads its stamp (R193). -/
def State.sweepSlot (s : State) (tbl b i : Nat) : State :=
  let e := s.tables.slotAt b i
  if s.expired tbl e then
    let t := s.tables.setSlot b i (setBit e 255 false)
    let c := s.coreCycle
    (s.setTables { t with swept := (b * 8 + i, c) :: t.swept.filter (fun x => x.2 == c) }).bump (0x4610 + tbl) 0x0B
  else s

/-- A hit and a removal that reach one entry in one CORE cycle: the hit prevails, the entry stays and is not counted as
aged out (R194). -/
def State.unsweep (s : State) (tbl key b : Nat) : State :=
  let w := s.obj (0x4610 + tbl) 5
  match s.tables.swept.find? (fun x => x.1 / 8 == b && x.2 == s.coreCycle &&
      !entryValid (s.tables.slotAt b (x.1 % 8)) && learnedKey w (s.tables.slotAt b (x.1 % 8)) == key) with
  | none => s
  | some x =>
    let t := s.tables.setSlot b (x.1 % 8) (setBit (s.tables.slotAt b (x.1 % 8)) 255 true)
    (s.setTables { t with swept := t.swept.filter (fun y => y != x) }).setObj (0x4610 + tbl) 0x0B
      (s.obj (0x4610 + tbl) 0x0B - 1)

/-- The sweep's visit to a bucket (R193, R201). -/
def State.sweepBucket (s : State) (b : Nat) : State :=
  match s.bucketTable b with
  | none => s
  | some tbl => if s.tables.locked b then s else (List.range 8).foldl (fun s i => s.sweepSlot tbl b i) s

/-! ### Lookups -/

/-- No hit. -/
def LkRes.miss : LkRes := ⟨false, []⟩

/-- A field of a result; a field that the table does not deliver reads 0. -/
def LkRes.get (r : LkRes) (f : LkField) : Nat :=
  if f = .hit then flag r.hit
  else match r.fields.find? (fun x => x.1 == f) with
    | some x => x.2
    | none => 0

/-- The counter of an index of a label or identifier table (R173, R174). -/
def State.tableCounter (s : State) (n idx : Nat) : Nat :=
  if s.obj (0x4400 + n) 5 = 1 then (s.obj (0x4400 + n) 4 + idx) % 2 ^ 32 else 0xFFFFFFFF

/-- A lookup of a key of the table's width in a versioned or learned table at a commit: the result, the line read
(R170 to R177, R182, R149). -/
def State.lookup (s : State) (n key c : Nat) : LkRes × Nat :=
  let vs := s.tables.vers
  match tableKind n with
  | 1 =>
    let v4 := n = 0x10
    let vrf := if v4 then key / 2 ^ 32 else key / 2 ^ 128
    let addr := if v4 then key % 2 ^ 32 * 2 ^ 96 else key % 2 ^ 128
    let line := Config.leafBucket n vrf addr
    match lpmFind vs n c vrf addr (if v4 then 33 else 129) with
    | none => (.miss, line)
    | some d =>
      (⟨true, [(.isGroup, bits d 63 63), (.index, bits d 51 32), (.group, bits d 47 32), (.counter, bits d 95 64),
               (.user, bits d 31 0)]⟩, line)
  | 2 =>
    let d := verAt vs n key c
    let r : LkRes :=
      if n ≤ 0x23 then
        if bit d 63 then
          ⟨true, [(.action, bits d 62 60), (.outLabel, bits d 59 40), (.isGroup, bits d 39 39), (.index, bits d 31 12),
                  (.group, bits d 27 12), (.vrf, bits d 11 0), (.counter, s.tableCounter n key)]⟩
        else .miss
      else if n ≤ 0x33 then
        if bit d 63 then ⟨true, [(.data, bits d 55 0), (.counter, s.tableCounter n key)]⟩ else .miss
      else if n = 0x40 then
        if key ≠ 0 ∧ bit d 127 then
          ⟨true, [(.kind, bits d 126 124), (.qid, bits d 123 105), (.egressPort, bits d 104 97), (.dmac, bits d 96 49),
                  (.vlanId, bits d 48 37), (.vlanPresent, bits d 36 36), (.outLabel, bits d 35 16),
                  (.labelPresent, bits d 15 15), (.puntClass, bits d 5 0)]⟩
        else .miss
      else if n = 0x41 then
        if bit d 15 then ⟨true, [(.count, bits d 8 0)]⟩ else .miss
      else .miss
    (r, key)
  | 3 =>
    let tbl := n - 0x50
    if s.bucketCount tbl = 0 then (.miss, 0)
    else
      let w := s.obj (0x4610 + tbl) 5
      let (a, b) := s.candidates tbl key
      let hitIn (x : Nat) : Option Nat := (s.tables.findKey w x key).map (fun i => s.tables.slotAt x i)
      match (hitIn a).or (hitIn b) with
      | some e => (⟨true, [(.result, bits e 63 0), (.counter, bits e 103 72)]⟩, a)
      | none => (.miss, a)
  | 4 =>
    match ruleFind vs n c (s.ruleWidth n) key with
    | some (_, slot, d) =>
      (⟨true, [(.slot, slot), (.action, ruleField d 0 1 % 4), (.actionData, ruleField d 4 4),
               (.counter, ruleField d 8 4)]⟩, (s.tables.ruleBucket n slot).getD (Config.keyBucket n key))
    | none => (.miss, Config.keyBucket n key)
  | _ => (.miss, 0)

/-- A hit in a learned table writes the current tick into the entry's stamp (R185). -/
def State.touchLearned (s : State) (n key : Nat) : State :=
  let tbl := n - 0x50
  if s.bucketCount tbl = 0 then s
  else
    let w := s.obj (0x4610 + tbl) 5
    let (a, b) := s.candidates tbl key
    let touch (t : Tables) (x : Nat) : Tables :=
      match t.findKey w x key with
      | some i => t.setSlot x i (t.stamp tbl (t.slotAt x i))
      | none => t
    s.setTables (touch (touch s.tables a) b)

/-- The member window of an ECMP group: start, size (R176). -/
def groupWindow (g : Nat) : Nat × Nat :=
  if g < 32768 then (g * 16, 16)
  else if g < 57344 then (524288 + (g - 32768) * 64, 64)
  else if g < 63488 then (2097152 + (g - 57344) * 256, 256)
  else (3670016 + (g - 63488) * 512, 512)

/-- The next-hop index that SELECT writes, and whether the group and member were valid (R179, R180). -/
def State.selectMember (s : State) (g h c : Nat) : Nat × Bool :=
  let gd := verAt s.tables.vers 0x41 g c
  let m := (groupWindow g).1 + h % (bits gd 8 0 + 1)
  let md := verAt s.tables.vers 0x42 m c
  if bit gd 15 ∧ bit md 31 then (bits md 19 0, true)
  else (0, false)

end Sys2Proof.Machine
end

