-- ==== Sys2Proof/Machine/Operands.lean ====
section
/-! DEFINITION. The operands of stage operations (R89, R90, R95): places in the header vector, temporaries, conditions,
result fields, immediates; and the sequencing of bundles (R93, R94). -/

namespace Sys2Proof.Machine

/-- Where a metadata field stands: vector byte, size (R90). -/
def metaPos : Meta → Nat × Nat
  | .sourcePort => (512, 1) | .epochTag => (513, 1) | .sequence => (514, 2) | .pass => (516, 1)
  | .pipeline => (517, 1) | .parseFlags => (518, 2) | .firstStamp => (520, 4) | .frameLength => (524, 2)
  | .parseReach => (526, 2) | .rxTimestamp => (528, 10) | .puntReason => (538, 2) | .destination => (540, 4)
  | .nextHop => (544, 4) | .ecmpGroup => (548, 2) | .class_ => (550, 1) | .puntClass => (551, 1)
  | .mirrorSession => (552, 1) | .requests => (553, 1) | .egressPort => (554, 2) | .flowHash => (556, 4)
  | .deferred0 => (560, 4) | .deferred1 => (564, 4) | .validMap => (568, 8)

/-- The bits of a metadata field that are not reserved (R90). -/
def metaMask : Meta → Nat
  | .destination => 0xE007FFFF | .nextHop => 0xFFFFF | .class_ => 0x1F | .puntClass => 0x3F | .requests => 0xF
  | .egressPort => 0xFF
  | m => 2 ^ (8 * (metaPos m).2) - 1

/-- The program may change the field (R90). -/
def metaWritable : Meta → Bool
  | .puntReason | .destination | .nextHop | .ecmpGroup | .class_ | .puntClass | .mirrorSession | .requests
  | .egressPort | .flowHash | .deferred0 | .deferred1 | .validMap => true
  | _ => false

/-- The width of a place in bits (R89, R90, R95). -/
def destWidth : Dest → Nat
  | .b _ => 8 | .h _ => 16 | .w _ => 32
  | .field f => 8 * (metaPos f).2
  | .fieldBit _ _ => 1
  | .user _ n => 8 * n.val
  | .temp _ => 32

/-- A metadata field's value. -/
def metaGet (hv : List Byte) (f : Meta) : Nat := beAt hv (metaPos f).1 (metaPos f).2

/-- A metadata field set, by the part. -/
def metaSet (hv : List Byte) (f : Meta) (v : Nat) : List Byte :=
  putBytes hv (metaPos f).1 (beBytes (metaPos f).2 (v &&& metaMask f))

/-- A place's value in a header vector and temporaries. -/
def placeGet (hv : List Byte) (temps : List Nat) : Dest → Nat
  | .b n => beAt hv n.val 1
  | .h n => beAt hv (64 + 2 * n.val) 2
  | .w n => beAt hv (192 + 4 * n.val) 4
  | .field f => metaGet hv f
  | .fieldBit f n => flag (bit (metaGet hv f) n.val)
  | .user o n => beAt hv (576 + o.val) (min n.val (64 - o.val))
  | .temp n => temps.getD n.val 0

/-- A metadata field written by the program: a request bit of a punt or copy newly set takes the present stage as its
origin, a punt reason that it writes is no longer the part's own (R112). -/
def Ctx.setField (c : Ctx) (f : Meta) (v : Nat) : Ctx :=
  if ¬ metaWritable f then c
  else
    let hv := metaSet c.hv f v
    let asked := (bits (metaGet hv .requests) 2 1 - (bits (metaGet hv .requests) 2 1 &&& bits (metaGet c.hv .requests) 2 1)) != 0
    { c with hv := hv, origin := if asked then c.stage - 1 else c.origin, ownReason := c.ownReason && f != .puntReason }

/-- A place written in a context, truncated to its width; a field marked "part" keeps its value (R90). -/
def Ctx.put (c : Ctx) (d : Dest) (v : Nat) : Ctx :=
  match d with
  | .b n => { c with hv := putBytes c.hv n.val (beBytes 1 v) }
  | .h n => { c with hv := putBytes c.hv (64 + 2 * n.val) (beBytes 2 v) }
  | .w n => { c with hv := putBytes c.hv (192 + 4 * n.val) (beBytes 4 v) }
  | .field f => c.setField f v
  | .fieldBit f n => c.setField f (setBit (metaGet c.hv f) n.val (bit v 0))
  | .user o n => let k := min n.val (64 - o.val); { c with hv := putBytes c.hv (576 + o.val) (beBytes k v) }
  | .temp n => { c with temps := c.temps.set n.val (v % 2 ^ 32) }

/-- The value of a source, as the bundle found it (R93). -/
def Ctx.src (c : Ctx) : Src → Nat
  | .place d => placeGet c.pre c.preTemps d
  | .lk p f => (c.lks.getD p.val LkRes.miss).get f
  | .imm n => n
  | .cond k => flag (c.preConds.getD k.val false)

/-- The width of a result field in bits (chapter 5). -/
def lkFieldBits : LkField → Nat
  | .hit | .isGroup | .vlanPresent | .labelPresent => 1
  | .index | .outLabel => 20
  | .group => 16 | .counter | .user | .actionData => 32
  | .action | .kind => 3
  | .vrf | .vlanId => 12
  | .data => 56 | .qid => 19 | .egressPort => 8 | .dmac => 48 | .puntClass => 6 | .count => 9
  | .result => 64 | .slot => 18

/-- Bytes that hold a number, at least one. -/
def bytesFor (n : Nat) : Nat := max 1 ((Nat.log2 n + 8) / 8)

/-- The width in bits at which a source stands in a list (R95, R698). -/
def srcWidth : Src → Nat
  | .place d => destWidth d
  | .lk _ f => lkFieldBits f
  | .imm n => 8 * bytesFor n
  | .cond _ => 1

/-- The octets a source feeds to a CRC: the fewest that hold it, most significant first (R698). -/
def Ctx.feed (c : Ctx) (s : Src) : List Byte := crcField (srcWidth s) (c.src s)

/-- Sources placed end to end, the first in the most significant bits: value and width. -/
def Ctx.concat (c : Ctx) : List Src → Nat × Nat
  | [] => (0, 0)
  | s :: r =>
    let (v, w) := c.concat r
    (c.src s % 2 ^ srcWidth s * 2 ^ w + v, srcWidth s + w)

/-- A relation of CMP on unsigned values. -/
def relHolds : Rel → Nat → Nat → Bool
  | .eq, a, b => a == b
  | .ne, a, b => a != b
  | .lt, a, b => decide (a < b)
  | .le, a, b => decide (a ≤ b)
  | .gt, a, b => decide (a > b)
  | .ge, a, b => decide (a ≥ b)

/-- The context ready for an operation of bundle `b` (R92 to R94): the bundle at work, or the one that follows it, which
is the target of a branch taken in it or else the next in number; none after END or the last bundle, or before the match.
Entering a bundle takes the values its operations read. The first bundle is the one the match chose (log entry 15). -/
def Ctx.enterBundle (c : Ctx) (b : Nat) : Option Ctx :=
  let fresh : Ctx := { c with bundle := some b, started := true, branch := none, pre := c.hv, preTemps := c.temps,
                              preConds := c.conds }
  if c.skip ∨ c.ended ∨ c.stage = 0 then none
  else match c.bundle with
  | none => none
  | some k =>
    if c.started ∧ b = k then some c
    else if b = (if c.started then c.branch.getD (k + 1) else k) ∧ b < c.bundles then some fresh else none

/-- The condition of an operation holds, as the bundle found it (R94, R95). -/
def Ctx.condOk (c : Ctx) : Option (Fin 4 × Bool) → Bool
  | none => true
  | some (k, want) => c.preConds.getD k.val false == want

/-- The context of a number. -/
def Flow.ctx (f : Flow) (id : Nat) : Option Ctx := f.ctxs.find? (fun c => c.id == id)

/-- The flow with a context replaced. -/
def Flow.setCtx (f : Flow) (c : Ctx) : Flow := { f with ctxs := modFirst (fun x => x.id == c.id) (fun _ => c) f.ctxs }

/-- The state with a context replaced. -/
def State.setCtx (s : State) (c : Ctx) : State := { s with flow := s.flow.setCtx c }

/-- An operation of a bundle: nothing on a halted FE die (R551), or for a context or bundle that is not at work; the
bundle is entered whether or not the condition holds, and the effect follows when it does. -/
def State.stageOp (s : State) (o : OpCtl) (f : State → Ctx → State × Ctx) : State :=
  match if s.faults.haltFe then none else s.flow.ctx o.ctx with
  | none => s
  | some c =>
    match c.enterBundle o.bundle.val with
    | none => s
    | some c' =>
      if c'.condOk o.cond then
        let (s', c'') := f s c'
        s'.setCtx c''
      else s.setCtx c'

/-- An operation that changes its context alone. -/
def State.ctxOp (s : State) (o : OpCtl) (f : Ctx → Ctx) : State := s.stageOp o (fun s c => (s, f c))

end Sys2Proof.Machine
end

