-- ==== Sys2Proof/Machine/Programs.lean ====
section
/-! DEFINITION. Program objects (R96, R97, R140, R163): their header, sections and port bindings, the checks at the
keystone, parser profiles and key templates as the dictionary holds them (R141 to R145). -/

namespace Sys2Proof.Machine

/-- A parser profile as the dictionary holds it. -/
def State.profile (s : State) (n : Nat) : Profile :=
  ⟨s.obj (0x4110 + n) 1, s.obj (0x4110 + n) 2, s.obj (0x4110 + n) 3, leBytes 256 (s.obj (0x4110 + n) 4)⟩

/-- The octets of a key template. -/
def State.template (s : State) (n : Nat) : List Byte := leBytes 76 (s.obj (0x4180 + n) 1)

/-- A stage section of a program object (R96). -/
structure Section where
  stage : Nat
  bundles : Nat
  miss : Nat
  /-- Table, template and flags of LP0 to LP3. -/
  ports : List (Nat × Nat × Nat)
  bytes : List Byte
  deriving DecidableEq, Repr

/-- The binding record of a port. -/
def bindingAt (bs : List Byte) (p : Nat) : Nat × Nat × Nat :=
  (beAt bs (8 + 4 * p) 2, beAt bs (10 + 4 * p) 1, beAt bs (11 + 4 * p) 1)

/-- The sections of a program object after its header; none when a length does not fit (R97). -/
def sectionsOf : Nat → List Byte → Option (List Section)
  | 0, bs => if bs.isEmpty then some [] else none
  | n + 1, bs =>
    let len := beAt bs 2 2
    if bs.length < 24 ∨ len < 24 ∨ bs.length < len then none
    else (sectionsOf n (bs.drop len)).map (fun r =>
      ⟨beAt bs 0 1, beAt bs 1 1, beAt bs 4 1, (List.range 4).map (bindingAt bs), bs.take len⟩ :: r)

/-- The sections a stored program object has. -/
def progSections (bs : List Byte) : List Section := (sectionsOf (beAt bs 7 1) (bs.drop 64)).getD []

/-- The section of a stage. -/
def sectionOf (bs : List Byte) (stage : Nat) : Option Section :=
  (progSections bs).find? (fun x => x.stage == stage)

/-- The parser profile a program names. -/
def progProfile (bs : List Byte) : Nat := beAt bs 22 2

/-- The program identifier (0x4000:06, :07). -/
def progId (bs : List Byte) : Nat := beAt bs 12 4

/-- The program object of a direction that packets of a commit run (R98). Committed programs stand newest first. -/
def Tx.progOf (t : Tx) (dir c : Nat) : Option Prog := t.progs.find? (fun p => p.dir == dir && decide (p.commit ≤ c))

/-- The bytes of that object. -/
def Tx.progAt (t : Tx) (dir c : Nat) : Option (List Byte) := (t.progOf dir c).map (·.data)

/-- The code of a direction in program objects and metadata. -/
def dirCode : Dir → Nat
  | .ingress => 0
  | .egress => 1

/-- The program a context runs. -/
def State.ctxProg (s : State) (c : Ctx) : Option (List Byte) :=
  s.tx.progAt (dirCode c.dir) (tagCommit s.tx.commit c.frame.tag)

/-- The parser profile a program of a direction and tag gives; profile 0 where no program stands (log entry 16). -/
def State.profileFor (s : State) (dir : Dir) (tag : Nat) : Profile :=
  match s.tx.progAt (dirCode dir) (tagCommit s.tx.commit tag) with
  | some p => s.profile (progProfile p)
  | none => s.profile 0

/-- A lookup port of the section is used. -/
def portUsed (b : Nat × Nat × Nat) : Bool := bit b.2.2 0

/-- The template numbers that a program binds. -/
def progTemplates (bs : List Byte) : List Nat :=
  (progSections bs).flatMap (fun x => (x.ports.filter portUsed).map (fun b => b.2.1))

/-- The tables that a program binds. -/
def progTables (bs : List Byte) : List Nat :=
  (progSections bs).flatMap (fun x => (x.ports.filter portUsed).map (fun b => b.1))

/-! ### Extraction maps and key templates (R143, R145) -/

/-- Records of an extraction map as (start, length, reserved). -/
def mapRec (m : List Byte) (i : Nat) : Nat × Nat × Nat := (leAt m (4 * i) 2, leAt m (4 * i + 2) 1, leAt m (4 * i + 3) 1)

/-- An instance number is reserved (R125). -/
def reservedInst (i : Nat) : Bool := i == 15 || decide (36 ≤ i)

/-- The record of an instance fails a check of R143. -/
def mapRecBad (m : List Byte) (i : Nat) : Bool :=
  let (st, ln, rv) := mapRec m i
  if st = 0xFFFF then false
  else decide (511 < st) || ln == 0 || decide (64 < ln) || rv != 0 || decide (512 < st + ln) ||
    ((i == 20 || i == 32) && decide (24 < ln)) || reservedInst i ||
    (List.range i).any (fun j =>
      let (st', ln', _) := mapRec m j
      st' != 0xFFFF && decide (st < st' + ln') && decide (st' < st + ln))

/-- The lowest instance whose record fails (R143). -/
def mapFault (m : List Byte) : Option Nat := (List.range 64).find? (mapRecBad m)

/-- Needed-instance bits of a template that name reserved instances. -/
def neededReserved (n : Nat) : Bool := (List.range 64).any (fun i => bit n i && reservedInst i)

/-- A field record of a template: source, width, reserved byte. -/
def tplField (t : List Byte) (i : Nat) : Nat × Nat × Nat :=
  (leAt t (12 + 4 * i) 2, leAt t (14 + 4 * i) 1, leAt t (15 + 4 * i) 1)

/-- A field record has a fault of its own (R145). -/
def tplFieldBad (t : List Byte) (fields i : Nat) : Bool :=
  let (src, w, rv) := tplField t i
  if fields ≤ i then src != 0 || w != 0 || rv != 0
  else w == 0 || decide (128 < w) || decide (5120 < src + w) || rv != 0

/-- The record at which the running sum first exceeds the key bits. -/
def tplSumAt (t : List Byte) (kb : Nat) : Nat → Nat → Nat → Option Nat
  | 0, _, _ => none
  | n + 1, i, acc =>
    let acc' := acc + (tplField t i).2.1
    if acc' > kb then some i else tplSumAt t kb n (i + 1) acc'

/-- What R145 refuses, as the detail of its abort. -/
def tplFault (t : List Byte) : Option Nat :=
  if t.all (· == 0) then none
  else
    let kb := leAt t 0 2
    let fields := leAt t 2 1
    if kb = 0 ∨ 640 < kb ∨ fields = 0 ∨ 16 < fields ∨ leAt t 3 1 ≠ 0 ∨ neededReserved (leAt t 4 8) then some 0xFFFF
    else match (List.range 16).find? (tplFieldBad t fields) with
    | some i => some i
    | none =>
      match tplSumAt t kb fields 0 0 with
      | some i => some i
      | none =>
        if sumOf (fun i => (tplField t i).2.1) (List.range fields) < kb then some (fields - 1) else none

/-- The key that a template forms from a header vector: value, width (R144). -/
def tplKey (t : List Byte) (hv : List Byte) : Nat × Nat :=
  let n := beNat hv
  let fields := leAt t 2 1
  ((List.range fields).foldl (fun acc i =>
    let (src, w, _) := tplField t i
    acc * 2 ^ w + n / 2 ^ (5120 - src - w) % 2 ^ w) 0, leAt t 0 2)

/-! ### The checks on a program object at the keystone -/

/-- A port binding is unknown (R97, R160, R171, R706). -/
def State.bindingBad (s : State) (b : Nat × Nat × Nat) : Bool :=
  let t := s.template b.2.1
  let k := tableKind b.1
  portUsed b &&
    (k == 0 || k == 5 || b.1 == 0x42 || decide (63 < b.2.1) || t.all (· == 0) ||
     ((k == 2 || k == 4) && decide (s.keyWidth b.1 < leAt t 0 2)))

/-- Central reads of a section (R162): its ports and its SELECTs. -/
def sectionReads (x : Section) : Nat :=
  sumOf (fun b => if portUsed b then centralReads b.1 else 0) x.ports + Config.selectCount x.bytes

/-- Stage-local memory of a section (R162): a table bound twice counts once, SELECT shares the copy of 0x0041. -/
def sectionLocal (x : Section) : Nat :=
  let ts := ((x.ports.filter portUsed).map (fun b => b.1)).dedup
  let ts := if 0 < Config.selectCount x.bytes ∧ ¬ ts.contains 0x41 then 0x41 :: ts else ts
  sumOf stageLocal ts

/-- Sections in rising stage order. -/
def risingStages : List Section → Bool
  | a :: b :: r => decide (a.stage < b.stage) && risingStages (b :: r)
  | _ => true

/-- The first check of R97, R140, R163 and the length limit of R242 that a program object fails, as an abort code; the checks run in the order
of those tables. `dir` is the direction its records name; one that differs, and a stage above 15, is the model's reading
(log entry 151). -/
def State.progFault (s : State) (dir : Nat) (bs : List Byte) : Option Nat :=
  let secs := sectionsOf (beAt bs 7 1) (bs.drop 64)
  let ss := secs.getD []
  if beAt bs 0 4 ≠ 0x43525350 ∨ beAt bs 4 2 ≠ 1 then some 0x03100000
  else if beAt bs 8 2 ≠ 0x0C3E ∨ (beAt bs 10 2 ≠ 0x5120 ∧ beAt bs 10 2 ≠ 0xFFFF) then some 0x03110000
  else if bytesAt bs 32 32 ≠ sha256 (bs.drop 64) then some 0x03120000
  else if beAt bs 6 1 > 1 ∨ beAt bs 6 1 ≠ dir ∨ beAt bs 7 1 = 0 ∨ beAt bs 7 1 > 16 ∨ ¬ risingStages ss ∨
      ss.any (fun x => decide (15 < x.stage)) then some 0x03130000
  else if beAt bs 20 1 > 4 ∨ sumOf sectionReads ss > beAt bs 20 1 then some 0x03140000
  else match ss.findSome? (fun x => (Config.bundleFault x.bytes).map (fun b => x.stage * 16 + b)) with
  | some d => some (0x03150000 + d % 65536)
  | none =>
  match ss.find? (fun x => x.ports.any s.bindingBad) with
  | some x => some (0x03160000 + x.stage)
  | none =>
  if beAt bs 16 4 ≠ bs.length ∨ secs.isNone then some 0x03170000
  else if progProfile bs > 7 then some 0x03180000
  else match ss.findSome? (fun x =>
      if sectionLocal x > 256 then some (x.stage * 256 + 1)
      else if x.stage = 15 ∧ 0 < Config.selectCount x.bytes then some (x.stage * 256 + 2)
      else if 1 < Config.selectCount x.bytes then some (x.stage * 256 + 3) else none) with
  | some d => some (0x031C0000 + d)
  | none => if bs.length > 262144 then some 0x031F0000 else none

/-! ### Epochs held (R117, R217) -/

/-- Frames that hold a tag: in contexts, in the reorder unit, in recirculation queues, and at the line MAC before they
are sent (R117). -/
def State.tagHeld (s : State) (tag : Nat) : Nat :=
  let has (f : Frame) : Bool := f.tag == tag
  (s.flow.ctxs.filter (fun c => has c.frame)).length +
  (s.flow.recircI.filter has).length + (s.flow.recircE.filter has).length +
  (s.flow.toLine.filter (fun x => has x.2)).length +
  (s.flow.ro.filter (fun e => match e.res with
    | .forward f _ _ _ => has f
    | .recirc f => has f
    | .punt f _ _ => has f
    | _ => false)).length

/-- The live epochs, oldest first, as commit numbers (R217). -/
def State.liveCommits (s : State) : List Nat :=
  let c := s.tx.commit
  ((List.range 8).reverse.filter (fun back => back ≤ c && (back == 0 || 0 < s.tagHeld ((c - back) % 8)))).map (c - ·)

/-- The commit number of the oldest live epoch (0x4500:02). -/
def State.oldestLive (s : State) : Nat := s.liveCommits.headD s.tx.commit

/-- Programs that a live epoch runs, of both directions. -/
def State.livePrograms (s : State) : List (List Byte) :=
  s.liveCommits.flatMap (fun c => (s.tx.progAt 0 c).toList ++ (s.tx.progAt 1 c).toList)

/-- A profile is in use (R141). -/
def State.profileInUse (s : State) (n : Nat) : Bool := s.livePrograms.any (fun p => progProfile p == n)

/-- A template is in use (R141). -/
def State.templateInUse (s : State) (n : Nat) : Bool := s.livePrograms.any (fun p => (progTemplates p).contains n)

end Sys2Proof.Machine
end

