-- ==== Sys2Proof/Machine/StageOps.lean ====
section
/-! DEFINITION. The meanings of the stage operations (R95), one for each row: the effect on the packet context in which
the operation runs, and on counters, learning queues and free values. -/

namespace Sys2Proof.Machine

/-- The outcome of a command. -/
abbrev Out := Host.Outcome State Fault Refusal

/-- MOV d, s (R95). -/
def execMov (o : OpCtl) (d : Dest) (x : Src) (s : State) : Out := .next (s.ctxOp o (fun c => c.put d (c.src x)))

/-- SET d, imm (R95). -/
def execSet (o : OpCtl) (d : Dest) (imm : Nat) (s : State) : Out := .next (s.ctxOp o (fun c => c.put d imm))

/-- ADD d, a, b modulo 2^width (R95). -/
def execAdd (o : OpCtl) (d : Dest) (a b : Src) (s : State) : Out :=
  .next (s.ctxOp o (fun c => c.put d ((c.src a + c.src b) % 2 ^ destWidth d)))

/-- SUB d, a, b modulo 2^width (R95). -/
def execSub (o : OpCtl) (d : Dest) (a b : Src) (s : State) : Out :=
  .next (s.ctxOp o (fun c => c.put d (ofInt (destWidth d) ((c.src a : Int) - (c.src b : Int)))))

/-- AND d, a, b (R95). -/
def execAnd (o : OpCtl) (d : Dest) (a b : Src) (s : State) : Out :=
  .next (s.ctxOp o (fun c => c.put d (c.src a &&& c.src b)))

/-- OR d, a, b (R95). -/
def execOr (o : OpCtl) (d : Dest) (a b : Src) (s : State) : Out :=
  .next (s.ctxOp o (fun c => c.put d (c.src a ||| c.src b)))

/-- XOR d, a, b (R95). -/
def execXor (o : OpCtl) (d : Dest) (a b : Src) (s : State) : Out :=
  .next (s.ctxOp o (fun c => c.put d (c.src a ^^^ c.src b)))

/-- SHL d, a, n (R95). -/
def execShl (o : OpCtl) (d : Dest) (a : Src) (n : Fin 32) (s : State) : Out :=
  .next (s.ctxOp o (fun c => c.put d (c.src a * 2 ^ n.val % 2 ^ destWidth d)))

/-- SHR d, a, n (R95). -/
def execShr (o : OpCtl) (d : Dest) (a : Src) (n : Fin 32) (s : State) : Out :=
  .next (s.ctxOp o (fun c => c.put d (c.src a / 2 ^ n.val)))

/-- MIN d, a, b (R95). -/
def execMin (o : OpCtl) (d : Dest) (a b : Src) (s : State) : Out :=
  .next (s.ctxOp o (fun c => c.put d (min (c.src a) (c.src b))))

/-- MAX d, a, b (R95). -/
def execMax (o : OpCtl) (d : Dest) (a b : Src) (s : State) : Out :=
  .next (s.ctxOp o (fun c => c.put d (max (c.src a) (c.src b))))

/-- EXT d, s, hi, lo (R95). -/
def execExt (o : OpCtl) (d : Dest) (x : Src) (hi lo : Nat) (s : State) : Out :=
  .next (s.ctxOp o (fun c => c.put d (bits (c.src x) hi lo)))

/-- INS d, s, hi, lo: the other bits of d are kept (R95). -/
def execIns (o : OpCtl) (d : Dest) (x : Src) (hi lo : Nat) (s : State) : Out :=
  .next (s.ctxOp o (fun c => c.put d (setBits (placeGet c.hv c.temps d) hi lo (c.src x))))

/-- CMP c, a, rel, b (R95). -/
def execCmp (o : OpCtl) (k : Fin 4) (a : Src) (r : Rel) (b : Src) (s : State) : Out :=
  .next (s.ctxOp o (fun c => { c with conds := c.conds.set k.val (relHolds r (c.src a) (c.src b)) }))

/-- HASH d, list, seed: CRC-32C over the fields in list order (R95, R698). -/
def execHash (o : OpCtl) (d : Dest) (l : List Src) (seed : Nat) (s : State) : Out :=
  .next (s.ctxOp o (fun c => c.put d (crc32cSeed seed (l.flatMap c.feed))))

/-- The valid map of a context with one bit set to `v`. -/
def Ctx.setValid (c : Ctx) (n : Nat) (v : Bool) : Ctx :=
  { c with hv := metaSet c.hv .validMap (setBit (metaGet c.hv .validMap) n v) }

/-- An instance is valid in a context. -/
def Ctx.isValid (c : Ctx) (n : Nat) : Bool := bit (metaGet c.hv .validMap) n

/-- VALID n, v (R95). -/
def execValid (o : OpCtl) (n : Fin 64) (v : Bool) (s : State) : Out :=
  .next (s.ctxOp o (fun c => c.setValid n.val v))

/-- The instances of a header stack, outermost first (R125). -/
def stackInsts : HdrStack → List Nat
  | .mpls => [3, 4, 5, 6, 7, 8, 9, 10, 11, 12, 13, 14]
  | .vlan => [1, 2]
  | .vlan2 => [27]

/-- The area and valid bit of an instance; one not extracted has no bytes. -/
def Ctx.takeInst (c : Ctx) (pr : Profile) (n : Nat) : List Byte × Bool :=
  match pr.area n with
  | some (st, ln) => (bytesAt c.hv st ln, c.isValid n)
  | none => ([], c.isValid n)

/-- An instance's area and valid bit set; bytes missing are zero, bytes beyond the area are cut. -/
def Ctx.putInst (c : Ctx) (pr : Profile) (n : Nat) (v : List Byte × Bool) : Ctx :=
  let c := c.setValid n v.2
  match pr.area n with
  | some (st, ln) => { c with hv := putBytes c.hv st (bytesAt v.1 0 ln) }
  | none => c

/-- The instances of a stack set in turn. -/
def Ctx.putInsts (c : Ctx) (pr : Profile) : List Nat → List (List Byte × Bool) → Ctx
  | n :: ns, v :: vs => (c.putInst pr n v).putInsts pr ns vs
  | _, _ => c

/-- PUSH: the stack shifts by one instance inwards, and its first instance is present with zero bytes (R95). -/
def Ctx.pushStack (c : Ctx) (pr : Profile) (k : HdrStack) : Ctx :=
  let l := stackInsts k
  c.putInsts pr l (([], true) :: l.dropLast.map (c.takeInst pr))

/-- POP: the stack shifts by one instance outwards, and its last instance is absent (R95). -/
def Ctx.popStack (c : Ctx) (pr : Profile) (k : HdrStack) : Ctx :=
  let l := stackInsts k
  c.putInsts pr l (l.tail.map (c.takeInst pr) ++ [([], false)])

/-- PUSH stack (R95). -/
def execPushHdr (o : OpCtl) (k : HdrStack) (s : State) : Out :=
  .next (s.ctxOp o (fun c => c.pushStack (s.profileFor c.dir c.frame.tag) k))

/-- POP stack (R95). -/
def execPopHdr (o : OpCtl) (k : HdrStack) (s : State) : Out :=
  .next (s.ctxOp o (fun c => c.popStack (s.profileFor c.dir c.frame.tag) k))

/-- CSUM n: the deparser recomputes the checksum of the instance (R95). -/
def execCsum (o : OpCtl) (n : Fin 64) (s : State) : Out :=
  .next (s.ctxOp o (fun c => { c with csum := n.val :: c.csum }))

/-- COUNT idx, len (R95, R195, R196). -/
def execCount (o : OpCtl) (idx len : Src) (s : State) : Out :=
  .next (s.stageOp o (fun s c => (s.setTables (s.tables.credit (c.src idx) (c.src len)), c)))

/-- METER idx, d: the colour is a free value, since the manual gives policers no rates (R95, log entry 2). -/
def execMeter (o : OpCtl) (_ : Src) (d : Dest) (s : State) : Out :=
  .next (s.stageOp o (fun s c => let (v, s') := s.fresh; (s', c.put d (v % 3))))

/-- The central reads that the program of a context declares (R81, R96). -/
def State.readsDeclared (s : State) (c : Ctx) : Nat :=
  match s.ctxProg c with
  | some p => beAt p 20 1
  | none => 0

/-- The central reads that a context may issue in its pass: those declared, and never more than 4 (R81). -/
def State.readsAllowed (s : State) (c : Ctx) : Nat := min 4 (s.readsDeclared c)

/-- SELECT d, group, h: the member is read in the next stage (R179); a read beyond those the program declares is not
issued (R81, log entry 121). -/
def execSelect (o : OpCtl) (d : Dest) (g h : Src) (s : State) : Out :=
  .next (s.ctxOp o (fun c => if c.reads < s.readsAllowed c
    then { c with sel := some (d, c.src g % 65536, c.src h), reads := c.reads + 1 } else c))

/-- A notification queued in the learning engine of a direction, or dropped and counted (R186). -/
def State.queueLearn (s : State) (dir : Dir) (n : Learn) : State :=
  match dir with
  | .ingress =>
    if s.flow.learnI.length < 4096 then { s with flow := { s.flow with learnI := s.flow.learnI ++ [n] } }
    else s.bump 0x4600 1
  | .egress =>
    if s.flow.learnE.length < 4096 then { s with flow := { s.flow with learnE := s.flow.learnE ++ [n] } }
    else s.bump 0x4600 1

/-- A key of some width brought to the width of a learned or LPM table: zeros in the low bits (R144), or its most
significant bits (log entry 148). -/
def fitKey (v w width : Nat) : Nat := if w ≤ width then v * 2 ^ (width - w) else v / 2 ^ (w - width)

/-- LEARN tbl, key: the result is user area bytes 0 to 7 (R186). A table that is not learned takes none. -/
def execLearn (o : OpCtl) (tbl : Nat) (key : List Src) (s : State) : Out :=
  .next (s.stageOp o (fun s c =>
    if tableKind tbl = 3 then
      let (v, w) := c.concat key
      let k := fitKey v w (s.obj (0x4610 + (tbl - 0x50)) 5)
      (s.queueLearn c.dir ⟨tbl - 0x50, k, beAt c.pre 576 8⟩, c)
    else (s, c)))

/-- The destination word of a context. -/
def Ctx.setDest (c : Ctx) (v : Nat) : Ctx := { c with hv := metaSet c.hv .destination v }

/-- Request bit `n` set. -/
def Ctx.request (c : Ctx) (n : Nat) : Ctx :=
  { c with hv := metaSet c.hv .requests (setBit (metaGet c.hv .requests) n true) }

/-- FWD qid: destination kind 1 (R95). -/
def execFwd (o : OpCtl) (q : Src) (s : State) : Out :=
  .next (s.ctxOp o (fun c => c.setDest (2 ^ 29 + c.src q % 2 ^ 19)))

/-- FWDM group: destination kind 2 (R95). -/
def execFwdm (o : OpCtl) (g : Src) (s : State) : Out :=
  .next (s.ctxOp o (fun c => c.setDest (2 * 2 ^ 29 + c.src g % 2 ^ 16)))

/-- DROP: request bit [0] (R95). -/
def execDropReq (o : OpCtl) (s : State) : Out := .next (s.ctxOp o (fun c => c.request 0))

/-- RECIRC: request bit [3] (R95). -/
def execRecirc (o : OpCtl) (s : State) : Out := .next (s.ctxOp o (fun c => c.request 3))

/-- Punt class and reason set by the program, with the stage that set the request (R95, R112, R132). -/
def Ctx.puntBy (c : Ctx) (cls reason reqBit : Nat) : Ctx :=
  let hv := metaSet (metaSet c.hv .puntClass cls) .puntReason reason
  { c with
    hv := hv
    ownReason := false
    origin := if reqBit = 1 then c.stage - 1 else c.origin
    copyOrigin := if reqBit = 1 then c.copyOrigin else c.stage - 1 }.request reqBit

/-- PUNT class, reason: request bit [1] (R95). -/
def execPunt (o : OpCtl) (cls reason : Src) (s : State) : Out :=
  .next (s.ctxOp o (fun c => c.puntBy (c.src cls) (c.src reason) 1))

/-- COPY class, reason: request bit [2] (R95). -/
def execCopy (o : OpCtl) (cls reason : Src) (s : State) : Out :=
  .next (s.ctxOp o (fun c => c.puntBy (c.src cls) (c.src reason) 2))

/-- MIRROR session (R95). -/
def execMirror (o : OpCtl) (x : Src) (s : State) : Out :=
  .next (s.ctxOp o (fun c => { c with hv := metaSet c.hv .mirrorSession (c.src x) }))

/-- STAMP d: the low bits of TIME (R95). -/
def execStamp (o : OpCtl) (d : Dest) (s : State) : Out := .next (s.ctxOp o (fun c => c.put d s.time80))

/-- A branch taken to a later bundle (R94). -/
def Ctx.branchTo (c : Ctx) (t : Nat) : Ctx := if c.bundle.getD 0 < t then { c with branch := some t } else c

/-- BR t (R94, R95). -/
def execBr (o : OpCtl) (t : Fin 16) (s : State) : Out := .next (s.ctxOp o (fun c => c.branchTo t.val))

/-- BRC c, t (R94, R95). -/
def execBrc (o : OpCtl) (k : Fin 4) (t : Fin 16) (s : State) : Out :=
  .next (s.ctxOp o (fun c => if c.preConds.getD k.val false then c.branchTo t.val else c))

/-- END: the packet does no further action in the stage once this bundle is done (R94, R95). -/
def execEnd (o : OpCtl) (s : State) : Out := .next (s.ctxOp o (fun c => { c with branch := some 16 }))

end Sys2Proof.Machine
end

