-- ==== Sys2Proof/Machine/Flow.lean ====
section
/-! DEFINITION. Spreaders, stages, deparser, reorder unit, recirculation, punts (chapter 3; R125 to R139, R154 to R157,
R204 to R207 where a lookup meets an error). -/

namespace Sys2Proof.Machine

/-! ### Pipelines -/

/-- The contexts in use in a pipeline. -/
def Flow.ctxCount (f : Flow) (p : Nat) : Nat := (f.ctxs.filter (fun c => c.pipe == p)).length

/-- The state of a pipeline 0 to 31 (R120): 0 in service, 1 draining, 2 substituting once its contexts have completed,
3 retired. -/
def State.pipeState (s : State) (p : Nat) : Nat :=
  let busy := nget s.flow.pipeBusy p 0
  if busy = 1 ∧ nget s.flow.pipeStage p 0 ≠ 0 ∧ s.flow.ctxCount p = 0 then 2
  else if busy ≠ 0 then busy else if s.record.mem.spares.pipeRetired.contains p then 3 else 0

/-- The substituted stage of a pipeline (0x4010 + n:02), 0xFF none. -/
def State.pipeSubst (s : State) (p : Nat) : Nat :=
  match nget s.record.mem.spares.pipeSubst p 0 with
  | 0 => 0xFF
  | n + 1 => n

/-- The frames dealt to a pipeline in the present CORE cycle (R83). -/
def State.dealtNow (s : State) (p : Nat) : Nat :=
  let x := nget s.flow.slots p 0
  if x / 4 = s.coreCycle then x % 4 else 0

/-- Pipelines of a direction in service (R24, R550). -/
def State.pipesInService (s : State) (dir : Dir) : Nat :=
  ((List.range 16).filter (fun i => !s.record.mem.spares.pipeRetired.contains (dirCode dir * 16 + i))).length

/-- Pipelines of a direction that frames are dealt to (R83, R87). -/
def State.pipesDealt (s : State) (dir : Dir) : Nat :=
  ((List.range 16).filter (fun i => s.pipeState (dirCode dir * 16 + i) == 0)).length

/-- The next pipeline of the rotation that is in service, holds a free context and has taken fewer than 2 frames in the
present CORE cycle (R25, R83). -/
def State.pickPipe (s : State) (dir : Dir) : Option Nat :=
  let rot := match dir with
    | .ingress => s.flow.rotI
    | .egress => s.flow.rotE
  ((List.range 16).map (fun i => dirCode dir * 16 + (rot + i) % 16)).find?
    (fun p => s.pipeState p == 0 && decide (s.flow.ctxCount p < 768) && decide (s.dealtNow p < 2))

/-! ### Order domains (R82, R84, R102) -/

/-- The oldest unsettled number of a domain (R102): one declared lost is settled. -/
def Flow.oldest (f : Flow) (dom : Nat) : Option Nat :=
  (f.ro.find? (fun e => e.dom == dom && e.res == .waiting)).map (·.seq)

/-- A domain admits one more frame (R102). -/
def Flow.windowOpen (f : Flow) (dom : Nat) : Bool :=
  match f.oldest dom with
  | none => true
  | some o => decide ((nget f.nextSeq dom 0 + 65536 - o) % 65536 < 4096)

/-- A settled number has a frame behind it, which the reorder unit holds (R101, R103). -/
def Settle.hasFrame : Settle → Bool
  | .forward _ _ _ _ | .recirc _ | .punt _ _ _ => true
  | _ => false

/-- The frame behind a settled number. -/
def Settle.frame? : Settle → Option Frame
  | .forward f _ _ _ | .recirc f | .punt f _ _ => some f
  | _ => none

/-- The completed frames that stand behind a missing number of their domain, `doms` the domains with one so far (R103). -/
def heldFrames : List Nat → List RoEntry → Nat
  | _, [] => 0
  | doms, e :: r =>
    if e.res = .waiting then heldFrames (e.dom :: doms) r
    else flag (e.res.hasFrame && doms.contains e.dom) + heldFrames doms r

/-- Completed frames that the reorder unit holds (R103). -/
def Flow.held (f : Flow) : Nat := heldFrames [] f.ro

/-- A number of a domain stands behind a missing one. -/
def Flow.behindMissing (f : Flow) (dom seq : Nat) : Bool :=
  (f.ro.takeWhile (fun e => !(e.dom == dom && e.seq == seq))).any (fun e => e.dom == dom && e.res == .waiting)

/-- Cells of the FE body store outside the reserve that are in use (R270). -/
def State.feUsed (s : State) : Nat :=
  ((s.buf.usedNums 2).filter (fun n => decide (n < feReserveBase))).length

/-- The frames on the FE die that hold body cells (R258). -/
def Flow.frames (f : Flow) : List Frame :=
  f.ctxs.map (·.frame) ++ f.recircI ++ f.recircE ++ f.toLine.map (·.2) ++
  f.ro.filterMap (fun e => e.res.frame?)

/-- Every cell that the frames of `old` held and no frame holds now is freed by its holder (R258): the frames concerned
have crossed onto the bond link, ended transmission, or been dropped. -/
def State.feSettle (s : State) (old : Flow) : State :=
  let held := s.flow.frames.flatMap (·.cells)
  let gone := (old.frames.flatMap (·.cells)).filter (fun n => !held.contains n)
  if gone.isEmpty then s
  else
    s.freeCells 3 (gone.map (fun n => (n, match s.buf.cell 2 n with
      | some c => c.owner
      | none => 0)))

/-- A frame's body handed to another holder of the FE die (R258, R260). -/
def State.handBody (s : State) (f : Frame) (dst : Nat) : State :=
  f.cells.foldl (fun s n => match s.buf.cell 2 n with
    | some c => s.handCell 2 n c.owner dst 1
    | none => s) s

/-! ### Metadata at the start of a pass (R90) -/

/-- The bytes that will still come to a frame which left the TM die before its last ones (R295). -/
def Frame.coming (f : Frame) : Nat := f.short - f.cut

/-- The octets of a frame in its whole length: those still to come lie behind what the parser reads, and only their number
counts (R133, R134, R295). -/
def Frame.whole (f : Frame) : List Byte := f.data ++ zeros f.coming

/-- The frame length of the metadata: bytes including FCS. -/
def Frame.length (f : Frame) : Nat := f.data.length + f.coming + 4

/-- The metadata part of the header vector at the start of a pass (R90, R110): part fields, the destination of the packet
header on egress, the class of the frame (of a packet header, of an inject header, or as the last pass left it), no deferred
counters, the user area (log entry 17). -/
def metaStart (f : Frame) (dir : Dir) (pipe flags reach valid : Nat) : List Byte :=
  let z := zeros 640
  let z := metaSet z .sourcePort f.src
  let z := metaSet z .epochTag (f.tag % 8)
  let z := metaSet z .sequence f.seq
  let z := metaSet z .pass f.pass
  let z := metaSet z .pipeline (dirCode dir * 128 + pipe % 16)
  let z := metaSet z .parseFlags flags
  let z := metaSet z .firstStamp f.stamp
  let z := metaSet z .frameLength (f.length % 16384)
  let z := metaSet z .parseReach reach
  let z := metaSet z .rxTimestamp f.rx
  let z := metaSet z .destination f.dest
  let z := metaSet z .class_ (f.tc + 8 * f.dp)
  let z := metaSet z .egressPort f.port
  let z := metaSet z .deferred0 0xFFFFFFFF
  let z := metaSet z .deferred1 0xFFFFFFFF
  let z := metaSet z .validMap valid
  putBytes z 576 (bytesAt f.user 0 64)

/-- The context of a frame that a pipeline takes: parsed, extracted, and marked to be dropped or punted by the parser
where R133 or R137 says so. -/
def State.mkCtx (s : State) (dir : Dir) (pipe : Nat) (f : Frame) : Ctx :=
  let pr := s.profileFor dir f.tag
  let p := parse pr f.whole
  let flags := p.flags + (if f.gated then 32 else 0)
  let hv := (extract pr f.data p) ++ (metaStart f dir pipe flags p.reach p.valid).drop 512
  let insts := p.insts.reverse.map (fun i => (i.1, bytesAt f.data i.2.1 i.2.2))
  let trailer := match p.firstEnd with
    | some e => f.whole.length - e
    | none => 0
  let c : Ctx := ⟨s.flow.nextCtx, dir, pipe, f, hv, hv, List.replicate 8 0, List.replicate 8 0,
    List.replicate 4 false, List.replicate 4 false, List.replicate 4 LkRes.miss, 0, none, false, none, false,
    insts, f.data.drop p.off, [], false, false, 0, 0, 0, false, false, 0, 0, none, trailer⟩
  if p.fault.isSome then { c.request 0 with skip := true }
  else match p.punt pr f.whole with
  | some (reason, reg, detail) =>
    let hv := metaSet (metaSet c.hv .puntClass (s.obj 0x4100 reg)) .puntReason reason
    { ({ c with hv := hv }).request 1 with skip := true, origin := 128, detail := detail, ownReason := true }
  | none => c

/-- The counters of the parser for one pass (R130, R133, R136, R158). -/
def State.countParse (s : State) (dir : Dir) (f : Frame) : State :=
  let p := parse (s.profileFor dir f.tag) f.whole
  let s := if bit p.flags 0 then s.bump 0x4101 1 else s
  let s := if bit p.flags 4 then s.bump 0x4101 2 else s
  let s := match p.fault with
    | some c => s.bump 0x4101 c
    | none => s
  if bit p.flags 2 then s.bump 0x4101 6 else s

/-- The cells that a frame's body takes: what the parser does not follow (R252). -/
def State.bodySize (s : State) (dir : Dir) (f : Frame) : Nat :=
  (f.whole.length - (parse (s.profileFor dir f.tag) f.whole).off + 255) / 256

/-- A frame with its body cells: taken on its first pass, handed back from the recirculation holder on a later one
(R258); a frame from BOND-TF finds its cells in the reserve (R270). -/
def State.bodyCells (s : State) (dir : Dir) (f : Frame) : State × Frame :=
  if f.cells.isEmpty then
    if s.bodySize dir f = 0 then (s, f)
    else match s.allocBody (decide (dir = Dir.egress)) (s.bodySize dir f) with
    | (some l, s) => (s, { f with cells := l })
    | (none, s) => (s, f)
  else (s.handBody f (if dir = Dir.egress then 6 else 1), f)

/-- A frame dealt to a pipeline (R83 to R85, R90, R110): first passes take the tag and stamp of the cycle of dealing;
every pass a number of its order domain on ingress. -/
def State.dealTo (s : State) (dir : Dir) (pipe : Nat) (f : Frame) (dom : Nat) : State :=
  let first := f.pass = 0
  let seq := if dir = Dir.ingress then nget s.flow.nextSeq dom 0 else 0
  let f := { f with
    pass := f.pass + 1
    tag := if first then s.tx.commit % 8 else f.tag
    stamp := if first then s.coreCycle % 2 ^ 32 else f.stamp
    user := if first then bytesAt (f.inject.getD []) 0 16 ++ zeros 48 else f.user
    dom := if dir = Dir.ingress then dom else 0
    seq := seq }
  let (s, f) := s.bodyCells dir f
  let c := s.mkCtx dir pipe f
  let fl := s.flow
  let fl := { fl with ctxs := fl.ctxs ++ [c], nextCtx := fl.nextCtx + 1
                      slots := nset fl.slots pipe (s.coreCycle * 4 + s.dealtNow pipe + 1) 0 }
  let fl := match dir with
    | .ingress => { fl with
        rotI := (pipe % 16 + 1) % 16
        nextSeq := nset fl.nextSeq dom ((seq + 1) % 65536) 0
        ro := fl.ro ++ [RoEntry.mk dom seq .waiting 0] }
    | .egress => { fl with rotE := (pipe % 16 + 1) % 16 }
  ({ s with flow := fl }.bump ((if dir = Dir.ingress then 0x4010 else 0x4020) + pipe % 16) 4).countParse dir f

/-! ### Stale epochs and recirculation (R108, R109, R111) -/

/-- A frame in a recirculation queue that has reached 12,000 CORE cycles. -/
def State.stale (s : State) (f : Frame) : Bool := decide (12000 ≤ (s.coreCycle + 2 ^ 32 - f.stamp) % 2 ^ 32)

/-- The recirculation queue of a direction. -/
def Flow.recirc (f : Flow) : Dir → List Frame
  | .ingress => f.recircI
  | .egress => f.recircE

/-- The recirculation queue of a direction set. -/
def Flow.setRecirc (f : Flow) (d : Dir) (l : List Frame) : Flow :=
  match d with
  | .ingress => { f with recircI := l }
  | .egress => { f with recircE := l }

/-- Stale frames leave the recirculation queue wherever they stand (R109). -/
def State.purgeStale (s : State) (d : Dir) : State :=
  let q := s.flow.recirc d
  let n := (q.filter s.stale).length
  ({ s with flow := s.flow.setRecirc d (q.filter (fun f => !s.stale f)) }).bumpN 0x4001 4 n

/-- A frame enters a recirculation queue, or is dropped: a fifth pass (R109), a full queue (R108). -/
def State.toRecirc (s : State) (d : Dir) (f : Frame) : State :=
  if 4 ≤ f.pass then s.bump 0x4001 4
  else if 2048 ≤ (s.flow.recirc d).length then s.bump 0x4001 5
  else { s with flow := s.flow.setRecirc d (s.flow.recirc d ++ [f]) }.handBody f 4

/-! ### The spreaders (R83, R86 to R88, R102, R103) -/

/-- The first frame of a line input FIFO, by group. -/
def Flow.lineHead (f : Flow) (g : Nat) : Option Frame := (f.lineIn.find? (fun x => x.1 == g)).map (·.2)

/-- The order domain a first-pass ingress frame takes its number in (R82, R116). -/
def firstDomain (f : Frame) : Nat := f.dom

/-- A first-pass ingress frame may be dealt (R102, R103, R267, R270). -/
def State.admitFirst (s : State) (f : Frame) : Bool :=
  !s.allocBusy 3 &&
    s.flow.windowOpen (firstDomain f) && decide (s.flow.held < 32768) &&
    decide (s.feUsed + s.bodySize .ingress { f with tag := s.tx.commit % 8 } ≤ feReserveBase)

/-- The ingress spreader deals no first-pass line frame while the ingress partition or the FE body store is at W3
(R285). -/
def State.lineStopped (s : State) : Bool := s.poolLevel 0 == 3 || s.poolLevel 3 == 3

/-- The line input FIFO to be served next, in the rotating order of R86: none outside service (R656). -/
def State.lineReady (s : State) : Option (Nat × Frame) :=
  if s.dev.st.inService && !s.lineStopped then
    ((List.range 32).map (fun i => (s.flow.rotIn + i) % 32)).findSome?
      (fun g => match s.flow.lineHead g with
        | some f => if s.admitFirst f then some (g, f) else none
        | none => none)
  else none

/-- The ingress recirculation queue's head may be dealt: its domain is IRC. -/
def State.recircReady (s : State) : Option Frame :=
  match s.flow.recircI with
  | f :: _ => if s.flow.windowOpen 0x80 then some f else none
  | [] => none

/-- The head of the ingress-mode inject frames may be dealt. -/
def State.injectReady (s : State) : Option (Frame × List Nat) :=
  if 2 ≤ s.poolLevel 3 then none else
  match s.flow.injectIn with
  | f :: _ => if s.admitFirst f.1 then some f else none
  | [] => none

/-- One frame dealt on ingress: line first, what is left shared by recirculation and inject in the ratio of their
weights, a source with nothing waiting yielding (R86). -/
def State.dealIngress (s : State) : State :=
  match s.pickPipe .ingress with
  | none => s
  | some pipe =>
    match s.lineReady with
    | some (g, f) =>
      let fl := { s.flow with lineIn := dropFirst (fun x => x.1 == g) s.flow.lineIn, rotIn := (g + 1) % 32 }
      { s with flow := fl }.dealTo .ingress pipe f (firstDomain f)
    | none =>
      let w := s.obj 0x4000 2
      let total := w + s.obj 0x4000 3
      let wantRecirc := decide (s.flow.mix % total < w)
      let s' := { s with flow := { s.flow with mix := (s.flow.mix + 1) % total } }
      let recirc (f : Frame) : State :=
        { s' with flow := { s'.flow with recircI := s'.flow.recircI.tail } }.dealTo .ingress pipe f 0x80
      let inject (f : Frame × List Nat) : State :=
        ({ s' with flow := { s'.flow with injectIn := s'.flow.injectIn.tail } }.dealTo .ingress pipe f.1
          (firstDomain f.1)).freeCells 1 (f.2.map (fun n => (n, 5)))
      match s.recircReady, s.injectReady with
      | some f, some g => if wantRecirc then recirc f else inject g
      | some f, none => recirc f
      | none, some g => inject g
      | none, none => s

/-- One frame dealt on egress: the BOND-TF stream first, then egress recirculation (R86, R87); a frame from BOND-TF waits
while the body store has granted its cycle's cells (R267). -/
def State.dealEgress (s : State) : State :=
  match s.pickPipe .egress with
  | none => s
  | some pipe =>
    match s.flow.egressIn with
    | f :: r =>
      if s.allocBusy 3 then s else { s with flow := { s.flow with egressIn := r } }.dealTo .egress pipe f 0
    | [] =>
      match s.flow.recircE with
      | f :: r => { s with flow := { s.flow with recircE := r } }.dealTo .egress pipe f 0x81
      | [] => s

/-- A frame at the head of its FIFO or of the inject frames, free to be dealt otherwise, waits for body cells that the FE body
store cannot give: its request is answered EMPTY (R269). -/
def State.bodyEmpty (s : State) : Bool :=
  let short (f : Frame) : Bool := s.flow.windowOpen (firstDomain f) && decide (s.flow.held < 32768) &&
    decide (feReserveBase < s.feUsed + s.bodySize .ingress { f with tag := s.tx.commit % 8 })
  !s.allocBusy 3 && ((s.dev.st.inService && !s.lineStopped &&
      (List.range 32).any (fun g => match s.flow.lineHead g with
        | some f => short f
        | none => false)) ||
    (decide (s.poolLevel 3 < 2) && match s.flow.injectIn with
      | f :: _ => short f.1
      | [] => false))

/-- FRAME_DEAL (R83): nothing while the FE die is halted. -/
def State.deal (s : State) (dir : Dir) : State :=
  if s.faults.haltFe then s
  else
    let old := s.flow
    let s := s.purgeStale dir
    let s := match dir with
      | .ingress => (if s.bodyEmpty then s.bump 0x5001 3 else s).dealIngress
      | .egress => s.dealEgress
    s.feSettle old

/-! ### The match cycles (R91, R92, R131, R132, R149 to R151, R204 to R207) -/

/-- The object word of an FC-01 or FC-02 event (R552). -/
def memObject (table line : Nat) : Nat := table * 2 ^ 24 + line % 2 ^ 24

/-- A corrected error (R204). -/
def State.corrected (s : State) (table line : Nat) : State :=
  (s.bump 0x4400 5).raise { cls := 1, level := 0, die := 1, object := memObject table line, value := line,
                            ctrIdx := 0x4400, ctrSub := 5 }

/-- An uncorrectable error in a line of a versioned table: poisoned, FC-02 at level F1 (R206). -/
def State.poison (s : State) (table line : Nat) : State :=
  let bad := match s.tables.lineAt table line with
    | some l => l.backingBad
    | none => false
  (s.setTables (s.tables.setLine table line true bad)).raise
    { cls := 2, level := 1, die := 1, object := memObject table line, value := line }

/-- An uncorrectable error in a learned bucket: its entries are lost (R207). -/
def State.loseBucket (s : State) (b : Nat) : State :=
  let n := ((List.range 8).filter (fun i => entryValid (s.tables.slotAt b i))).length
  let t := (List.range 8).foldl (fun t i => t.setSlot b i (setBit (t.slotAt b i) 255 false)) s.tables
  let tbl := 0x50 + (s.bucketTable b).getD 0
  ((s.setTables t).bumpN 0x4400 7 n).raise
    { cls := 2, level := 1, die := 1, object := memObject tbl b, value := b, ctrIdx := 0x4400, ctrSub := 7 }

/-- The first needed instance of a template that is not valid (R131, R139). -/
def missingInst (t : List Byte) (valid : Nat) : Option Nat :=
  (List.range 64).find? (fun i => bit (leAt t 4 8) i && !bit valid i)

/-- The key a port presents to its table (R144, R171). -/
def State.portKey (s : State) (table : Nat) (kw : Nat × Nat) : Nat :=
  if tableKind table = 2 then kw.1 else fitKey kw.1 kw.2 (s.keyWidth table)

/-- The action of a classification hit (R151). -/
def Ctx.ruleAction (c : Ctx) (r : LkRes) : Ctx :=
  let d := r.get .actionData
  match r.get .action with
  | 0 => c.request 0
  | 1 => c.setDest d
  | 2 => ({ c with hv := metaSet (metaSet c.hv .puntClass (bits d 21 16)) .puntReason (bits d 15 0),
                   ownReason := false, copyOrigin := c.stage - 1 }).request 2
  | _ => { c with hv := metaSet c.hv .mirrorSession (bits d 7 0) }

/-- An unresolved port: the first of a pass asks for the punt of R132. -/
def State.unresolved (s : State) (c : Ctx) (stage inst : Nat) : State × Ctx :=
  if c.unres then (s, c)
  else
    let hv := metaSet (metaSet c.hv .puntClass (s.obj 0x4100 1)) .puntReason 0xFF01
    let detail := metaGet c.hv .parseReach * 2 ^ 16 + stage * 2 ^ 8 + inst
    (s.bump 0x4101 7, { ({ c with hv := hv }).request 1 with
      unres := true, ownReason := true, detail := detail, origin := stage })

/-- A frame whose lookup read a poisoned line is dropped and counted at the table (R206). -/
def State.poisonedRead (s : State) (c : Ctx) (table : Nat) : State × Ctx :=
  (s.bump (0x4400 + table) 8, { c.request 0 with poisoned := true })

/-- What the read of a learned bucket showed, handled: a corrected line is delivered, an uncorrectable one loses its
entries (R204, R207). -/
def State.readBucket (s : State) (table b : Nat) : MemErr → State
  | .none => s
  | .corrected => s.corrected table b
  | .uncorrectable => s.loseBucket b

/-- A lookup in a learned table (R184, R185, R194, R207): both candidate buckets are read, and what is left of them is
searched. -/
def State.matchLearned (s : State) (c : Ctx) (port table key : Nat) (e1 e2 : MemErr) : State × Ctx :=
  let tbl := table - 0x50
  if s.bucketCount tbl = 0 then (s, { c with lks := c.lks.set port LkRes.miss })
  else
    let (a, b) := s.candidates tbl key
    let s := (s.readBucket table a e1).readBucket table b e2
    let s := (s.unsweep tbl key a).unsweep tbl key b
    let r := (s.lookup table key 0).1
    (if r.hit then s.touchLearned table key else s, { c with lks := c.lks.set port r })

/-- One port of a stage; a central read beyond those allowed in the pass is not issued, and the port delivers none (R81, log
entry 121). `err` is what the protected memory showed on the reads of its line, or of its two candidate
buckets. -/
def State.matchPort (s : State) (c : Ctx) (stage port : Nat) (b : Nat × Nat × Nat) (err : MemErr × MemErr) : State × Ctx :=
  if ¬ portUsed b then (s, c)
  else
    let t := s.template b.2.1
    match missingInst t (metaGet c.hv .validMap) with
    | some i => if bit (metaGet c.hv .parseFlags) 0 then s.unresolved c stage i else (s, c)
    | none =>
      let key := s.portKey b.1 (tplKey t c.hv)
      if s.readsAllowed c < c.reads + centralReads b.1 then (s, c)
      else
      let c := { c with reads := c.reads + centralReads b.1 }
      if tableKind b.1 = 3 then s.matchLearned c port b.1 key err.1 err.2
      else
        let (r, line) := s.lookup b.1 key (tagCommit s.tx.commit c.frame.tag)
        let put (s : State) : State × Ctx :=
          (if tableKind b.1 = 4 ∧ r.hit then s.setTables (s.tables.credit (r.get .counter) c.frame.length) else s,
            { c with lks := c.lks.set port r })
        if s.tables.poisoned b.1 line then s.poisonedRead c b.1
        else match err.1 with
          | .none => put s
          | .corrected => put (s.corrected b.1 line)
          | .uncorrectable => (s.poison b.1 line).poisonedRead c b.1

/-- The ports of a stage, LP0 first: `errs` the reads of LP0 to LP3, then those of their second candidate buckets. -/
def State.matchPorts (s : State) (c : Ctx) (stage : Nat) : Nat → List (Nat × Nat × Nat) → List MemErr → State × Ctx
  | _, [], _ => (s, c)
  | p, b :: bs, errs =>
    let (s', c') := s.matchPort c stage p b (errs.getD p .none, errs.getD (4 + p) .none)
    s'.matchPorts c' stage (p + 1) bs errs

/-- The SELECT of the stage before, delivered before this stage's first action step (R179, R180). -/
def State.deliverSelect (s : State) (c : Ctx) : State × Ctx :=
  match c.sel with
  | none => (s, c)
  | some (d, g, h) =>
    let cm := tagCommit s.tx.commit c.frame.tag
    let m := (groupWindow g).1 + h % (bits (verAt s.tables.vers 0x41 g cm) 8 0 + 1)
    if s.tables.poisoned 0x41 g then s.poisonedRead { c with sel := none } 0x41
    else if s.tables.poisoned 0x42 m then s.poisonedRead { c with sel := none } 0x42
    else
      let (v, ok) := s.selectMember g h cm
      (if ok then s else s.bump 0x4441 8, { c.put d v with sel := none })

/-- A stage that passes a packet through: a SELECT of the stage before is delivered (R179). -/
def State.stagePassed (s : State) (c : Ctx) : State :=
  let (s, c) := s.deliverSelect c
  s.setCtx { c with ended := true }

/-- The CORE cycles that an ingress stage with central reads holds the stages behind it: the reads finish within 16 cycles
of their issue, 4 of which are the stage's own; when is free (R80, R123, log entry 98). -/
def State.holdStage (s : State) (c : Ctx) : State :=
  match c.dir with
  | .egress => s
  | .ingress =>
    let (n, s) := s.fresh
    s.bumpN (0x4010 + c.pipe % 16) 5 (n % 13)

/-- STAGE_MATCH: temporaries and conditions are cleared; the next stage of a context forms its keys and looks them up; the
SELECT of the stage before is delivered, then the actions of classification hits follow in port order LP3 to LP0; the
lowest port that hit names the first bundle, or the section's miss bundle stands (R91 to R95, R151, R179). A stage with no
section or no bundle passes the packet through. -/
def State.stageMatch (s : State) (id stage : Nat) (errs : List MemErr) : State :=
  match s.flow.ctx id with
  | none => s
  | some c =>
    if c.skip ∨ c.stage ≠ stage then s
    else
      let c := { c with stage := stage + 1, temps := List.replicate 8 0, conds := List.replicate 4 false,
                        lks := List.replicate 4 LkRes.miss, bundle := none, started := false, branch := none,
                        ended := false, bundles := 0 }
      match (s.ctxProg c).bind (fun p => sectionOf p stage) with
      | none => s.stagePassed c
      | some x =>
        if x.bundles = 0 then s.stagePassed c
        else
          let n := c.reads
          let (s, c) := s.matchPorts c stage 0 x.ports errs
          let s := if n < c.reads then s.holdStage c else s
          let (s, c) := s.deliverSelect c
          let hits := (List.range 4).filter (fun p => (c.lks.getD p LkRes.miss).hit)
          let rules := (hits.reverse.filter (fun p => tableKind (x.ports.getD p (0, 0, 0)).1 == 4))
          let c := rules.foldl (fun c p => c.ruleAction (c.lks.getD p LkRes.miss)) c
          let first := match hits with
            | [] => x.miss
            | p :: _ => Config.hitBundle x.bytes p
          s.setCtx { c with bundle := some first, bundles := x.bundles, pre := c.hv, preTemps := c.temps,
                            preConds := c.conds }

/-! ### The deparser (R99, R100, R134, R135) -/

/-- The bytes of an instance as the deparser sends it: the area over the bytes parsed, or the area of an instance that
PUSH or VALID made present. -/
def Ctx.instOut (c : Ctx) (pr : Profile) (n : Nat) : List Byte :=
  let area := match pr.area n with
    | some (st, ln) => bytesAt c.hv st ln
    | none => []
  match c.insts.find? (fun i => i.1 == n) with
  | some (_, b) =>
    let a := if n = 20 ∨ n = 32 then area.take 8 else area
    a.take b.length ++ b.drop a.length
  | none => bytesAt area 0 4

/-- The valid instances among some, with their bytes. -/
def Ctx.segs (c : Ctx) (pr : Profile) (ns : List Nat) : List (Nat × List Byte) :=
  (ns.filter c.isValid).map (fun n => (n, c.instOut pr n))

/-- An instance is a tag or a label. -/
def isTagOrLabel (n : Nat) : Bool := (1 ≤ n && n ≤ 14) || n == 27

/-- The instance after which the label stack stands: the last one other than a tag before the first label parsed,
instance 0 where none was parsed. -/
def labelAnchor (l : List (Nat × List Byte)) : Nat :=
  if l.any (fun i => i.1 == 3) then
    (((l.takeWhile (fun i => i.1 != 3)).filter (fun i => !isTagOrLabel i.1)).getLast?.map (·.1)).getD 0
  else 0

/-- The header instances of the frame as the deparser sends them, in order; an instance other than a tag or label that
VALID marks present though none was parsed has no place in the frame and is sent nowhere (log entry 124). -/
def Ctx.outSegs (c : Ctx) (pr : Profile) : List (Nat × List Byte) :=
  let anchor := labelAnchor c.insts
  let labels := c.segs pr (stackInsts .mpls)
  (c.insts.filter (fun i => !isTagOrLabel i.1)).flatMap (fun i =>
    c.segs pr [i.1] ++
    (if i.1 = 0 then c.segs pr [1, 2] else if i.1 = 26 then c.segs pr [27] else []) ++
    (if i.1 = anchor then labels else []))

/-- Offset of an instance and of the IP layer before it, in the segments. -/
def segOffset : List (Nat × List Byte) → Nat → Nat → Option (Nat × Nat) → Option (Nat × Option (Nat × Nat))
  | [], _, _, _ => none
  | (m, b) :: r, n, o, ip =>
    if m = n then some (o, ip)
    else segOffset r n (o + b.length) (if m = 16 ∨ m = 17 ∨ m = 28 ∨ m = 29 then some (m, o) else ip)

/-- The pseudo-header sum and the end of the IP payload of an IP layer at an offset. -/
def pseudoHeader (d : List Byte) (ip : Nat × Nat) (proto len : Nat) : List Byte :=
  if ip.1 = 16 ∨ ip.1 = 28 then bytesAt d (ip.2 + 12) 8 ++ [0, byteOf proto] ++ beBytes 2 len
  else bytesAt d (ip.2 + 8) 32 ++ beBytes 4 len ++ [0, 0, 0, byteOf proto]

/-- The end of an IP layer's payload. -/
def ipEnd (d : List Byte) (ip : Nat × Nat) : Nat :=
  if ip.1 = 16 ∨ ip.1 = 28 then ip.2 + beAt d (ip.2 + 2) 2 else ip.2 + 40 + beAt d (ip.2 + 4) 2

/-- One CSUM carried out on the frame produced: IPv4, UDP, TCP, and GRE with its C bit (R95). -/
def applyCsum (segs : List (Nat × List Byte)) (d : List Byte) (n : Nat) : List Byte :=
  match segOffset segs n 0 none with
  | none => d
  | some (o, ip) =>
    if n = 16 ∨ n = 28 then
      let d0 := putBytes d (o + 10) [0, 0]
      putBytes d0 (o + 10) (beBytes 2 (inetCsum (bytesAt d0 o ((beAt d0 o 1 % 16) * 4))))
    else match ip with
    | none => d
    | some ip =>
      if n = 23 ∨ n = 34 then
        let len := beAt d (o + 4) 2
        let d0 := putBytes d (o + 6) [0, 0]
        let v := inetCsum (pseudoHeader d0 ip 17 len ++ bytesAt d0 o len)
        putBytes d0 (o + 6) (beBytes 2 (if v = 0 then 0xFFFF else v))
      else if n = 25 ∨ n = 35 then
        let len := ipEnd d ip - o
        let d0 := putBytes d (o + 16) [0, 0]
        putBytes d0 (o + 16) (beBytes 2 (inetCsum (pseudoHeader d0 ip 6 len ++ (bytesAt d0 o len))))
      else if n = 22 ∧ bit (beAt d o 1) 7 then
        let d0 := putBytes d (o + 4) [0, 0]
        putBytes d0 (o + 4) (beBytes 2 (inetCsum (bytesAt d0 o (ipEnd d ip - o))))
      else d

/-- The frame that the deparser produces (R95, R125, R134): of the bytes there, those before the declared end; the checksums that CSUM asked for are computed from the
innermost instance outwards, so that an outer one covers inner ones already right. -/
def Ctx.deparse (c : Ctx) (pr : Profile) : List Byte :=
  let segs := c.outSegs pr
  let body := c.body.take (c.body.length + c.frame.coming - c.trailer)
  segs.reverse.foldl (fun d i => if c.csum.contains i.1 then applyCsum segs d i.1 else d) (segs.flatMap (·.2) ++ body)

/-! ### Punts (R112, R113, R139, R154 to R157) -/

/-- Tokens count in units of a frame / 27e9, so that a gain per tick is whole. -/
def puntUnit : Nat := Config.sec

/-- The tokens of a class at the present instant (R155): none at the last reset, from which on it gains (log entry 33). -/
def State.classTokens (s : State) (cls : Nat) : Nat :=
  min (s.obj (0x4300 + cls) 2 * puntUnit)
    (nget s.flow.puntTok cls 0 + s.obj (0x4300 + cls) 1 * (s.clock.now - max s.dev.coreBase (nget s.flow.puntAt cls 0)))

/-- The tokens of the aggregate bucket at the present instant (R155). -/
def State.aggTokens (s : State) : Nat :=
  min (s.obj 0x4300 2 * puntUnit) (s.flow.aggTok + s.obj 0x4300 1 * (s.clock.now - max s.dev.coreBase s.flow.aggAt))

/-- The bucket of the aggregate brought to the present instant. -/
def State.accrueAll (s : State) : State :=
  { s with flow := { s.flow with aggTok := s.aggTokens, aggAt := s.clock.now } }

/-- The buckets of a class and of the aggregate brought to the present instant. -/
def State.accrue (s : State) (cls : Nat) : State :=
  { s with flow := { s.flow with
      puntTok := nset s.flow.puntTok cls (s.classTokens cls) 0
      puntAt := nset s.flow.puntAt cls s.clock.now 0 } }.accrueAll

/-- The bytes of a punt: header and captured frame (R112, R113). `copy` says which of the two it is. -/
def Ctx.puntBytes (c : Ctx) (frame : List Byte) (snap : Nat) (copy : Bool) : List Byte :=
  let cap := if snap = 0 then frame else frame.take snap
  let cls := metaGet c.hv .puntClass
  let detail := if c.ownReason then c.detail else metaGet c.hv .nextHop
  [1, byteOf cls] ++ beBytes 2 (metaGet c.hv .puntReason) ++
    [byteOf c.frame.src, byteOf (metaGet c.hv .pipeline), byteOf (if copy then c.copyOrigin else c.origin),
     byteOf (c.frame.tag % 8 + 8 * c.frame.pass + (if copy then 64 else 0))] ++
    beBytes 2 (metaGet c.hv .parseFlags) ++ beBytes 2 frame.length ++ beBytes 2 cap.length ++ [0, 0] ++
    timeBe c.frame.rx ++ [0, 0] ++ beBytes 4 detail ++ bytesAt c.hv 576 16 ++ cap

/-- The punt writer of the TM die: a punt takes cells of the ingress partition, or is dropped for want of room or at level
W2 (R258, R269, R285). -/
def State.puntWrite (s : State) (cls : Nat) (bytes : List Byte) : State :=
  if 2 ≤ s.poolLevel 0 then s.bump 0x5001 0xD
  else match s.allocCells 0 ((bytes.length + 32 + 255) / 256) 5 with
  | (none, s) => s.bump 0x5001 0xD
  | (some l, s) => { s with flow := { s.flow with punts := s.flow.punts ++ [Punt.mk cls bytes l] } }

/-- A punt or copy through its policers (R154, R156, R157): passed onto the bond link towards the punt writer, or dropped
and counted; a class with rate 0 passes nothing, and its punts count as class drops (log entry 156). A token is whole: an
aggregate bucket with part of one gives none, while above a threshold of more than none a part counts (log entry 157).
Class 0 names no class and passes nothing (log entry 18). -/
def State.punt (s : State) (cls : Nat) (f : Frame) (bytes : List Byte) : State :=
  if cls = 0 ∨ 63 < cls then s
  else
    let s := s.accrue cls
    let thr := s.obj 0x4300 2 * s.obj (0x4300 + cls) 3 * puntUnit / 4
    if nget s.flow.puntTok cls 0 < puntUnit ∨ s.obj (0x4300 + cls) 1 = 0 then s.bump (0x4300 + cls) 7
    else if s.flow.aggTok ≤ thr ∨ s.flow.aggTok < puntUnit then s.bump (0x4300 + cls) 8
    else
      let fl := { s.flow with
        puntTok := nset s.flow.puntTok cls (nget s.flow.puntTok cls 0 - puntUnit) 0
        aggTok := s.flow.aggTok - puntUnit
        toTm := s.flow.toTm ++ [ToTm.mk { f with data := bytes, cells := [] } 8 cls 0 none] }
      { s with flow := fl }.bump (0x4300 + cls) 6

/-! ### Disposition (R99 to R101, R108, R111) -/

/-- The stages left to match have no section, so the packet has passed them (R96). -/
def State.stagesDone (s : State) (c : Ctx) : Bool :=
  c.skip || (match s.ctxProg c with
    | none => true
    | some p => (List.range 16).all (fun k => decide (k < c.stage) || (sectionOf p k).isNone))

/-- The frame that leaves a pass (R110): user area and class as the program left them; of a trailer still to come nothing will
be sent (R134). -/
def Ctx.outFrame (c : Ctx) (out : List Byte) : Frame :=
  { c.frame with
    data := out
    cut := c.frame.cut + min c.trailer c.frame.coming
    user := bytesAt c.hv 576 64
    tc := metaGet c.hv .class_ % 8
    dp := metaGet c.hv .class_ / 8 % 4 }

/-- A mirror copy of a frame that is not forwarded, or of an egress frame, crosses to the TM die by itself (R100, R310):
kind 3 from an ingress pass, 9 from an egress pass. -/
def State.mirrorOff (s : State) (f : Frame) (kind m : Nat) : State :=
  { s with flow := { s.flow with toTm := s.flow.toTm ++ [ToTm.mk f kind m m none] } }

/-- The mirror copy of a late frame is still made (R100, R105). -/
def State.lateMirror (s : State) (r : Settle) : State :=
  match r with
  | .forward f _ _ m => if m = 0 then s else s.mirrorOff f 3 m
  | _ => s

/-- A frame whose number has been declared lost: dropped and counted (R105); a frame dropped before the reorder unit does
not reach it (R99, R106). -/
def State.lateFrame (s : State) (r : Settle) : State :=
  if r.hasFrame then (s.bump 0x4001 3).lateMirror r else s

/-- A number of an order domain settled; one already declared lost or released drops its frame as late (R105), where there
is a frame that reaches the reorder unit. -/
def State.settleSeq (s : State) (dom seq : Nat) (r : Settle) : State :=
  match s.flow.ro.find? (fun e => e.dom == dom && e.seq == seq) with
  | some e =>
    if e.res = .waiting then
      let ro := modFirst (fun e => e.dom == dom && e.seq == seq) (fun e => { e with res := r, at_ := s.clock.now }) s.flow.ro
      { s with flow := { s.flow with ro := ro } }
    else s.lateFrame r
  | none => s.lateFrame r

/-- The requests that take effect whatever R99 decides (R100): a copy to the processor, a mirror copy. -/
def State.copies (s : State) (c : Ctx) (out : List Byte) (forwarded : Bool) : State :=
  let cls := metaGet c.hv .puntClass
  let s := if bit (metaGet c.hv .requests) 2 then
      s.punt cls (c.outFrame out) (c.puntBytes out (s.obj (0x4300 + cls) 4) true) else s
  let m := metaGet c.hv .mirrorSession
  if m = 0 ∨ forwarded then s else s.mirrorOff (c.outFrame out) (if c.dir = Dir.ingress then 3 else 9) m

/-- The deferred counters credited with the final length (R90, R238). -/
def State.deferred (s : State) (c : Ctx) (len : Nat) : State :=
  s.setTables ((s.tables.credit (metaGet c.hv .deferred0) len).credit (metaGet c.hv .deferred1) len)

/-- A frame handed to the line MAC of its port's outlet; a program outlet forwards nothing (R307). -/
def State.toOutlet (s : State) (f : Frame) : State :=
  let o := s.objI 0x5201 2 f.port
  if o / 256 = 1 then { s with flow := { s.flow with toLine := s.flow.toLine ++ [(o % 256, f)] } }
  else if o / 256 = 2 then s.bump 0x5101 0xB
  else s

/-- The frame of a context is to be discarded: a drop request, or a poisoned line read (R99, R206). -/
def Ctx.dropped (c : Ctx) : Bool := bit (metaGet c.hv .requests) 0 || c.poisoned

/-- A context may not leave its deparser yet: on egress an older context is still in the pipelines, whose fixed latency
keeps the order (R16, R17, R82); on ingress the reorder unit is full and the frame would have to wait in it (R103). -/
def State.mustWait (s : State) (c : Ctx) : Bool :=
  match c.dir with
  | .egress => (s.flow.ctxs.takeWhile (fun x => x.id != c.id)).any (fun x => x.dir == .egress)
  | .ingress => !c.dropped && s.flow.behindMissing c.frame.dom c.frame.seq && decide (32768 ≤ s.flow.held)

/-- FRAME_DISPOSITION: the deparser settles a frame whose stages are done (R99, R100, R111, R135, R206); a SELECT with no
later stage that reads it is delivered first (R180). A destination of a kind that R90 does not list is forwarded with that
kind (log entry 125). -/
def State.dispose (s : State) (id : Nat) : State :=
  match s.flow.ctx id with
  | none => s
  | some c0 =>
    if ¬ s.stagesDone c0 ∨ s.mustWait c0 then s
    else
      let (s, c) := s.deliverSelect c0
      let s := { s with flow := { s.flow with ctxs := dropFirst (fun x => x.id == id) s.flow.ctxs } }
      let pr := s.profileFor c.dir c.frame.tag
      let out := c.deparse pr
      let req := metaGet c.hv .requests
      let old := { s.flow with ctxs := s.flow.ctxs ++ [c] }
      let f := c.outFrame out
      let dest := metaGet c.hv .destination
      let kind := dest / 2 ^ 29
      let fwd := decide (c.dir = Dir.ingress) && req % 16 &&& 11 == 0 && !c.poisoned && kind != 0 && kind != 3
      let sent := !c.dropped && !bit req 1 && (bit req 3 || kind != 3 && kind != 0)
      let made := sent || bit req 2 || metaGet c.hv .mirrorSession != 0
      let s := if 0 < c.trailer ∧ 64 < c.frame.length ∧ made then s.bump 0x4101 5 else s
      let s := s.copies c out fwd
      let target := if kind = 1 then dest % 2 ^ 19 else dest % 2 ^ 16
      let cls := metaGet c.hv .puntClass
      let punted := c.puntBytes c.frame.data (s.obj (0x4300 + cls) 4) false
      let s := if c.dropped then s else s.deferred c f.length
      match c.dir with
      | .ingress =>
        let r : Settle :=
          if c.dropped then .gone
          else if bit req 1 then .punt f punted cls
          else if bit req 3 then .recirc f
          else if kind = 3 then .punt f punted cls
          else if kind ≠ 0 then .forward f kind target (metaGet c.hv .mirrorSession)
          else .gone
        (s.settleSeq c.frame.dom c.frame.seq r).feSettle old
      | .egress =>
        (if c.dropped then s
        else if bit req 1 then s.punt cls f punted
        else if bit req 3 then (if f.gated then s.bump 0x4001 6 else s.toRecirc .egress f)
        else if kind = 3 then s.punt cls f punted
        else if kind ≠ 0 then s.toOutlet f
        else s).feSettle old

/-! ### The reorder unit (R101, R104, R106) -/

/-- A settled number released: its frame goes where the deparser sent it (R101, R108). -/
def State.releaseOne (s : State) (r : Settle) : State :=
  match r with
  | .forward f k d m => { s with flow := { s.flow with toTm := s.flow.toTm ++ [ToTm.mk f k d m none] } }
  | .recirc f => s.toRecirc .ingress f
  | .punt f b cls => s.punt cls f b
  | _ => s

/-- The leading settled numbers of a domain released in order (R101). -/
def State.releaseLeading (s : State) (dom : Nat) : Nat → State
  | 0 => s
  | n + 1 =>
    match s.flow.ro.find? (fun e => e.dom == dom) with
    | none => s
    | some e =>
      if e.res = .waiting then s
      else
        let s := { s with flow := { s.flow with ro := dropFirst (fun e => e.dom == dom) s.flow.ro } }
        (s.releaseOne e.res).releaseLeading dom n

/-- REORDER_RELEASE (R101): the body cells of the frames that cross onto the bond link or are dropped are freed (R258). -/
def State.releaseDomain (s : State) (dom : Nat) : State := (s.releaseLeading dom s.flow.ro.length).feSettle s.flow

/-- STALE_EPOCH_DROP (R109, R258). -/
def State.dropStale (s : State) (d : Dir) : State := (s.purgeStale d).feSettle s.flow

/-- The numbers of a domain ahead of the last frame that has waited for the reorder timeout (R104), and how many. -/
def State.loseAhead (s : State) (dom : Nat) : List RoEntry → List RoEntry × Nat
  | [] => ([], 0)
  | e :: r =>
    let timeout := s.obj 0x4000 1 * Config.ns
    let due (x : RoEntry) : Bool := x.dom == dom && x.res.hasFrame && decide (x.at_ + timeout ≤ s.clock.now)
    let (r', n) := s.loseAhead dom r
    if e.dom = dom ∧ e.res = .waiting ∧ r.any due then ({ e with res := .lost } :: r', n + 1) else (e :: r', n)

/-- REORDER_TIMEOUT (R104): nothing before the timeout has run. No stage is concerned: the event's object is 0xFFFFFFFF and its
value the number of the order domain (DESIGN CHOICE, log entry 175). -/
def State.reorderTimeout (s : State) (dom : Nat) : State :=
  let (ro, n) := s.loseAhead dom s.flow.ro
  if n = 0 then s
  else
    let s := { s with flow := { s.flow with ro := ro } }
    (s.bumpN 0x4001 2 n).raise { cls := 3, level := 1, die := 1, object := 0xFFFFFFFF, value := dom,
                                 ctrIdx := 0x4001, ctrSub := 2 }

/-- The frames of a failed pipeline dropped, their numbers settled at once (R106). -/
def State.dropContexts (s : State) (pipe : Nat) : State :=
  let old := s.flow
  let gone := s.flow.ctxs.filter (fun c => c.pipe == pipe)
  let s := { s with flow := { s.flow with ctxs := s.flow.ctxs.filter (fun c => c.pipe != pipe) } }
  gone.foldl (fun s c =>
    let s := s.bump 0x4001 7
    if c.dir = Dir.ingress then s.settleSeq c.frame.dom c.frame.seq .gone else s) s |>.feSettle old

/-- The learning engine of a direction has taken a notification: it takes the next 8 CORE cycles later (R186). -/
def State.learnPace (s : State) (dir : Dir) : State :=
  { s with flow := { s.flow with learnAt := nset s.flow.learnAt (dirCode dir) (s.coreCycle + 8) 0 } }

/-- One notification taken by the learning engine of a direction (R186). -/
def State.learnNext (s : State) (dir : Dir) : State :=
  if s.coreCycle < nget s.flow.learnAt (dirCode dir) 0 then s
  else match dir with
  | .ingress =>
    match s.flow.learnI with
    | [] => s
    | n :: r => (({ s with flow := { s.flow with learnI := r } }).learnPace dir).learn n
  | .egress =>
    match s.flow.learnE with
    | [] => s
    | n :: r => (({ s with flow := { s.flow with learnE := r } }).learnPace dir).learn n

end Sys2Proof.Machine
end

