-- ==== Sys2Proof/Machine/Gates.lean ====
section
/-! DEFINITION. Graticules (chapter 9): entries in force, the fit condition, longest spans, changes and their X. -/

namespace Sys2Proof.Machine

/-- The cycle time in ns (R342). -/
def Grat.cycle (g : Grat) : Nat := sumOf (fun e => e.2) g.entries

/-- The entry at a phase, with its index and its end within the cycle (R344). -/
def entryAt : List (Nat × Nat) → Nat → Nat → Nat → Option (Nat × Nat × Nat)
  | [], _, _, _ => none
  | (m, d) :: r, i, start, ph =>
    if start ≤ ph ∧ ph < start + d then some (i, m, start + d) else entryAt r (i + 1) (start + d) ph

/-- The phase of an instant of TIME, in ns, within the cycle (R344). -/
def Grat.phase (g : Grat) (ns : Nat) : Nat := (((ns : Int) - (timeToNs g.base : Nat)) % (g.cycle : Int)).toNat

/-- The entry in force at an instant: index, mask, and the instant at which it ends (R344). -/
def Grat.at_ (g : Grat) (ns : Nat) : Option (Nat × Nat × Nat) :=
  let ph := g.phase ns
  (entryAt g.entries 0 0 ph).map (fun (i, m, e) => (i, m, ns + (e - ph)))

/-- The graticule in force on a port. -/
def Gates.of (g : Gates) (port : Nat) : Option Grat := (g.inForce.find? (fun x => x.1 == port)).map (·.2)

/-- The committed change that waits for its X on a port. -/
def Gates.change (g : Gates) (port : Nat) : Option GratChange := g.pending.find? (fun c => c.port == port)

/-- The graticule that will be in force at an instant, as far as the scheduler sees it, and the instant up to which that
holds (R351, R356). -/
def Gates.seen (g : Gates) (port ns : Nat) : Option Grat × Option Nat :=
  match g.change port with
  | some c => if c.x ≤ ns then (if c.enable then some c.grat else none, none) else (g.of port, some c.x)
  | none => (g.of port, none)

/-- A class is gated on a port at the present time (R343). -/
def Gates.gated (g : Gates) (port tc : Nat) : Bool :=
  match g.of port with
  | some q => bit q.gated tc
  | none => false

/-- A class's gate is open at every instant from `a` to `b`, in ns (R343, R351); `fuel` bounds the entries walked. -/
def Gates.openFrom (g : Gates) (port tc b : Nat) : Nat → Nat → Bool
  | 0, _ => false
  | fuel + 1, a =>
    let (q, until_) := g.seen port a
    match q with
    | none => match until_ with
      | some x => if b < x then true else g.openFrom port tc b fuel x
      | none => true
    | some q =>
      if ¬ bit q.gated tc then
        (match until_ with
         | some x => if b < x then true else g.openFrom port tc b fuel x
         | none => true)
      else match q.at_ a with
      | none => false
      | some (_, m, e) =>
        let e := match until_ with
          | some x => min e x
          | none => e
        if ¬ bit m tc then false else if b < e then true else g.openFrom port tc b fuel e

/-- Lead and tail in ns (chapter 9). -/
def gateLead : Nat := 306
def gateTail : Nat := 317

/-- Bit times on the wire of a frame of stored length L with allowance A: FCS, preamble and gap included. -/
def wireBits (len allow : Nat) : Nat := (len + allow + 24) * 8

/-- The length allowance that counts for a class: of the graticule in force where it gates the class, else of the change
that waits (R346, R351). -/
def Gates.allowOf (g : Gates) (port tc : Nat) : Nat :=
  match g.of port, g.change port with
  | some q, some c => if bit q.gated tc then q.allow else if c.enable then c.grat.allow else 0
  | some q, none => q.allow
  | none, some c => if c.enable then c.grat.allow else 0
  | none, none => 0

/-- The fit condition of R351 at TIME `ns` for a rate in Gb/s. -/
def Gates.fits (g : Gates) (port tc len rate ns : Nat) : Bool :=
  let allow := g.allowOf port tc
  let b := ns + gateTail + wireBits len allow / rate
  g.openFrom port tc b 256 (ns + gateLead)

/-- The longest run of entries open for a class, over two cycles laid end to end. -/
def longestRun (tc : Nat) : List (Nat × Nat) → Nat → Nat → Nat
  | [], _, best => best
  | (m, d) :: r, run, best =>
    if bit m tc then longestRun tc r (run + d) (max best (run + d)) else longestRun tc r 0 best

/-- The longest span of a class (chapter 9, 0x5410 + p:10 to :17). -/
def Grat.span (g : Grat) (tc : Nat) : Nat :=
  if ¬ bit g.gated tc then 0xFFFFFFFF
  else if g.entries.all (fun e => bit e.1 tc) then 0xFFFFFFFF
  else longestRun tc (g.entries ++ g.entries) 0 0

/-- The longest span of a class on a port; a class not gated is unbounded. -/
def Gates.span (g : Gates) (port tc : Nat) : Nat :=
  match g.of port with
  | some q => q.span tc
  | none => 0xFFFFFFFF

/-- A frame fits its class's longest span (R353, R354). -/
def Gates.spanFits (g : Gates) (port tc len rate : Nat) : Bool :=
  let sp := g.span port tc
  let allow := match g.of port with
    | some q => q.allow
    | none => 0
  sp == 0xFFFFFFFF || (decide (11 ≤ sp) && decide (wireBits len allow ≤ (sp - 11) * rate))

/-- The X of a change (R355): the later of activation and commit + 2,000 ns, or the first cycle start at or after it. -/
def Gates.fixX (g : Gates) (port : Nat) (act commit : Time80) : Nat :=
  let m := max (timeToNs act) (timeToNs commit + 2000)
  match g.of port with
  | none => m
  | some q =>
    let ph := q.phase m
    if ph = 0 then m else m + (q.cycle - ph)

/-- A change put into the list of a port's committed changes; one already there is replaced (R357). -/
def State.commitChange (s : State) (c : GratChange) : State :=
  let s := if (s.gates.change c.port).isSome then s.bump 0x5400 6 else s
  { s with gates := { s.gates with pending := s.gates.pending.filter (fun d => d.port != c.port) ++ [c] } }

/-- The changes whose X has been reached take effect on a port (R355, R356). -/
def State.gratEffect (s : State) (port : Nat) : State :=
  match s.gates.change port with
  | none => s
  | some c =>
    if timeToNs s.time80 < c.x then s
    else
      let g := { s.gates with
        pending := s.gates.pending.filter (fun d => d.port != port)
        inForce := s.gates.inForce.filter (fun x => x.1 != port) ++ (if c.enable then [(port, c.grat)] else []) }
      { s with gates := g }.bump 0x5400 5

/-! ### Records (R345 to R350) -/

/-- The fault of a GRATICULE record's target and payload (R348; R7 of a TIME80 in a header), as the detail of abort 0x0324. -/
def gratFault (port part first : Nat) (pl : List Byte) : Option Nat :=
  if 127 < port ∨ (part ≠ 1 ∧ part ≠ 2) then some 0xFFFF
  else if part = 1 then
    let en := beAt pl 0 1
    let n := beAt pl 2 2
    if first ≠ 0 ∨ 1 < en ∨ (en = 1 ∧ (n = 0 ∨ 1024 < n)) ∨ (en = 0 ∧ n ≠ 0) ∨
        beAt pl 5 3 ≠ 0 ∨ beAt pl 18 2 ≠ 0 ∨ beAt pl 30 2 ≠ 0 ∨
        1000000000 ≤ timeNs (beAt pl 8 10) ∨ 1000000000 ≤ timeNs (beAt pl 20 10) then some 0xFFFF else none
  else
    (List.range (pl.length / 8)).findSome? (fun i =>
      let d := beAt pl (8 * i + 4) 4
      if 1023 < first + i ∨ beAt pl (8 * i + 1) 3 ≠ 0 ∨ d < 32 ∨ 1000000000 < d then some ((first + i) % 65536)
      else none)

/-- The payload length of a record is one of those of R346 and R347. -/
def gratLenOk (part len : Nat) : Bool :=
  if part = 1 then len == 32 else decide (8 ≤ len) && decide (len ≤ 160) && len % 8 == 0

/-- The header record of a port among the records of a transaction; the later one counts. -/
def gratHeader (l : List PGrat) (port : Nat) : Option (List Byte) :=
  (l.reverse.find? (fun g => g.port == port && g.part == 1)).map (·.payload)

/-- The entry of an index among the records of a port: mask, duration; the later record counts. -/
def gratEntry (l : List PGrat) (port i : Nat) : Option (Nat × Nat) :=
  (l.reverse.find? (fun g => g.port == port && g.part == 2 && decide (g.first ≤ i) &&
      decide (i < g.first + g.payload.length / 8))).map
    (fun g => (beAt g.payload (8 * (i - g.first)) 1, beAt g.payload (8 * (i - g.first) + 4) 4))

/-- The highest entry carried for a port, plus one. -/
def gratTop (l : List PGrat) (port : Nat) : Nat :=
  maxOf (fun g => if g.port = port ∧ g.part = 2 then g.first + g.payload.length / 8 else 0) l

/-- A port's records fail R350. -/
def gratPortBad (l : List PGrat) (port : Nat) : Bool :=
  let top := gratTop l port
  match gratHeader l port with
  | none => top != 0
  | some h =>
    let n := beAt h 2 2
    let es := (List.range n).map (gratEntry l port)
    decide (n < top) || es.any (·.isNone) || decide (1000000000 < sumOf (fun e => (e.getD (0, 0)).2) es)

/-- The first port whose records fail R350. -/
def gratKeystone (l : List PGrat) : Option Nat := (List.range 128).find? (gratPortBad l)

/-- The change that a port's records make, with its X (R346, R355). -/
def Gates.changeOf (g : Gates) (l : List PGrat) (port commit : Nat) (ctime : Time80) : Option GratChange :=
  (gratHeader l port).map (fun h =>
    let n := beAt h 2 2
    ⟨port, g.fixX port (beAt h 20 10) ctime, beAt h 0 1 == 1,
     ⟨beAt h 1 1, (List.range n).map (fun i => (gratEntry l port i).getD (0, 0)), beAt h 4 1, beAt h 8 10, commit⟩⟩)

end Sys2Proof.Machine
end

