-- ==== Sys2Proof/Machine/Streams.lean ====
section
/-! DEFINITION. Path protection (R498 to R503): stream records, generation, the vector recovery algorithm. -/

namespace Sys2Proof.Machine

/-- The stream records that differ from the default, with their numbers. -/
def State.streamRecs (s : State) : List (Nat × Nat) :=
  (s.objs.filter (fun e => e.1 / 2 ^ 24 == 0x6900 * 256 + 2)).map (fun e => (e.1 % 2 ^ 24, e.2))

/-- The eliminating stream of a queue (R498). -/
def State.elimStream (s : State) (qid : Nat) : Option (Nat × Nat) :=
  s.streamRecs.find? (fun e => bit e.2 127 && bit e.2 125 && bits e.2 104 86 == qid)

/-- The generating stream of a multicast group (R498). -/
def State.genStream (s : State) (group : Nat) : Option (Nat × Nat) :=
  s.streamRecs.find? (fun e => bit e.2 127 && bit e.2 126 && bits e.2 120 105 == group)

/-- The sequence state of a stream: take_any stands at reset and after a write of its record (R503). -/
def State.stream (s : State) (n : Nat) : StreamSt :=
  (s.streams.find? (fun x => x.num == n)).getD ⟨n, 0, 0, 0, true, 0⟩

/-- The sequence state of a stream set. -/
def State.setStream (s : State) (x : StreamSt) : State :=
  { s with streams := s.streams.filter (fun y => y.num != x.num) ++ [x] }

/-- A 128-bit stream record that R498 refuses, apart from its bindings. -/
def streamRecBad (v : Nat) : Bool :=
  bits v 124 121 != 0 || bits v 66 0 != 0 || decide (bits v 85 77 < 2 ∨ 256 < bits v 85 77) ||
    decide (bits v 76 67 < 1 ∨ 1000 < bits v 76 67)

/-- A record's group or queue is bound to another valid stream of the same function (R498). -/
def State.streamBound (s : State) (n v : Nat) : Bool :=
  bit v 127 && s.streamRecs.any (fun e => e.1 != n && bit e.2 127 &&
    ((bit v 126 && bit e.2 126 && bits e.2 120 105 == bits v 120 105) ||
     (bit v 125 && bit e.2 125 && bits e.2 104 86 == bits v 104 86)))

/-- The next number of a generating stream (R499). -/
def State.genNext (s : State) (n : Nat) : Nat × State :=
  let x := s.stream n
  (x.next, s.setStream { x with next := (x.next + 1) % 65536 })

/-- The clear bits among those of a history that a shift by `d` carries past bit `len` − 1. -/
def lostBits (h len d : Nat) : Nat := ((List.range d).filter (fun i => !bit h (len - 1 - i))).length

/-- The distance of a sequence number from the recovery sequence, in −32,768 to 32,767 (R502). -/
def seqDist (seq rcv : Nat) : Int := toInt 16 ((seq + 65536 - rcv % 65536) % 65536)

/-- A packet of an eliminating stream passed through the recovery (R502): whether it is passed. -/
def State.recover (s : State) (n v : Nat) (seq : Option Nat) : Bool × State :=
  let x := s.stream n
  let len := bits v 85 77
  let pass (s : State) (x : StreamSt) : Bool × State :=
    (true, (s.setStream { x with last := s.clock.now }).bumpI 0x6900 5 n 1)
  match seq with
  | none => (false, s.bumpI 0x6900 0xB n 1)
  | some q =>
    if x.takeAny then pass s { x with rcv := q, history := 1, takeAny := false }
    else
      let d := seqDist q x.rcv
      if (len : Int) ≤ d ∨ d ≤ -(len : Int) then (false, s.bumpI 0x6900 7 n 1)
      else if d ≤ 0 then
        let k := (-d).toNat
        if bit x.history k then (false, s.bumpI 0x6900 6 n 1)
        else pass (s.bumpI 0x6900 8 n 1) { x with history := setBit x.history k true }
      else
        let k := d.toNat
        pass (s.bumpI 0x6900 9 n (lostBits x.history len k))
          { x with rcv := q, history := (x.history * 2 ^ k) % 2 ^ len + 1 }

/-- STREAM_RESET_TIMEOUT (R503): no packet has passed for the reset time. -/
def State.streamReset (s : State) (n : Nat) : State :=
  let v := s.objI 0x6900 2 n
  let x := s.stream n
  if bit v 127 ∧ bit v 125 ∧ ¬ x.takeAny ∧ x.last + bits v 76 67 * Config.ms ≤ s.clock.now then
    (s.setStream { x with takeAny := true }).bumpI 0x6900 0xA n 1
  else s

end Sys2Proof.Machine
end

