-- ==== Sys2Proof/Machine/Queues.lean ====
section
/-! DEFINITION. Queues of the TM die (chapter 8) and what chapter 7 does with their packets: records and the default
map, admission, eviction, prefetch, sojourn, ports down, credit, samplers. -/

namespace Sys2Proof.Machine

/-! ### Records and the default map (R305, R311) -/

/-- The key of a node: level 1 to 5 (queue) and number. -/
def nodeKey (level n : Nat) : Nat := level * 2 ^ 20 + n

/-- The number of nodes of a level. -/
def levelCount (level : Nat) : Nat :=
  match level with
  | 1 => 256
  | 2 => 4096
  | 3 => 32768
  | 4 => 131072
  | 5 => 524288
  | _ => 0

/-- The record of the default map for a node (R305). -/
def defaultRec (unit key : Nat) : Nat :=
  let level := key / 2 ^ 20
  let n := key % 2 ^ 20
  if level = 5 then
    let common := 2 ^ 255 + 2 ^ 244 + (n % 8) * 2 ^ 151 + 2000000 * 2 ^ 102
    if n / 1024 = unit then common + (n % 8) * 2 ^ 252 + (n / 8 % 128) * 2 ^ 224 + 2 ^ 159
    else common + (n / 1024) * 2 ^ 142 + n * 2 ^ 123
  else if n < 128 then 2 ^ 255 + 2 ^ 244 + (if level = 1 then 0 else n * 2 ^ 224)
  else 0

/-- The record of a node. -/
def State.nodeRec (s : State) (key : Nat) : Nat := nget s.sched.recs key (defaultRec s.sched.mapUnit key)

/-- The record of a queue. -/
def State.qrec (s : State) (qid : Nat) : Nat := s.nodeRec (nodeKey 5 qid)

/-- Fields of a record (R311). -/
def recEnabled (r : Nat) : Bool := bit r 255
def recPrio (r : Nat) : Nat := bits r 254 252
def recWeight (r : Nat) : Nat := bits r 251 244
def recParent (r : Nat) : Nat := bits r 240 224
def recRate (r : Nat) : Nat := bits r 223 192
def recBurst (r : Nat) : Nat := bits r 191 168
def recEgress (r : Nat) : Bool := bit r 159
def recProfile (r : Nat) : Nat := bits r 158 154
def recClass (r : Nat) : Nat := bits r 153 151
def recUnit (r : Nat) : Nat := bits r 150 142
def recRemote (r : Nat) : Nat := bits r 141 123
def recSojourn (r : Nat) : Nat := bits r 122 102

/-! ### Nodes and their tokens (R315, R319, R323) -/

/-- Tokens of shapers count in units of a byte / 216,000,000: a rate of r kb/s gains r of them in a tick (R323). -/
def tokUnit : Int := 216000000

/-- What the scheduler keeps of a node. -/
def State.node (s : State) (key : Nat) : Node :=
  (s.sched.nodes.find? (fun n => n.key == key)).getD ⟨key, 0, 0, 0, []⟩

/-- The tokens of a node now (R323). -/
def State.tokens (s : State) (key : Nat) : Int :=
  let n := s.node key
  let r := s.nodeRec key
  min (recBurst r * tokUnit) (n.tok + (recRate r * (s.clock.now - n.tokAt) : Nat))

/-- A node's tokens are above 0; an unshaped node's always are (R323). -/
def State.hasTokens (s : State) (key : Nat) : Bool := recRate (s.nodeRec key) == 0 || decide (0 < s.tokens key)

/-- A node set. -/
def setNode (l : List Node) (n : Node) : List Node := l.filter (fun m => m.key != n.key) ++ [n]

/-- A length charged to a node's tokens (R319). -/
def State.chargeNode (s : State) (len key : Nat) : State :=
  if recRate (s.nodeRec key) = 0 then s
  else
    let n := { s.node key with tok := s.tokens key - len * tokUnit, tokAt := s.clock.now }
    { s with sched := { s.sched with nodes := setNode s.sched.nodes n } }

/-- A node before its record turns into `v`: the tokens gained under the old rate and burst stand, and a changed parent,
priority or weight clears the deficit (R315, R323). -/
def State.settleNode (s : State) (key v : Nat) : State :=
  let old := s.nodeRec key
  if old = v then s
  else
    let n := s.node key
    let moved := bits old 254 244 != bits v 254 244 || recParent old != recParent v
    let n := { n with tok := s.tokens key, tokAt := s.clock.now, deficit := if moved then 0 else n.deficit }
    { s with sched := { s.sched with nodes := setNode s.sched.nodes n } }

/-- The record of a node set (R315). -/
def State.setNodeRec (s : State) (key v : Nat) : State :=
  let s := s.settleNode key v
  { s with sched := { s.sched with recs := nset s.sched.recs key v (defaultRec s.sched.mapUnit key) } }

/-- The default map applied with the present unit number (R305). -/
def State.defaultMap (s : State) : State :=
  let s := (s.sched.nodes.map (·.key)).foldl (fun s k => s.settleNode k (defaultRec s.unit k)) s
  { s with sched := { s.sched with recs := [], mapUnit := s.unit } }

/-- A record outside R312; the range of the burst binds a shaped node (log entry 19). -/
def recBad (level r : Nat) : Bool :=
  bits r 243 241 != 0 || bits r 167 160 != 0 || bits r 101 0 != 0 ||
  (level != 5 && bits r 159 102 != 0) ||
  (level != 1 && decide (levelCount (level - 1) ≤ recParent r)) ||
  (recRate r != 0 && (decide (recRate r < 1000 ∨ 1600000000 < recRate r) || decide (recBurst r < 256))) ||
  (recEnabled r && recWeight r == 0) ||
  (level == 5 && (decide (2000000 < recSojourn r) || (recEnabled r && recSojourn r == 0)))

/-! ### Queues -/

/-- A queue's dynamic state. -/
def State.que (s : State) (qid : Nat) : Que :=
  (s.sched.ques.find? (fun q => q.qid == qid)).getD ⟨qid, [], [], 0, false, 0, 0, 0, [], 0⟩

/-- A queue put in its place: the list rises by QID and lists no idle queue. -/
def insertQue (q : Que) : List Que → List Que
  | [] => if q = ⟨q.qid, [], [], 0, false, 0, 0, 0, [], 0⟩ then [] else [q]
  | p :: r =>
    if p.qid < q.qid then p :: insertQue q r
    else
      let rest := if p.qid = q.qid then r else p :: r
      if q = ⟨q.qid, [], [], 0, false, 0, 0, 0, [], 0⟩ then rest else q :: rest

/-- A queue's dynamic state set. -/
def State.setQue (s : State) (q : Que) : State :=
  { s with sched := { s.sched with ques := insertQue q s.sched.ques } }

/-- Cells of packets that lie on the die. -/
def onDie (l : List Pkt) : Nat :=
  sumOf (fun p => (p.places.filter (fun x => match x with
    | .die _ => true
    | .block _ _ => false)).length) l

/-- Cells of packets, evicted content included. -/
def allCells (l : List Pkt) : Nat := sumOf (fun p => p.places.length) l

/-- The cells of a packet of stored length L (R256). -/
def cellsOf (len : Nat) : Nat := (len + 32 + 255) / 256

/-- The content of a queue that is charged on a side: ingress partition 0, egress partition 1 (R304). -/
def State.content (s : State) (k qid : Nat) : List Pkt :=
  let q := s.que qid
  if k = 1 then
    (if recEgress (s.qrec qid) then q.pkts else []) ++
    ((s.fabric.rxs.filterMap (·.asm) ++ s.fabric.pins.filterMap (·.asm)).filter
      (fun a => !a.placed && !a.refused && a.pkt.qid == qid)).map (·.pkt)
  else if recEgress (s.qrec qid) then q.locals else q.pkts

/-- Queues that hold something on either side. -/
def State.liveQids (s : State) : List Nat :=
  (s.sched.ques.map (·.qid) ++
    (s.fabric.rxs.filterMap (·.asm) ++ s.fabric.pins.filterMap (·.asm)).map (fun a => a.pkt.qid)).dedup

/-- The depth of a queue in cells, evicted content included (0x5100:04). -/
def State.depth (s : State) (qid : Nat) : Nat := allCells (s.que qid).pkts

/-! ### Reserved totals and free space (R271) -/

/-- Queues of a side that use a profile. -/
def State.profileQueues (s : State) (egress : Bool) (prof : Nat) : Nat :=
  let is (r : Nat) : Bool := recEgress r == egress && recProfile r == prof
  let base : Nat := if prof = 0 then (if egress then 1024 else 523264) else 0
  let ex := s.sched.recs.filter (fun e => e.1 / 2 ^ 20 == 5)
  base + (ex.filter (fun e => is e.2)).length - (ex.filter (fun e => is (defaultRec s.sched.mapUnit e.1))).length

/-- The reserved total of a side (R271). -/
def State.reservedTotal (s : State) (k : Nat) : Nat :=
  sumOf (fun prof => s.profileQueues (k == 1) prof * s.obj (0x5020 + prof) 1) (List.range 32) +
    (if k = 0 then s.headroomTotal else 0)

/-- Neither side's reserved total exceeds its reservation limit (R271). -/
def State.reserveOk (s : State) : Bool :=
  decide (s.reservedTotal 0 ≤ s.reserveLimit 0) && decide (s.reservedTotal 1 ≤ s.reserveLimit 1)

/-- The free shared space of a side (R271). -/
def State.freeShared (s : State) (k : Nat) : Int :=
  (s.poolSize k : Int) - s.reservedTotal k -
    sumOf (fun q => onDie (s.content k q) - s.obj (0x5020 + recProfile (s.qrec q)) 1) s.liveQids

/-! ### The admission decision (R272) -/

/-- What admission decides. -/
inductive Verdict where
  | refuse
  | accept
  | headroom
  /-- A charged packet that finds the headroom full (R291). -/
  | headroomFull
  deriving DecidableEq, Repr

/-- R272 for `n` cells towards a queue on a side, `extra` cells being already promised to it; `chg` is the port and
priority that the packet is charged to. -/
def State.verdict (s : State) (k qid n dp extra : Nat) (chg : Option (Nat × Nat)) : Verdict :=
  let prof := 0x5020 + recProfile (s.qrec qid)
  let c := s.content k qid
  let qOn := onDie c + extra
  let qAll := allCells c + extra
  let minimum := s.obj prof 1
  let shared := qOn + n - minimum
  let f := s.freeShared k
  let shift := 8 + (if dp = 0 then 0 else if dp = 1 then 1 else 2)
  if s.obj prof 2 < qAll + n then .refuse
  else if qOn + n ≤ minimum then .accept
  else if (shared : Int) * 2 ^ shift ≤ 2 ^ (s.obj prof 3) * f ∧ (n : Int) ≤ f then .accept
  else match chg with
  | none => .refuse
  | some (port, _) =>
    if s.buf.headroomUsed port + n ≤ s.obj (0x5080 + port) 6 then .headroom else .headroomFull

/-- A refused packet or copy is counted (R273, R291). -/
def State.refused (s : State) (qid : Nat) (v : Verdict) (chg : Option (Nat × Nat)) : State :=
  let s := (s.bump (0x5020 + recProfile (s.qrec qid)) 5).bump 0x5001 4
  match v, chg with
  | .headroomFull, some (port, _) =>
    let s := (s.bump (0x5080 + port) 9).bump 0x5001 5
    let (first, s) := s.firstInSecond (0x291000 + port)
    if first then s.raise { cls := 14, level := 0, die := 0, object := port, port := true, ctrIdx := 0x5080 + port, ctrSub := 9 } else s
  | _, _ => s

/-! ### Control messages and requests (R325, R327, R377) -/

/-- A control message (R377). -/
def ctlMsg (ty amount remote source : Nat) : List Byte :=
  beBytes 8 (ty * 2 ^ 60 + amount % 65536 * 2 ^ 44 + remote % 2 ^ 19 * 2 ^ 19 + source % 2 ^ 19)

/-- The transmit stream of a destination and class. -/
def Fabric.tx (f : Fabric) (dest cls : Nat) : TxStream :=
  (f.txs.find? (fun x => x.dest == dest && x.cls == cls)).getD ⟨dest, cls, 0, none, [], []⟩

/-- A transmit stream set. -/
def Fabric.setTx (f : Fabric) (x : TxStream) : Fabric :=
  { f with txs := f.txs.filter (fun y => !(y.dest == x.dest && y.cls == x.cls)) ++ [x] }

/-- A message put into the control stream of a unit. -/
def State.sendMsg (s : State) (dest : Nat) (m : List Byte) : State :=
  let x := s.fabric.tx dest 8
  { s with fabric := s.fabric.setTx { x with msgs := x.msgs ++ [m] } }

/-- Where the requests of a queue's ingress content go: unit and remote QID (R304, R325). -/
def State.requestOf (s : State) (qid : Nat) : Nat × Nat :=
  let r := s.qrec qid
  if recEgress r then (s.unit, qid) else (recUnit r, recRemote r)

/-- The ingress content of a queue: its VOQ, or its local list. -/
def State.voq (s : State) (qid : Nat) : List Pkt := s.content 0 qid

/-- ON sent when the content exceeds the balance while the request stands OFF (R325). -/
def State.creditOn (s : State) (qid : Nat) : State :=
  let q := s.que qid
  if ¬ q.on ∧ q.bal < (allCells (s.voq qid) : Int) ∧ s.voq qid ≠ [] then
    let (u, rq) := s.requestOf qid
    (s.setQue { q with on := true, onAt := s.clock.now }).sendMsg u (ctlMsg 1 0 rq qid)
  else s

/-- OFF sent by a queue that has become empty, with a return of any positive balance (R325, R327). -/
def State.creditOff (s : State) (qid : Nat) : State :=
  let q := s.que qid
  if q.on ∧ s.voq qid = [] then
    let (u, rq) := s.requestOf qid
    let s := s.setQue { q with on := false, bal := min q.bal 0 }
    let s := if 0 < q.bal then s.sendMsg u (ctlMsg 4 q.bal.toNat rq qid) else s
    s.sendMsg u (ctlMsg 2 0 rq qid)
  else s

/-- REQUEST_REFRESH (R325): ON repeated each refresh period while it is called for and no grant arrives. -/
def State.requestRefresh (s : State) (qid : Nat) : State :=
  let q := s.que qid
  if q.on ∧ q.bal < (allCells (s.voq qid) : Int) ∧ q.onAt + s.obj 0x5101 3 * Config.us ≤ s.clock.now then
    let (u, rq) := s.requestOf qid
    (s.setQue { q with onAt := s.clock.now }).sendMsg u (ctlMsg 1 0 rq qid)
  else s

/-! ### Releasing packets (R258, R264) -/

/-- A packet refused further bytes: what is still to come of it is counted off (R384). -/
def Asm.refuse (pid : Nat) (a : Option Asm) : Option Asm :=
  a.map (fun a => if a.pkt.id = pid then { a with refused := true } else a)

/-- Every reassembly of a packet refuses it from now on. -/
def Fabric.forget (f : Fabric) (pid : Nat) : Fabric :=
  { f with
    rxs := f.rxs.map (fun x => { x with asm := Asm.refuse pid x.asm })
    pins := f.pins.map (fun x => { x with asm := Asm.refuse pid x.asm }) }

/-- The block that follows a block without a gap in a list of places. -/
def succBlock (l : List Place) (b : Nat) : Option Nat :=
  (l.zip l.tail).findSome? (fun x => match x.1, x.2 with
    | .block c _, .block d _ => if c = b ∧ d ≠ b then some d else none
    | _, _ => none)

/-- The Next fields of a queue's blocks follow its content: the next block of the same evicted segment (R257, R277). -/
def State.relink (s : State) (qid : Nat) : State :=
  let q := s.que qid
  let nxt (b : Nat) : Nat :=
    ((succBlock (q.pkts.flatMap (·.places)) b).orElse (fun _ => succBlock (q.locals.flatMap (·.places)) b)).getD 0
  { s with buf := { s.buf with
      blocks := s.buf.blocks.map (fun b => if b.qid = qid then { b with next := nxt b.num } else b) } }

/-- The Next fields of the cells of a packet on the die follow its places (R255). -/
def linkCells (p : Pkt) (cells : List Cell) : List Cell :=
  let nxt (n : Nat) : Nat := ((p.places.zip p.places.tail).findSome? (fun x => match x.1, x.2 with
    | .die a, .die b => if a = n then some b else none
    | _, _ => none)).getD 0
  cells.map (fun c => if c.pool = 0 ∧ p.places.contains (.die c.num) then { c with next := nxt c.num } else c)

/-- Blocks of a queue that no packet of it refers to are freed. -/
def State.sweepBlocks (s : State) (qid : Nat) : State :=
  let q := s.que qid
  let used := (q.pkts ++ q.locals).flatMap (fun p => p.places.filterMap (fun x => match x with
    | .block b _ => some b
    | .die _ => none))
  (s.buf.blocks.filter (fun b => b.qid == qid && !used.contains b.num)).foldl (fun s b => s.freeBlock b.num b.owner) s

/-- The cells and blocks of packets that have left their queues are released under their owners' codes. -/
def State.releaseCells (s : State) (l : List Pkt) : State :=
  let ports := s.buf.pfcPorts
  let s := (l.flatMap (·.places)).foldl (fun s x => match x with
    | .die n => (match s.buf.cell 0 n with
      | some c => s.freeCell 0 n c.owner
      | none => s.freeCell 0 n 0)
    | .block _ _ => s) s
  let s := (l.map (·.qid)).dedup.foldl State.sweepBlocks s
  (((s.poolSync 0).poolSync 1).poolSync 2).pfcSyncAll ports

/-- The path of a queue upwards: aggregate, subgroup, group, port. -/
def State.pathUp (s : State) (qid : Nat) : List Nat :=
  let a := recParent (s.qrec qid)
  let b := recParent (s.nodeRec (nodeKey 4 a))
  let c := recParent (s.nodeRec (nodeKey 3 b))
  let d := recParent (s.nodeRec (nodeKey 2 c))
  [a, b, c, d]

/-- The port node of a queue. -/
def State.portOf (s : State) (qid : Nat) : Nat := (s.pathUp qid).getD 3 0 % 256

/-- The outlet of a port node (R307). -/
def State.outlet (s : State) (node : Nat) : Nat := s.objI 0x5201 2 node

/-- The line port of a port node's outlet. -/
def State.outLine (s : State) (node : Nat) : Option Nat :=
  if s.outlet node / 256 = 1 then some (s.outlet node % 256) else none

/-- Packets sent whole or dropped: their cells are released, and what is still to come of them is refused. -/
def State.leave (s : State) (l : List Pkt) : State :=
  (l.foldl (fun s p => { s with fabric := s.fabric.forget p.id }) s).releaseCells l

/-- The record of an injected packet dropped before its line MAC (R458): flag [0] set, with the line port of its queue's
outlet, 0 where there is none (log entry 158). -/
def State.stampLost (s : State) (p : Pkt) : State :=
  if p.stamp then s.noStamp p.token ((s.outLine (s.portOf p.qid)).getD 0) else s

/-- Packets dropped: the records of those that asked for a timestamp, and their cells released. -/
def State.release (s : State) (l : List Pkt) : State := (l.foldl State.stampLost s).leave l

/-! ### Admission of packets from BOND-FT (R272 to R274, R303, R309, R310, R314) -/

/-- The TIME count in ns modulo 2^32. -/
def State.ns32 (s : State) : Nat := timeToNs s.time80 % 2 ^ 32

/-- The packet that a frame from BOND-FT makes, before it has a queue. -/
def State.pktOf (s : State) (f : Frame) (chg : Option (Nat × Nat)) (mirror : Nat) : Pkt :=
  ⟨s.sched.nextPkt, 0, f.data, f.data.length, f.bad, false, none, f.token.isSome, f.tc, f.dp, s.ns32, s.unit, f.src,
    mirror, f.rx, chg, f.token.getD 0, none, 1, []⟩

/-- The state of a port node: 0 UP, 1 HELD, 2 FLUSHED. -/
def State.portState (s : State) (node : Nat) : Nat := nget s.sched.portSt node 0

/-- Packets of a queue dropped and counted as port-down flush (R334). -/
def State.portFlushed (s : State) (qid n : Nat) : State := (s.bumpI 0x5100 0xC qid n).bumpN 0x5101 6 n

/-- A queue stands under a graticule gate of its port (R296). -/
def State.queueGated (s : State) (qid : Nat) : Bool :=
  recEgress (s.qrec qid) && (match s.outLine (s.portOf qid) with
    | some l => s.gates.gated l (recClass (s.qrec qid))
    | none => false)

/-- The targets that pass: for each queue the stream recovery, the state of the queue and of its port, and R272, every
packet or copy tested on its own queue (R274, R334, R502). -/
def State.planTargets (s : State) (k : Nat) (p : Pkt) (rtag : Option Nat) (n : Nat) :
    List (Nat × Option Nat) → List (Pkt × Bool) → State × List (Pkt × Bool)
  | [], acc => (s, acc)
  | (qid, gen) :: r, acc =>
    if 4095 ≤ acc.length then (s.bump 0x5001 9).planTargets k p rtag n r acc
    else
      let (pass, s) := match s.elimStream qid with
        | some (i, v) => s.recover i v rtag
        | none => (true, s)
      let lost := s.stampLost { p with qid := qid }
      if ¬ pass then lost.planTargets k p rtag n r acc
      else if ¬ recEnabled (s.qrec qid) then (lost.bump 0x5101 6).planTargets k p rtag n r acc
      else if k = 1 ∧ s.portState (s.portOf qid) = 2 then (lost.portFlushed qid 1).planTargets k p rtag n r acc
      else
        let extra := n * (acc.filter (fun x => x.1.qid == qid)).length
        match s.verdict k qid n p.dp extra p.charge with
        | .accept => s.planTargets k p rtag n r (acc ++ [({ p with qid := qid, gen := gen }, false)])
        | .headroom => s.planTargets k p rtag n r (acc ++ [({ p with qid := qid, gen := gen }, true)])
        | v => (lost.refused qid v p.charge).planTargets k p rtag n r acc

/-- A packet entered at the tail of its queue: the VOQ, the local list, or on side 1 the egress content. -/
def State.enqueue (s : State) (k : Nat) (p : Pkt) : State :=
  let q := s.que p.qid
  let p := { p with id := s.sched.nextPkt }
  let s := { s with sched := { s.sched with nextPkt := s.sched.nextPkt + 1 } }
  if k = 0 ∧ recEgress (s.qrec p.qid) then s.setQue { q with locals := q.locals ++ [p] }
  else s.setQue { q with pkts := q.pkts ++ [p] }

/-- The packet and its copies take their cells, one set for all, under the holder's code (R259, R264, R274). -/
def State.admitTargets (s : State) (k : Nat) (owner n : Nat) (acc : List (Pkt × Bool)) : State :=
  match acc with
  | [] => s
  | (p, _) :: _ =>
    match s.allocCells k n owner with
    | (none, s) => acc.foldl (fun s x => (s.stampLost x.1).refused x.1.qid .refuse none) s
    | (some cs, s) =>
      let s := if acc.length = 1 then s else s.handover k cs owner owner acc.length
      let ch := match p.charge with
        | some (port, prio) => [Charge.mk (cs.getLastD 0) port prio n (acc.any (·.2))]
        | none => []
      let s := { s with buf := { s.buf with charges := s.buf.charges ++ ch } }
      let s := acc.foldl (fun s x => s.enqueue k { x.1 with owner := owner, places := cs.map Place.die }) s
      let s := acc.foldl (fun s x => if k = 0 then s.creditOn x.1.qid else s) s
      match p.charge with
      | some (port, _) => s.pfcSync port
      | none => s

/-- The queue of a mirror session, none when no copy is made (R310); a copy made on the egress side needs an egress-side
queue. -/
def State.mirrorQueue (s : State) (m : Nat) (egress : Bool) : Option Nat :=
  let v := s.obj 0x5104 m
  if bit v 31 ∧ (¬ egress ∨ recEgress (s.qrec (v % 2 ^ 19))) then some (v % 2 ^ 19) else none

/-- The queues of a multicast group's valid members, in member order (R309). -/
def State.groupMembers (s : State) (g : Nat) : List Nat :=
  let r := s.objI 0x5102 2 g
  if bit r 63 then
    (List.range (bits r 43 32)).filterMap (fun i =>
      let e := s.objI 0x5103 2 (bits r 19 0 + i)
      if bit e 31 then some (e % 2 ^ 19) else none)
  else []

/-- A copy of a generating stream may go to a queue (R499). -/
def State.genTarget (s : State) (qid : Nat) : Bool :=
  recEgress (s.qrec qid) && (s.outLine (s.portOf qid)).isSome

/-- The targets of a packet for a multicast group: members, with the stream's number where the group generates. -/
def State.groupTargets (s : State) (g : Nat) : State × List (Nat × Option Nat) :=
  let m := s.groupMembers g
  if m = [] then (s.bump 0x5101 0xC, [])
  else match s.genStream g with
  | none => (s, m.map (fun q => (q, none)))
  | some (i, _) =>
    let (n, s) := s.genNext i
    let ok := m.filter s.genTarget
    (s.bumpI 0x6900 0xC i (m.length - ok.length), ok.map (fun q => (q, some n)))

/-- The mirror copy that a packet of session `m` takes with it. -/
def State.mirrorTargets (s : State) (m : Nat) (egress : Bool) : State × List (Nat × Option Nat) :=
  if m = 0 then (s, [])
  else match s.mirrorQueue m egress with
  | some q => (s, [(q, none)])
  | none => (s.bump 0x5101 0xD, [])

/-- A frame from BOND-FT is sent on into the fabric before all of it has arrived (R294, R296): cut-through is set for its
source port, it is no copy and no inject frame, and its queue stands under no gate; `l` is what admission takes of it. -/
def State.cutFabric (s : State) (x : ToTm) (l : List (Pkt × Bool)) : Bool :=
  x.kind == 1 && x.frame.inject.isNone && decide (x.frame.src < 128) && s.obj (0x5080 + x.frame.src) 1 == 1 && decide (l.length = 1) &&
    l.all (fun y => !s.queueGated y.1.qid)

/-- The bytes of a packet that its first cells hold, as many as the cut-through start (R256, R294). -/
def State.startBytes (s : State) : Nat := s.obj 0x5000 8 * 256 - 32

/-- One frame from BOND-FT decided at its first cell (R272 to R274, R303, R309, R310): the packet that still has bytes to
come over the bond link, with the length taken, when it is cut through (R294). -/
def State.admitFrame (s : State) (x : ToTm) : Option (Nat × Nat) × State :=
  let f := x.frame
  let mirror := decide (x.kind = 3 ∨ x.kind = 9)
  let chg := if f.src < 128 ∧ ¬ mirror ∧ s.pfcOn f.src f.prio then some (f.src, f.prio) else none
  let n := cellsOf f.data.length
  let k := if x.kind = 9 then 1 else 0
  let session := if mirror then x.dest else x.mirror
  let p := s.pktOf f chg (if mirror then 0 else x.mirror)
  let (s, main) := if x.kind = 1 then (s, [(x.dest, none)]) else if x.kind = 2 then s.groupTargets x.dest else (s, [])
  let (s, mir) := s.mirrorTargets session (x.kind == 9)
  let (s, first) := s.planTargets k p f.rtag n main []
  let (s, acc) := s.planTargets k p f.rtag n mir first
  let made := decide (first.length < acc.length)
  let copy := x.kind != 1 || made
  let cut := s.cutFabric x acc && decide (s.startBytes < f.data.length)
  let acc := acc.map (fun y => ({ y.1 with copy := copy, data := if cut then y.1.data.take s.startBytes else y.1.data }, y.2))
  let id := s.sched.nextPkt
  let t := s.admitTargets k (if x.kind = 2 then 2 else if x.kind = 1 ∧ ¬ made then 1 else 3) n acc
  (if cut ∧ t.sched.nextPkt ≠ id then some (id, s.startBytes) else none, t)

/-- Bytes of a cut-through packet that come over the bond link after its first cells (R294): they join it in its queue or
in its stream. A packet dropped meanwhile takes none. -/
def State.bondRest (s : State) (pid : Nat) (b : List Byte) : State :=
  let add (p : Pkt) : Pkt := if p.id = pid then { p with data := p.data ++ b } else p
  let addTx (t : TxPkt) : TxPkt :=
    if t.pid = pid ∧ t.short ≠ 0 then
      { t with bytes := t.bytes ++ b, short := t.short - b.length, held := t.held.map add } else t
  { s with
    sched := { s.sched with
      ques := s.sched.ques.map (fun q => { q with pkts := q.pkts.map add, locals := q.locals.map add }) }
    fabric := { s.fabric with txs := s.fabric.txs.map (fun x => { x with pkts := x.pkts.map addTx }) } }

/-- ADMISSION: the next packet from BOND-FT, or the rest of one that is cut through (R294); punts go to the punt writer
(R157). Nothing while the TM die is halted, or while the allocator has granted its cycle's cells (R267). -/
def State.admission (s : State) : State :=
  if s.faults.haltTm then s
  else match s.flow.toTm with
  | [] => s
  | x :: r =>
    let s' := { s with flow := { s.flow with toTm := r } }
    match x.pid with
    | some id => s'.bondRest id x.frame.data
    | none =>
      if s.allocBusy (if x.kind = 9 then 1 else 0) then s
      else if x.kind = 8 then s'.puntWrite x.dest x.frame.data
      else match s'.admitFrame x with
      | (none, t) => t
      | (some (id, n), t) =>
        let rest := { x with frame := { x.frame with data := x.frame.data.drop n }, pid := some id }
        { t with flow := { t.flow with toTm := rest :: t.flow.toTm } }

/-- An egress-mode inject frame for a queue (R256, R306, R334, R502): admitted on the egress side, or discarded and counted, one
for an eliminating stream's queue for want of a tag;
false while its cells are not to be had (R267, R269). -/
def State.admitInject (s : State) (qid : Nat) (data prog : List Byte) (tc : Nat) (token : Option Nat) : Bool × State :=
  let lost := match token with
    | some k => s.noStamp k ((s.outLine (s.portOf qid)).getD 0)
    | none => s
  if ¬ recEgress (s.qrec qid) ∨ ¬ recEnabled (s.qrec qid) then (true, lost.bump 0x5101 0xA)
  else if s.portState (s.portOf qid) = 2 then (true, lost.portFlushed qid 1)
  else match s.elimStream qid with
  | some (i, v) => (true, (lost.recover i v none).2)
  | none =>
    let n := cellsOf data.length
    match s.verdict 1 qid n 0 0 none with
    | .accept =>
      if s.allocBusy 1 then (false, s)
      else (match s.allocCells 1 n 5 with
       | (none, s) => (false, s)
       | (some cs, s) =>
         let p : Pkt := ⟨0, qid, data, data.length, false, false, some prog, token.isSome, tc, 0, s.ns32, 0, 0, 0, 0, none,
           token.getD 0, none, 5, cs.map Place.die⟩
         (true, s.enqueue 1 p))
    | v => (true, lost.refused qid v none)

/-! ### Eviction and prefetch (R275 to R281) -/

/-- A place is one of the die. -/
def Place.onDie : Place → Bool
  | .die _ => true
  | .block _ _ => false

/-- A packet has arrived whole, and every cell of it that lies on the die has count 1 and no evicted cell behind it
(R276); a run that waits for blocks may have moved its first cells already. -/
def State.evictable (s : State) (p : Pkt) : Bool :=
  p.data.length == p.len && (p.places.dropWhile (fun x => !x.onDie)).all (fun x => match x with
    | .die n => ((s.buf.cell 0 n).map (fun c => c.count == 1)).getD false
    | .block _ _ => false)

/-- A packet has been evicted whole. -/
def Pkt.evicted (p : Pkt) : Bool := p.places.all (fun x => !x.onDie)

/-- The packets of a run, oldest first: those that lie entirely behind the first `w` cells, past what is evicted already,
up to the first that R276 keeps back. `pos` counts cells from the head, `on` says that the run has begun. -/
def State.runOf (s : State) (w : Nat) : List Pkt → Nat → Bool → List Pkt
  | [], _, _ => []
  | p :: r, pos, on =>
    if pos < w then s.runOf w r (pos + p.places.length) on
    else if p.evicted ∧ ¬ on then s.runOf w r (pos + p.places.length) on
    else if s.evictable p then p :: s.runOf w r (pos + p.places.length) true
    else []

/-- A list cut into pieces of 8; `fuel` bounds the pieces. -/
def eights {α : Type} : Nat → List α → List (List α)
  | 0, _ => []
  | fuel + 1, l => if l.isEmpty then [] else l.take 8 :: eights fuel (l.drop 8)

/-- Bit i set where the i-th element satisfies `f`. -/
def mapBits {α : Type} (f : α → Bool) : List α → Nat
  | [] => 0
  | a :: r => flag (f a) + 2 * mapBits f r

/-- Places of packets changed. -/
def mapPlaces (f : Place → Place) (l : List Pkt) : List Pkt := l.map (fun p => { p with places := p.places.map f })

/-- A block made of cells of a queue, in queue order: written, described, linked into the queue, and only then the cells
freed under their owner's code (R257, R277). -/
def State.makeBlock (s : State) (qid b : Nat) (c : List Nat) : State :=
  let cell (n : Nat) : Cell := (s.buf.cell 0 n).getD ⟨0, n, 0, 0, false, false, 0⟩
  let blk : Block := ⟨b, (cell (c.headD 0)).owner, c.length, mapBits (fun n => (cell n).last) c,
    mapBits (fun n => (cell n).bad) c, 0, qid⟩
  let f (x : Place) : Place := match x with
    | .die n => if c.contains n then .block b (c.findIdx (· == n)) else x
    | .block _ _ => x
  let q := s.que qid
  let s := { s with buf := { s.buf with blocks := insertBlock blk s.buf.blocks } }
  let s := (s.setQue { q with pkts := mapPlaces f q.pkts, locals := mapPlaces f q.locals }).relink qid
  (c.foldl (fun s n => s.freeCell 0 n ((s.buf.cell 0 n).map (·.owner) |>.getD 0)) s).bump 0x5001 0xA

/-! The packet bandwidth of HBM (R26, R279): 15.88 Tb/s. Instants of its account count in ticks / 15,880, in which a block
of 2 KiB takes 442,368 (log entry 131). -/

/-- Eviction and prefetch together have used the bandwidth up to now: eviction waits. -/
def State.hbmFull (s : State) : Bool := decide (s.clock.now * 15880 < s.buf.hbmAll)

/-- Prefetch alone has. -/
def State.hbmReadFull (s : State) : Bool := decide (s.clock.now * 15880 < s.buf.hbmRead)

/-- A block written or read counted against the bandwidth. -/
def State.hbmUse (s : State) (read : Bool) : State :=
  let add (x : Nat) : Nat := max x (s.clock.now * 15880) + 442368
  { s with buf := { s.buf with
      hbmAll := add s.buf.hbmAll
      hbmRead := if read then add s.buf.hbmRead else s.buf.hbmRead } }

/-- The cells of a run moved block by block, until the run waits for bandwidth or for a block (R267, R269, R279). -/
def State.evictBlocks (s : State) (qid : Nat) : List (List Nat) → State
  | [] => s
  | c :: r =>
    if s.hbmFull ∨ s.allocBusy 2 then s
    else match s.grantUnits 1 0 25165824 1 with
    | (none, s) => s
    | (some l, s) => (((s.noteGrant 2 1).hbmUse false).makeBlock qid (l.headD 0) c).evictBlocks qid r

/-- The HBM pool's level permits eviction from a queue (R285). -/
def State.evictOk (s : State) (qid : Nat) : Bool :=
  s.obj 0x5000 7 == 1 &&
    (match s.poolLevel 2 with
     | 0 => true
     | 1 => true
     | 2 => s.buf.blocks.any (fun b => b.qid == qid)
     | _ => false)

/-- A queue's content on a partition is to be evicted: beyond the threshold, or beyond the head window while the
partition is at W1 (R275, R285). -/
def State.evictDue (s : State) (k : Nat) (l : List Pkt) : Bool :=
  decide (s.obj 0x5000 6 < onDie l) || (decide (1 ≤ s.poolLevel k) && decide (s.obj 0x5000 5 < onDie l))

/-- The cells of packets that lie on the die, in queue order. -/
def dieCells (l : List Pkt) : List Nat :=
  l.flatMap (fun p => p.places.filterMap (fun x => match x with
    | .die n => some n
    | .block _ _ => none))

/-- The packets of a list that an interrupted run of eviction has still to move (R269, R275, R279). -/
def State.runRest (s : State) (l : List Pkt) : List Pkt :=
  l.filter (fun p => s.buf.evicting.contains p.id && !p.evicted && s.evictable p)

/-- The packets of a run noted until they have been moved; those that no queue holds any more are forgotten. -/
def State.noteRun (s : State) (run : List Pkt) : State :=
  let ids := s.buf.evicting ++ run.map (·.id)
  let left := (s.sched.ques.flatMap (fun q => q.pkts ++ q.locals)).filter (fun p => ids.contains p.id && !p.evicted)
  { s with buf := { s.buf with evicting := left.map (·.id) } }

/-- EVICTION_RUN (R275 to R277, R279): nothing when nothing is due, or when the run waits (R269); a run that waited goes on
with its packets. -/
def State.evict (s : State) (qid : Nat) : State :=
  let q := s.que qid
  let eg := recEgress (s.qrec qid)
  let rest := if (s.runRest q.pkts).isEmpty then s.runRest q.locals else s.runRest q.pkts
  let useLocal := eg && !s.evictDue 1 q.pkts && s.evictDue 0 q.locals
  let l := if useLocal then q.locals else q.pkts
  let k := if eg && !useLocal then 1 else 0
  if ¬ s.evictOk qid ∨ (rest.isEmpty ∧ ¬ s.evictDue k l) then s
  else
    let run := if rest.isEmpty then s.runOf (s.obj 0x5000 5) l 0 false else rest
    let nums := dieCells run
    let ports := s.buf.pfcPorts
    let s := (s.evictBlocks qid (eights nums.length nums)).noteRun run
    (((s.poolSync 0).poolSync 1).poolSync 2).pfcSyncAll ports

/-- Cells on the die ahead of the first evicted one, and its block. -/
def firstBlock : List Place → Nat → Option (Nat × Nat)
  | [], _ => none
  | .die _ :: r, n => firstBlock r (n + 1)
  | .block b _ :: _, n => some (n, b)

/-- A block read that cannot be corrected (R281). -/
def State.blockLost (s : State) (qid b : Nat) : State :=
  let q := s.que qid
  let hit (p : Pkt) : Bool := p.places.any (fun x => match x with
    | .block c _ => c == b
    | .die _ => false)
  let gone := (q.pkts ++ q.locals).filter hit
  let s := s.setQue { q with pkts := q.pkts.filter (fun p => !hit p), locals := q.locals.filter (fun p => !hit p) }
  let s := (s.bumpN 0x5001 0xE gone.length).release gone
  let s := (s.creditOff qid).relink qid
  s.raise { cls := 10, level := 1, die := 2, object := b % 128, value := b, ctrIdx := 0x5001, ctrSub := 0xE }

/-- The next evicted block of a list, when the content on the die ahead of it has fallen below the head window (R278). -/
def State.prefetchDue (s : State) (l : List Pkt) : Option Nat :=
  match firstBlock (l.flatMap (·.places)) 0 with
  | some (ahead, b) => if ahead < s.obj 0x5000 5 then some b else none
  | none => none

/-- The places of a block that packets of its queue still hold, rising: a packet dropped meanwhile holds none (R258). -/
def State.blockPlaces (s : State) (qid b : Nat) : List Nat :=
  let q := s.que qid
  let held := (q.pkts ++ q.locals).flatMap (fun p => p.places.filterMap (fun x => match x with
    | .block c i => if c = b then some i else none
    | .die _ => none))
  (List.range 8).filter (fun i => held.contains i)

/-- A block read back into cells (R257, R278), one for each of the places `at_` that are still held: Last and BAD of each from the block's maps, linked ahead of what follows. -/
def State.unpackBlock (s : State) (qid : Nat) (blk : Block) (at_ cs : List Nat) : State :=
  let q := s.que qid
  let f (x : Place) : Place := match x with
    | .block c i => if c = blk.num then .die (cs.getD (at_.findIdx (· == i)) 0) else x
    | .die _ => x
  let pos (c : Cell) : Nat := at_.getD (cs.findIdx (· == c.num)) 0
  let set (c : Cell) : Cell :=
    if c.pool = 0 ∧ cs.contains c.num then
      { c with last := bit blk.lastMap (pos c), bad := bit blk.badMap (pos c) } else c
  let q := { q with pkts := mapPlaces f q.pkts, locals := mapPlaces f q.locals }
  let mine := (q.pkts ++ q.locals).filter (fun p => cs.any (fun n => p.places.contains (.die n)))
  { s with buf := { s.buf with cells := mine.foldl (fun a p => linkCells p a) (s.buf.cells.map set) } }.setQue q

/-- A block of a queue read back into cells of pool `k`: whether it came back or was lost, or waits for its controller, for
bandwidth or for cells (R267, R269, R278 to R281). -/
def State.fetchBlock (s : State) (qid : Nat) (err : Bool) (b k : Nat) : Bool × State :=
  if s.ctlOut (19 + b % 128 / 32) ∨ s.hbmReadFull then (false, s)
  else if err then (true, s.blockLost qid b)
  else match s.buf.block b with
  | none => (false, s)
  | some blk =>
    if s.allocBusy k then (false, s)
    else match s.allocCells k (s.blockPlaces qid b).length blk.owner with
    | (none, s) => (false, s)
    | (some cs, s) =>
      (true, (((((s.hbmUse true).unpackBlock qid blk (s.blockPlaces qid b) cs).freeBlock b blk.owner).relink qid).bump
        0x5001 0xB).poolSync 2)

/-- PREFETCH (R278 to R281): the next evicted block of a list of the queue comes back once it is due; while that of the queue's
content waits, that of its local list may come. -/
def State.prefetch (s : State) (qid : Nat) (err : Bool) : State :=
  let q := s.que qid
  let (done, s) := match s.prefetchDue q.pkts with
    | some b => s.fetchBlock qid err b (if recEgress (s.qrec qid) then 1 else 0)
    | none => (false, s)
  if done then s
  else match s.prefetchDue q.locals with
  | some b => (s.fetchBlock qid err b 0).2
  | none => s

/-! ### Sojourn (R332, R333) -/

/-- The sojourn of a packet in ns. -/
def State.sojourn (s : State) (p : Pkt) : Nat := (s.ns32 + 2 ^ 32 - p.arrival) % 2 ^ 32

/-- A packet has reached its queue's maximum sojourn (R332). -/
def State.pktExpired (s : State) (p : Pkt) : Bool := decide (recSojourn (s.qrec p.qid) * 1000 ≤ s.sojourn p)

/-- The packets at the head of a list that have reached their maximum sojourn. -/
def State.expiredHeads (s : State) (l : List Pkt) : List Pkt := l.takeWhile s.pktExpired

/-- Packets dropped for sojourn and counted (R332). -/
def State.dropExpired (s : State) (qid : Nat) (l : List Pkt) : State :=
  (((s.bumpI 0x5100 0xB qid l.length).bumpN 0x5101 5 l.length).release l).creditOff qid

/-- SOJOURN_SWEEP (R333). -/
def State.sweepQueue (s : State) (qid : Nat) (localList : Bool) : State :=
  let q := s.que qid
  if localList then
    let l := s.expiredHeads q.locals
    if l = [] then s else (s.setQue { q with locals := q.locals.drop l.length }).dropExpired qid l
  else
    let l := s.expiredHeads q.pkts
    if l = [] then s else (s.setQue { q with pkts := q.pkts.drop l.length }).dropExpired qid l

/-! ### Ports down (R334, R335) -/

/-- The queues with egress content under a port node. -/
def State.queuesUnder (s : State) (node : Nat) : List Nat :=
  (s.sched.ques.filter (fun q => recEgress (s.qrec q.qid) && s.portOf q.qid == node)).map (·.qid)

/-- The egress content of one queue flushed (R334). -/
def State.flushQueue (s : State) (qid : Nat) : State :=
  let q := s.que qid
  let l := q.pkts
  ((s.setQue { q with pkts := [] }).portFlushed qid l.length).release l

/-- Everything a queue holds flushed, counted as a port-down flush; its request goes OFF (R266, R325, R552). -/
def State.flushAll (s : State) (qid : Nat) : State :=
  let q := s.que qid
  let l := q.pkts ++ q.locals
  (((s.setQue { q with pkts := [], locals := [] }).portFlushed qid l.length).release l).creditOff qid

/-- A flush of a port node. -/
def State.flushPort (s : State) (node : Nat) : State := (s.queuesUnder node).foldl State.flushQueue s

/-- A port node's state set. -/
def State.setPortState (s : State) (node v : Nat) : State :=
  { s with sched := { s.sched with portSt := nset s.sched.portSt node v 0 } }

/-- The port node that names a line port as its outlet (R308: at most one). -/
def State.nodeOfLine (s : State) (p : Nat) : Option Nat := (List.range 256).find? (fun n => s.outLine n == some p)

/-- A grant of the present cycle taken back while its message has not been sent (R335). -/
def State.undoGrant (s : State) (g : Nat × Nat × Nat × Nat × Nat) : State :=
  let (qid, u, src, n, last) := g
  let x := s.fabric.tx u 8
  let m := ctlMsg 3 n qid src
  if ¬ x.msgs.contains m then s
  else
    let q := s.que qid
    let s := s.setQue { q with out := q.out - n, lastSrc := last }
    { s with
      fabric := s.fabric.setTx { x with msgs := dropFirst (fun y => y == m) x.msgs }
      sched := { s.sched with grantCount := s.sched.grantCount - 1, granted := dropFirst (fun y => y == g) s.sched.granted } }

/-- The grants of the present cycle to queues of a port that enters HELD are none (R335); the newest is undone first. -/
def State.undoGrants (s : State) (node : Nat) : State :=
  if s.sched.grantAt ≠ s.tmcCycle then s
  else (s.sched.granted.filter (fun g => s.portOf g.1 == node)).reverse.foldl State.undoGrant s

/-- The hold timer of a port node has expired in a cycle before the present one (R335; log entry 138). -/
def State.holdOver (s : State) (node : Nat) : Bool :=
  s.portState node == 1 && decide (nget s.sched.portHold node 0 / Config.tmc < s.tmcCycle)

/-- HOLD_TIMER_EXPIRE (R334, R335). -/
def State.holdExpire (s : State) (node : Nat) : State :=
  if s.holdOver node then ((s.setPortState node 2).bumpI 0x5201 7 node 1).flushPort node else s

/-- A line port reported down to the queues (R334). -/
def State.reportDown (s : State) (p : Nat) : State :=
  match s.nodeOfLine p with
  | none => s
  | some n =>
    if s.portState n ≠ 0 then s
    else
      let hold := s.objI 0x5201 4 n
      if hold = 0 then (s.setPortState n 2).flushPort n
      else
        let s := (s.setPortState n 1).undoGrants n
        { s with sched := { s.sched with portHold := nset s.sched.portHold n (s.clock.now + hold * Config.us) 0 } }

/-- A line port reported up to the queues (R334); a hold that expired in an earlier cycle flushes first (R335). -/
def State.reportUp (s : State) (p : Nat) : State :=
  match s.nodeOfLine p with
  | none => s
  | some n =>
    let s := (s.holdExpire n).setPortState n 0
    { s with sched := { s.sched with portHold := nset s.sched.portHold n 0 0 } }

/-! ### Credit at the destination (R328 to R331) -/

/-- The source that a queue grants to next: the next requesting unit above the one granted last, wrapping (R329). -/
def nextSource (l : List (Nat × Nat)) (last : Nat) : Option (Nat × Nat) :=
  let sorted := sortBy (·.1) l
  match sorted.find? (fun x => decide (last < x.1)) with
  | some x => some x
  | none => sorted.head?

/-- A grant is permitted (R328, R334, R335). -/
def State.grantOk (s : State) (qid : Nat) : Bool :=
  let r := s.qrec qid
  let port := s.portOf qid
  let held := s.content 1 qid
  recEgress r && recEnabled r && s.portState port != 1 &&
  decide (allCells held + (s.que qid).out + s.obj 0x5101 2 ≤ s.objI 0x5201 5 port) &&
  (match s.poolLevel 1 with
   | 3 => false
   | 2 => decide (onDie held < s.obj (0x5020 + recProfile r) 1)
   | _ => true)

/-- Grants made in the present TMC cycle (R329). -/
def State.grantsNow (s : State) : Nat := if s.sched.grantAt = s.tmcCycle then s.sched.grantCount else 0

/-- The queue that is granted to next: the first in rotation that has a request and may be granted to (R329). -/
def State.grantNext (s : State) : Option Nat :=
  let l := (s.sched.ques.filter (fun q => !q.srcs.isEmpty && s.grantOk q.qid)).map (·.qid)
  (l.find? (fun q => decide (s.sched.grantRot ≤ q))).orElse (fun _ => l.head?)

/-- GRANT_ISSUE (R328, R329): one quantum to the next requesting source of the queue whose turn it is. -/
def State.grantIssue (s : State) (qid : Nat) : State :=
  let q := s.que qid
  match nextSource q.srcs q.lastSrc with
  | none => s
  | some (u, src) =>
    if s.grantNext ≠ some qid ∨ 4 ≤ s.grantsNow then s
    else
      let n := s.obj 0x5101 2
      let s := { s with sched := { s.sched with
        grantAt := s.tmcCycle
        grantCount := s.grantsNow + 1
        grantRot := qid + 1
        granted := (if s.sched.grantAt = s.tmcCycle then s.sched.granted else []) ++ [(qid, u, src, n, q.lastSrc)] } }
      let s := s.setQue { q with
        out := q.out + n
        outAt := if q.out = 0 then s.clock.now else q.outAt
        lastSrc := u }
      s.sendMsg u (ctlMsg 3 n qid src)

/-- CREDIT_TIMEOUT (R330). -/
def State.creditTimeout (s : State) (qid : Nat) : State :=
  let q := s.que qid
  if 0 < q.out ∧ q.outAt + s.obj 0x5101 4 * Config.us ≤ s.clock.now then
    ((s.setQue { q with out := 0 }).bump 0x5101 9).raise
      { cls := 8, level := 0, object := qid, value := q.out, ctrIdx := 0x5101, ctrSub := 9 }
  else s

/-- FC-14 at level F0 on the first event of a kind from a unit in each second (R331). -/
def State.partnerNote (s : State) (kind unit idx sub : Nat) : State :=
  let (first, s) := s.firstInSecond kind
  if first then s.raise { cls := 14, level := 0, object := unit, ctrIdx := idx, ctrSub := sub } else s

/-- A bad credit message (R331, R377). -/
def State.badCredit (s : State) (kind unit : Nat) : State := (s.bump 0x5101 8).partnerNote kind unit 0x5101 8

/-- Cells arrive for a queue (R330, R331). -/
def State.arrived (s : State) (qid unit n : Nat) : State :=
  let q := s.que qid
  let s := if q.out = 0 ∧ 0 < n then (s.bump 0x5101 7).partnerNote 0x331000 unit 0x5101 7 else s
  s.setQue { s.que qid with out := q.out - n, outAt := s.clock.now }

/-- A queue takes ON, OFF and RETURN (R380): an enabled egress-side queue. -/
def State.takesCredit (s : State) (qid : Nat) : Bool := recEgress (s.qrec qid) && recEnabled (s.qrec qid)

/-- An ON received: the newest request of the unit stands (R380). -/
def State.recvOn (s : State) (unit qid src : Nat) : State :=
  if ¬ s.takesCredit qid then s.badCredit 0x331001 unit
  else
    let q := s.que qid
    s.setQue { q with srcs := q.srcs.filter (fun x => x.1 != unit) ++ [(unit, src)] }

/-- An OFF received (R380); for a queue that takes none it changes nothing. -/
def State.recvOff (s : State) (unit qid : Nat) : State :=
  let q := s.que qid
  s.setQue { q with srcs := q.srcs.filter (fun x => x.1 != unit) }

/-- A RETURN received (R330, R331). -/
def State.recvReturn (s : State) (unit qid n : Nat) : State :=
  if ¬ s.takesCredit qid then s.badCredit 0x331001 unit
  else
    let q := s.que qid
    let s := if q.out < n then s.badCredit 0x331002 unit else s
    s.setQue { q with out := q.out - n }

/-- A GRANT received (R378, R379). -/
def State.recvGrant (s : State) (unit remote qid n : Nat) : State :=
  let r := s.qrec qid
  let own := recEgress r && unit == s.unit
  if s.voq qid = [] ∨ ¬ recEnabled r ∨ (recEgress r ∧ ¬ own) then
    ((s.bump 0x6001 8).sendMsg unit (ctlMsg 4 n remote qid)).sendMsg unit (ctlMsg 2 0 remote qid)
  else
    let q := s.que qid
    s.setQue { q with bal := q.bal + n, onAt := s.clock.now }

/-- One control message (R377). -/
def State.recvMsg (s : State) (unit m : Nat) : State :=
  let remote := bits m 37 19
  let src := bits m 18 0
  match bits m 63 60 with
  | 0 => s
  | 1 => s.recvOn unit remote src
  | 2 => s.recvOff unit remote
  | 3 => s.recvGrant unit remote src (bits m 59 44)
  | 4 => s.recvReturn unit remote (bits m 59 44)
  | _ => s.bump 0x5101 8

/-! ### Samplers (R336 to R338) -/

/-- The flags of a sample record (R337). -/
def State.sampleFlags (s : State) (qid : Nat) : Nat :=
  let r := s.qrec qid
  let st := if recEgress r then s.portState (s.portOf qid) else 0
  flag (!recEgress r) + 2 * flag (st == 1) + 4 * flag (st == 2) + 8 * flag (!recEnabled r) +
    16 * flag (s.buf.blocks.any (fun b => b.qid == qid)) + 32 * flag (!(s.que qid).locals.isEmpty)

/-- The head sojourn of a queue in ns, 0 when it is empty (0x5100:06). -/
def State.headSojourn (s : State) (qid : Nat) : Nat :=
  match (s.que qid).pkts with
  | [] => 0
  | p :: _ => s.sojourn p

/-- A sample record as a little-endian number (R337). -/
def State.sample (s : State) (qid : Nat) : Nat :=
  s.ns32 + qid * 2 ^ 32 + s.sampleFlags qid * 2 ^ 56 + min (2 ^ 32 - 1) (s.depth qid) * 2 ^ 64 +
    s.headSojourn qid * 2 ^ 96

/-- SAMPLER_ROUND (R336): one round at each multiple of the interval in TIME, and at no other instant. -/
def State.samplerRound (s : State) (k : Nat) : State :=
  let o := 0x5310 + k
  let ns := timeToNs s.time80
  if s.obj o 1 = 0 ∨ ns % s.obj o 2 ≠ 0 ∨ nget s.sched.sampAt k 0 = ns + 1 then s
  else
    let s := { s with sched := { s.sched with sampAt := nset s.sched.sampAt k (ns + 1) 0 } }
    (List.range (s.obj o 4)).foldl (fun s i =>
      let pos := s.obj o 5 % 8388608
      { s with sched := { s.sched with
          samples := nset s.sched.samples (k * 8388608 + pos) (s.sample (s.obj o 3 + i)) 0 } }.bump o 5) s

/-- Samples per second of the enabled samplers, as a fraction: numerator and denominator (R338). -/
def State.sampleFrac (s : State) : Nat × Nat :=
  (List.range 16).foldl (fun x k =>
    if s.obj (0x5310 + k) 1 = 1 then
      (x.1 * s.obj (0x5310 + k) 2 + s.obj (0x5310 + k) 4 * 1000000000 * x.2, x.2 * s.obj (0x5310 + k) 2)
    else x) (0, 1)

/-- Whole samples per second of the enabled samplers (0x5300:01). -/
def State.sampleRate (s : State) : Nat := s.sampleFrac.1 / s.sampleFrac.2

/-! ### Object values of queues -/

/-- The state of a queue (0x5100:03). -/
def State.queueState (s : State) (qid : Nat) : Nat :=
  let r := s.qrec qid
  if ¬ recEnabled r then 0
  else if recEgress r ∧ s.portState (s.portOf qid) = 1 then 3
  else if recEgress r ∧ s.portState (s.portOf qid) = 2 then 4
  else if (s.que qid).pkts = [] then 1 else 2

end Sys2Proof.Machine
end

