-- ==== Sys2Proof/Machine/Lanes.lean ====
section
/-! DEFINITION. Fabric link framing (chapter 11): link frames as bits, scrambling and stuffing, the framer, defects,
trace, slip buffers, performance; and the states of fabric lanes (R371, R391 to R394). -/

namespace Sys2Proof.Machine

/-! ### Bits (R397) -/

/-- The bits of an octet, most significant first. -/
def byteBits (b : Byte) : List Bool := (List.range 8).map (fun i => b.toNat.testBit (7 - i))

/-- The bits of octets. -/
def bitsOf (l : List Byte) : List Bool := l.flatMap byteBits

/-- A number of bits, most significant first. -/
def natOfBits (l : List Bool) : Nat := l.foldl (fun a b => 2 * a + flag b) 0

/-- Octets of bits; `fuel` bounds them. -/
def bytesOfBits : Nat → List Bool → List Byte
  | 0, _ => []
  | fuel + 1, l => if l.length < 8 then [] else byteOf (natOfBits (l.take 8)) :: bytesOfBits fuel (l.drop 8)

/-- The frame alignment word (R398). -/
def fawBytes : List Byte := [0xFF, 0xFF, 0xFF, 0xFF, 0xFF, 0xFF, 0x5A]

/-- Its 56 bits. -/
def fawBits : List Bool := bitsOf fawBytes

/-- The bits of a frame period, and of the scrambled part without stuffing (R397, R404). -/
def periodBits : Nat := 17408
def scrambledBits : Nat := 17096

/-! ### Scrambling and stuffing (R400 to R403) -/

/-- The seed of a frame (R400). -/
def scrSeed (n : Nat) : Nat := (2 ^ 31 - 16) + (n % 16 ^^^ 15)

/-- One step of the scrambler x^31 + x^28 + 1: the bit it puts out is the bit it takes in (log entry 20). -/
def scrStep (x : Nat) : Bool × Nat :=
  let b := x.testBit 30 != x.testBit 27
  (b, (2 * x + flag b) % 2 ^ 31)

/-- The transmitter within a frame: scrambler, present run, stuff bits, bits sent, newest first. -/
structure LinkTx where
  scr : Nat
  last : Bool
  run : Nat
  stuff : Nat
  out : List Bool
  deriving DecidableEq, Repr

/-- One bit scrambled and sent, with a stuff bit after 40 alike (R400, R401). -/
def LinkTx.bit (x : LinkTx) (b : Bool) : LinkTx :=
  let (k, scr) := scrStep x.scr
  let c := b != k
  let run := if x.run ≠ 0 ∧ c = x.last then x.run + 1 else 1
  if run = 40 then ⟨scr, !c, 1, x.stuff + 1, (!c) :: c :: x.out⟩ else ⟨scr, c, run, x.stuff, c :: x.out⟩

/-- Bits sent in turn. -/
def LinkTx.bits (x : LinkTx) (l : List Bool) : LinkTx := l.foldl LinkTx.bit x

/-- The scrambler's next bits. -/
def scrBits : Nat → Nat → List Bool
  | 0, _ => []
  | n + 1, x => (scrStep x).1 :: scrBits n (scrStep x).2

/-- The octets of a filler cell whose payload reads 0x55 once scrambled (R402): `scr` is the scrambler at its first
bit. -/
def fillerCell (scr : Nat) : List Byte :=
  let word : List Byte := 0x80 :: zeros 7
  let k := (scrBits (264 * 8) scr).drop 64
  let want := bitsOf (List.replicate 256 0x55)
  word ++ bytesOfBits 256 ((k.zip want).map (fun x => x.1 != x.2))

/-- The slots of a frame (R402): for each slot the next cell, unless the stuff bits would pass 220; the filler that stands
in its place, how many cells were placed, and how many slots were left for stuffing. -/
def fillSlots : Nat → LinkTx → List (List Byte) → List (List Byte) → Nat → LinkTx × List (List Byte) × List (List Byte) × Nat
  | 0, x, cells, done, lim => (x, done, cells, lim)
  | n + 1, x, cells, done, lim =>
    let filler (lim : Nat) :=
      let f := fillerCell x.scr
      fillSlots n (x.bits (bitsOf f)) cells (done ++ [f]) lim
    match cells with
    | [] => filler lim
    | c :: r =>
      let y := x.bits (bitsOf c)
      if y.stuff ≤ 220 then fillSlots n y r (done ++ [c]) lim else filler (lim + 1)

/-- Alternating fill of a length, its last bit 0 (R403). -/
def fillBits (n : Nat) : List Bool := (List.range n).map (fun i => (n - 1 - i) % 2 == 1)

/-- A link frame: overhead bytes 7 to 14, the cells that wait; its bits, the cells not placed, the slots left for
stuffing (R397 to R403). -/
def linkFrameBits (number : Nat) (overhead : List Byte) (cells : List (List Byte)) : List Bool × List (List Byte) × Nat :=
  let oh := overhead ++ [byteOf (crc8 overhead)]
  let x : LinkTx := ⟨scrSeed number, false, 0, 0, []⟩
  let (x, done, rest, lim) := fillSlots 8 (x.bits (bitsOf oh)) cells [] 0
  let x := x.bits (bitsOf (done.flatMap (fun c => beBytes 2 (crc16 c))))
  let body := x.out.reverse
  (fawBits ++ body ++ fillBits (periodBits - 56 - body.length), rest, lim)

/-! ### Receiving a frame (R404, R405) -/

/-- Bits with the bit after every 40 alike taken out: last bit, run, bits still wanted; the bits and the stuff
violations. -/
def destuff : List Bool → Bool → Nat → Nat → List Bool × Nat
  | [], _, _, _ => ([], 0)
  | b :: r, last, run, want =>
    if want = 0 then ([], 0)
    else if run = 40 then
      let (l, v) := destuff r b 1 want
      (l, v + flag (b == last))
    else
      let (l, v) := destuff r b (if run ≠ 0 ∧ b = last then run + 1 else 1) (want - 1)
      (b :: l, v)

/-- Bits descrambled under a frame number. -/
def descramble (number : Nat) (l : List Bool) : List Bool :=
  ((scrBits l.length (scrSeed number)).zip l).map (fun x => x.1 != x.2)

/-- The overhead bytes 7 to 15 under a frame number. -/
def overheadOf (number : Nat) (l : List Bool) : List Byte := bytesOfBits 9 (descramble number (l.take 72))

/-- Overhead that passes its check and carries the number it was read under. -/
def overheadOk (number : Nat) (oh : List Byte) : Bool :=
  oh.length == 9 && byteOf (crc8 (oh.take 8)) == oh.getD 8 0 && (oh.getD 0 0).toNat % 16 == number

/-- The number of a received frame: the one under which its overhead passes, else the one expected (log entry 20). -/
def frameNumber (expected : Nat) (l : List Bool) : Nat × Bool :=
  match ((List.range 16).map (fun i => (expected + i) % 16)).find? (fun n => overheadOk n (overheadOf n l)) with
  | some n => (n, true)
  | none => (expected, false)

/-- The slots of descrambled octets, none where the check fails (R399, R405). -/
def slotsOf (body : List Byte) : List (Option (List Byte)) :=
  (List.range 8).map (fun i =>
    let c := bytesAt body (9 + 264 * i) 264
    if 9 + 2112 + 2 * i + 2 ≤ body.length ∧ beAt body (9 + 2112 + 2 * i) 2 = crc16 c then some c else none)

/-! ### Lanes -/

/-- A lane as cold and warm reset leave it. -/
def FLane.fresh (n : Nat) : FLane :=
  { num := n, slots := [], frameNo := 0, oh0 := 0, oh1 := 0, rxNo := 0, buf := [], off := 0, st := 0, found := 0,
    checked := false, fawBad := false, fawRun := 0, stAt := 0, detect := false, los := false, lof := false, ais := false,
    rdi := false, aisRun := 0, rdiRun := 0, mfTrace := [], lastTrace := [], trace := zeros 16, slip := [],
    extracted := [], mfSeen := 0, fails := 0, failsLast := 0, errs := 0, forced := 0, forcedRaised := false, tested := false,
    secs := [], sesRun := 0, okRun := 0, unavail := false, reach := 0, reachAt := none, retiring := false, bad := true,
    holdEnd := 0, events := [], up := false }

/-- A lane 0 to 161. -/
def State.lane (s : State) (n : Nat) : FLane := (s.lanes.find? (fun l => l.num == n)).getD (FLane.fresh n)

/-- A lane set. -/
def State.setLane (s : State) (l : FLane) : State :=
  { s with lanes := s.lanes.filter (fun x => x.num != l.num) ++ [l] }

/-- The object index of a lane's framing (R429). -/
def laneObj (n : Nat) : Nat := if n < 160 then 0x6120 + n else 0x61C0 + (n - 160)

/-- The number by which events and traces name a lane (R418, R552). -/
def laneName (n : Nat) : Nat := if n < 160 then n else 0xF0 + (n - 160)

/-- The lane select code of a lane (R461). -/
def laneCode (n : Nat) : Nat := if n < 160 then 0x100 + n else 0x1F0 + (n - 160)

/-- The test mode of a lane (R427). -/
def State.testMode (s : State) (n : Nat) : Nat := s.obj (laneObj n) 3

/-- An FC-08 event of a lane. -/
def State.laneEvent (s : State) (n level sub : Nat) : State :=
  s.raise { cls := 8, level := level, object := laneName n, value := n, ctrIdx := laneObj n, ctrSub := sub }

/-- FC-08 at level F0 on the first declaration of a defect of a lane in each TIME second (R417). -/
def State.defectNote (s : State) (n : Nat) : State :=
  let (first, s) := s.firstInSecond (0x417000 + n)
  if first then s.laneEvent n 0 2 else s

/-- A lane has none of the defects and is in frame (R412). -/
def FLane.clean (l : FLane) : Bool := !l.los && !l.lof && !l.ais && !l.rdi && l.st == 2

/-! ### States of fabric lanes (R371, R391 to R394) -/

/-- A lane retired for the life of the part (R392). -/
def State.laneRetired (s : State) (n : Nat) : Bool := s.record.mem.spares.laneRetired.contains n

/-- A lane powered down for the life of the part: its retirement stands in the device record and its transmit path is
empty (R392). -/
def State.laneOut (s : State) (n : Nat) : Bool := s.laneRetired n && !(s.lane n).retiring

/-- A lane is held UNUSABLE by a containment of FC-08 until its event is acknowledged, or with the path of which it is the
source (R542, R552). -/
def State.laneContained (s : State) (n : Nat) : Bool :=
  s.faults.laneHolds.any (fun h => h.2 == laneName n && s.faults.isStanding h.1) || s.sourceHeld 8 (laneName n)

/-- A SerDes lane, by its code of R461. -/
def State.serdes (s : State) (code : Nat) : Serdes :=
  (s.lines.serdes.find? (fun x => x.code == code)).getD ⟨code, false, false, 0, 0, 0, false, false, false, false, false, 0, none⟩

/-- A SerDes lane set. -/
def State.setSerdes (s : State) (x : Serdes) : State :=
  { s with lines := { s.lines with serdes := s.lines.serdes.filter (fun y => y.code != x.code) ++ [x] } }

/-! ### Symbols and loops (R462, R463) -/

/-- The PAM4 level, 0 the lowest, of a pair of bits, the first sent first: Gray coding (R462). -/
def pam4Level : Bool → Bool → Fin 4
  | false, false => 0
  | false, true => 1
  | true, true => 2
  | true, false => 3

/-- The pair of bits of a PAM4 level (R462). -/
def pam4Bits (l : Fin 4) : Bool × Bool := (decide (2 ≤ l.val), l.val == 1 || l.val == 2)

/-- A bit stream as PAM4 levels, two bits at a time (R462). -/
def pam4 : List Bool → List (Fin 4)
  | a :: b :: r => pam4Level a b :: pam4 r
  | _ => []

/-- The 1/(1 + D) mod 4 precoder after a level `y` sent (R462). -/
def precode (y : Fin 4) : List (Fin 4) → List (Fin 4)
  | [] => []
  | x :: r => (x - y) :: precode (x - y) r

/-- The receiver's inverse of the precoder, 1 + D mod 4, after a level `y` received (R462). -/
def unprecode (y : Fin 4) : List (Fin 4) → List (Fin 4)
  | [] => []
  | x :: r => (x + y) :: unprecode x r

/-- The levels that a lane sends for bits (R462); only a line lane ever has the precoder. -/
def State.laneLevels (s : State) (code : Nat) (bs : List Bool) : List (Fin 4) :=
  if code < 0x80 ∧ (s.serdes code).preTx then precode 0 (pam4 bs) else pam4 bs

/-- The bits that a lane takes from levels received (R462). -/
def State.laneBits (s : State) (code : Nat) (ls : List (Fin 4)) : List Bool :=
  ((if code < 0x80 ∧ (s.serdes code).preRx then unprecode 0 ls else ls).map pam4Bits).flatMap (fun x => [x.1, x.2])

/-! ### Test patterns (R427, R464) -/

/-- The width of a pattern's register: 1 PRBS31, 2 PRBS13Q. -/
def prbsWidth (m : Nat) : Nat := if m = 1 then 31 else 13

/-- The register of a pattern after its next bit, which is its lowest bit: x^31 + x^28 + 1, or the x^13 + x^12 + x^2 + x + 1
of PRBS13Q, whose bits are the pairs of its PAM4 symbols (R464). -/
def prbsNext (m x : Nat) : Nat :=
  if m = 1 then (2 * x + flag (x.testBit 30 != x.testBit 27)) % 2 ^ 31
  else (2 * x + flag ((x.testBit 12 != x.testBit 11) != (x.testBit 1 != x.testBit 0))) % 2 ^ 13

/-- A bit of a pattern as it is sent: PRBS31 is inverted (log entry 159). -/
def prbsBit (m : Nat) (b : Bool) : Bool := if m = 1 then !b else b

/-- The next bits of a pattern, and its register after them. -/
def prbsBits (m : Nat) : Nat → Nat → List Bool × Nat
  | 0, x => ([], x)
  | n + 1, x =>
    let y := prbsNext m x
    let (l, z) := prbsBits m n y
    (prbsBit m (y.testBit 0) :: l, z)

/-- A generator started, its checker without a pattern: where in its sequence it starts is free (log entry 2). -/
def State.startPattern (s : State) (code m : Nat) : State :=
  let (f, s) := s.fresh
  let x := s.serdes code
  s.setSerdes { x with gen := if m = 0 then 0 else 1 + f % (2 ^ prbsWidth m - 1), checkLock := false, check := none }

/-- The pattern that a lane sends: a framed lane's test mode (R465), a line lane's generator. -/
def State.genOf (s : State) (code : Nat) : Nat :=
  if code < 0x100 then s.objI 0x3201 6 code else s.testMode (if code < 0x1F0 then code - 0x100 else code - 0x1F0 + 160)

/-- The pattern that a lane's checker looks for: the test mode of a lane in one (R427), else the one chosen (R464). -/
def State.checkOf (s : State) (code : Nat) : Nat :=
  if 0x100 ≤ code ∧ s.genOf code ≠ 0 then s.genOf code else s.objI 0x3201 7 code

/-- Bits of a lane in test mode checked against its pattern while the checker is locked (R427, R464): the register is taken
from the first of them, then runs by itself, so that each wrong bit counts once. -/
def State.checkBits (s : State) (n : Nat) (rx : List Bool) : State :=
  let code := laneCode n
  let x := s.serdes code
  let m := s.testMode n
  let w := prbsWidth m
  if ¬ x.checkLock then s
  else
    let (reg, rest) := match x.check with
      | some r => (r, rx)
      | none => (natOfBits ((rx.take w).map (prbsBit m)), rx.drop w)
    if x.check.isNone ∧ rx.length < w then s
    else
      let (want, reg) := prbsBits m rest.length reg
      let wrong := ((want.zip rest).filter (fun y => y.1 != y.2)).length
      ((s.setSerdes { x with check := some reg }).bumpI 0x3201 9 code rest.length).bumpI 0x3201 0xA code wrong

/-- A direction of a lane wakes. -/
def Serdes.asleep (x : Serdes) : Bool := x.txWaking || x.rxWaking

/-- A lane's directions sleep or wake (R466). -/
def State.laneAsleep (s : State) (n : Nat) : Bool :=
  s.objI 0x3201 0xC (laneCode n) == 1 || s.objI 0x3201 0xD (laneCode n) == 1 || (s.serdes (laneCode n)).asleep

/-- The state of a fabric lane: 0 USABLE, 1 UNUSABLE, 2 RETIRING, 3 RETIRED. -/
def State.laneState (s : State) (n : Nat) : Nat :=
  let l := s.lane n
  if l.retiring then 2
  else if s.laneRetired n then 3
  else if l.bad || l.holdEnd != 0 || s.laneContained n || s.laneAsleep n || s.ctlOut (8 + n / 16) then 1 else 0

/-- A lane is usable for a destination unit (R371). -/
def State.laneFor (s : State) (n u : Nat) : Bool :=
  let l := s.lane n
  s.laneState n == 0 && mapBit l.reach u &&
    (match l.reachAt with
     | some t => decide (s.clock.now < t + 4 * Config.ms)
     | none => false)

/-- The lanes usable for a unit, in rising order. -/
def State.lanesFor (s : State) (u : Nat) : List Nat := (List.range 160).filter (fun n => s.laneFor n u)

/-- The rate that a line port has in service (R432): a mode written counts from its answer on. -/
def State.servedRate (s : State) (p : Nat) : Nat :=
  match s.dict.deferred.find? (fun d => d.idx == 0x3000 + p && d.sub == 1) with
  | some d => modeRate (leNat d.oldVal)
  | none => s.portRate p

/-- The line rate in service (0x6000:05). -/
def State.lineRate (s : State) : Nat := sumOf s.servedRate (List.range 128)

/-- The lanes needed: floor × line rate / 200 Gb/s, rounded up. -/
def State.lanesNeeded (s : State) : Nat := (s.obj 0x6000 4 * s.lineRate + 19999) / 20000

/-- Lanes not retired. -/
def State.lanesLeft (s : State) : Nat := 160 - s.record.mem.spares.laneRetired.length

/-- A lane reaches some unit: its latest map, no older than 4 ms, marks one (R371, R372). -/
def State.laneReaches (s : State) (n : Nat) : Bool :=
  let l := s.lane n
  l.reach % 2 ^ 512 != 0 && (match l.reachAt with
    | some t => decide (s.clock.now < t + 4 * Config.ms)
    | none => false)

/-- Lanes USABLE for at least one unit (0x6000:01). -/
def State.lanesUsable (s : State) : Nat :=
  ((List.range 160).filter (fun n => s.laneState n == 0 && s.laneReaches n)).length

/-- The speed-up floor looked at after a change of lanes or of line rate (R394): FC-08 at level F3 once the lanes not
retired fall below the lanes needed; the time since which the usable lanes have been below it. -/
def State.floorSync (s : State) : State :=
  let low := decide (s.lanesLeft < s.lanesNeeded)
  let short := decide (s.lanesUsable < s.lanesNeeded)
  let was := s.fabric.floorRaised
  let f := { s.fabric with
    floorRaised := low
    shortAt := if short then (if s.fabric.shortAt = 0 then s.clock.now + 1 else s.fabric.shortAt) else 0
    shortRaised := s.fabric.shortRaised && short }
  let s := { s with fabric := f }
  if low ∧ ¬ was then s.raise { cls := 8, level := 3, object := 0xFFFFFFFF, value := s.lanesLeft } else s

/-- A write of a port mode has been answered: the rate in service has changed (R432). -/
def State.rateAnswered (s : State) (idx sub : Nat) : State :=
  if 0x3000 ≤ idx ∧ idx ≤ 0x307F ∧ sub = 1 then s.floorSync else s

/-- LANE_SHORTFALL_TIMEOUT (R394). -/
def State.shortfall (s : State) : State :=
  let s := s.floorSync
  if s.fabric.shortAt ≠ 0 ∧ ¬ s.fabric.shortRaised ∧ s.fabric.shortAt - 1 + 100 * Config.ms < s.clock.now then
    { s with fabric := { s.fabric with shortRaised := true } }.raise
      { cls := 8, level := 1, object := 0xFFFFFFFF, value := s.lanesUsable }
  else s

/-- A unit stands in the pinned map (0x6000:08). -/
def State.pinned (s : State) (u : Nat) : Bool := mapBit (s.obj 0x6000 8) u

/-- The units of the pinned map. -/
def State.pinnedUnits (s : State) : List Nat :=
  if s.obj 0x6000 8 = 0 then [] else (List.range 512).filter s.pinned

/-- The usable lanes of a unit as a map. -/
def State.laneMap (s : State) (u : Nat) : Nat := sumOf (fun n => 2 ^ n) (s.lanesFor u)

/-- The set of usable lanes of a pinned unit looked at: a change begins a hold (R390). -/
def State.pinSync (s : State) (u : Nat) : State :=
  if s.laneMap u = nget s.fabric.pinLanes u 0 then s
  else
    { s with fabric := { s.fabric with
        pinLanes := nset s.fabric.pinLanes u (s.laneMap u) 0
        pinHold := nset s.fabric.pinHold u (s.clock.now + s.obj 0x6000 7 * Config.us) 0 } }.bump 0x6001 9

/-- Every pinned unit looked at after a change of lanes or of reachability. -/
def State.pinSyncAll (s : State) : State := s.pinnedUnits.foldl State.pinSync s

/-- The pinned map written: a unit that it pins anew begins with the lanes usable now. -/
def State.pinMap (s : State) (v : Nat) : State :=
  let new := ((List.range 512).filter (fun u => mapBit v u && !s.pinned u))
  let s := s.setObj 0x6000 8 v
  { s with fabric := { s.fabric with pinLanes := new.foldl (fun m u => nset m u (s.laneMap u) 0) s.fabric.pinLanes } }

/-- What follows from a change of the lanes usable for units: the floor and the pinned units (R390, R394). -/
def State.lanesMoved (s : State) : State := s.floorSync.pinSyncAll

/-- A fabric lane's defects looked at after a change: one whose defects have cleared begins its return hold of 10 ms
(R393). -/
def State.laneSync (s : State) (n : Nat) : State :=
  if 160 ≤ n then s
  else
    let l := s.lane n
    let bad := !l.clean || s.testMode n != 0
    if bad = l.bad then s
    else if bad then (s.setLane { l with bad := true, holdEnd := 0 }).lanesMoved
    else s.setLane { l with bad := false, holdEnd := s.clock.now + 10 * Config.ms }

/-- A lane seen USABLE before that has become UNUSABLE, for whatever cause, is counted, also towards the 16 within an hour
(R391, R393). -/
def State.laneLook (s : State) (n : Nat) : State :=
  let l := s.lane n
  let st := s.laneState n
  if l.up ∧ st = 1 then
    let recent := l.events.filter (fun t => decide (s.clock.now < t + 3600 * Config.sec))
    ((s.setLane { l with up := false, events := recent ++ [s.clock.now] }).bump (0x6020 + n) 5).lanesMoved
  else if ¬ l.up ∧ st = 0 then (s.setLane { l with up := true }).lanesMoved
  else s

/-- Every fabric lane looked at. -/
def State.laneWatch (s : State) : State :=
  ((s.lanes.map (·.num)).filter (fun n => decide (n < 160))).foldl State.laneLook s

/-- LANE_RETURN_HOLD_END (R393). -/
def State.returnHoldEnd (s : State) (n : Nat) : State :=
  let l := s.lane n
  if l.holdEnd ≠ 0 ∧ l.holdEnd ≤ s.clock.now then (s.setLane { l with holdEnd := 0 }).lanesMoved else s

/-- REACHABILITY_EXPIRE (R372): a lane with no element cell for 4 ms. -/
def State.reachExpire (s : State) (n : Nat) : State :=
  let l := s.lane n
  match l.reachAt with
  | some t => if t + 4 * Config.ms ≤ s.clock.now then (s.setLane { l with reach := 0, reachAt := none }).lanesMoved else s
  | none => s

/-! ### The framer (R406) -/

/-- The framer in a state, with the instant at which it entered or left IN FRAME; leaving it breaks the multiframe. -/
def FLane.goto (l : FLane) (now st : Nat) : FLane :=
  let l := { l with st := st, stAt := if (l.st == 2) = (st == 2) then l.stAt else now }
  if st = 2 then l else { l with mfSeen := 0, fails := 0, mfTrace := [], lastTrace := [] }

/-- The first position at which the FAW stands in some bits. -/
def findFaw : List Bool → Nat → Option Nat
  | [], _ => none
  | b :: r, i => if (b :: r).take 56 = fawBits then some i else findFaw r (i + 1)

/-- HUNT: the bits up to the first FAW are left behind. -/
def FLane.hunt (l : FLane) (now : Nat) : Option FLane :=
  match findFaw l.buf 0 with
  | some i => some ({ l with buf := l.buf.drop i, off := periodBits, found := 1, checked := false }.goto now 1)
  | none => none

/-- PRESYNC: the FAW expected `off` bits after the first one found. -/
def FLane.presync (l : FLane) (now : Nat) : Option FLane :=
  if l.buf.length < l.off + 56 then none
  else if (l.buf.drop l.off).take 56 = fawBits then
    if l.found + 1 = 3 then
      some ({ l with buf := l.buf.drop l.off, off := 0, found := 3, checked := true, fawBad := false, fawRun := 0 }.goto now 2)
    else some { l with off := l.off + periodBits, found := l.found + 1 }
  else some ({ l with buf := l.buf.drop 1, off := 0, found := 0 }.goto now 0)

/-- A lane's counter. -/
def State.laneBump (s : State) (n sub k : Nat) : State := s.bumpN (laneObj n) sub k

/-- A status bit in three consecutive frames (R411): present value, run of frames that differ from it, new bit. -/
def threeRun (now : Bool) (run : Nat) (b : Bool) : Bool × Nat :=
  if b = now then (now, 0) else if 2 ≤ run then (b, 0) else (now, run + 1)

/-- AIS and RDI from a status byte of a good overhead (R411). -/
def State.statusByte (s : State) (n b : Nat) : State :=
  let l := s.lane n
  let (ais, ar) := threeRun l.ais l.aisRun (bit b 7)
  let (rdi, rr) := threeRun l.rdi l.rdiRun (bit b 6)
  let s := s.setLane { l with ais := ais, aisRun := ar, rdi := rdi, rdiRun := rr }
  if (ais && !l.ais) || (rdi && !l.rdi) then s.defectNote n else s

/-- One byte of the trace (R419). -/
def State.traceByte (s : State) (n no : Nat) (b : Byte) : State :=
  let l := s.lane n
  let mf := if no = 0 then [b] else if l.mfTrace.length = no then l.mfTrace ++ [b] else []
  if no = 15 ∧ mf.length = 16 then
    let good := beAt mf 14 2 == crc16 (mf.take 14)
    let same := good && l.lastTrace == mf
    let s := s.setLane { l with
      mfTrace := []
      lastTrace := if good then mf else []
      trace := if same then mf else l.trace }
    if same ∧ mf ≠ l.trace then (s.laneBump n 5 1).laneEvent n 0 5 else s
  else s.setLane { l with mfTrace := mf, lastTrace := if no = 15 then [] else l.lastTrace }

/-- A frame whose overhead is not taken: its multiframe carries no whole trace message (R405, R419). -/
def State.traceGap (s : State) (n no : Nat) : State :=
  let l := s.lane n
  s.setLane { l with mfTrace := [], lastTrace := if no = 15 then [] else l.lastTrace }

/-- The overhead channel byte of a frame of the selected lane: a burst on the pins, or withheld (R425, R426). -/
def State.channelByte (s : State) (n no : Nat) (good : Bool) (b : Byte) : State :=
  if n < 160 ∧ (no = 0 ∨ no = 8) then
    let k := if no = 0 then 0 else 1
    if s.obj 0x6100 (1 + k) = n then (if good then s.out (.ohc k (byteBits b)) else s.bump 0x6100 (5 + k)) else s
  else s

/-- The kind of a cell's transfer word (R362). -/
def cellKind (c : List Byte) : Nat := (c.getD 0 0).toNat / 64

/-- A filler frame: every slot passes its check and holds Kind 2 (R408). -/
def fillerFrame (f : List (Option (List Byte))) : Bool :=
  f.all (fun c => match c with
    | some c => cellKind c == 2
    | none => false)

/-- The cells of a frame other than filler. -/
def frameCells (f : List (Option (List Byte))) : List (List Byte) :=
  (f.filterMap id).filter (fun c => cellKind c != 2)

/-- A forced slip counted; FC-08 at level F1 once they pass the threshold within a second (R409, R410). -/
def State.forcedSlip (s : State) (n lost : Nat) : State :=
  let l := s.lane n
  let past := decide (s.obj 0x6100 7 < l.forced + 1) && !l.forcedRaised
  let s := s.setLane { l with forced := l.forced + 1, forcedRaised := l.forcedRaised || past }
  let s := (s.laneBump n 0xC 1).laneBump n 0xD lost
  if past then s.laneEvent n 1 0xC else s

/-- A frame enters the slip buffer (R409). -/
def State.slipIn (s : State) (n : Nat) (f : List (Option (List Byte))) : State :=
  let l := s.lane n
  if l.slip.length < 8 then s.setLane { l with slip := l.slip ++ [f] }
  else
    let lost := (frameCells (l.slip.headD [])).length
    (s.setLane { l with slip := l.slip.tail ++ [f] }).forcedSlip n lost

/-- Claim cells of a frame received on a pairing lane (R475), ahead of the slip buffer. -/
def State.claimTake (s : State) (n : Nat) (f : List (Option (List Byte))) : State :=
  if n < 160 then s
  else
    let c := (f.filterMap id).filter (fun c => cellKind c == 1)
    { s with pair := { s.pair with claimIn := s.pair.claimIn ++ c.map (fun x => (n - 160, x)) } }

/-- An errored frame (R420). -/
def State.erroredFrame (s : State) (n : Nat) : State :=
  let l := s.lane n
  (s.setLane { l with errs := l.errs + 1 }).laneBump n 6 1

/-- A frame period without a frame: it is errored, and a channel byte that was due in it is withheld (R420, R426). -/
def State.missedFrame (s : State) (n : Nat) : State :=
  let no := (s.lane n).rxNo
  ((s.erroredFrame n).setLane { (s.erroredFrame n).lane n with rxNo := (no + 1) % 16 }).channelByte n no false 0

/-- The content of one frame period received in state IN FRAME (R404, R405, R416 to R420). -/
def State.frameIn (s : State) (n : Nat) (bs : List Bool) : State :=
  let l := s.lane n
  let (raw, viol) := destuff (bs.drop 56) false 0 scrambledBits
  let short := decide (raw.length < scrambledBits)
  let (no, good) := frameNumber l.rxNo raw
  let body := bytesOfBits 2137 (descramble no raw)
  let slots := slotsOf body
  let failed := (slots.filter (·.isNone)).length
  let ohb (i : Nat) : Byte := body.getD (i - 7) 0
  let seen := if no = 0 then 1 else if l.mfSeen = no then no + 1 else 0
  let fails := if no = 0 then failed else l.fails + failed
  let s := s.setLane { l with
    rxNo := (no + 1) % 16
    mfSeen := seen
    fails := fails
    failsLast := if seen = 16 then fails else l.failsLast }
  let s := (s.laneBump n 7 failed).laneBump n 8 viol
  let s := if good then (s.statusByte n (ohb 8).toNat).traceByte n no (ohb 9) else s.traceGap n no
  let s := s.channelByte n no good (ohb 10)
  let s := if good ∧ no = 0 then s.laneBump n 0x11 (ohb 11).toNat else s
  let errored := l.fawBad || short || viol != 0 || !good || failed != 0 || l.los || l.ais || (s.lane n).ais
  let s := if errored then s.erroredFrame n else s
  let s := (s.claimTake n slots).slipIn n slots
  s.laneSync n

/-- IN FRAME: the FAW at the head is checked; once the period is whole its content is taken. -/
def State.inFrame (s : State) (n : Nat) : Option State :=
  let l := s.lane n
  let now := s.clock.now
  if ¬ l.checked then
    if l.buf.length < 56 then none
    else if l.buf.take 56 = fawBits then some (s.setLane { l with checked := true, fawBad := false, fawRun := 0 })
    else
      let s := s.laneBump n 9 1
      if l.fawRun + 1 = 4 then
        some (((s.setLane ({ l with buf := l.buf.drop 1, fawRun := 0, found := 0 }.goto now 0)).missedFrame n).laneSync n)
      else some (s.setLane { l with checked := true, fawBad := true, fawRun := l.fawRun + 1 })
  else if l.buf.length < periodBits then none
  else
    let bs := l.buf.take periodBits
    some ((s.setLane { l with buf := l.buf.drop periodBits, checked := false }).frameIn n bs)

/-- One move of the framer, none when it wants more bits. -/
def State.framerStep (s : State) (n : Nat) : Option State :=
  let l := s.lane n
  match l.st with
  | 0 =>
    (match l.hunt s.clock.now with
     | some l => some (s.setLane l)
     | none => none)
  | 1 =>
    (match l.presync s.clock.now with
     | some l => some ((s.setLane l).laneSync n)
     | none => none)
  | 2 => s.inFrame n
  | _ => none

/-- The framer moved as far as its bits go, and whether it took a frame on the way; `fuel` bounds its moves. -/
def State.framer (s : State) (n : Nat) : Nat → Bool → Bool × State
  | 0, took => (took, s)
  | fuel + 1, took =>
    match s.framerStep n with
    | some s' => s'.framer n fuel (took || ((s.lane n).st == 2 && (s.lane n).checked))
    | none => (took, s)

/-- Bits kept while hunting: those that could begin a FAW. -/
def FLane.trim (l : FLane) : FLane := if l.st = 0 then { l with buf := l.buf.drop (l.buf.length - 55) } else l

/-- LINK_FRAME_RECEIVE: the bits of a frame period received on a lane (R404 to R406, R420); in test mode they go to the
checker (R427). A period that begins outside IN FRAME and brings no frame is missed. -/
def State.linkReceive (s : State) (n : Nat) (rx : List Bool) : State :=
  let l := s.lane n
  if s.laneOut n then s
  else if l.st = 3 then s.checkBits n rx
  else
    let (took, s) := (s.setLane { l with buf := l.buf ++ rx }).framer n (2 * (l.buf.length + rx.length) + 8) false
    let s := if l.st = 2 ∨ took then s else s.missedFrame n
    s.setLane (s.lane n).trim

/-- Bits at the receive balls of a lane (R463): in a near-end loop the receive path does not take them, in a far-end loop the
transmit balls send them. -/
def State.ballsReceive (s : State) (n : Nat) (rx : List Bool) : State :=
  if s.nearLoop (laneCode n) then s
  else (if s.laneLoop (laneCode n) = 3 then s.out (.linkFrame n (s.laneLevels (laneCode n) rx)) else s).linkReceive n rx

/-- Bits of its own that a lane sends (R462, R463): to its transmit balls, but not in a far-end loop; in a near-end loop they
are what its receive path takes. -/
def State.laneSend (s : State) (n : Nat) (bs : List Bool) : State :=
  let s := if s.laneLoop (laneCode n) = 3 then s else s.out (.linkFrame n (s.laneLevels (laneCode n) bs))
  if s.nearLoop (laneCode n) then s.linkReceive n bs else s

/-! ### Defects (R411) -/

/-- 1,221 frame periods of 81.92 ns in ticks, rounded up (R411). -/
def lofSpan : Nat := 2700657

/-- LOS_DECLARE: signal detect has been absent for 1 µs. -/
def State.losDeclare (s : State) (n : Nat) : State :=
  let l := s.lane n
  let s := s.setLane (if l.st = 3 then { l with detect := false }
    else { l with detect := false, los := true, buf := [], found := 0 }.goto s.clock.now 0)
  if l.st = 3 then s else (if l.los then s else s.defectNote n).laneSync n

/-- LOS_CLEAR: signal detect has been present for 100 µs. -/
def State.losClear (s : State) (n : Nat) : State :=
  (s.setLane { s.lane n with detect := true, los := false }).laneSync n

/-- LOF_DECLARE: outside IN FRAME for 1,221 frame periods; suspended in test mode, and not reported while LOS is
present. -/
def State.lofDeclare (s : State) (n : Nat) : State :=
  let l := s.lane n
  if l.st = 2 ∨ l.st = 3 ∨ l.lof ∨ s.clock.now < max l.stAt s.dev.coreBase + lofSpan then s
  else
    let s := s.setLane { l with lof := true }
    (if l.los then s else s.defectNote n).laneSync n

/-- LOF_CLEAR: in IN FRAME for 1,221 frame periods. -/
def State.lofClear (s : State) (n : Nat) : State :=
  let l := s.lane n
  if l.st = 2 ∧ l.lof ∧ l.stAt + lofSpan ≤ s.clock.now then (s.setLane { l with lof := false }).laneSync n else s

/-- The defects reported: LOS alone while it is present (0x6120 + n:02). -/
def FLane.defects (l : FLane) : Nat :=
  if l.los then 1 else 2 * flag l.lof + 4 * flag l.ais + 8 * flag l.rdi

/-- The test mode of a lane changed (R406, R427). -/
def State.setTestMode (s : State) (n v : Nat) : State :=
  let l := s.lane n
  let s := (s.setObj (laneObj n) 3 v).startPattern (laneCode n) v
  let l := if v = 0 then (if l.st = 3 then { l with buf := [] }.goto s.clock.now 0 else l)
    else { l with buf := [], tested := true }.goto s.clock.now 3
  (s.setLane l).laneSync n

/-! ### Performance (R421 to R423) -/

/-- Errored frames that make a second an SES (R421). -/
def sesLimit : Nat := 1831055

/-- Adds or takes the UAS mark on the last `k` seconds that count. -/
def markLast (k : Nat) (f : Nat → Nat) (l : List (Tick × Nat)) : List (Tick × Nat) :=
  (l.reverse.foldl (fun (a : Nat × List (Tick × Nat)) e =>
    if a.1 = 0 ∨ e.2 = 4 then (a.1, e :: a.2) else (a.1 - 1, (e.1, f e.2) :: a.2)) (k, [])).2

/-- PERFORMANCE_SECOND (R421, R422): the second that has just ended. A second of UAS carries 8 beside its class. -/
def State.perfSecond (s : State) (n : Nat) : State :=
  let l := s.lane n
  let test := l.tested || s.testMode n != 0
  let c := if test then 4 else if sesLimit ≤ l.errs then 2 else if l.errs ≠ 0 then 1 else 0
  let ses := if test then l.sesRun else if c = 2 then l.sesRun + 1 else 0
  let ok := if test then l.okRun else if c = 2 then 0 else l.okRun + 1
  let secs := l.secs ++ [(s.clock.sec, if l.unavail ∧ ¬ test then c + 8 else c)]
  let l := { l with errs := 0, forced := 0, forcedRaised := false, tested := s.testMode n != 0, sesRun := ses, okRun := ok }
  if ¬ l.unavail ∧ 10 ≤ ses then
    (s.setLane { l with unavail := true, secs := markLast 10 (fun c => c % 8 + 8) secs }).laneEvent n 1 0x12
  else if l.unavail ∧ 10 ≤ ok then s.setLane { l with unavail := false, secs := markLast 10 (fun c => c % 8) secs }
  else s.setLane { l with secs := secs }

/-- The counter of a second's class: ES, SES or UAS. -/
def secCounter (c : Nat) : Option Nat :=
  if 8 ≤ c then some 0x10 else if c = 1 then some 0xE else if c = 2 then some 0xF else none

/-- PERFORMANCE_POST (R423): seconds that ended 10 s ago are counted. -/
def State.perfPost (s : State) (n : Nat) : State :=
  let l := s.lane n
  let due := l.secs.takeWhile (fun e => decide (e.1 + 10 ≤ s.clock.sec))
  due.foldl (fun s e => match secCounter e.2 with
    | some c => s.laneBump n c 1
    | none => s) (s.setLane { l with secs := l.secs.drop due.length })

/-! ### Slip buffers (R408, R409) -/

/-- What the slip buffer of a lane delivers in a local frame period: its frame, and the lane after it. -/
def State.slipOut (s : State) (n : Nat) : List (Option (List Byte)) × State :=
  let l := s.lane n
  match l.slip with
  | [] => ([], s.forcedSlip n 0)
  | f :: r =>
    if 6 ≤ l.slip.length ∧ fillerFrame f then
      (r.headD [], (s.setLane { l with slip := r.tail }).laneBump n 0xB 1)
    else if l.slip.length ≤ 2 ∧ fillerFrame f then (f, s.laneBump n 0xB 1)
    else (f, s.setLane { l with slip := r })

end Sys2Proof.Machine
end

