-- ==== Sys2Proof/Machine/Fabric.lean ====
section
/-! DEFINITION. The fabric interface (chapter 10): cells, streams, spraying, credit messages, the resequencer,
reassembly, the claim filter, hash-pinned mode; and the sending and delivery of link frames. -/

namespace Sys2Proof.Machine

/-! ### Words and headers (R256, R361, R362) -/

/-- The packet header (R256), with the QID that the fabric carries (R303). -/
def Pkt.header (p : Pkt) (qid : Nat) : List Byte :=
  let charge := match p.charge with
    | some (port, prio) => 2 ^ 15 + port * 2 ^ 8 + prio
    | none => 0
  let mid := match p.inject with
    | some d => bytesAt d 0 16
    | none => beBytes 2 p.unit ++ [byteOf p.src, byteOf p.mirror] ++ timeBe p.rx ++ beBytes 2 charge
  beBytes 2 p.len ++
    [byteOf (flag p.bad + 2 * flag p.copy + 4 * flag p.inject.isSome + 8 * flag p.stamp), byteOf (p.tc + 8 * p.dp)] ++
    beBytes 4 qid ++ beBytes 4 p.arrival ++ mid ++ beBytes 4 p.token

/-- The packet that a header begins; its content is still to come. -/
def pktOfHeader (h : List Byte) (gen : Option Nat) : Pkt :=
  let fl := beAt h 2 1
  let inj := bit fl 2
  let ch := beAt h 26 2
  ⟨0, beAt h 4 4 % 2 ^ 19, [], beAt h 0 2, bit fl 0, bit fl 1, if inj then some (bytesAt h 12 16) else none, bit fl 3,
    beAt h 3 1 % 8, beAt h 3 1 / 8 % 4, beAt h 8 4, if inj then 0 else beAt h 12 2 % 512, if inj then 0 else beAt h 14 1,
    if inj then 0 else beAt h 15 1, if inj then 0 else beAt h 16 10,
    if !inj && bit ch 15 then some (bits ch 14 8, bits ch 2 0) else none, beAt h 28 4, gen, 6, []⟩

/-- The transfer word of a cell (R362). -/
def transferWord (kind prio : Nat) (bad sync : Bool) (dest src claim start seq : Nat) : List Byte :=
  beBytes 8 (kind * 2 ^ 62 + prio * 2 ^ 59 + flag bad * 2 ^ 58 + flag sync * 2 ^ 57 + dest % 512 * 2 ^ 48 +
    src % 512 * 2 ^ 39 + claim % 256 * 2 ^ 31 + start % 256 * 2 ^ 23 + seq % 2 ^ 23)

/-- The 272 octets of a cell as the part holds it: transfer word, arrival word, payload (R361). -/
def FCell.octets (c : FCell) : List Byte := c.bytes.take 8 ++ beBytes 8 c.arrival ++ c.bytes.drop 8

/-- The arrival word of a cell: lane, or 0xFE for the loop path, and the TIME count in ns (R363). -/
def arrivalWord (lane ns : Nat) : Nat := lane * 2 ^ 56 + ns % 2 ^ 32 * 2 ^ 24

/-- Octets padded with zeros to a cell's payload. -/
def padPayload (l : List Byte) : List Byte := (l ++ zeros 256).take 256

/-! ### Cutting packets into cells (R365 to R367) -/

/-- What a cut yields: payload so far, Start, BAD, stream numbers by offset, packets finished, packets left. -/
structure Cut where
  out : List Byte
  start : Nat
  bad : Bool
  gens : List (Nat × Nat)
  done : List TxPkt
  rest : List TxPkt
  deriving DecidableEq, Repr

/-- Packets laid end to end in one cell; `one` keeps a second packet out of it (R388); a packet cut through whose bytes do
not yet fill the cell waits for them (R294). -/
def cutCell (one : Bool) : List TxPkt → Cut → Cut
  | [], c => { c with rest := [] }
  | p :: r, c =>
    let room := 256 - c.out.length
    if room = 0 ∨ (¬ p.started ∧ room < 32) ∨ (one ∧ c.out ≠ [] ∧ ¬ p.started) ∨
        (p.short ≠ 0 ∧ p.bytes.length < room) then { c with rest := p :: r }
    else
      let c := if p.started then c
        else { c with
          start := if c.start = 0xFF then c.out.length else c.start
          gens := match p.gen with
            | some g => c.gens ++ [(c.out.length, g)]
            | none => c.gens }
      let c := { c with out := c.out ++ p.bytes.take room }
      if room < p.bytes.length ∨ p.short ≠ 0 then { c with rest := { p with bytes := p.bytes.drop room, started := true } :: r }
      else if p.bad then { c with bad := true, done := c.done ++ [p], rest := r }
      else cutCell one r { c with done := c.done ++ [p] }

/-- The next cell of a list of packets. -/
def nextCut (one : Bool) (l : List TxPkt) : Cut := cutCell one l ⟨[], 0xFF, false, [], [], []⟩

/-- Sync goes into the first cell of a stream after a reset and after 1 ms without one (R369). -/
def TxStream.sync (x : TxStream) (now : Tick) : Bool :=
  match x.last with
  | none => true
  | some t => decide (t + Config.ms ≤ now)

/-- The next data cell of a stream: cell, stream, packets finished; none while nothing of it is ready. -/
def State.dataCell (s : State) (x : TxStream) (one : Bool) : Option (FCell × TxStream × List TxPkt) :=
  let c := nextCut one x.pkts
  let w := transferWord 0 x.cls c.bad (x.sync s.clock.now) x.dest s.unit s.claimNo c.start x.seq
  if c.out = [] ∧ ¬ c.bad then none
  else some (⟨w ++ padPayload c.out, 0, c.gens⟩,
    { x with pkts := c.rest, seq := (x.seq + 1) % 2 ^ 23, last := some s.clock.now }, c.done)

/-- The messages of a stream that may be sent: a grant made in the present TMC cycle waits for its end, since the cycle may
still bring its port into HELD (R335). -/
def State.readyMsgs (s : State) (x : TxStream) : List (List Byte) :=
  if s.sched.grantAt = s.tmcCycle ∧ x.cls = 8 then
    let held := (s.sched.granted.filter (fun g => g.2.1 == x.dest)).map (fun g => ctlMsg 3 g.2.2.2.1 g.1 g.2.2.1)
    (held.foldl (fun l m => dropFirst (fun y => y == m) l) x.msgs.reverse).reverse
  else x.msgs

/-- The next control cell of a stream: up to 32 messages (R377). -/
def State.controlCell (s : State) (x : TxStream) : FCell × TxStream :=
  let sent := (s.readyMsgs x).take 32
  let w := transferWord 1 0 false (x.sync s.clock.now) x.dest s.unit s.claimNo 0 x.seq
  (⟨w ++ padPayload sent.flatten, 0, []⟩,
   { x with msgs := sent.foldl (fun l m => dropFirst (fun y => y == m) l) x.msgs, seq := (x.seq + 1) % 2 ^ 23, last := some s.clock.now })

/-! ### Dealing cells to lanes (R373, R374, R376, R388, R390) -/

/-- The lane that takes the next cell for a unit (R373). -/
def State.nextLane (s : State) (u : Nat) : Option Nat :=
  let last := nget s.fabric.lastLane u 0
  let free := (s.lanesFor u).filter (fun n => decide ((s.lane n).slots.length < 8))
  match free.find? (fun n => decide (last ≤ n)) with
  | some n => some n
  | none => free.head?

/-- The lane of a packet for a pinned unit (R388): the one it has begun on while that is usable for the unit, else the
one of the packet's hash (log entry 139). -/
def State.pinLane (s : State) (u : Nat) (p : TxPkt) : Option Nat :=
  let l := s.lanesFor u
  let hashed := if l.isEmpty then none else l[crc32c (beBytes 3 (p.qid % 2 ^ 19) ++ [byteOf p.src]) % l.length]?
  match p.lane with
  | some n => if l.contains n then some n else hashed
  | none => hashed

/-- The part sends nothing to a pinned unit during a pin hold (R390). -/
def State.pinHeld (s : State) (u : Nat) : Bool := s.pinned u && decide (s.clock.now < nget s.fabric.pinHold u 0)

/-- Cells that the loop path has taken in the present TMC cycle (R376). -/
def State.loopTaken (s : State) : Nat := if s.fabric.loopAt = s.tmcCycle then s.fabric.loopCount else 0

/-- A cell put onto the loop path (R376). -/
def State.loopCell (s : State) (c : FCell) : State :=
  { s with fabric := { s.fabric with
      loop := s.fabric.loop ++ [c], loopAt := s.tmcCycle, loopCount := s.loopTaken + 1 } }

/-- The lane, 160 for the loop path, that takes a cell of a packet for a unit now; none when the cell waits (R373, R376,
R388, R390). -/
def State.laneNow (s : State) (u : Nat) (p : TxPkt) : Option Nat :=
  if u = s.unit then (if s.loopTaken < 16 then some 160 else none)
  else if s.pinHeld u then none
  else if s.pinned u then (s.pinLane u p).filter (fun n => decide ((s.lane n).slots.length < 8))
  else s.nextLane u

/-- A cell put into the present frame of a lane, a control cell before the data cells (R374), or onto the loop path. -/
def State.putCell (s : State) (u n : Nat) (c : FCell) : State :=
  if n = 160 then s.loopCell c
  else
  let old := (s.lane n).slots
  let ctl (x : FCell) : Bool := cellKind x.bytes == 1
  let s := s.setLane { s.lane n with
    slots := if ctl c then old.takeWhile ctl ++ [c] ++ old.dropWhile ctl else old ++ [c] }
  { s with fabric := { s.fabric with lastLane := nset s.fabric.lastLane u (n + 1) 0 } }

/-- Packets whose last cell has been cut leave their cells (R258). -/
def State.txDone (s : State) (l : List TxPkt) : State := s.leave (l.filterMap (·.held))

/-- One control cell of a stream dealt; none when no lane takes it. -/
def State.dealControl (s : State) (x : TxStream) : Option State :=
  if (s.readyMsgs x).isEmpty then none
  else
    let (c, y) := s.controlCell x
    let lane := if x.dest = s.unit then (if s.loopTaken < 16 then some 160 else none)
      else if s.pinHeld x.dest then none else s.nextLane x.dest
    lane.map (fun n => ({ s with fabric := s.fabric.setTx y }.putCell x.dest n c).bump 0x6001 2)

/-- One data cell of a stream dealt; none when no lane takes it. -/
def State.dealData (s : State) (x : TxStream) : Option State :=
  match x.pkts with
  | [] => none
  | p :: r =>
    match s.laneNow x.dest p with
    | none => none
    | some n =>
      let pin := s.pinned x.dest && x.dest != s.unit
      let x := if pin then { x with pkts := { p with lane := some n } :: r } else x
      (s.dataCell x pin).map (fun (c, y, done) =>
        ((({ s with fabric := s.fabric.setTx y }).putCell x.dest n c).bump 0x6001 1).txDone done)

/-- The first stream of a class, 8 for control, whose next cell is taken. -/
def State.dealClass (s : State) (c : Nat) : Option State :=
  ((s.fabric.txs.filter (fun x => x.cls == c))).findSome? (fun x => if c = 8 then s.dealControl x else s.dealData x)

/-- Cells that the streams hold, at most. -/
def Fabric.backlog (f : Fabric) : Nat :=
  sumOf (fun x => x.msgs.length + sumOf (fun p => p.bytes.length / 32 + 1) x.pkts) f.txs

/-- PIN_HOLD_END (R390). -/
def State.pinHoldEnd (s : State) (u : Nat) : State :=
  if nget s.fabric.pinHold u 0 ≠ 0 ∧ nget s.fabric.pinHold u 0 ≤ s.clock.now then
    { s with fabric := { s.fabric with pinHold := nset s.fabric.pinHold u 0 0 } }
  else s

/-! ### Choosing packets (R294, R326, R327, R332, R375) -/

/-- Nothing of a packet is evicted. -/
def Pkt.onDieWhole (p : Pkt) : Bool := p.places.all Place.onDie

/-- As many of a packet's cells as the cut-through start have arrived (R294, R295). -/
def State.begunEnough (s : State) (p : Pkt) : Bool := decide (s.obj 0x5000 8 ≤ (p.data.length + 32) / 256)

/-- A packet may begin towards the fabric (R294, R296): it lies on the die, and has arrived whole or is cut through. -/
def State.mayLeave (s : State) (qid : Nat) (p : Pkt) : Bool :=
  p.onDieWhole && (p.data.length == p.len ||
    (decide (p.src < 128) && s.obj (0x5080 + p.src) 1 == 1 && !p.copy && !s.queueGated qid && s.begunEnough p))

/-- A packet as its stream carries it, under the QID that the fabric carries (R303). -/
def Pkt.toTx (p : Pkt) (rq : Nat) : TxPkt :=
  ⟨p.id, rq, p.header rq ++ p.data, false, p.bad, p.gen, p.src, none, some p, p.len - p.data.length⟩

/-- A queue may be served by the fabric transmit (R326, R371, R375, R390): credit, tokens, a head that may leave, a lane or
the loop path that takes its cell now, and no full cell waiting in its stream. -/
def State.txReady (s : State) (qid : Nat) : Bool :=
  let (u, rq) := s.requestOf qid
  match s.voq qid with
  | [] => false
  | p :: _ =>
    recEnabled (s.qrec qid) && decide (0 < (s.que qid).bal) && s.hasTokens (nodeKey 5 qid) &&
      (s.mayLeave qid p || s.pktExpired p) && (s.laneNow u (p.toTx rq)).isSome &&
      decide (sumOf (fun t => t.bytes.length) (s.fabric.tx u (recClass (s.qrec qid))).pkts < 256)

/-- The queue of a class that the fabric transmit takes next: round robin by QID (R326). -/
def State.txPick (s : State) (c : Nat) : Option Nat :=
  let l := (s.sched.ques.map (·.qid)).filter (fun q => recClass (s.qrec q) == c && s.txReady q)
  (l.find? (fun q => decide (nget s.sched.rrAt c 0 ≤ q))).orElse (fun _ => l.head?)

/-- The head of a queue's ingress content taken away. -/
def State.popVoq (s : State) (qid : Nat) : State :=
  let q := s.que qid
  if recEgress (s.qrec qid) then s.setQue { q with locals := q.locals.tail } else s.setQue { q with pkts := q.pkts.tail }

/-- One packet of a queue taken into its stream, or dropped for its sojourn or a bad tail (R298, R326, R327, R332). A
local list's packet is charged to its queue's tokens once, when the scheduler serves it (R323). -/
def State.txTake (s : State) (qid : Nat) : State :=
  match s.voq qid with
  | [] => s
  | p :: _ =>
    if s.pktExpired p then (s.popVoq qid).dropExpired qid [p]
    else if p.bad then ((((s.popVoq qid).bump 0x5001 6).release [p]).creditOff qid)
    else
      let (u, rq) := s.requestOf qid
      let c := recClass (s.qrec qid)
      let s := s.popVoq qid
      let q := s.que qid
      let s := s.setQue { q with bal := q.bal - p.places.length }
      let s := { s with sched := { s.sched with rrAt := nset s.sched.rrAt c (qid + 1) 0 } }
      let s := if recEgress (s.qrec qid) then s else s.chargeNode p.len (nodeKey 5 qid)
      let s := (s.bumpI 0x5100 9 qid 1).bumpI 0x5100 0xA qid p.len
      let x := s.fabric.tx u c
      let s := { s with fabric := s.fabric.setTx { x with pkts := x.pkts ++ [p.toTx rq] } }
      (s.creditOff qid).creditOn qid

/-- One step of the transmit: a control cell, or in strict class order a packet taken or a data cell dealt (R326,
R374). -/
def State.txStep (s : State) : Option State :=
  (s.dealClass 8).orElse (fun _ => (List.range 8).reverse.findSome? (fun c =>
    match s.txPick c with
    | some q => some (s.txTake q)
    | none => s.dealClass c))

/-- Steps of the transmit while there is one; `fuel` bounds them. -/
def State.txRun (s : State) : Nat → State
  | 0 => s
  | fuel + 1 =>
    match s.txStep with
    | some s => s.txRun fuel
    | none => s

/-- Destination units of ingress-side queues with content, and of streams with cells to send. -/
def State.wantedUnits (s : State) : List Nat :=
  (((s.sched.ques.map (·.qid)).filter (fun q => s.voq q != [] && !recEgress (s.qrec q))).map
    (fun q => (s.requestOf q).1) ++
   (s.fabric.txs.filter (fun x => decide (x.dest < 512) && !(x.pkts.isEmpty && x.msgs.isEmpty))).map (·.dest)).dedup

/-- FC-08 at level F1 for each unit that has content waiting and no usable lane, once until a lane returns (R375). -/
def State.cutUnits (s : State) : State :=
  let dead := s.wantedUnits.filter (fun u => u != s.unit && (s.lanesFor u).isEmpty)
  let fresh := dead.filter (fun u => !s.fabric.cut.contains u)
  let s := { s with fabric := { s.fabric with cut := dead } }
  fresh.foldl (fun s u => s.raise { cls := 8, level := 1, object := 0xFFFFFFFF, value := u }) s

/-- The fabric carries traffic: the part is in service and its TM die runs (R415, R551). -/
def State.fabricRuns (s : State) : Bool := s.dev.st.inService && !s.faults.haltTm

/-- FABRIC_TRANSMIT (R326, R365 to R376, R388 to R390): cells are dealt as far as lanes and loop path take them. -/
def State.fabricTransmit (s : State) : State :=
  if ¬ s.fabricRuns then s
  else
    let s := s.pinSyncAll
    let s := s.cutUnits
    s.txRun (s.fabric.backlog + sumOf (fun q => sumOf (fun p => p.len / 32 + 3) (q.pkts ++ q.locals)) s.sched.ques)

/-- The packets of a stream or a pairing lane whose tail is lost: one that has begun ends with its next cell, with BAD
(R297); the others leave (R298). -/
def truncate (mine : TxPkt → Bool) (l : List TxPkt) : List TxPkt :=
  (l.filter (fun p => p.started || !mine p)).map (fun p =>
    if mine p then { p with bytes := p.bytes.take 256, bad := true, short := 0 } else p)

/-- The packets that have left their queues and wait in the streams and for the pairing lanes. -/
def State.txAll (s : State) : List TxPkt := s.fabric.txs.flatMap (·.pkts) ++ s.pair.data.flatMap (·.2)

/-- The tails of packets in the streams and for the pairing lanes are lost: the next cell of one that has begun is sent as its
last, with BAD (R297); one that has not is dropped and counted (R298). None when there is no such packet. -/
def State.txBad (s : State) (mine : TxPkt → Bool) : Option State :=
  if s.txAll.any mine then
    let gone := s.txAll.filter (fun p => !p.started && mine p)
    let txs := s.fabric.txs.map (fun (x : TxStream) => { x with pkts := truncate mine x.pkts })
    let data := s.pair.data.map (fun (x : Nat × List TxPkt) => (x.1, truncate mine x.2))
    let s : State := { s with fabric := { s.fabric with txs := txs }, pair := { s.pair with data := data } }
    some ((s.bumpN 0x5001 6 gone.length).release (gone.filterMap (·.held)))
  else none

/-- The packet of a queue in the streams whose tail a BAD_TAIL names: the one that has begun, else the next to begin. -/
def State.txOf (s : State) (qid : Nat) : Option TxPkt :=
  let l := (s.fabric.txs.flatMap (·.pkts)).filter (fun p => (p.held.map (·.qid)) == some qid)
  (l.find? (·.started)).orElse (fun _ => l.head?)

/-- BAD_TAIL (R297): the packet of a queue that has begun towards the fabric, or the one next to begin (R298). -/
def State.badTail (s : State) (qid : Nat) : State :=
  ((s.txOf qid).bind (fun x => s.txBad (fun p => p.pid == x.pid))).getD (match s.voq qid with
  | [] => s
  | p :: _ => ((((s.popVoq qid).bump 0x5001 6).release [p]).creditOff qid))

/-- The rest of a cut-through packet is lost on the bond link (R13, R297, R298). -/
def State.bondLost (s : State) (pid : Nat) : State :=
  (s.txBad (fun p => p.pid == pid && p.short != 0)).getD
    (match s.sched.ques.find? (fun q => (s.voq q.qid).any (fun p => p.id == pid)) with
     | none => s
     | some q =>
       let gone := (s.voq q.qid).filter (fun p => p.id == pid)
       let keep (l : List Pkt) : List Pkt := l.filter (fun p => p.id != pid)
       ((((s.setQue { q with pkts := keep q.pkts, locals := keep q.locals }).bump 0x5001 6).release gone).creditOff q.qid))

/-! ### Frames of cut-through packets on the FE die (R295, R299) -/

/-- Bytes of a packet that has begun towards the line, brought to its frame over BOND-TF (R12); those after the end that its
deparser has seen declared are not sent (R134). -/
def Frame.feed (pid : Nat) (b : List Byte) (f : Frame) : Frame :=
  if f.pkt = pid ∧ f.short ≠ 0 then
    { f with data := f.data ++ b.take (f.short - f.cut), short := f.short - b.length, cut := min f.cut (f.short - b.length) }
  else f

/-- A frame whose packet is lost: its tail is bad, and nothing more comes of it. -/
def Frame.spoil (pid : Nat) (f : Frame) : Frame := if f.pkt = pid then { f with bad := true, short := 0 } else f

/-- The packets whose frames stand behind the egress spreader with bytes still to come: these are on BOND-TF (R12, R13). -/
def Flow.arriving (fl : Flow) : List Nat :=
  ((fl.ctxs.map (·.frame) ++ fl.recircE ++ fl.toLine.map (·.2)).filter (fun f => f.short != 0)).map (·.pkt)

/-- A packet that lost bytes on BOND-TF: its frame is dropped wherever it stands, and its body cells are freed (R13, R258). -/
def State.loseTail (s : State) (pid : Nat) : State :=
  let hit (f : Frame) : Bool := f.pkt == pid && f.short != 0
  let fl := s.flow
  { s with flow := { fl with
      ctxs := fl.ctxs.filter (fun c => !hit c.frame)
      recircE := fl.recircE.filter (fun f => !hit f)
      toLine := fl.toLine.filter (fun x => !hit x.2) } }.feSettle fl

/-- Every frame of the egress side changed. -/
def Flow.mapEgress (g : Frame → Frame) (fl : Flow) : Flow :=
  { fl with
    egressIn := fl.egressIn.map g
    recircE := fl.recircE.map g
    toLine := fl.toLine.map (fun x => (x.1, g x.2))
    ctxs := fl.ctxs.map (fun c =>
      { c with frame := g c.frame, body := c.body ++ (g c.frame).data.drop c.frame.data.length }) }

/-! ### Reassembly (R384, R385, R387) -/

/-- Where a reassembly stands: its packet, and whether the next cell follows a lost one. -/
structure AsmSt where
  asm : Option Asm
  lost : Bool
  deriving DecidableEq, Repr

/-- The other member of a source's pair (R387, 0x6010). -/
def State.pairOf (s : State) (src : Nat) : Option Nat :=
  (List.range 256).findSome? (fun i =>
    let r := s.objI 0x6010 2 i
    if ¬ bit r 31 then none
    else if bits r 24 16 = src then some (bits r 8 0)
    else if bits r 8 0 = src then some (bits r 24 16) else none)

/-- The highest claim kept for a unit: of its cells that arrived in the last 4 ms (R387, R484). -/
def State.highClaim (s : State) (u : Nat) : Nat :=
  maxOf (fun e => if e.1 = u ∧ s.clock.now < e.2.2 + 4 * Config.ms then e.2.1 else 0) s.fabric.claims

/-- A cell's claim kept for its source, where the source is of a pair (R387, R484): a cell at or above an older one
replaces it. -/
def State.noteClaim (s : State) (src claim : Nat) : State :=
  if (s.pairOf src).isNone then s
  else
    let l := s.fabric.claims.filter (fun e => !(e.1 == src && decide (e.2.1 ≤ claim)))
    { s with fabric := { s.fabric with claims := l ++ [(src, claim, s.clock.now)] } }

/-- PAIR_CLAIM_EXPIRE (R484). -/
def State.claimExpire (s : State) (u : Nat) : State :=
  { s with fabric := { s.fabric with
      claims := s.fabric.claims.filter (fun e => !(e.1 == u && decide (e.2.2 + 4 * Config.ms ≤ s.clock.now))) } }

/-- The claim filter refuses a packet (R387). -/
def State.claimRefuses (s : State) (src claim : Nat) : Bool :=
  match s.pairOf src with
  | some o => decide (claim ≤ s.highClaim o)
  | none => false

/-- A packet placed already stands in its queue still. -/
def State.asmQueued (s : State) (a : Asm) : Bool := (s.que a.pkt.qid).pkts.any (fun p => p.id == a.pkt.id)

/-- A packet in reassembly ended as lost, damaged or refused: one already placed leaves its queue, or spoils its frame
and leaves its cells (R258). -/
def State.endAsm (s : State) (a : Asm) : State :=
  if a.refused then s
  else if a.placed then
    let q := s.que a.pkt.qid
    match q.pkts.find? (fun p => p.id == a.pkt.id) with
    | some p => (s.setQue { q with pkts := dropFirst (fun p => p.id == a.pkt.id) q.pkts }).release [p]
    | none => { s with flow := s.flow.mapEgress (Frame.spoil a.pkt.id) }.releaseCells [a.pkt]
  else s.release [a.pkt]

/-- Bytes of a packet in reassembly. -/
def State.feedAsm (s : State) (a : Asm) (b : List Byte) : State :=
  if a.refused ∨ ¬ a.placed then s
  else
    let q := s.que a.pkt.qid
    if q.pkts.any (fun p => p.id == a.pkt.id) then
      s.setQue { q with
        pkts := modFirst (fun p => p.id == a.pkt.id) (fun p => { p with data := p.data ++ b }) q.pkts }
    else { s with flow := s.flow.mapEgress (Frame.feed a.pkt.id b) }

/-- A packet is placed in its queue at its first cell (R295, R296): line cut-through is set for its port, and it is no
copy, no inject frame, and not in a gated queue. -/
def State.cutThrough (s : State) (p : Pkt) : Bool :=
  match s.outLine (s.portOf p.qid) with
  | none => false
  | some l => s.obj (0x5080 + l) 2 == 1 && !p.copy && p.inject.isNone && !s.queueGated p.qid

/-- An arrival that finds no room (R287). -/
def State.noRoom (s : State) (src : Nat) : State := (s.bump 0x5001 0xC).partnerNote 0x287000 src 0x5001 0xC

/-- A packet off the fabric for an eliminating stream's queue passed through the recovery (R502), by the number that it
carries; one without is discarded (log entry 37). -/
def State.passStream (s : State) (p : Pkt) : Bool × State :=
  match s.elimStream p.qid with
  | some (i, v) => s.recover i v p.gen
  | none => (true, s)

/-- A packet header taken: the claim filter, the state of the queue and of its port, the stream recovery, admission at its
first cell, cells (R272, R287, R303, R314, R334, R387, R502). -/
def State.beginAsm (s : State) (src claim : Nat) (filter : Bool) (p : Pkt) : Asm × State :=
  let no (s : State) : Asm × State := (⟨p, false, true, filter⟩, s)
  if filter ∧ s.claimRefuses src claim then no (s.bump 0x6001 6)
  else
    let n := cellsOf p.len
    let r := s.qrec p.qid
    if ¬ recEgress r ∨ ¬ recEnabled r then no (s.bump 0x5101 6)
    else if s.portState (s.portOf p.qid) = 2 then no (s.portFlushed p.qid 1)
    else match s.passStream p with
    | (false, s) => no s
    | (true, s) =>
      match s.verdict 1 p.qid n p.dp 0 none with
      | .accept =>
        (match s.allocCells 1 n 6 with
         | (none, s) => no ((s.refused p.qid .refuse none).noRoom src)
         | (some cs, s) =>
           let id := s.sched.nextPkt
           let s := { s with sched := { s.sched with nextPkt := id + 1 } }
           let p := { p with id := id, arrival := s.ns32, places := cs.map Place.die }
           if s.cutThrough p then
             let q := s.que p.qid
             (⟨p, true, false, filter⟩, s.setQue { q with pkts := q.pkts ++ [p] })
           else (⟨p, false, false, filter⟩, s))
      | v => no (s.refused p.qid v none)

/-- A packet whose bytes are all there: placed in its queue, or dropped for a bad tail (R298, R384, R385); one that has
left its queue already leaves its cells (R258). -/
def State.finishAsm (s : State) (a : Asm) (bad : Bool) : State :=
  if a.refused then s
  else if bad ∨ a.pkt.bad then
    let s := s.bump 0x6001 6
    (if a.placed ∧ ¬ s.asmQueued a then s else s.bump 0x5001 6).endAsm a
  else if a.placed then (if s.asmQueued a then s else s.releaseCells [a.pkt])
  else
    let q := s.que a.pkt.qid
    if ¬ recEgress (s.qrec a.pkt.qid) then s.release [a.pkt]
    else if s.portState (s.portOf a.pkt.qid) = 2 then
      (s.portFlushed a.pkt.qid 1).release [a.pkt]
    else s.setQue { q with pkts := q.pkts ++ [a.pkt] }

/-- The rest of a cell discarded (R384, R385). -/
def State.discard (s : State) (n : Nat) : State := s.bumpN 0x6200 8 n

/-- The rest of a cell that R385 ends, counted as malformed. -/
def State.malformed (s : State) (n : Nat) : AsmSt × State := (⟨none, true⟩, (s.bump 0x6001 7).discard n)

/-- The cells of a packet of stored length `len` that `n` of its bytes fill (R256). -/
def arrivedCells (n len : Nat) : Nat := if len ≤ n then cellsOf len else (n + 32) / 256

/-- Bytes of a packet of the fabric lower its queue's outstanding count by the cells they fill (R330). -/
def State.countCells (s : State) (src : Nat) (a : Asm) (n : Nat) : State :=
  let old := a.pkt.data.length
  let m := arrivedCells (old + n) a.pkt.len - arrivedCells old a.pkt.len
  if a.counted ∧ 0 < m then s.arrived a.pkt.qid src m else s

/-- Nothing of a packet follows a position of a cell (R365). -/
def cellEnds (pl : List Byte) (pos : Nat) : Bool := decide (256 - pos < 32) || beAt pl pos 2 == 0

/-- The bytes of a cell from a position taken packet by packet; with BAD the last packet of the cell is bad (R362). `fuel`
bounds the packets. -/
def State.takeBytes (s : State) (src claim : Nat) (filter bad : Bool) (gens : List (Nat × Nat)) (pl : List Byte) :
    Nat → Nat → Option Asm → AsmSt × State
  | 0, _, a => (⟨a, false⟩, s)
  | fuel + 1, pos, a =>
    match a with
    | some a =>
      let b := (pl.drop pos).take (a.pkt.len - a.pkt.data.length)
      let s := (s.feedAsm a b).countCells src a b.length
      let a := { a with pkt := { a.pkt with data := a.pkt.data ++ b } }
      if a.pkt.data.length < a.pkt.len then
        (if bad then (⟨none, false⟩, s.finishAsm a true) else (⟨some a, false⟩, s))
      else
        let pos := pos + b.length
        (s.finishAsm a (bad && cellEnds pl pos)).takeBytes src claim filter bad gens pl fuel pos none
    | none =>
      if 256 - pos < 32 then (⟨none, false⟩, s)
      else
        let len := beAt pl pos 2
        if len = 0 then (⟨none, false⟩, s)
        else if len < 60 ∨ 16379 < len then s.malformed (256 - pos)
        else
          let gen := (gens.find? (fun g => g.1 == pos)).map (·.2)
          let (a, s) := s.beginAsm src claim filter (pktOfHeader (pl.drop pos) gen)
          s.takeBytes src claim filter bad gens pl fuel (pos + 32) (some a)

/-- One data cell reassembled (R384, R385). -/
def State.reassemble (s : State) (st : AsmSt) (src : Nat) (filter : Bool) (c : FCell) : AsmSt × State :=
  let w := beNat (c.bytes.take 8)
  let pl := c.bytes.drop 8
  let start := bits w 30 23
  let claim := bits w 38 31
  let (st, s) := if st.lost then
      (match st.asm with
       | some a => (⟨none, true⟩, (if a.refused then s else s.bump 0x6200 7).endAsm a)
       | none => (st, s))
    else (st, s)
  if 225 ≤ start ∧ start ≤ 254 then
    let s := match st.asm with
      | some a => s.endAsm a
      | none => s
    s.malformed 256
  else
    let take := s.takeBytes src claim filter (bit w 58) gens pl 10
    if st.lost then
      (if start = 0xFF then (⟨none, true⟩, s.discard 256)
       else (s.discard start).takeBytes src claim filter (bit w 58) gens pl 10 start none)
    else match st.asm with
    | some a => take 0 (some a)
    | none => if start = 0xFF then (⟨none, false⟩, s) else take start none
where
  /-- The stream numbers that go with the cell. -/
  gens : List (Nat × Nat) := c.gens

/-! ### The resequencer (R381 to R383) -/

/-- A receive stream. -/
def Fabric.rx (f : Fabric) (src cls : Nat) : RxStream :=
  (f.rxs.find? (fun x => x.src == src && x.cls == cls)).getD ⟨src, cls, false, 0, [], 0, none, false⟩

/-- A receive stream set. -/
def State.setRx (s : State) (x : RxStream) : State :=
  { s with fabric := { s.fabric with
      rxs := s.fabric.rxs.filter (fun y => !(y.src == x.src && y.cls == x.cls)) ++ [x] } }

/-- The messages of a control cell (R377). -/
def State.recvMsgs (s : State) (unit : Nat) (pl : List Byte) : State :=
  (List.range 32).foldl (fun s i => s.recvMsg unit (beAt pl (8 * i) 8)) s

/-- A cell released from a stream. -/
def State.releaseCell (s : State) (src cls : Nat) (c : FCell) : State :=
  if cls = 8 then
    (s.setRx { s.fabric.rx src cls with lost := false }).recvMsgs src (c.bytes.drop 8)
  else
    let x := s.fabric.rx src cls
    let (st, s) := s.reassemble ⟨x.asm, x.lost⟩ src true c
    s.setRx { s.fabric.rx src cls with asm := st.asm, lost := st.lost }

/-- A held cell leaves its cell of the egress partition. -/
def State.freeHeld (s : State) (h : HeldCell) : State :=
  match h.place with
  | some n => s.freeCells 1 [(n, 6)]
  | none => s

/-- Every held cell that follows without a gap released (R381); `fuel` bounds them. -/
def State.releaseRun (s : State) (src cls : Nat) : Nat → State
  | 0 => s
  | fuel + 1 =>
    let x := s.fabric.rx src cls
    match x.held.find? (fun h => h.seq == x.r) with
    | none => s
    | some h =>
      let s := s.setRx { x with held := dropFirst (fun g => g.seq == x.r) x.held, r := (x.r + 1) % 2 ^ 23 }
      ((s.freeHeld h).releaseCell src cls h.cell).releaseRun src cls fuel

/-- A cell held, in a cell of the egress partition; without room it is dropped (R287). -/
def State.holdCell (s : State) (src cls seq : Nat) (c : FCell) : State :=
  match s.allocCells 1 1 6 with
  | (none, s) => s.noRoom src
  | (some l, s) =>
    let x := s.fabric.rx src cls
    s.setRx { x with held := x.held ++ [HeldCell.mk seq s.clock.now c l.head?] }

/-- A cell of an ACTIVE stream (R381). -/
def State.reseq (s : State) (src cls seq : Nat) (c : FCell) : State :=
  let x := s.fabric.rx src cls
  let d := (seq + 2 ^ 23 - x.r) % 2 ^ 23
  if d = 0 then
    ((s.setRx { x with r := (x.r + 1) % 2 ^ 23 }).releaseCell src cls c).releaseRun src cls (x.held.length + 1)
  else if d < 65536 then
    if x.held.any (fun h => h.seq == seq) then s.bump 0x6200 4 else s.holdCell src cls seq c
  else if d < 4194304 then (s.bump 0x6200 5).partnerNote 0x381000 src 0x6200 5
  else s.bump 0x6200 3

/-- Held cells dropped and counted as late (R383). -/
def State.dropHeld (s : State) (l : List HeldCell) : State :=
  (l.foldl State.freeHeld s).bumpN 0x6200 3 l.length

/-- A numbered cell of a stream (R381, R383). -/
def State.seqCell (s : State) (src cls seq : Nat) (sync : Bool) (c : FCell) : State :=
  let x := { s.fabric.rx src cls with last := s.clock.now }
  let s := s.setRx x
  if x.active then
    if sync ∧ 65536 ≤ (seq + 2 ^ 23 - x.r) % 2 ^ 23 then
      (((s.dropHeld x.held).setRx { x with held := [], r := seq }).bump 0x6200 6).reseq src cls seq c
    else s.reseq src cls seq c
  else if sync then
    let late := x.held.filter (fun h => decide (4194304 ≤ (h.seq + 2 ^ 23 - seq) % 2 ^ 23))
    let keep := x.held.filter (fun h => !decide (4194304 ≤ (h.seq + 2 ^ 23 - seq) % 2 ^ 23))
    ((s.dropHeld late).setRx { x with active := true, r := seq, held := keep }).reseq src cls seq c
  else s.holdCell src cls seq c

/-- A held cell has waited for the resequencing timeout (R382). -/
def State.heldDue (s : State) (h : HeldCell) : Bool :=
  decide (h.at_ + s.obj 0x6200 1 * Config.ns ≤ s.clock.now)

/-- Cells up to distance `d` of the release point released, the missing ones declared lost (R382, R384); `fuel` is
`d` + 1. -/
def State.releaseLost (s : State) (src cls : Nat) : Nat → State
  | 0 => s
  | fuel + 1 =>
    let x := s.fabric.rx src cls
    let s' := match x.held.find? (fun h => h.seq == x.r) with
      | some h =>
        ((s.setRx { x with held := dropFirst (fun g => g.seq == x.r) x.held, r := (x.r + 1) % 2 ^ 23 }).freeHeld
          h).releaseCell src cls h.cell
      | none => (s.setRx { x with r := (x.r + 1) % 2 ^ 23, lost := true }).bump 0x6200 2
    s'.releaseLost src cls fuel

/-- RESEQUENCING_TIMEOUT (R382, R383). -/
def State.reseqTimeout (s : State) (src cls : Nat) : State :=
  let x := s.fabric.rx src cls
  let due := x.held.filter s.heldDue
  match due with
  | [] => s
  | h :: _ =>
    if x.active then
      let d := maxOf (fun h => (h.seq + 2 ^ 23 - x.r) % 2 ^ 23) due
      let s := s.releaseLost src cls (d + 1)
      let s := s.releaseRun src cls (x.held.length + 1)
      let (first, s) := s.firstInSecond 0x382000
      if first then s.raise { cls := 8, level := 0, object := src, value := cls, ctrIdx := 0x6200, ctrSub := 2 } else s
    else
      let low := (x.held.map (·.seq)).foldl min h.seq
      ((s.setRx { x with active := true, r := low }).bump 0x6200 6).releaseRun src cls (x.held.length + 1)

/-- STREAM_IDLE (R383). -/
def State.streamIdle (s : State) (src cls : Nat) : State :=
  let x := s.fabric.rx src cls
  if x.active ∧ x.held = [] ∧ x.last + 2 * Config.ms ≤ s.clock.now then s.setRx { x with active := false } else s

/-! ### Cells outside the resequencer (R389, R496) -/

/-- A reassembly by source, priority and lane. -/
def State.pinAsm (s : State) (src prio lane : Nat) : PinAsm :=
  (s.fabric.pins.find? (fun x => x.src == src && x.prio == prio && x.lane == lane)).getD ⟨src, prio, lane, none, false, none⟩

/-- A packet whose bytes stop short of the next packet's header fails reassembly by length (R385, R390): the Start of a cell
says where the header stands. -/
def State.shortAsm (s : State) (x : PinAsm) (start : Nat) : PinAsm × State :=
  match x.asm with
  | none => (x, s)
  | some a =>
    if start < 225 ∧ start < a.pkt.len - a.pkt.data.length then
      ({ x with asm := none }, (if a.refused then s else s.bump 0x6001 7).endAsm a)
    else (x, s)

/-- A data cell reassembled in arrival order. A pinned destination's lost cell shows only by its packet's length (R390); on a
pairing lane a gap in the numbers of the cells says that some are lost (R384, R496). -/
def State.pinCell (s : State) (src prio lane : Nat) (filter : Bool) (c : FCell) : State :=
  let x := s.pinAsm src prio lane
  let w := beNat (c.bytes.take 8)
  let seq := bits w 22 0
  let gap := decide (src = 512) && !bit w 57 && (match x.next with
    | some k => k != seq
    | none => false)
  let (x, s) := if src = 512 then (x, s) else s.shortAsm x (bits w 30 23)
  let (st, s) := s.reassemble ⟨x.asm, x.lost || gap⟩ src filter c
  { s with fabric := { s.fabric with
      pins := s.fabric.pins.filter (fun y => !(y.src == src && y.prio == prio && y.lane == lane)) ++
        [{ x with asm := st.asm, lost := st.lost, next := some ((seq + 1) % 2 ^ 23) }] } }

/-! ### Receiving cells (R364, R372) -/

/-- The reachability of a lane replaced (R372). -/
def State.element (s : State) (n : Nat) (c : FCell) : State :=
  if n < 160 then (s.setLane { s.lane n with reach := leNat (bytesAt c.bytes 8 64), reachAt := some s.clock.now }).lanesMoved
  else s

/-- The cell that FABRIC_CELL_RECEIVE takes: the one given, or the next that the lane delivered or the loop path
holds. -/
def State.takeCell (s : State) (n : Nat) (slot : Option (List Byte)) : Option FCell × State :=
  let word := arrivalWord (if n = 160 then 0xFE else n) s.ns32
  match slot with
  | some b => (some ⟨bytesAt b 0 264, word, []⟩, s)
  | none =>
    if n = 160 then
      (match s.fabric.loop with
       | c :: r => (some { c with arrival := word }, { s with fabric := { s.fabric with loop := r } })
       | [] => (none, s))
    else match (s.lane n).extracted with
    | c :: r => (some ⟨c, word, []⟩, s.setLane { s.lane n with extracted := r })
    | [] => (none, s)

/-- A data cell that waits for the next TMC cycle, since the allocator of the egress partition has granted the present one's
cells (R267): one just received joins those that its lane delivered, or the loop path. -/
def State.keepCell (s : State) (n : Nat) (slot : Option (List Byte)) : State :=
  match slot with
  | none => s
  | some b =>
    if n = 160 then { s with fabric := { s.fabric with loop := s.fabric.loop ++ [⟨bytesAt b 0 264, 0, []⟩] } }
    else s.setLane { s.lane n with extracted := (s.lane n).extracted ++ [bytesAt b 0 264] }

/-- FABRIC_CELL_RECEIVE (R267, R364, R381, R389). -/
def State.fabricReceive (s : State) (n : Nat) (slot : Option (List Byte)) : State :=
  if s.faults.haltTm then s
  else if s.allocBusy 1 ∧ ((s.takeCell n slot).1.map (fun c => cellKind c.bytes)) = some 0 then s.keepCell n slot
  else match s.takeCell n slot with
  | (none, s) => s
  | (some c, s) =>
    let w := beNat (c.bytes.take 8)
    let kind := bits w 63 62
    let src := bits w 47 39
    let s := if n < 160 ∧ kind ≠ 2 then s.bump (0x6020 + n) 4 else s
    if kind = 2 then s
    else if kind = 3 then s.element n c
    else if bits w 56 48 ≠ s.unit then (s.bump 0x6001 5).partnerNote 0x364000 src 0x6001 5
    else
      let s := (s.bump 0x6001 (if kind = 0 then 3 else 4)).noteClaim src (bits w 38 31)
      if s.pinned src ∧ n ≠ 160 then
        (if kind = 1 then s.recvMsgs src (c.bytes.drop 8) else s.pinCell src (bits w 61 59) n true c)
      else s.seqCell src (if kind = 1 then 8 else bits w 61 59) (bits w 22 0) (bit w 57) c

/-! ### Sending link frames (R374, R402, R415, R493) -/

/-- The states in which a lane sends AIS and filler (R415, R551). -/
def State.lanesBlank (s : State) : Bool :=
  match s.dev.st with
  | .init => true
  | .ready => true
  | .maint => true
  | .halt => true
  | _ => s.faults.haltTm || s.faults.haltFe

/-- The trace message of a lane (R418). -/
def State.traceMsg (s : State) (n : Nat) : List Byte :=
  let b := [1] ++ beBytes 2 s.unit ++ [byteOf (laneName n)] ++ zeros 10
  b ++ beBytes 2 (crc16 b)

/-- The overhead bytes 7 to 14 of the frame that a lane sends (R398, R414 to R416, R418, R424). -/
def State.txOverhead (s : State) (n : Nat) (ais : Bool) : List Byte :=
  let l := s.lane n
  let rdi := l.los || l.ais || l.st != 2
  let chan := if l.frameNo = 0 then l.oh0 else if l.frameNo = 8 then l.oh1 else 0
  [byteOf l.frameNo, byteOf (128 * flag ais + 64 * flag rdi), (s.traceMsg n).getD l.frameNo 0, byteOf chan,
    byteOf (min 128 l.failsLast), 0, 0, 0]

/-- The pairing lane that carries transfer items: the lowest free of defects. -/
def State.itemLane (s : State) : Option Nat := [160, 161].find? (fun n => (s.lane n).clean)

/-- Data cells cut for a pairing lane, under the class of the queue whose packet the cell begins with or goes on with; `fuel` is
the number of slots (R362, R365, R496). -/
def State.pairCells (s : State) (lane : Nat) : Nat → List (List Byte) × State
  | 0 => ([], s)
  | fuel + 1 =>
    let pk := ((s.pair.data.find? (fun x => x.1 == lane)).map (·.2)).getD []
    if pk.isEmpty then ([], s)
    else
      let x := { s.fabric.tx (512 + lane) 0 with pkts := pk }
      let c := nextCut false pk
      let cls := recClass (s.qrec ((pk.map (·.qid)).headD 0))
      let w := transferWord 0 cls c.bad (x.sync s.clock.now) (s.obj 0x6800 2) s.unit s.claimNo c.start x.seq
      let s := { s with
        fabric := s.fabric.setTx { x with pkts := [], seq := (x.seq + 1) % 2 ^ 23, last := some s.clock.now }
        pair := { s.pair with
          data := (s.pair.data.filter (fun (y : Nat × List TxPkt) => y.1 != lane)) ++
            (if c.rest.isEmpty then [] else [(lane, c.rest)]) } }
      let (r, s) := (s.txDone c.done).pairCells lane fuel
      ((w ++ padPayload c.out) :: r, s)

/-- The cells that wait for the slots of a pairing lane: due claim cells, none while the sideband stands at its safe value
(R474), transfer cells, data cells (R493); outside service claim cells alone (R415). -/
def State.pairSlots (s : State) (n : Nat) : List (List Byte) × State :=
  let lane := n - 160
  let claims := if s.sbFe.safe ∨ s.sbTm.safe then [] else (s.pair.claimOut.filter (fun x => x.1 == lane)).map (·.2)
  if s.lanesBlank then
    (claims, { s with pair := { s.pair with claimOut := s.pair.claimOut.filter (fun x => x.1 != lane) } })
  else
  let items := if s.itemLane = some n then s.pair.itemOut.take (8 - claims.length) else []
  let word := transferWord 3 0 false false (s.obj 0x6800 2) s.unit s.claimNo 0 0
  let kept := ((s.pair.cellOut.filter (fun x => x.1 == lane)).map (·.2)).take (8 - claims.length - items.length)
  let s := { s with pair := { s.pair with
      claimOut := s.pair.claimOut.filter (fun x => x.1 != lane)
      itemOut := s.pair.itemOut.drop items.length
      cellOut := s.pair.cellOut.filter (fun x => !(x.1 == lane && kept.contains x.2)) } }
  let (data, s) := if s.fabricRuns then s.pairCells lane (8 - claims.length - items.length - kept.length) else ([], s)
  (claims ++ items.map (fun p => word ++ p) ++ kept ++ data, s)

/-- Cells that found no slot of a pairing lane's frame wait at the head of what they came from. -/
def State.pairRest (s : State) (n : Nat) (rest : List (List Byte)) : State :=
  { s with pair := { s.pair with
      claimOut := (rest.filter (fun c => cellKind c == 1)).map (fun c => (n - 160, c)) ++ s.pair.claimOut
      itemOut := (rest.filter (fun c => cellKind c == 3)).map (fun c => c.drop 8) ++ s.pair.itemOut
      cellOut := (rest.filter (fun c => cellKind c == 0)).map (fun c => (n - 160, c)) ++ s.pair.cellOut } }

/-- A frame period of its test pattern sent by a lane (R427). -/
def State.patternSend (s : State) (n : Nat) : State :=
  let x := s.serdes (laneCode n)
  let (bs, reg) := prbsBits (s.testMode n) periodBits x.gen
  (s.setSerdes { x with gen := reg }).laneSend n bs

/-- LINK_FRAME_SEND (R397 to R403, R414 to R418, R424): nothing on a retired lane or before INIT; in test mode the pattern
(R427). -/
def State.linkSend (s : State) (n : Nat) : State :=
  if s.laneState n = 3 ∧ n < 160 ∨ s.dev.st = .boot then s
  else if s.testMode n ≠ 0 then s.patternSend n
  else
    let l := s.lane n
    let l := if l.frameNo = 0 then { l with oh0 := s.obj 0x6100 3, oh1 := s.obj 0x6100 4 } else l
    let s := s.setLane l
    let blank := s.lanesBlank
    let halted := s.dev.st == .halt || s.faults.haltTm || s.faults.haltFe
    let (cells, s) := if n < 160 then (if blank then ([], s) else (l.slots.map (·.bytes), s))
      else if halted then ([], s) else s.pairSlots n
    let ais := blank && (decide (n < 160) || halted)
    let (bs, rest, lim) := linkFrameBits l.frameNo (s.txOverhead n ais) cells
    let sent := cells.length - rest.length
    let l := s.lane n
    let s := s.setLane { l with
      frameNo := (l.frameNo + 1) % 16
      slots := if n < 160 ∧ ¬ blank then l.slots.drop sent else l.slots }
    let s := (s.laneBump n 0xA lim).laneSend n bs
    if n < 160 then
      let s := s.bumpN (0x6020 + n) 3 sent
      s.fabricTransmit
    else s.pairRest n rest

/-! ### Delivering frames (R408) -/

/-- SLIP_BUFFER_DELIVER (R408, R409), suspended in test mode (R427): the cells of the frame delivered go to extraction; those of a pairing lane to the
transfer and to reassembly in lane order (R493, R496). -/
def State.slipDeliver (s : State) (n : Nat) : State :=
  if s.testMode n ≠ 0 then s
  else
  let (f, s) := s.slipOut n
  let cells := frameCells f
  if n < 160 then s.setLane { s.lane n with extracted := (s.lane n).extracted ++ cells }
  else
    let items := cells.filter (fun c => cellKind c == 3)
    let s := { s with pair := { s.pair with itemIn := s.pair.itemIn ++ items.map (fun c => (n - 160, c)) } }
    (cells.filter (fun c => cellKind c == 0)).foldl
      (fun s c => s.pinCell 512 0 (n - 160) false ⟨c, arrivalWord n s.ns32, []⟩) s

end Sys2Proof.Machine
end

