-- ==== Sys2Proof/Machine/Lines.lean ====
section
/-! DEFINITION. Line ports, MACs, TIME and its pulses, SerDes lanes (chapter 12; R23, R299 to R301, R352, R500, R501,
R656, R659). -/

namespace Sys2Proof.Machine

/-! ### Lanes and ports (R430, R461) -/

/-- The lane select code of a lane (R461). -/
def laneCodeOf : Lane → Nat
  | .line n => n.val
  | .fabric n => 0x100 + n.val
  | .pairing n => 0x1F0 + n.val

/-- A code of R461. -/
def isLaneCode (c : Nat) : Bool := decide (c < 0x80) || (decide (0x100 ≤ c) && decide (c < 0x1A0)) || c == 0x1F0 || c == 0x1F1

/-- The lane of chapter 11 that a code names, for fabric and pairing lanes. -/
def framedLane (c : Nat) : Option Nat := if c < 0x100 then none else if c < 0x1F0 then some (c - 0x100) else some (c - 0x1F0 + 160)

/-- The lanes that a port takes in a mode (R430). -/
def laneCount (m : Nat) : Nat :=
  match m with
  | 0 => 0
  | 3 => 2
  | 4 => 4
  | _ => 1

/-- The mode of a port. -/
def State.portMode (s : State) (p : Nat) : Nat := s.obj (0x3000 + p) 1

/-- The lanes of a port in a mode. -/
def lanesOf (p m : Nat) : List Nat := (List.range (laneCount m)).map (fun i => p + i)

/-- The enabled port that holds a line lane. -/
def State.portOfLane (s : State) (l : Nat) : Option Nat :=
  (List.range 4).findSome? (fun i =>
    if i ≤ l ∧ (lanesOf (l - i) (s.portMode (l - i))).contains l then some (l - i) else none)

/-- A mode write is refused (R431): the port number is no multiple of the lane count, or a lane is another port's. -/
def State.modeRefused (s : State) (p m : Nat) : Bool :=
  (m != 0 && p % laneCount m != 0) ||
    (lanesOf p m).any (fun l => match s.portOfLane l with
      | some q => q != p
      | none => false)

/-- An object of a SerDes lane. -/
def State.laneSet (s : State) (code sub : Nat) : Nat := s.objI 0x3201 sub code

/-- The conditions of R435 that the lanes of a port show: every lane locked and awake, no generator, no far-end
loop, and a near-end loop shared by all lanes or by none (R463, R464, R466). -/
def State.portLanes (s : State) (p : Nat) : Bool :=
  let ls := lanesOf p (s.portMode p)
  s.portMode p != 0 && ls.all (fun l =>
    !s.ctlOut (l / 16) && (s.serdes l).locked && !(s.serdes l).asleep && s.laneSet l 0xC == 0 && s.laneSet l 0xD == 0 && s.laneSet l 6 == 0 &&
    s.laneLoop l != 3) && (ls.all s.nearLoop || ls.all (fun l => !s.nearLoop l))

/-- The conditions of R435 as far as the part's own state shows them: those of the lanes, no remote fault received, no loss of
alignment reported. -/
def State.portGood (s : State) (p : Nat) : Bool := s.portLanes p && !(s.port p).remote && (s.port p).aligned

/-- A fault event of a line port. -/
def State.portEvent (s : State) (p level value sub : Nat) : State :=
  s.raise { cls := 14, level := level, die := 1, object := p, port := true, value := value, ctrIdx := 0x3000 + p, ctrSub := sub }

/-- FC-14 at level F0 on the first event of a kind on a port in each second (R446); the counter names the kind. -/
def State.partnerEvent (s : State) (p sub : Nat) : State :=
  let (first, s) := s.firstInSecond (0x446000 + p * 256 + sub)
  if first then s.portEvent p 0 sub sub else s

/-- FC-14 at level F0 on the first stomped frame on a port in each second: its counter is 0x5001:08 (R300, R446). -/
def State.stompEvent (s : State) (p : Nat) : State :=
  let (first, s) := s.firstInSecond (0x446000 + p * 256)
  if first then s.raise { cls := 14, level := 0, die := 1, object := p, port := true, value := 8, ctrIdx := 0x5001, ctrSub := 8 } else s

/-- A down transition (R435, R437, R446): counted, reported to the queues, and held for the flap hold once there have been
more than the flap limit within 10 s. -/
def State.goDown (s : State) (p link : Nat) : State :=
  let x := s.port p
  if x.link ≠ 1 then s.setPort { x with link := if x.link = 3 then 3 else link }
  else
    let o := 0x3000 + p
    let downs := (x.downs.filter (fun t => decide (s.clock.now < t + 10 * Config.sec))) ++ [s.clock.now]
    let flap := s.obj o 0x12 != 0 && decide (s.obj o 0x12 < downs.length)
    let s := s.setPort { x with
      link := if flap then 3 else link
      downs := downs
      flapEnd := if flap then s.clock.now + s.obj o 0x13 * Config.sec else x.flapEnd
      paused := x.paused }
    let s := (s.bump o 0x2D).reportDown p
    if flap then (s.bump o 0x32).portEvent p 1 0 0x32 else s

/-- The link state of a port that is not up: training on a trained interface, down on a blind one (R434). -/
def State.idleLink (s : State) (p : Nat) : Nat := if s.portMode p ≠ 0 ∧ s.obj (0x3000 + p) 2 = 1 then 2 else 0

/-- The conditions of R435 looked at after a change: the instant at which the lanes' own or all of them come to hold is noted, and with no debounce the port goes down at
once. -/
def State.portSync (s : State) (p : Nat) : State :=
  let ok := s.portLanes p
  let s := if ok = (s.port p).laneOk then s
    else s.setPort { s.port p with laneOk := ok, okAt := if ok then s.clock.now else (s.port p).okAt }
  let x := s.port p
  let g := s.portGood p
  if g = x.good then s
  else if g then s.setPort { x with good := true, okAt := s.clock.now }
  else
    let s := s.setPort { x with good := false, failAt := s.clock.now }
    if s.obj (0x3000 + p) 6 = 0 then s.goDown p (s.idleLink p) else s

/-- The port of a lane looked at. -/
def State.laneChanged (s : State) (code : Nat) : State :=
  if code < 0x80 then
    match s.portOfLane code with
    | some p => s.portSync p
    | none => s
  else match framedLane code with
  | some n => if n < 160 then s.lanesMoved else s
  | none => s

/-- PORT_UP (R435): the conditions have held for the up hold, and the port is not in its flap hold. -/
def State.bringPortUp (s : State) (p : Nat) : State :=
  let s := s.setPort { s.port p with remote := false, aligned := true }
  let x := s.port p
  if x.link = 1 ∨ x.link = 3 ∨ ¬ s.portGood p ∨ s.clock.now < x.okAt + s.obj (0x3000 + p) 5 * Config.ms then s
  else (s.setPort { x with link := 1, good := true }).reportUp p

/-- PORT_UP while remote fault stands has no effect before the up hold has run since the fault was last received. -/
def State.portUp (s : State) (p : Nat) : State :=
  let s' := s.bringPortUp p
  if (s'.port p).link = 1 then s' else s

/-- PORT_DOWN (R435): a condition has failed for the down debounce. A failure that the part's own state does not show is the
loss of alignment, which the command itself reports. -/
def State.portDown (s : State) (p : Nat) : State :=
  let x := s.port p
  if s.portMode p = 0 then s
  else if ¬ x.good ∧ s.clock.now < x.failAt + s.obj (0x3000 + p) 6 * Config.us then s
  else
    let s := s.goDown p (s.idleLink p)
    s.setPort { s.port p with okAt := s.clock.now, aligned := (s.port p).aligned && !x.good, good := false }

/-- REMOTE_FAULT_RECEIVE (R436). -/
def State.remoteFault (s : State) (p : Nat) : State :=
  let x := s.port p
  ((s.setPort { x with remote := true, okAt := s.clock.now }).portSync p).partnerEvent p 0x2D

/-- The line port that a fault source of FC-14 on the FE die names (R552). -/
def sourcePort (x : FaultSource) : Option Nat := if x.cls.val = 13 ∧ x.die.val = 1 then some x.object else none

/-- FLAP_HOLD_END (R437); a port that is the source of a failed path stays down until the path is taken back (R542). -/
def State.flapHoldEnd (s : State) (p : Nat) : State :=
  let x := s.port p
  if x.link = 3 ∧ x.flapEnd ≤ s.clock.now ∧ ¬ s.faults.paths.any (fun q => sourcePort q.source == some p) then s.setPort { x with link := s.idleLink p } else s

/-- The lanes of a port brought up afresh: unlocked, adapting or training (R432, R434, R659). -/
def State.freshLanes (s : State) (p : Nat) : State :=
  (lanesOf p (s.portMode p)).foldl (fun s l =>
    s.setSerdes { s.serdes l with locked := false, adapting := true, preTx := false, preRx := false }) s

/-- LINK_TRAINING_FAILURE (R434): on a trained port that is not up; auto-negotiation starts again on all its lanes. -/
def State.trainingFailure (s : State) (p : Nat) : State :=
  if s.portMode p = 0 ∨ s.obj (0x3000 + p) 2 ≠ 1 ∨ (s.port p).link = 1 then s
  else
    let x := s.port p
    (((s.setPort { x with link := if x.link = 3 then 3 else 2 }).freshLanes p).portSync p).bump (0x3000 + p) 0x31

/-- The bring-up of a port begun (R432, R448, R659). -/
def State.bringUp (s : State) (p : Nat) : State :=
  let s := (s.goDown p (s.idleLink p)).freshLanes p
  let x := s.port p
  s.setPort { x with good := false, laneOk := false, aligned := true, failAt := s.clock.now, remote := false, link := if x.link = 3 ∨ s.clock.now < x.flapEnd then 3 else s.idleLink p }

/-- A port mode that has passed its checks is set (R432): the port reported down, the lanes it leaves off, those of the new
mode brought up afresh; the rate in service changes with the answer. -/
def State.setMode (s : State) (p m : Nat) : State :=
  let s := s.goDown p 0
  let s := (lanesOf p (s.portMode p)).foldl (fun s l =>
    s.setSerdes { s.serdes l with locked := false, adapting := false, preTx := false, preRx := false }) s
  let s := s.setObj (0x3000 + p) 1 m
  if m = 0 then s.setPort { s.port p with link := 0, good := false, laneOk := false, aligned := true, remote := false } else s.bringUp p

/-- Every enabled port brought up on entry into READY (R659). -/
def State.bringUpAll (s : State) : State :=
  ((List.range 128).filter (fun p => s.portMode p != 0)).foldl State.bringUp s

/-- A lane of a port whose interface is trained (R434). -/
def State.trainedLane (s : State) (code : Nat) : Bool :=
  decide (code < 0x80) && (match s.portOfLane code with
    | some p => s.obj (0x3000 + p) 2 == 1
    | none => false)

/-- A lane adapts or trains: a line lane of a port being brought up, a fabric or pairing lane from INIT on until it is locked
(R468; log entry 161). -/
def State.adapts (s : State) (code : Nat) : Bool :=
  (s.serdes code).adapting || (decide (0x100 ≤ code) && s.dev.st != .boot && !(s.serdes code).locked)

/-- LANE_LOCK: adaptation or training has ended in lock; training has agreed the precoder or not, a blind interface, a fabric
and a pairing lane never have it (R462). -/
def State.laneLock (s : State) (code : Nat) : State :=
  let x := s.serdes code
  let pre := Config.precoder code s.clock.now
  if ¬ s.adapts code ∨ x.asleep then s
  else (s.setSerdes { x with
    locked := true
    adapting := false
    preTx := s.trainedLane code && pre.1
    preRx := s.trainedLane code && pre.2 }).laneChanged code

/-- LANE_LOCK_LOSS (R435, R439): the lane adapts again; FC-07 at level F0 on a lane of an enabled port. -/
def State.laneLockLoss (s : State) (l : Nat) : State :=
  let x := s.serdes l
  if ¬ x.locked then s
  else
    let s := s.setSerdes { x with locked := false, adapting := true }
    let s := match s.portOfLane l with
      | some _ => s.raise { cls := 7, level := 0, die := 1, object := l }
      | none => s
    s.laneChanged l

/-- The lane from which a group's LRX clock is recovered (R439): the lowest that is locked. -/
def State.groupClock (s : State) (g : Nat) : Option Nat :=
  ((List.range 4).map (fun i => 4 * g + i)).find? (fun l => (s.serdes l).locked)

/-- LRX_CLOCK_STOP (R23): the frame caught in the crossing is dropped as a line receive error. -/
def State.clockStop (s : State) (g p : Nat) (part : List Byte) : State :=
  if p / 4 ≠ g ∨ s.portMode p = 0 ∨ part = [] then s else (s.bump (0x3000 + p) 0x22).partnerEvent p 0x22

/-! ### Receive (R440 to R446, R501) -/

/-- A tag of 802.1Q or 802.1ad stands at an offset. -/
def tagAt (d : List Byte) (o : Nat) : Bool := beAt d o 2 == 0x8100 || beAt d o 2 == 0x88A8

/-- The offset of the EtherType after the Ethernet addresses and up to two tags. -/
def typeOffset (d : List Byte) : Nat := if tagAt d 12 then (if tagAt d 16 then 20 else 16) else 12

/-- The priority of a received frame (R441). -/
def State.framePrio (s : State) (p : Nat) (d : List Byte) : Nat :=
  let o := 0x3000 + p
  if tagAt d 12 then bits (s.obj o 8) (3 * (beAt d 14 1 / 32) + 2) (3 * (beAt d 14 1 / 32)) else s.obj o 7

/-- A traffic class is paused on a port (R442). -/
def State.classPaused (s : State) (p tc : Nat) : Bool :=
  (List.range 8).any (fun n => (s.port p).pausedNow s.clock.now n && bit (s.obj (0x3000 + p) 0xA) (8 * n + tc))

/-- A PFC frame (R442): destination, EtherType, opcode, class-enable vector, eight pause times. -/
def State.pfcFrame (s : State) (p : Nat) (d : List Byte) : State :=
  let v := beAt d 16 2
  (s.bump (0x3000 + p) 0x29).pfcTimes p
    ((List.range 8).filterMap (fun n => if bit v n then some (n, beAt d (18 + 2 * n) 2) else none))

/-- PFC_PAUSE_EXPIRE (R442). -/
def State.pauseExpire (s : State) (p n : Nat) : State :=
  let x := s.port p
  s.setPort { x with paused := x.paused.filter (fun e => !(e.1 == n && decide (e.2.2 ≤ s.clock.now))) }

/-- PFC_STORM (R444): a priority paused without a break for the storm time. -/
def State.stormDeclare (s : State) (p n : Nat) : State :=
  let x := s.port p
  match x.paused.find? (fun e => e.1 == n && decide (s.clock.now < e.2.2)) with
  | none => s
  | some e =>
    if s.clock.now < e.2.1 + s.obj (0x3000 + p) 0xB * Config.ms then s
    else
      let s := s.setPort { x with
        paused := x.paused.filter (fun e => e.1 != n)
        storm := x.storm.filter (fun e => e.1 != n) ++ [(n, s.clock.now + s.obj (0x3000 + p) 0xC * Config.ms)] }
      (s.bump (0x3000 + p) 0x2C).portEvent p 1 n 0x2C

/-- STORM_RECOVERY_END (R444). -/
def State.stormEnd (s : State) (p n : Nat) : State :=
  let x := s.port p
  s.setPort { x with storm := x.storm.filter (fun e => !(e.1 == n && decide (e.2 ≤ s.clock.now))) }

/-- A MAC control frame consumed (R445): frame with FCS. -/
def State.macControl (s : State) (p : Nat) (d : List Byte) : State :=
  let bad := d.length != 64 || beAt d 0 6 != 0x0180C2000001
  if ¬ bad ∧ beAt d 14 2 = 0x0101 then s.pfcFrame p d
  else if ¬ bad ∧ beAt d 14 2 = 0x0001 then (s.bump (0x3000 + p) 0x28).partnerEvent p 0x28
  else (s.bump (0x3000 + p) 0x2B).partnerEvent p 0x2B

/-- The FCS of octets: the CRC-32 of R698, least significant octet first. -/
def fcsOf (d : List Byte) : List Byte := leBytes 4 (crc32 d)

/-- A count of ns of TIME moved by a correction, modulo the range of TIME. -/
def addNs (ns : Nat) (c : Int) : Nat := (((ns : Int) + c) % (1000000000 * 2 ^ 48)).toNat

/-- The timestamp of a frame: TIME plus the correction of the port (R453); the error that R22 leaves to
a replica is taken as 0 (log entry 149). -/
def State.stampAt (s : State) (p sub : Nat) : Time80 :=
  nsToTime (addNs (timeToNs s.time80) (toInt 32 (s.obj (0x3000 + p) sub)))

/-- A frame off the line: source port, order domain and priority from its port. -/
def lineFrame (p prio : Nat) (d : List Byte) (rx : Time80) (rtag : Option Nat) : Frame :=
  { src := p, dom := p, seq := 0, data := d, rx := rx, tag := 0, stamp := 0, pass := 0, user := [], gated := false,
    err := false, bad := false, tc := 0, dp := 0, port := 0, dest := 0, token := none, inject := none, prio := prio,
    rtag := rtag, pkt := 0, short := 0, stored := 0, cells := [] }

/-- Bytes that the frames of a group hold in its line input FIFO. -/
def Flow.fifoBytes (f : Flow) (g : Nat) : Nat := sumOf (fun x => if x.1 = g then x.2.length else 0) f.lineIn

/-- A frame enters the line input FIFO of its group, or is dropped because the FIFO is full (R88, R656). -/
def State.fifoIn (s : State) (f : Frame) : State :=
  let g := f.src / 4
  if ¬ s.dev.st.inService then s.bump 0x1100 8
  else if 131072 < s.flow.fifoBytes g + f.length then s.bump 0x4001 1
  else { s with flow := { s.flow with lineIn := s.flow.lineIn ++ [(g, f)] } }

/-- A good frame taken: MAC control frames are consumed, an R-TAG is removed where the port says so (R441, R445, R501). -/
def State.goodFrame (s : State) (p : Nat) (frame : List Byte) : State :=
  let s := (s.bump (0x3000 + p) 0x20).bumpN (0x3000 + p) 0x21 frame.length
  if beAt frame 12 2 = 0x8808 then s.macControl p frame
  else
    let d := frame.take (frame.length - 4)
    let o := typeOffset d
    let cut := mapBit (s.obj 0x6901 1) p && beAt d o 2 == 0xF1C1
    let rx := s.stampAt p 0xF
    s.fifoIn (lineFrame p (s.framePrio p d) (if cut then d.take o ++ d.drop (o + 6) else d) rx
      (if cut then some (beAt d (o + 4) 2) else none))

/-- LINE_FRAME_RECEIVE (R440): FCS and code errors, runts, oversize frames are dropped and counted. -/
def State.lineReceive (s : State) (p : Nat) (frame : List Byte) (code : Bool) : State :=
  if ¬ s.linkUp p then s
  else
    let d := frame.take (frame.length - 4)
    let fcs := frame.drop (frame.length - 4)
    let o := 0x3000 + p
    let stomped := decide (4 ≤ frame.length) && fcs == (fcsOf d).map (fun b => ~~~b)
    if code ∨ fcs ≠ fcsOf d then
      let s := s.bump o 0x22
      if stomped then (s.bump 0x5001 8).stompEvent p else s.partnerEvent p 0x22
    else if frame.length < 64 then (s.bump o 0x23).partnerEvent p 0x23
    else if s.obj o 3 < frame.length then (s.bump o 0x24).partnerEvent p 0x24
    else s.goodFrame p frame

/-- A frame off the line is taken by a port that is not turned on itself (R463). -/
def State.lineArrives (s : State) (p : Nat) (frame : List Byte) (code : Bool) : State :=
  if s.nearLoop p then s else s.lineReceive p frame code

/-! ### Transmit (R299, R352, R438, R447, R453 to R458, R500) -/

/-- A record put into the list of the ring, when the frame asked for one. -/
def State.putStamp (s : State) (f : Frame) (port : Nat) (stamp : Option Time80) : State :=
  match f.token with
  | some t => { s with lines := { s.lines with stamps := s.lines.stamps ++ [stampRecord t port stamp] } }
  | none => s

/-- A frame that the MAC does not start (R438, R447). -/
def State.withheld (s : State) (f : Frame) (p : Nat) : State := (s.bump (0x3000 + p) 0x27).putStamp f p none

/-- Where a PTP event message stands: its offset and that of the UDP header before it (R455). -/
def ptpAt (opt : Nat) (d : List Byte) : Option (Nat × Option Nat) :=
  let o := typeOffset d
  let ty := beAt d o 2
  let ev (x : Nat) (u : Option Nat) : Option (Nat × Option Nat) :=
    if x < d.length ∧ beAt d x 1 % 16 ≤ 3 then some (x, u) else none
  if ty = 0x88F7 then (if bit opt 2 then ev (o + 2) none else none)
  else if ty = 0x0800 then
    let u := o + 2 + beAt d (o + 2) 1 % 16 * 4
    if bit opt 3 ∧ beAt d (o + 11) 1 = 17 ∧ beAt d (o + 8) 2 % 0x2000 = 0 ∧ beAt d (u + 2) 2 = 319 then ev (u + 8) (some u)
    else none
  else if ty = 0x86DD then
    let u := o + 42
    if bit opt 4 ∧ beAt d (o + 8) 1 = 17 ∧ beAt d (u + 2) 2 = 319 then ev (u + 8) (some u) else none
  else none

/-- The sum of the 16-bit words of octets. -/
def wordSum : List Byte → Nat
  | a :: b :: r => a.toNat * 256 + b.toNat + wordSum r
  | [a] => a.toNat * 256
  | [] => 0

/-- Octets of a PTP message written, a non-zero UDP checksum updated incrementally (R456). -/
def ptpWrite (d : List Byte) (udp : Option Nat) (o : Nat) (v : List Byte) : List Byte :=
  let old := bytesAt d o v.length
  let d' := putBytes d o v
  match udp with
  | none => d'
  | some u =>
    let c := beAt d (u + 6) 2
    if c = 0 then d'
    else
      let t := (65535 - c) + wordSum (old.map (fun b => ~~~b)) + wordSum v
      let t := t % 65536 + t / 65536
      let t := t % 65536 + t / 65536
      putBytes d' (u + 6) (beBytes 2 (if t = 65535 then 65535 else 65535 - t))

/-- The changes that the MAC makes to a PTP event message (R456): one-step Sync insertion in an injected frame, transparent
correction in a forwarded one. -/
def ptpEdit (opt : Nat) (injected : Bool) (rx tx : Time80) (d : List Byte) : List Byte :=
  match ptpAt opt d with
  | none => d
  | some (o, u) =>
    if injected then
      (if bit opt 0 ∧ beAt d o 1 % 16 = 0 then ptpWrite d u (o + 34) (beBytes 6 (timeSec tx) ++ beBytes 4 (timeNs tx)) else d)
    else if bit opt 1 then
      let c := toInt 64 (beAt d (o + 8) 8) + ((timeToNs tx : Int) - timeToNs rx) * 65536
      ptpWrite d u (o + 8) (beBytes 8 (ofInt 64 c))
    else d

/-- The R-TAG of a generated number inserted after the Ethernet header and up to two tags (R500). -/
def insertRtag (d : List Byte) (n : Nat) : List Byte :=
  let o := typeOffset d
  d.take o ++ [0xF1, 0xC1, 0, 0] ++ beBytes 2 n ++ d.drop o

/-- A frame padded to the least length (R134). -/
def padFrame (d : List Byte) : List Byte := d ++ zeros (60 - d.length)

/-- A frame sent: stomped when its tail is bad or has not arrived (R299). -/
def State.sendFrame (s : State) (f : Frame) (p : Nat) : State :=
  let o := 0x3000 + p
  let tx := s.stampAt p 0x10
  let stomp := f.bad || f.coming != 0
  let d := match f.rtag with
    | some n => insertRtag f.data n
    | none => f.data
  let d := ptpEdit (s.obj o 0xE) (f.inject.isSome || f.token.isSome) f.rx tx (padFrame d)
  let s := ((s.bump o 0x25).bumpN o 0x26 (d.length + 4)).putStamp f p (some tx)
  let s := (if stomp then s.bump 0x5001 7 else s).out (.line p d stomp)
  if s.nearLoop p then s.lineReceive p (d ++ (if stomp then (fcsOf d).map (fun b => ~~~b) else fcsOf d)) false else s

/-- A gated frame longer than its stored length and the allowance (R352). -/
def State.overrun (s : State) (f : Frame) (p : Nat) : Bool :=
  let allow := match s.gates.of p with
    | some g => g.allow
    | none => 0
  f.gated && decide (f.stored + allow < f.data.length + f.coming)

/-- The frame at the head of a port's line MAC. -/
def Flow.macHead (f : Flow) (p : Nat) : Option Frame := (f.toLine.find? (fun x => x.1 == p)).map (·.2)

/-- What the transmit balls of a line lane carry. -/
inductive LineSignal where
  | off
  /-- Electrical idle: asleep (R466), squelched for want of permission (R448), a die at level F4
  (R551), or reset and BOOT (R638). -/
  | silence
  /-- Remote fault, while the receive is not aligned (R436). -/
  | remoteFault
  /-- Idles: remote fault is received, or the permission is absent (R436, R448). -/
  | idles
  /-- Clause 73 pages and link training: it advertises the port's own mode with RS-FEC (R434). -/
  | training (mode : Nat)
  /-- The frames of the port, and idles between them. -/
  | frames
  /-- A test pattern: 1 PRBS31, 2 PRBS13Q (R464). -/
  | pattern (n : Nat)
  /-- The received data, retimed to the recovered clock (R463). -/
  | retimed
  deriving DecidableEq, Repr

/-- What a line lane sends (R436, R448, R463, R464, R466, R551, R638, R656). -/
def State.lineSignal (s : State) (l : Nat) : LineSignal :=
  if s.dev.st = .boot ∨ s.laneSet l 0xC = 1 ∨ s.faults.haltTm ∨ s.faults.haltFe then .silence
  else if s.laneLoop l = 3 then .retimed
  else if s.laneSet l 6 ≠ 0 then .pattern (s.laneSet l 6)
  else match s.portOfLane l with
  | none => .off
  | some p =>
    let x := s.port p
    if s.dev.st.inService ∧ ¬ s.mayTransmit ∧ s.obj (0x3000 + p) 0x11 = 1 then .silence
    else if x.link = 2 ∧ ¬ (s.serdes l).locked then .training (s.portMode p)
    else if x.remote then .idles
    else if ¬ x.good then .remoteFault
    else if s.mayTransmit ∧ s.linkUp p then .frames else .idles

/-- The next `2 * n` bits of a line lane's test pattern as the PAM4 levels of its transmit balls (R462, R464). -/
def State.patternLevels (s : State) (l n : Nat) : List (Fin 4) :=
  s.laneLevels l (prbsBits (s.genOf l) (2 * n) (s.serdes l).gen).1

/-- The transmit equaliser of a lane, c(-3) to c(1): the setting, or on a trained interface what training agrees (R434). -/
def State.lineTaps (s : State) (l : Nat) : List Byte :=
  if s.trainedLane l then bytesAt (Config.trainedTaps l s.clock.now) 0 5 else leBytes 5 (s.laneSet l 2)

/-- LINE_FRAME_TRANSMIT (R447): the next frame handed to a port's MAC is sent, or dropped and counted; while a fault stands no
frame is started (R436). -/
def State.lineTransmit (s : State) (p : Nat) : State :=
  match s.flow.macHead p with
  | none => s
  | some f =>
    if s.faultStands p ∧ s.mayTransmit then s
    else
    let old := s.flow
    let s := { s with flow := { s.flow with toLine := dropFirst (fun x => x.1 == p) s.flow.toLine } }
    let s := if ¬ s.linkUp p ∨ ¬ s.mayTransmit then s.withheld f p
      else if s.overrun f p then
        let s := s.bump (0x5410 + p) 0xD
        let (first, s) := s.firstInSecond (0x352000 + p)
        let s := if first then
            s.raise { cls := 13, level := 0, die := 1, object := p, ctrIdx := 0x5410 + p, ctrSub := 0xD } else s
        s.putStamp f p none
      else s.sendFrame f p
    s.feSettle old

/-- TRANSMIT_PERMISSION_CHANGE (R448): the line MACs see the present permission; its return starts afresh the bring-up of
the ports whose setting at :11 is 1. -/
def State.permissionChange (s : State) : State :=
  let now := s.mayTransmit
  let was := s.lines.perm
  let s := { s with lines := { s.lines with perm := now } }
  if now ∧ ¬ was then
    ((List.range 128).filter (fun p => s.portMode p != 0 && s.obj (0x3000 + p) 0x11 == 1)).foldl State.bringUp s
  else s

/-! ### TIME (R449 to R452) -/

/-- A phase adjustment in ns, replacing any remainder (R450). -/
def State.setPhase (s : State) (ns : Int) : State :=
  { s with clock := { s.clock with phase := ns * (Config.timeFine : Int) } }

/-- What remains of the phase adjustment in ns (0x2100:05). -/
def State.phaseLeft (s : State) : Int := s.clock.phase / (Config.timeFine : Int)

/-- A step to be loaded at the next whole second (R451). -/
def State.setStep (s : State) (v : Time80) : State :=
  { s with clock := { s.clock with step := some (v, s.clock.sec) } }

/-- TIME_STEP_APPLY (R451, R359): TIME loaded at the whole second that has passed since the write. -/
def State.stepApply (s : State) : State :=
  match s.clock.step with
  | none => s
  | some (v, sec) =>
    if s.clock.sec ≤ sec then s
    else
      let c := { s.clock with sec := (timeSec v + (s.clock.sec - sec - 1)) % 2 ^ 48, step := none }
      let s := { s with clock := c }.bump 0x5400 4
      (List.range 128).foldl State.gratEffect s

/-- PPS_IN_EDGE (R452). -/
def State.ppsIn (s : State) : State :=
  { s with clock := { s.clock with capture := s.time80, edges := (s.clock.edges + 1) % 2 ^ 32 } }

/-- The number of the pin PPS_OUT among the outputs of the model. -/
def ppsPin : Nat := 0

/-- TIME plus the offset of 0x2100:0A stands at a whole second. -/
def State.ppsDue (s : State) : Bool :=
  addNs (timeToNs s.time80) (toInt 32 (s.obj 0x2100 0xA)) % 1000000000 == 0

/-- PPS_OUT_PULSE (R452). -/
def State.ppsOut (s : State) : State :=
  if s.ppsDue then
    let c := { s.clock with ppsHigh := true, ppsUntil := s.clock.now + s.obj 0x2100 9 * Config.ns }
    { s with clock := c }.out (.pin ppsPin true)
  else s

/-- PPS_OUT_PULSE_END (R452). -/
def State.ppsEnd (s : State) : State :=
  if s.clock.ppsHigh ∧ s.clock.ppsUntil ≤ s.clock.now then
    { s with clock := { s.clock with ppsHigh := false } }.out (.pin ppsPin false)
  else s

/-- The clock in Hz that SYNCE_OUTk drives (R459): 212.5 GHz of the selected lane by its divider; 0, held low, while the lane
is not locked or its port is down. -/
def State.syncE (s : State) (k : Nat) : Nat :=
  let l := s.obj 0x2100 (0xB + k)
  let up := decide (l < 128) && (s.serdes l).locked &&
    (match s.portOfLane l with
     | some p => s.linkUp p
     | none => false)
  if up then 212500000000 / s.obj 0x2100 (0xD + k) else 0

/-! ### SerDes lanes (R463 to R468) -/

/-- The state of a lane (0x3201:0E). -/
def State.serdesState (s : State) (code : Nat) : Nat :=
  let gone := match framedLane code with
    | some n => decide (n < 160) && s.laneOut n
    | none => false
  if gone then 4
  else if s.laneSet code 0xC = 1 ∨ s.laneSet code 0xD = 1 then 1
  else if (s.serdes code).locked then 3
  else if s.adapts code ∨ (s.serdes code).asleep then 2
  else 0

/-- The effect of a value written to an object :02 to :0D of a lane, once the object holds it (R463 to R466). -/
def State.laneWritten (s : State) (code sub old v : Nat) : State :=
  let x := s.serdes code
  let s := match sub with
    | 6 => if v = old then s else s.startPattern code v
    | 7 => if v = old then s else s.setSerdes { x with checkLock := false, check := none }
    | 0xB => if v = 1 then (s.setObjI 0x3201 9 code 0).setObjI 0x3201 0xA code 0 else s
    | 0xC =>
      if v = old then s
      else if v = 1 then s.setSerdes { x with txWaking := false }
      else s.setSerdes { x with txWaking := true, txWake := s.clock.now + 2 * Config.us }
    | 0xD =>
      if v = old then s
      else if v = 1 then s.setSerdes { x with rxWaking := false, locked := false, rxSleepAt := s.clock.now }
      else
        let long := decide (x.rxSleepAt + Config.sec < s.clock.now)
        s.setSerdes { x with rxWaking := true, rxWake := s.clock.now + (if long then 100 * Config.ms else 20 * Config.us) }
    | _ => s
  s.laneChanged code

/-- LANE_WAKE_COMPLETE (R466): a waking direction has reached stable output or lock; each wakes within its time. A lane that is
the source of a failed path of FC-07 does not wake until the path is taken back (R542). -/
def State.laneWake (s : State) (code : Nat) (receive : Bool) : State :=
  let x := s.serdes code
  if s.sourceHeld 7 code then s
  else if receive then
    if x.rxWaking then (s.setSerdes { x with rxWaking := false, locked := true, adapting := false }).laneChanged code else s
  else if x.txWaking then (s.setSerdes { x with txWaking := false }).laneChanged code
  else s

/-- CHECKER_LOCK (R427, R464): the checker locks to its pattern and counts the bits checked by then and the errors among them,
as the command reports them; of a lane in a near-end loop the bits are its own, so it locks only to the pattern that the lane
sends, and without an error (R463). -/
def State.checkerLock (s : State) (code checked errors : Nat) : State :=
  if s.checkOf code = 0 ∨ (s.nearLoop code ∧ s.genOf code ≠ s.checkOf code) then s
  else
    let wrong := if s.nearLoop code then 0 else min errors checked
    ((s.setSerdes { s.serdes code with checkLock := true }).bumpI 0x3201 9 code checked).bumpI 0x3201 0xA code wrong

end Sys2Proof.Machine
end

