-- ==== Sys2Proof/Machine/Scheduler.lean ====
section
/-! DEFINITION. The scheduler of the egress side (R87, R270, R295, R307, R314 to R324, R332, R351 to R354, R496). -/

namespace Sys2Proof.Machine

/-- A queue that may be served, with its nodes from the queue up to the port node, and its head packet. -/
structure Leaf where
  qid : Nat
  path : List Nat
  pkt : Pkt
  deriving DecidableEq, Repr

/-! ### Eligibility (R294 to R296, R314, R316, R351) -/

/-- The keys of a queue's nodes, the queue first, its port node last. -/
def State.keysUp (s : State) (qid : Nat) : List Nat :=
  match s.pathUp qid with
  | [a, b, c, d] => [nodeKey 5 qid, nodeKey 4 a, nodeKey 3 b, nodeKey 2 c, nodeKey 1 (d % 256)]
  | _ => []

/-- A packet may begin: it lies on the die, and either has arrived whole or is cut through with enough of its cells there
(R294 to R296). -/
def State.mayBegin (s : State) (p : Pkt) : Bool :=
  p.onDieWhole && (p.data.length == p.len || (s.cutThrough p && s.begunEnough p))

/-- The length that R320 and R351 count: an R-TAG to be inserted included (R500). -/
def Pkt.wireLen (p : Pkt) : Nat := p.len + (if p.gen.isSome then 6 else 0)

/-- The line port of a port node, the queue's class and the head permit a dequeue now: no received pause, and the gate and
guard band of the graticule that will be in force (R316, R351). -/
def State.lineAllows (s : State) (line tc : Nat) (p : Pkt) : Bool :=
  !s.classPaused line tc && s.gates.fits line tc p.wireLen (s.portRate line) (timeToNs s.time80)

/-- The outlet of a port node takes a frame (R307, R334, R496). -/
def State.outletOpen (s : State) (node : Nat) : Bool :=
  match s.outlet node / 256 with
  | 1 => s.portState node == 0
  | 2 => true
  | 3 => (s.lane (160 + s.outlet node % 256)).clean
  | _ => false

/-- An enabled egress-side queue, not held, whose head may begin, as R316 has it but for tokens, pause and gate. -/
def State.leafOf (s : State) (node qid : Nat) : Option Leaf :=
  match (s.que qid).pkts with
  | [] => none
  | p :: _ =>
    let ks := s.keysUp qid
    if recEgress (s.qrec qid) ∧ ks.getLast? = some (nodeKey 1 node) ∧ recEnabled (s.qrec qid) ∧
        s.portState node ≠ 1 ∧ s.mayBegin p then some ⟨qid, ks, p⟩
    else none

/-- The queues under a port node whose head may begin. -/
def State.leaves (s : State) (node : Nat) : List Leaf := s.sched.ques.filterMap (fun q => s.leafOf node q.qid)

/-- A queue is eligible (R316). -/
def State.eligible (s : State) (node : Nat) (l : Leaf) : Bool :=
  s.hasTokens (nodeKey 5 l.qid) &&
    (match s.outLine node with
     | some p => s.lineAllows p (recClass (s.qrec l.qid)) l.pkt
     | none => true)

/-- A node of levels 1 to 4 may be eligible: it is enabled and its tokens are above 0 (R316). -/
def State.nodeOpen (s : State) (key : Nat) : Bool := recEnabled (s.nodeRec key) && s.hasTokens key

/-- The queue and the nodes above it that an eligible queue makes eligible (R316). -/
def State.eligibleKeys (s : State) (l : Leaf) : List Nat :=
  match l.path with
  | [] => []
  | q :: up => q :: up.takeWhile s.nodeOpen

/-- A queue is served only while every node above it is eligible too (R314, R316). -/
def State.servable (s : State) (l : Leaf) : Bool := (s.eligibleKeys l).length == l.path.length

/-- The charged length of a packet (0x5201:03). -/
def State.chargedLen (s : State) (node : Nat) (p : Pkt) : Nat := p.len + s.objI 0x5201 3 node

/-! ### Deficit round robin (R317, R318) -/

/-- A child under choice: its key, the leaf that its subtree would send, that leaf's charged length, and the nodes that
sending it changes. -/
structure Kid where
  key : Nat
  leaf : Leaf
  len : Nat
  changed : List Node
  deriving DecidableEq, Repr

/-- The turn of a node at a priority: the child, and whether its turn begins. -/
def Node.turn (n : Node) (prio : Nat) : Nat × Bool :=
  match n.turns.find? (fun t => t.1 == prio) with
  | some t => t.2
  | none => (0, true)

/-- A node with its turn at a priority set. -/
def Node.setTurn (n : Node) (prio kid : Nat) (begins : Bool) : Node :=
  { n with turns := n.turns.filter (fun t => t.1 != prio) ++ [(prio, kid, begins)] }

/-- The child after one in rising order, wrapping. -/
def nextKid (kids : List Kid) (key : Nat) : Option Kid :=
  match kids.find? (fun k => decide (key < k.key)) with
  | some k => some k
  | none => kids.head?

/-- The loop of R318 from a child in turn; `defs` holds the deficits changed so far. -/
def State.drr (s : State) (kids : List Kid) : Nat → Kid → Bool → List Node → Option (Kid × Bool × List Node)
  | 0, _, _, _ => none
  | fuel + 1, k, begins, defs =>
    let n := (defs.find? (fun n => n.key == k.key)).getD (s.node k.key)
    let d := if begins then n.deficit + recWeight (s.nodeRec k.key) * 256 else n.deficit
    if k.len ≤ d then some (k, false, setNode defs { n with deficit := d - k.len })
    else match nextKid kids k.key with
    | none => none
    | some k' => s.drr kids fuel k' true (setNode defs { n with deficit := d })

/-- The choice among the children of a node (R317, R318): the leaf, its charged length, and the nodes changed. -/
def State.chooseKid (s : State) (key : Nat) (kids : List Kid) : Option (Leaf × Nat × List Node) :=
  let top := maxOf (fun k => recPrio (s.nodeRec k.key)) kids
  let mine := sortBy (·.key) (kids.filter (fun k => recPrio (s.nodeRec k.key) == top))
  let (turn, begins) := (s.node key).turn top
  let first := match mine.find? (fun k => k.key == turn) with
    | some k => some (k, begins)
    | none => (nextKid mine turn).map (fun k => (k, true))
  match first with
  | none => none
  | some (k, b) =>
    match s.drr mine (70 * mine.length + 1) k b [] with
    | none => none
    | some (k, b, defs) =>
      let keep (n : Node) : Node := match k.changed.find? (fun m => m.key == n.key) with
        | some m => { n with turns := m.turns }
        | none => n
      some (k.leaf, k.len, k.changed ++ defs.map keep ++ [(s.node key).setTurn top k.key b])

/-- The distinct keys that leaves have at a place of their paths. -/
def keysAt (l : List Leaf) (i : Nat) : List Nat := (l.map (fun x => x.path.getD i 0)).dedup

/-- The leaf that a node at place `i` of the paths of its leaves would send; place 0 is the queue itself. -/
def State.choose (s : State) (node : Nat) : Nat → Nat → List Leaf → Option (Leaf × Nat × List Node)
  | 0, _, l => (l.head?).map (fun x => (x, s.chargedLen node x.pkt, []))
  | i + 1, key, l =>
    let kids := (keysAt l i).filterMap (fun k =>
      (s.choose node i k (l.filter (fun x => x.path.getD i 0 == k))).map
        (fun c => Kid.mk k c.1 c.2.1 c.2.2))
    s.chooseKid key kids

/-- The port node of any node, by its parents. -/
def State.rootOf (s : State) : Nat → Nat → Nat
  | 0, key => key
  | fuel + 1, key =>
    let level := key / 2 ^ 20
    if level ≤ 1 then key else s.rootOf fuel (nodeKey (level - 1) (recParent (s.nodeRec key)))

/-- Deficits of children of a port node's tree that are no longer eligible set to 0 (R318); `l` are its eligible queues. -/
def State.zeroDeficits (s : State) (node : Nat) (l : List Leaf) : State :=
  let live := l.flatMap s.eligibleKeys
  let nodes := s.sched.nodes.map (fun n =>
    if n.deficit ≠ 0 ∧ s.rootOf 5 n.key = nodeKey 1 node ∧ ¬ live.contains n.key then { n with deficit := 0 } else n)
  { s with sched := { s.sched with nodes := nodes } }

/-! ### Drops at evaluation (R353, R354) -/

/-- The head of a queue looked at when it comes to the head: dropped when no span of its class can ever take it; FC-14 at
level F0 on the first such drop of a port in each second (R354). -/
def State.gateDrop (s : State) (line : Nat) (l : Leaf) : State :=
  if s.gates.spanFits line (recClass (s.qrec l.qid)) l.pkt.wireLen (s.portRate line) then s
  else
    let q := s.que l.qid
    let s := ((s.setQue { q with pkts := q.pkts.tail }).bump (0x5410 + line) 0xB).release [l.pkt]
    let (first, s) := s.firstInSecond (0x354000 + line)
    if first then
      s.raise { cls := 14, level := 0, die := 0, object := line, port := true, ctrIdx := 0x5410 + line, ctrSub := 0xB }
    else s

/-- The heads under a node looked at until none is dropped; `fuel` bounds the drops. -/
def State.gateDrops (s : State) (node line : Nat) : Nat → State
  | 0 => s
  | fuel + 1 =>
    let ls := s.leaves node
    let s' := ls.foldl (fun s l => s.gateDrop line l) s
    if (s'.leaves node) = ls then s' else s'.gateDrops node line fuel

/-- A head that does not fit now is counted once as held (R353). -/
def State.gateHold (s : State) (line : Nat) (l : Leaf) : State :=
  if s.gates.fits line (recClass (s.qrec l.qid)) l.pkt.wireLen (s.portRate line) (timeToNs s.time80) ∨
      s.gates.holds.contains l.pkt.id then s
  else { s with gates := { s.gates with holds := s.gates.holds ++ [l.pkt.id] } }.bump (0x5410 + line) 0xC

/-- The heads under a node that can never fit dropped (R354). -/
def State.dropOversize (s : State) (node : Nat) : State :=
  match s.outLine node with
  | none => s
  | some l => s.gateDrops node l (sumOf (fun q => q.pkts.length) s.sched.ques + 1)

/-- The heads under a node looked at by a decision: those that can never fit dropped, those that do not fit now counted
(R353, R354). -/
def State.gateChecks (s : State) (node : Nat) : State :=
  let s := s.dropOversize node
  match s.outLine node with
  | none => s
  | some l => (s.leaves node).foldl (fun s x => s.gateHold l x) s

/-! ### The dequeue (R87, R270, R319 to R322) -/

/-- Cells of the reserve committed to frames dequeued for the bond link whose bodies the FE die still holds (R270). -/
def State.reserveHeld (s : State) : Nat :=
  sumOf (fun f => cellsOf f.stored)
    (s.flow.egressIn ++ s.flow.recircE ++ s.flow.toLine.map (·.2) ++
      (s.flow.ctxs.filter (fun c => decide (c.dir = Dir.egress))).map (·.frame))

/-- The frame that a packet makes on its way over BOND-TF (R295, R322). -/
def State.egressFrame (s : State) (node : Nat) (p : Pkt) : Frame :=
  let gated := match s.outLine node with
    | some l => s.gates.gated l (recClass (s.qrec p.qid))
    | none => false
  { src := p.src, dom := 0, seq := 0, data := p.data, rx := p.rx, tag := 0, stamp := 0, pass := 0, user := [],
    gated := gated, err := false, bad := p.bad, tc := p.tc, dp := p.dp, port := node, dest := 2 ^ 29 + p.qid,
    token := if p.stamp then some p.token else none, inject := p.inject, prio := 0, rtag := p.gen, pkt := p.id,
    short := p.len - p.data.length, stored := p.len, cells := [] }

/-- The CORE cycle of the present instant admits one more frame towards the egress spreader: 2 to each pipeline that takes
frames (R83, R87). -/
def State.coreOpen (s : State) : Bool :=
  decide ((if s.sched.coreAt = s.coreCycle then s.sched.coreCount else 0) < 2 * s.pipesDealt .egress)

/-- The TMC cycle admits one more dequeue of a port node (R321). -/
def State.tmcOpen (s : State) (node : Nat) : Bool :=
  decide (nget s.sched.portAt node 0 ≠ s.tmcCycle + 1) &&
    decide ((if s.sched.cycle = s.tmcCycle then s.sched.cycleCount else 0) < 32)

/-- The pacing of a dequeue noted: cycles, and the earliest next dequeue of a line port (R320, R321). -/
def State.pace (s : State) (node : Nat) (p : Pkt) : State :=
  let c := s.sched
  let bond := s.outlet node / 256 ≠ 3
  let wait := match s.outLine node with
    | some l => if s.portRate l = 0 then 0 else ((p.wireLen + 24) * 8 * Config.ns + s.portRate l - 1) / s.portRate l
    | none => 0
  { s with sched := { c with
      portAt := nset c.portAt node (s.tmcCycle + 1) 0
      cycle := s.tmcCycle
      cycleCount := (if c.cycle = s.tmcCycle then c.cycleCount else 0) + 1
      coreAt := s.coreCycle
      coreCount := (if c.coreAt = s.coreCycle then c.coreCount else 0) + (if bond then 1 else 0)
      portNext := nset c.portNext node (s.clock.now + wait) 0 } }

/-- A packet handed to its outlet: over BOND-TF, leaving its cells once its last byte has arrived, or to a pairing lane with
its cells held until they are cut (R258, R307). -/
def State.sendOut (s : State) (node : Nat) (p : Pkt) : State :=
  if s.outlet node / 256 = 3 then
    let lane := s.outlet node % 256
    let t : TxPkt := p.toTx p.qid
    let old := ((s.pair.data.find? (fun x => x.1 == lane)).map (·.2)).getD []
    { s with pair := { s.pair with
        data := s.pair.data.filter (fun x => x.1 != lane) ++ [(lane, old ++ [t])] } }
  else
    let s := { s with flow := { s.flow with egressIn := s.flow.egressIn ++ [s.egressFrame node p] } }
    if p.data.length < p.len then s else s.releaseCells [p]

/-- The head of a queue dequeued (R319 to R321). -/
def State.dequeue (s : State) (node : Nat) (l : Leaf) (len : Nat) (changed : List Node) : State :=
  let s := { s with sched := { s.sched with nodes := changed.foldl setNode s.sched.nodes } }
  let s := l.path.foldl (fun s k => (s.chargeNode len k)) s
  let s := (l.path.tail).foldl (fun s k => (s.bumpI 0x5200 6 k 1).bumpI 0x5200 7 k len) s
  let s := (s.bumpI 0x5100 9 l.qid 1).bumpI 0x5100 0xA l.qid l.pkt.len
  let s := { s with gates := { s.gates with holds := s.gates.holds.filter (fun i => i != l.pkt.id) } }
  let q := s.que l.qid
  let s := s.setQue { q with pkts := q.pkts.tail }
  (s.pace node l.pkt).sendOut node l.pkt

/-- One decision of a port node, its heads looked at first (R353, R354); a head found past its sojourn or with a bad tail at its dequeue is dropped and the
decision made again (R298, R332). `fuel` bounds the drops. -/
def State.decide_ (s : State) (node : Nat) : Nat → State
  | 0 => s
  | fuel + 1 =>
    let s := s.gateChecks node
    let live := (s.leaves node).filter (s.eligible node)
    let s := s.zeroDeficits node live
    match s.choose node 4 (nodeKey 1 node) (live.filter s.servable) with
    | none => s
    | some (l, len, changed) =>
      if s.pktExpired l.pkt then
        let q := s.que l.qid
        ((s.setQue { q with pkts := q.pkts.tail }).dropExpired l.qid [l.pkt]).decide_ node fuel
      else if l.pkt.bad then
        let q := s.que l.qid
        (((s.setQue { q with pkts := q.pkts.tail }).bump 0x5001 6).release [l.pkt]).decide_ node fuel
      else if s.outlet node / 256 ≠ 3 ∧ (¬ s.coreOpen ∨ 32768 < s.reserveHeld + cellsOf l.pkt.len) then s
      else
        let s := (s.dequeue node l len changed).dropOversize node
        s.zeroDeficits node ((s.leaves node).filter (s.eligible node))

/-- SCHEDULER_DECISION (R317): nothing while a die is halted or before READY, while the outlet takes no frame, before the
spacing of R320 has run, or beyond the dequeues of R321. -/
def State.schedule (s : State) (node : Nat) : State :=
  if s.faults.haltTm ∨ s.faults.haltFe ∨ s.dev.st = .boot ∨ s.dev.st = .init ∨ ¬ s.outletOpen node ∨
      s.clock.now < nget s.sched.portNext node 0 ∨ ¬ s.tmcOpen node then s
  else s.decide_ node (sumOf (fun q => q.pkts.length) s.sched.ques + 1)

/-- Deficits of children that have stopped being eligible, wherever they stand, set to 0 (R318). -/
def State.deficitSync (s : State) : State :=
  ((s.sched.nodes.filter (fun n => n.deficit != 0)).map (fun n => s.rootOf 5 n.key % 2 ^ 20)).dedup.foldl
    (fun s p => s.zeroDeficits p ((s.leaves p).filter (s.eligible p))) s

/-- A node is eligible now (R316, 0x5200:05). -/
def State.nodeEligible (s : State) (key : Nat) : Bool :=
  let root := s.rootOf 5 key % 2 ^ 20 % 256
  ((s.leaves root).filter (s.eligible root)).any (fun l => (s.eligibleKeys l).contains key)

end Sys2Proof.Machine
end

