-- ==== Sys2Proof/Machine/Steps.lean ====
section
/-! DEFINITION. The stepped-operation journal (R64 to R71): slots 0 to 7 are those of host software, 8 to 11 the part's
own. -/

namespace Sys2Proof.Machine

/-- A free slot. -/
def JSlot.free : JSlot :=
  ⟨0, 0, 0, 0, 0, 0, 0, 0, 0, zeros 12, 0, false, 0⟩

/-- The slots. -/
def State.slot (s : State) (i : Nat) : JSlot := s.dict.slots.getD i JSlot.free

/-- A slot set. -/
def State.setSlot (s : State) (i : Nat) (j : JSlot) : State :=
  { s with dict := { s.dict with slots := s.dict.slots.set i j } }

/-- The slot that holds a handle. -/
def State.slotOf (s : State) (handle : Nat) : Option Nat :=
  if handle = 0 then none else (List.range 12).find? (fun i => (s.slot i).handle == handle)

/-- The slots open to host software or to the part. -/
def slotRange (own : Bool) : List Nat := if own then [8, 9, 10, 11] else List.range 8

/-- The lowest free slot of a kind. -/
def State.freeSlot (s : State) (own : Bool) : Option Nat := (slotRange own).find? (fun i => (s.slot i).handle == 0)

/-- An operation is open: QUEUED or RUNNING. -/
def JSlot.isOpen (j : JSlot) : Bool := j.handle != 0 && decide (j.state ≤ 1)

/-- Handles rise by one and leave out 0 (R64). -/
def nextHandle (h : Nat) : Nat := if h ≥ 0xFFFF then 1 else h + 1

/-- An operation started: its handle, none when no slot is free (R65). `arg` is what it works on. -/
def State.startOp (s : State) (own : Bool) (idx sub requester planned arg : Nat) : Option Nat × State :=
  match s.freeSlot own with
  | none => (none, s)
  | some i =>
    let h := s.dict.nextHandle
    let s := { s with dict := { s.dict with nextHandle := nextHandle h } }
    (some h, s.setSlot i ⟨h, 0, idx, sub, requester, 0, planned, 0, 0, zeros 12, 0, false, arg⟩)

/-- A step of an operation completed: counted, its progress mark written, the state last (R70). -/
def State.stepDone (s : State) (i : Nat) (mark : List Byte) : State :=
  let j := s.slot i
  s.setSlot i { j with
    state := 1
    started := if j.steps = 0 then s.time80 else j.started
    steps := j.steps + 1
    mark := mark }

/-- A step of an operation begun: the first one's time is kept, whatever comes of it (R69). -/
def State.stepBegun (s : State) (i : Nat) : State :=
  let j := s.slot i
  if j.steps = 0 ∧ j.started = 0 then s.setSlot i { j with started := s.time80 } else s

/-- An operation ended in a final state, with the abort code of a FAILED one. -/
def State.endOp (s : State) (i final result : Nat) : State :=
  let j := s.slot i
  s.setSlot i { j with state := final, result := result, final := s.clock.now, cancel := false }

/-- The slot of an open operation of an object that works on a number. -/
def State.openOp (s : State) (idx sub arg : Nat) : Option Nat :=
  (List.range 12).find? (fun i => (s.slot i).isOpen && (s.slot i).idx == idx && (s.slot i).sub == sub && (s.slot i).arg == arg)

/-- The 48 octets of a slot (chapter 2). -/
def JSlot.bytes (j : JSlot) : List Byte :=
  if j.handle = 0 then zeros 48
  else
    leBytes 2 j.handle ++ [byteOf j.state, 0] ++ leBytes 2 j.idx ++ [byteOf j.sub, 0] ++ leBytes 2 j.requester ++ [0, 0] ++
      leBytes 4 j.steps ++ leBytes 4 j.planned ++ leBytes 4 j.result ++ timeLe j.started ++ [0, 0] ++ bytesAt j.mark 0 12

/-- JOURNAL_SLOT_EXPIRE (R66): a slot of the part's own frees itself 60 s after its final state. -/
def State.slotExpire (s : State) (i : Nat) : State :=
  let j := s.slot i
  if 8 ≤ i ∧ j.handle ≠ 0 ∧ 2 ≤ j.state ∧ j.final + 60 * Config.sec ≤ s.clock.now then s.setSlot i JSlot.free else s

/-- Every open operation reads INTERRUPTED (R71, R555). -/
def State.interruptOps (s : State) : State :=
  { s with dict := { s.dict with slots := s.dict.slots.map (fun j =>
      if j.isOpen then { j with state := 5, final := s.clock.now, cancel := false } else j) } }

end Sys2Proof.Machine
end

