-- ==== Sys2Proof/Machine/Txn.lean ====
section
/-! DEFINITION. Table transactions and epochs (chapter 6): records, laying, shadow slots, the keystone, the commit. -/

namespace Sys2Proof.Machine

/-! ### Entry layouts (R148, R168, R172 to R178) -/

/-- A route entry breaks its layout (R167, R168). -/
def routeBad (table d : Nat) : Bool :=
  let len := bits d 231 224
  let pfx := bits d 223 96
  let maxLen := if table = 0x10 then 32 else 128
  bits d 254 244 != 0 || bits d 62 52 != 0 || decide (maxLen < len) || pfx % 2 ^ (128 - min len 128) != 0 ||
    (table == 0x10 && pfx % 2 ^ 96 != 0) || (bit d 63 && bits d 51 48 != 0)

/-- A label entry breaks its layout (R172). -/
def labelBad (d : Nat) : Bool :=
  let a := bits d 62 60
  decide (3 < a) || bits d 38 32 != 0 || (a != 0 && bits d 59 40 != 0) ||
    ((a == 2 || a == 3) && (bits d 31 12 != 0)) || (a != 3 && bits d 11 0 != 0)

/-- A next-hop entry breaks its layout (R175). -/
def nextHopBad (key d : Nat) : Bool :=
  key == 0 || bits d 14 6 != 0 || (bit d 127 && (decide (2 < bits d 126 124) ||
    (bits d 126 124 == 2 && bits d 5 0 == 0)))

/-- A rule entry breaks its layout (R147, R148), in a table of `w` bits. -/
def ruleBad (w d : Nat) : Bool :=
  let control := ruleField d 0 1
  let wc := bits control 6 5
  let act := control % 4
  let data := ruleField d 4 4
  let value := d / 2 ^ 640 % 2 ^ 640
  let mask := d % 2 ^ 640
  wc == 3 || 160 * 2 ^ wc != w || bits control 4 2 != 0 || ruleField d 1 1 != 0 || ruleField d 12 4 != 0 ||
    value % 2 ^ (640 - w) != 0 || mask % 2 ^ (640 - w) != 0 || (value &&& mask) != value ||
    (match act with
     | 0 => data != 0
     | 1 => (data / 2 ^ 29 != 1 && data / 2 ^ 29 != 2) ||
       (data / 2 ^ 29 == 1 && bits data 28 19 != 0) || (data / 2 ^ 29 == 2 && bits data 28 16 != 0)
     | 2 => bits data 31 22 != 0 || bits data 21 16 == 0 || decide (0xFEFF < bits data 15 0)
     | _ => bits data 31 8 != 0 || bits data 7 0 == 0)

/-- The abort of an entry that its table refuses (R159, R161, R148, R168, R172 to R178). -/
def State.entryFault (s : State) (table key d : Nat) : Option Nat :=
  match tableKind table with
  | 0 => some (0x01100000 + table)
  | 3 => some (0x02100000 + table)
  | 5 => some (0x02100000 + table)
  | 1 => if routeBad table d then some 0x031D0000 else none
  | 4 => if ruleBad (s.ruleWidth table) d then some 0x031B0000 else none
  | _ =>
    let bad :=
      if table ≤ 0x23 then labelBad d
      else if table ≤ 0x33 then bits d 62 56 != 0
      else if table = 0x40 then nextHopBad key d
      else if table = 0x41 then bits d 14 9 != 0 || decide ((groupWindow key).2 < bits d 8 0 + 1)
      else bits d 30 20 != 0 || (bit d 31 && bits d 19 0 == 0)
    if bad then some 0x031D0000 else none

/-! ### The journal -/

/-- The newest journal record of a tag. -/
def Tx.rec_ (t : Tx) (tag : Nat) : Option JRec := t.journal.find? (fun r => r.tag == tag)

/-- The newest record of a tag changed. -/
def Tx.modRec (t : Tx) (tag : Nat) (f : JRec → JRec) : Tx :=
  { t with journal := modFirst (fun r => r.tag == tag) f t.journal }

/-- The work of an OPEN or STAGED transaction. -/
def Tx.workOf (t : Tx) (tag : Nat) : Option TxWork := t.work.find? (fun w => w.tag == tag)

/-- The work of a transaction changed. -/
def Tx.modWork (t : Tx) (tag : Nat) (f : TxWork → TxWork) : Tx :=
  { t with work := modFirst (fun w => w.tag == tag) f t.work }

/-- The 64 octets of a journal record (R246); slots of a commit whose epoch is the oldest live are freed (R237). -/
def JRec.bytes (r : JRec) (oldest : Nat) : List Byte :=
  let shadow := if r.state = 3 ∧ r.commit ≤ oldest then 0 else r.shadow
  let b := leBytes 4 r.tag ++ [byteOf r.state, byteOf r.cause, byteOf r.slot, byteOf r.flags] ++
    leBytes 2 r.requester ++ [0, 0] ++ leBytes 4 r.records ++ leBytes 4 shadow ++ leBytes 4 r.result ++
    leBytes 8 r.commit ++ timeLe r.ktime ++ timeLe r.ctime ++ zeros 8
  b ++ leBytes 4 (crc32 b)

/-- Slots held by transactions at work. -/
def Tx.workSlots (t : Tx) : Nat :=
  sumOf (fun w => match t.rec_ w.tag with
    | some r => r.shadow
    | none => 0) t.work

/-- Slots held by committed transactions whose epoch is not yet the oldest live one (R237). -/
def State.committedSlots (s : State) : Nat :=
  sumOf (fun h => if s.oldestLive < h.1 then h.2 else 0) s.tx.held

/-- Free shadow slots (0x4500:05). -/
def State.shadowFree (s : State) : Nat := 1048576 - s.tx.workSlots - s.committedSlots

/-- The lowest free transaction slot. -/
def Tx.freeSlot (t : Tx) : Nat :=
  let used := t.work.filterMap (fun w => (t.rec_ w.tag).map (·.slot))
  ((List.range 64).find? (fun i => !used.contains i)).getD 0

/-- A transaction abandoned (R224 to R226): its versions go, the message is sent except by warm reset. -/
def State.abandon (s : State) (tag cause result : Nat) : State :=
  let t := s.tx.modRec tag (fun r => { r with state := 4, cause := cause, result := result, shadow := 0 })
  let s := { s with tx := { t with work := dropFirst (fun w => w.tag == tag) t.work } }
  if cause = 5 then s else (s.bump 0x4500 8).msix 1

/-! ### Records (R220 to R222) -/

/-- The requester and the parts of a record. -/
structure TxRec where
  kind : Nat
  key : Bool
  tag : Nat
  target : List Byte
  payload : List Byte
  deriving DecidableEq, Repr

/-- The parts of a record's bytes. -/
def txParse (bs : List Byte) : TxRec :=
  ⟨beAt bs 0 1, bit (beAt bs 1 1) 0, beAt bs 4 4, bytesAt bs 8 8, bytesAt bs 16 (min 176 (beAt bs 2 2))⟩

/-- The offset of the first octet that is not zero, from `o` on. -/
def firstNonZero (bs : List Byte) (o n : Nat) : Option Nat :=
  (List.range n).findSome? (fun i => if bytesAt bs (o + i) 1 = [0] then none else some (o + i))

/-- The Length of a record fits its kind and table (R220, R346, R347). -/
def txLenOk (bs : List Byte) : Bool :=
  let len := beAt bs 2 2
  match beAt bs 0 1 with
  | 2 => let n := entryBytes (beAt bs 8 2); if n = 0 then decide (len ≤ 176) else len == n
  | 3 => decide (len ≤ 176)
  | 4 => if beAt bs 9 1 = 1 ∨ beAt bs 9 1 = 2 then gratLenOk (beAt bs 9 1) len else decide (len ≤ 176)
  | _ => len == 0

/-- The entries of a table that a TABREF may name (R159, R222); a learned table has those of its size. -/
def State.entriesOf (s : State) (table : Nat) : Nat :=
  if tableKind table = 3 then s.obj (0x4610 + (table - 0x50)) 1 * 65536 else tableEntries table

/-- The kind or the flags of a record are bad: the offset of the first such byte (R222). -/
def txHeadFault (bs : List Byte) : Option Nat :=
  let kind := beAt bs 0 1
  let flags := beAt bs 1 1
  if kind = 0 ∨ 6 < kind then some 0
  else if 1 < flags ∨ (flags = 1 ∧ ¬ (2 ≤ kind ∧ kind ≤ 4)) then some 1
  else none

/-- The first bad octet of a record's form (the first row of R222). -/
def State.txFormFault (s : State) (bs : List Byte) : Option Nat :=
  let kind := beAt bs 0 1
  let len := beAt bs 2 2
  let table := beAt bs 8 2
  (txHeadFault bs).or <|
  if ¬ txLenOk bs then some 2
  else
    let target : Option Nat := match kind with
      | 2 =>
        if tableKind table = 0 ∨ tableKind table = 1 then none
        else if s.entriesOf table ≤ beAt bs 10 4 then some 10
        else firstNonZero bs 14 2
      | 3 =>
        if 1 < beAt bs 8 1 then some 8
        else (firstNonZero bs 9 1).or (firstNonZero bs 14 2)
      | 4 => none
      | _ => firstNonZero bs 8 8
    target.or (firstNonZero bs (16 + len) (bs.length - (16 + len)))

/-- The device states in which a record is taken (R222). -/
def DevState.takesRecords : DevState → Bool
  | .ready | .run | .degraded | .standby | .maint => true
  | _ => false

/-- The key of a WRITE: VRF, length and prefix of a route, else the TABREF's entry index. -/
def writeKey (table : Nat) (r : TxRec) : Nat :=
  if tableKind table = 1 then routeKeyOf (beNat r.payload) else beAt r.target 2 4

/-- The slot of a transaction other than `tag` that satisfies `p`. -/
def Tx.holder (t : Tx) (tag : Nat) (p : TxWork → Bool) : Option Nat :=
  (t.work.find? (fun w => w.tag != tag && p w)).bind (fun w => (t.rec_ w.tag).map (·.slot))

/-- The leaf bucket a route write changes. -/
def leafOf (table key : Nat) : Nat × Nat := (table, Config.leafBucket table (key / 2 ^ 136) (key % 2 ^ 128))

/-- The shadow slots a WRITE needs (R227, R228). -/
def TxWork.slotsFor (w : TxWork) (table key : Nat) : Nat :=
  if tableKind table = 1 then (if w.leaves.contains (leafOf table key) then 0 else 16)
  else if w.writes.any (fun p => p.table == table && p.key == key) then 0
  else if tableKind table = 4 then 6 else 1

/-- A WRITE laid (R227, R228). -/
def TxWork.lay (w : TxWork) (table key data : Nat) : TxWork :=
  { w with
    writes := ⟨table, key, data⟩ :: w.writes.filter (fun p => !(p.table == table && p.key == key))
    leaves := if tableKind table = 1 ∧ ¬ w.leaves.contains (leafOf table key) then leafOf table key :: w.leaves
              else w.leaves }

/-- What became of a record: done, refused with an abort, or waiting for shadow slots (R221, R229). -/
inductive TxAns where
  | done
  | abort (code : Nat)
  | wait
  deriving DecidableEq, Repr

/-! ### The keystone (R231, R146, R166, R350) -/

/-- The present entries of the tables of a kind, with the pending writes of some transactions laid over them in order:
table, key, data. -/
def State.effective (s : State) (kind : Nat) (ws : List TxWork) : List (Nat × Nat × Nat) :=
  let pend := ws.reverse.flatMap (fun w => w.writes.filter (fun p => tableKind p.table == kind))
  let keys := (pend.map (fun p => (p.table, p.key)) ++
    (s.tables.vers.filter (fun v => tableKind v.table == kind)).map (fun v => (v.table, v.key))).dedup
  keys.map (fun (t, k) =>
    (t, k, match pend.find? (fun p => p.table == t && p.key == k) with
      | some p => p.data
      | none => verAt s.tables.vers t k s.tx.commit))

/-- The units that a route set costs (R165). -/
def routeUnits (l : List (Nat × Nat × Nat)) : Nat :=
  sumOf (fun (t, _, d) => if bit d 255 then (if t = 0x10 then 1 else 2) else 0) l

/-- The valid rules of a rule set. -/
def ruleCount (l : List (Nat × Nat × Nat)) : Nat :=
  sumOf (fun (_, _, d) => if bit (ruleField d 0 1) 7 then 1 else 0) l

/-- A transaction put in its place in keystone order. -/
def insertStaged (w : TxWork) : List TxWork → List TxWork
  | [] => [w]
  | x :: r => if w.kseq ≤ x.kseq then w :: x :: r else x :: insertStaged w r

/-- The STAGED transactions in keystone order (R232). -/
def Tx.staged (t : Tx) : List TxWork := (t.work.filter (fun w => w.kseq != 0)).foldr insertStaged []

/-- The first check at the keystone that fails (R231, R350). -/
def State.keystoneFault (s : State) (w : TxWork) : Option Nat :=
  let ws := s.tx.staged ++ [w]
  let prog (d : Nat) (p : Option (List Byte)) : Option Nat := p.bind (s.progFault d)
  (prog 0 w.progI).or <| (prog 1 w.progE).or <|
  if 262144 < ruleCount (s.effective 4 ws) then some 0x05100000
  else if 4194304 < routeUnits (s.effective 1 ws) then some 0x05110000
  else (gratKeystone w.grats).map (fun p => 0x03250000 + p)

/-- The keystone lands (R224, R231): STAGED, or ABANDONED with the abort. -/
def State.keystone (s : State) (tag : Nat) : State × TxAns :=
  match s.tx.workOf tag with
  | none => (s, .done)
  | some w =>
    let mark := s.tx.modRec tag (fun r => { r with flags := setBit r.flags 3 true, ktime := s.time80 })
    let s := { s with tx := mark }
    match s.keystoneFault w with
    | some a => (s.abandon tag 3 a, .abort a)
    | none =>
      let t := s.tx.modWork tag (fun w => { w with kseq := s.tx.kseq + 1, kat := s.clock.now })
      ({ s with tx := { (t.modRec tag (fun r => { r with state := 2 })) with kseq := s.tx.kseq + 1 } }, .done)

/-! ### The six kinds -/

/-- The refusals of R222 that rest on the journal, for a kind other than OPEN. -/
def Tx.tagFault (t : Tx) (tag kind : Nat) : Option Nat :=
  match t.rec_ tag with
  | none => some 0x01110000
  | some r =>
    if r.state = 1 then none
    else if r.state = 2 ∧ kind = 6 then some 0x04130000
    else some (0x04120000 + r.state)

/-- The journal with a new record: the oldest final record gives way once 256 are held (R247). -/
def pushRec (r : JRec) (l : List JRec) : List JRec :=
  if l.length < 256 then r :: l else r :: (dropFirst (fun (x : JRec) => 3 ≤ x.state) l.reverse).reverse

/-- OPEN (R224). -/
def State.txOpen (s : State) (requester tag : Nat) : State × TxAns :=
  if (s.tx.workOf tag).isSome then (s, .abort 0x08110000)
  else if 64 ≤ s.tx.work.length then (s, .abort 0x05120000)
  else
    let r : JRec := ⟨tag, 1, 0, s.tx.freeSlot, 0, requester, 0, 0, 0, 0, 0, 0⟩
    ({ s with tx := { s.tx with
        journal := pushRec r s.tx.journal
        work := s.tx.work ++ [⟨tag, [], [], none, none, [], s.clock.now, 0, 0, []⟩] } }, .done)

/-- A record that has been laid: counted, its time noted. -/
def State.laid (s : State) (tag : Nat) (f : TxWork → TxWork) (g : JRec → JRec) : State :=
  let t := s.tx.modWork tag (fun w => { f w with last := s.clock.now })
  { s with tx := t.modRec tag (fun r => { g r with records := r.records + 1 }) }

/-- A WRITE laid, refused or made to wait (R222, R227 to R229). -/
def State.txWrite (s : State) (w : TxWork) (records : Nat) (r : TxRec) : State × TxAns :=
  let table := beAt r.target 0 2
  let data := beNat r.payload
  let key := writeKey table r
  if 65536 ≤ records then (s, .abort 0x05140000)
  else match s.tx.holder w.tag (fun x => x.writes.any (fun p => p.table == table && p.key == key)) with
  | some slot => (s, .abort (0x08100000 + slot))
  | none =>
    match s.entryFault table key data with
    | some a => (s, .abort a)
    | none =>
      let need := w.slotsFor table key
      if need ≤ s.shadowFree then
        (s.laid w.tag (fun w => w.lay table key data) (fun j => { j with shadow := j.shadow + need }), .done)
      else if need ≤ s.shadowFree + s.committedSlots then (s, .wait)
      else (s, .abort 0x05130000)

/-- The bytes of a program object received so far. -/
def TxWork.prog (w : TxWork) (dir : Nat) : Option (List Byte) := if dir = 0 then w.progI else w.progE

/-- A program object is complete: its Total length has been received (R242). -/
def progComplete (b : List Byte) : Bool := decide (20 ≤ b.length) && decide (beAt b 16 4 ≤ b.length)

/-- A PROGRAM record laid or refused (R222, R242). -/
def State.txProgram (s : State) (w : TxWork) (records : Nat) (r : TxRec) : State × TxAns :=
  let dir := beAt r.target 0 1
  let off := beAt r.target 2 4
  let have_ := (w.prog dir).getD []
  if 65536 ≤ records then (s, .abort 0x05140000)
  else match s.tx.holder w.tag (fun x => (x.prog dir).isSome) with
  | some slot => (s, .abort (0x08100000 + slot))
  | none =>
    if off ≠ have_.length ∨ progComplete have_ then (s, .abort 0x09010008)
    else
      let b := have_ ++ r.payload
      (s.laid w.tag (fun w => if dir = 0 then { w with progI := some b } else { w with progE := some b })
        (fun j => { j with flags := setBit j.flags dir true }), .done)

/-- A GRATICULE record laid or refused (R222, R348, R349). -/
def State.txGrat (s : State) (w : TxWork) (records : Nat) (r : TxRec) : State × TxAns :=
  let port := beAt r.target 0 1
  let part := beAt r.target 1 1
  let first := beAt r.target 2 2
  if 65536 ≤ records then (s, .abort 0x05140000)
  else
    let fault := if beAt r.target 4 4 ≠ 0 then some 0xFFFF else gratFault port part first r.payload
    match fault with
    | some d => (s, .abort (0x03240000 + d))
    | none =>
      match s.tx.holder w.tag (fun x => x.grats.any (fun g => g.port == port)) with
      | some slot => (s, .abort (0x08100000 + slot))
      | none =>
        (s.laid w.tag (fun w => { w with grats := w.grats ++ [⟨port, part, first, r.payload⟩] })
          (fun j => { j with flags := setBit j.flags 2 true }), .done)

/-- A refused record abandons an OPEN transaction of its tag (R223). -/
def State.refuse (s : State) (tag a : Nat) : State × TxAns :=
  match s.tx.rec_ tag with
  | some r => if r.state = 1 then (s.abandon tag 2 a, .abort a) else (s, .abort a)
  | none => (s, .abort a)

/-- The keystone after a record that carries its flag. -/
def State.thenKeystone (s : State) (r : TxRec) (a : TxAns) : State × TxAns :=
  match a with
  | .done => if r.key then s.keystone r.tag else (s, .done)
  | .abort c => s.refuse r.tag c
  | .wait => (s, .wait)

/-- A record of a kind 2 to 6 aimed at an OPEN transaction. -/
def State.txAct (s : State) (w : TxWork) (records : Nat) (r : TxRec) : State × TxAns :=
  match r.kind with
  | 2 => let (s, a) := s.txWrite w records r; s.thenKeystone r a
  | 3 => let (s, a) := s.txProgram w records r; s.thenKeystone r a
  | 4 => let (s, a) := s.txGrat w records r; s.thenKeystone r a
  | 5 => s.keystone r.tag
  | _ => (s.abandon r.tag 1 0, .done)

/-- An accepted record kept for the mirror (R487). -/
def keepRec (tag : Nat) (bs : List Byte) (x : State × TxAns) : State × TxAns :=
  match x.2 with
  | .done => ({ x.1 with tx := x.1.tx.modWork tag (fun w => { w with recs := w.recs ++ [bs] }) }, .done)
  | a => (x.1, a)

/-- A record whose form and whose device state pass: the checks of R222 that rest on the journal, then the kind. -/
def State.txServe (s : State) (requester : Nat) (r : TxRec) : State × TxAns :=
  if r.kind = 1 then
    let (s, a) := s.txOpen requester r.tag
    match a with
    | .abort c => s.refuse r.tag c
    | a => (s, a)
  else match s.tx.tagFault r.tag r.kind with
  | some a => (s, .abort a)
  | none =>
    match s.tx.workOf r.tag, s.tx.rec_ r.tag with
    | some w, some j =>
      let s := { s with tx := s.tx.modWork r.tag (fun w => { w with last := s.clock.now }) }
      s.txAct w j.records r
    | _, _ => (s, .abort 0x01110000)

/-- A member in pair state STANDBY or SYNC takes no records of host software (R488). -/
def State.pairTakesNone (s : State) : Bool := s.pair.st == .standby || s.pair.st == .sync

/-- The code of a pair state (R472). -/
def PairSt.code : PairSt → Nat
  | .unpaired => 0
  | .active => 1
  | .standby => 2
  | .sync => 3
  | .isolated => 4

/-- One transaction record from host software (R219 to R224, R488): the checks of R222 in table order. -/
def State.txRecord (s : State) (requester : Nat) (bs : List Byte) : State × TxAns :=
  let r := txParse bs
  match s.txFormFault bs with
  | some o => s.refuse r.tag (0x09010000 + o)
  | none =>
    if s.pairTakesNone then s.refuse r.tag (0x04190000 + s.pair.st.code)
    else if ¬ s.dev.st.takesRecords then s.refuse r.tag (0x04010000 + s.dev.st.code)
    else keepRec r.tag bs (s.txServe requester r)

/-- A record mirrored by the partner (R487, R495): whatever the device state. -/
def State.txMirror (s : State) (requester : Nat) (bs : List Byte) : State × TxAns :=
  let r := txParse bs
  match s.txFormFault bs with
  | some o => s.refuse r.tag (0x09010000 + o)
  | none => keepRec r.tag bs (s.txServe requester r)

/-! ### The mirror (R487, R491) -/

/-- The payload of a transfer cell (R491). -/
def itemPayload (kind seq arg : Nat) (data : List Byte) : List Byte :=
  [byteOf kind, 0] ++ beBytes 2 data.length ++ beBytes 4 seq ++ beBytes 8 arg ++ bytesAt data 0 240

/-- A transfer item put into the list of those sent (R492). -/
def State.sendItem (s : State) (kind arg : Nat) (data : List Byte) : State :=
  let q := (s.pair.itemSeq + 1) % 2 ^ 32
  let b := itemPayload kind q arg data
  { s with pair := { s.pair with
      itemSeq := q
      items := s.pair.items ++ [(q, b)]
      itemOut := s.pair.itemOut ++ [b]
      ackAt := if s.pair.items.isEmpty then s.clock.now else s.pair.ackAt } }

/-- The partner takes mirrored transactions: the part is ACTIVE, the partner STANDBY or SYNC (R487). -/
def State.mirrors (s : State) : Bool :=
  s.pair.st == .active && (s.pair.partnerSt == .standby || s.pair.partnerSt == .sync)

/-- The records of a committed transaction and its marker sent to the partner (R487); the item that carries a record names
its requester above the tag (log entry 24). -/
def State.mirrorWork (s : State) (w : TxWork) (requester n : Nat) : State :=
  if s.mirrors then
    (w.recs.foldl (fun s b => s.sendItem 1 (requester * 2 ^ 32 + w.tag) b) s).sendItem 2 n []
  else s

/-! ### The commit (R233 to R238, R243) -/

/-- The pace bucket in units of a commit / 27e9 ticks. -/
def Tx.paceTokens (t : Tx) (now : Tick) : Nat := min (1000 * Config.sec) (t.paceTok + 100000 * (now - t.paceAt))

/-- A program image of a direction is free: live epochs run at most one program of it (R243). -/
def State.imageFree (s : State) (dir : Nat) : Bool :=
  decide (((s.liveCommits.filterMap (fun c => (s.tx.progOf dir c).map (·.commit))).dedup).length ≤ 1)

/-- A substitution is in progress: SX takes the place of a stage of a draining pipeline (R522). -/
def State.substRuns (s : State) : Bool := s.flow.pipeStage.any (fun e => e.2 != 0)

/-- The unmet conditions of R233 for a transaction, as its wait bits; a program also waits for the end of a substitution in
progress, which keeps its image from being loaded (R522). -/
def State.waitBits (s : State) (w : TxWork) : Nat :=
  let n := s.tx.commit + 1
  let pace := match s.tx.lastCommit with
    | some at_ => decide (s.clock.now < at_ + 1500 * Config.core)
    | none => false
  flag (pace || decide (s.tx.paceTokens s.clock.now < Config.sec)) +
  2 * flag (decide (8 ≤ n) && decide (0 < s.tagHeld (n % 8))) +
  4 * flag ((w.progI.isSome && !s.imageFree 0) || (w.progE.isSome && !s.imageFree 1) ||
    ((w.progI.isSome || w.progE.isSome) && s.substRuns)) +
  8 * flag (s.sbFe.safe || s.sbTm.safe)

/-- The sub-index of 0x4511 that a versioned table has (R248). -/
def digestSub (table : Nat) : Nat :=
  if table ≤ 0x11 then table - 0x10 + 1
  else if table ≤ 0x23 then table - 0x20 + 3
  else if table ≤ 0x33 then table - 0x30 + 7
  else if table ≤ 0x42 then table - 0x40 + 0x0B
  else table - 0x60 + 0x0E

/-- The digest entries that a transaction changes (R248). -/
def TxWork.digests (w : TxWork) : List Nat :=
  w.writes.map (fun p => digestSub p.table) ++ (if w.progI.isSome then [0x2E] else []) ++
    (if w.progE.isSome then [0x2F] else []) ++ (if w.grats.isEmpty then [] else [0x30])

/-- The unmet conditions noted in the wait bits of the journal record (R233, R246). -/
def State.noteWaits (s : State) (tag wb : Nat) : State :=
  { s with tx := s.tx.modRec tag (fun r => { r with cause := r.cause ||| wb }) }

/-- A commit counted, and each wait that it has met on the way (0x4500:07, :09 to :0B). -/
def State.countCommit (s : State) (waits : Nat) : State :=
  let s := s.bump 0x4500 7
  let s := if bit waits 1 then s.bump 0x4500 9 else s
  let s := if bit waits 2 then s.bump 0x4500 0x0A else s
  if bit waits 0 then s.bump 0x4500 0x0B else s

/-- The graticule changes of a transaction committed, port by port (R245, R355, R357). -/
def State.commitGrats (s : State) (w : TxWork) (n : Nat) : State :=
  (List.range 128).foldl (fun s port =>
    match s.gates.changeOf w.grats port n s.time80 with
    | some c => s.commitChange c
    | none => s) s

/-- The entries of a line that its newest versions hold valid. -/
def Tables.lineEntries (t : Tables) (table line : Nat) : List Nat :=
  ((verKeys t.back table).filter (fun k => t.lineOf table k == line)).filter (fun k =>
    match t.back.find? (fun v => v.table == table && v.key == k) with
    | some v => bit v.data (8 * entryBytes table - 1)
    | none => false)

/-- An entry rewritten by a transaction: the poison of its line is lifted once every entry that the line holds has been
(R208). -/
def Tables.clearPoison (t : Tables) (table key : Nat) : Tables :=
  let line := t.lineOf table key
  match t.lineAt table line with
  | none => t
  | some l =>
    if ¬ l.poisoned then t
    else
      let done := key :: l.rewritten
      if (t.lineEntries table line).all done.contains then t.setLine table line false false
      else { t with lines := t.lines.map (fun x => if x.table == table && x.line == line then { x with rewritten := done } else x) }

/-- The buckets of the classification tables after a commit (R707): rules that no live version makes valid leave theirs,
rules that it makes valid are placed in the order of their writes. -/
def State.settlePlaces (s : State) (w : TxWork) : State :=
  let live (table slot : Nat) : Bool :=
    s.liveCommits.any (fun c => bit (ruleField (verAt s.tables.vers table slot c) 0 1) 7)
  let s := (s.tables.places.filter (fun p => !live p.table p.slot)).foldl State.unplaceRule s
  (w.writes.reverse.filter (fun p => tableKind p.table == 4 && bit (ruleField p.data 0 1) 7)).foldl
    (fun s p => s.placeRule p.table p.key) s

/-- The commit of a transaction whose waits have ended (R205, R234, R237, R243): backing copies, digest, journal, then the
switch; only then is it counted and reported. -/
def State.commitWork (s : State) (w : TxWork) : State :=
  let n := s.tx.commit + 1
  let (shadow, who, waits) := match s.tx.rec_ w.tag with
    | some r => (r.shadow, r.requester, r.cause)
    | none => (0, 0, 0)
  let delay := (s.clock.now - w.kat) / Config.ns
  let newVers : List Ver := w.writes.map (fun p => Ver.mk p.table p.key n p.data)
  let newProgs : List Prog := (w.progI.map (fun b => Prog.mk 0 n b)).toList ++ (w.progE.map (fun b => Prog.mk 1 n b)).toList
  let t := s.tx
  let t := { t with digest := w.digests.foldl (fun m i => nset m i n 0) t.digest }
  let t := t.modRec w.tag (fun r => { r with commit := n, ctime := s.time80, state := 3 })
  let t := { t with
    work := dropFirst (fun x => x.tag == w.tag) t.work
    commit := n
    held := (n, shadow) :: t.held
    progs := newProgs ++ t.progs
    lastCommit := some s.clock.now
    paceTok := t.paceTokens s.clock.now - Config.sec
    paceAt := s.clock.now
    longest := max t.longest (min (2 ^ 32 - 1) delay) }
  let tb := (w.writes.foldl (fun t p => t.clearPoison p.table p.key) s.tables).writeBack newVers
  let s := { s with tx := t, tables := { tb with vers := newVers ++ tb.vers } }
  ((((s.settlePlaces w).commitGrats w n).countCommit waits).msix 1).mirrorWork w who n

/-- COMMIT: the first STAGED transaction in keystone order commits, or its unmet conditions are noted, the sideband's safe
value among them (R14, R232, R233); a mirrored one waits for its marker (R487). -/
def State.commitNext (s : State) : State :=
  match s.tx.staged with
  | [] => s
  | w :: _ =>
    if s.pair.mirrored.contains w.tag then s
    else
      let wb := s.waitBits w
      if wb = 0 then s.commitWork w else s.noteWaits w.tag wb

/-- Transactions that a device state ends (R224): OPEN ones in SYNC, HANDOVER and HALT, STAGED ones in HALT; mirrored ones
go on in SYNC (R495). -/
def State.endByState (s : State) : State :=
  let ends (w : TxWork) : Bool :=
    match s.dev.st with
    | .sync => w.kseq == 0 && !s.pair.mirrored.contains w.tag
    | .handover => w.kseq == 0
    | .halt => true
    | _ => false
  (s.tx.work.filter ends).foldl (fun s w => s.abandon w.tag 6 0) s

/-- An OPEN transaction with no record for the idle timeout of 0x4500:06 (R224). -/
def State.txIdle (s : State) (tag : Nat) : State :=
  match s.tx.workOf tag with
  | some w =>
    if w.kseq = 0 ∧ w.last + s.obj 0x4500 6 * Config.sec ≤ s.clock.now then s.abandon tag 4 0 else s
  | none => s

/-- The first record held off for slots, tried again (R229): what became of it, with the request it came in. -/
def State.resumeWait (s : State) : State × Option (WaitRec × TxAns) :=
  match s.tx.waits with
  | [] => (s, none)
  | x :: r =>
    let (s', a) := s.txRecord x.requester x.bytes
    match a with
    | .wait => (s, none)
    | a => ({ s' with tx := { s'.tx with waits := r } }, some (x, a))

/-- What a warm reset does to transactions (R249). -/
def State.txWarm (s : State) : State :=
  let s := s.tx.work.foldl (fun s w => s.abandon w.tag 5 0) s
  let progs := s.tx.progs.filter (fun p => s.tx.progOf p.dir s.tx.commit == some p)
  { s with tx := { s.tx with waits := [], held := [], progs := progs } }

end Sys2Proof.Machine
end

