-- ==== Sys2Proof/Machine/Pair.lean ====
section
/-! DEFINITION. The redundancy pair (R470 to R497): claim cells, pair states, takeover and handover, the mirror, transfer
items and resynchronisation. The layout of what image blocks and journal blocks carry is the model's own (log entry 25). -/

namespace Sys2Proof.Machine

/-! ### Claims (R471 to R475) -/

/-- The pair record changed. -/
def State.setPair (s : State) (p : Pair) : State := { s with pair := p }

/-- The partner's unit (0x6800:02). -/
def State.partner (s : State) : Nat := s.obj 0x6800 2

/-- The partner is lost, or has never been heard (R476). -/
def State.partnerLost (s : State) : Bool := s.pair.partnerSt == .unpaired

/-- Every line port whose mode is not disabled is up. -/
def State.portsUp (s : State) : Bool :=
  (List.range 128).all (fun p => s.obj (0x3000 + p) 1 == 0 || s.linkUp p)

/-- A STANDBY member is current and its partner asks for a handover (R480). -/
def State.handoverReady (s : State) : Bool :=
  s.pair.st == .standby && bit s.pair.pFlags 1 && !s.pair.incomplete && s.tx.commit == s.pair.pCommit &&
    s.pair.mirrored.isEmpty && s.portsUp

/-- The flags of a claim cell (R472). -/
def State.claimFlags (s : State) : Nat :=
  flag s.pair.lostFlag + 2 * flag s.pair.request + 4 * flag s.handoverReady + 8 * flag s.pair.released +
    16 * flag s.pair.incomplete

/-- The parts of a claim cell at whose change it is sent at once: claim, pair state, flags (R473). -/
def State.claimHead (s : State) : List Byte :=
  [byteOf s.claimNo, byteOf s.pair.st.code, byteOf s.claimFlags]

/-- The payload of a claim cell (R472). -/
def State.claimPayload (s : State) (seq : Nat) : List Byte :=
  [byteOf s.claimNo, byteOf s.pair.st.code, byteOf s.dev.st.code, byteOf s.claimFlags] ++ beBytes 2 s.unit ++
    beBytes 2 seq ++ beBytes 8 s.tx.commit ++ beBytes 4 s.pair.got ++ zeros 236

/-- Claim cells are sent: the part is paired, not in HALT, and its sideband does not stand at its safe value (R474). -/
def State.claimsRun (s : State) : Bool :=
  s.pair.st != .unpaired && s.dev.st != .halt && s.dev.st != .boot && !s.sbFe.safe && !s.sbTm.safe && !s.faults.haltTm &&
    !s.faults.haltFe

/-- A claim cell given to both pairing lanes (R473). -/
def State.sendClaim (s : State) : State :=
  let q := (s.pair.seq + 1) % 65536
  let c := transferWord 1 0 false false s.partner s.unit s.claimNo 0 0 ++ s.claimPayload q
  s.setPair { s.pair with
    seq := q
    lastCell := s.claimHead
    claimOut := s.pair.claimOut ++ [(0, c), (1, c)] }

/-- The claim cell at each multiple of 256 CORE cycles (R473), and at no other cycle. -/
def State.claimTick (s : State) : State :=
  let n := s.coreCycle / 256
  if ¬ s.claimsRun ∨ s.coreCycle % 256 ≠ 0 ∨ n = s.pair.lastTick then s
  else
    let s := s.sendClaim
    s.setPair { s.pair with lastTick := n }

/-- The claim cell that a change of claim, pair state or flags calls for (R473). -/
def State.claimSync (s : State) : State :=
  if s.claimsRun ∧ s.claimHead ≠ s.pair.lastCell then s.sendClaim else s

/-- FC-16, once for a kind in each second (R497). -/
def State.pairNote (s : State) (kind level sub : Nat) : State :=
  let s := if sub = 0 then s else s.bump 0x6800 sub
  let (first, s) := s.firstInSecond (0x497000 + kind)
  if first then s.raise { cls := 16, level := level, object := s.partner, value := kind, ctrIdx := if sub = 0 then 0 else 0x6800,
                          ctrSub := sub } else s

/-- FC-16 at level F1. -/
def State.pairEvent (s : State) (value sub : Nat) : State :=
  s.raise { cls := 16, level := 1, object := s.partner, value := value, ctrIdx := if sub = 0 then 0 else 0x6800, ctrSub := sub }

/-! ### Transitions (R479, R482, R483, R490) -/

/-- The resynchronisation of a member that enters SYNC, by what its journal slot works on. -/
def resyncArg : Nat := 1

/-- The journal slot of the running resynchronisation. -/
def State.resyncSlot (s : State) : Option Nat := s.openOp 0x6800 0xB resyncArg

/-- Mirrored transactions whose marker has not arrived abandoned with cause 0x06 (R490). -/
def State.dropMirrored (s : State) : State :=
  let s := s.pair.mirrored.foldl (fun s t => if (s.tx.workOf t).isSome then s.abandon t 6 0 else s) s
  s.setPair { s.pair with mirrored := [] }

/-- The highest rank of the partner's valid claims of the last 6 ms, or 1 (R482). -/
def State.highRank (s : State) : Nat :=
  max 1 (maxOf (fun e => if s.clock.now < e.1 + 6 * Config.ms then e.2 / 16 else 0) s.pair.recent)

/-- A takeover (R482, R490): rank H + 1, at most 15; a set released flag stands until the partner's ACTIVE claim (R479). -/
def State.takeover (s : State) : State :=
  let h := s.highRank
  let s := s.dropMirrored
  let s := s.setPair { s.pair with
    st := .active, rank := min 15 (h + 1), request := false, syncEnd := none, items := [], itemOut := [] }
  let s := s.bump 0x6800 0xE
  if 15 < h + 1 then (s.bump 0x6800 0x14).pairEvent 15 0x14 else s

/-- The member enters SYNC: rank 1, a resynchronisation owed, mirrored work ended with the device state (R224, R479). -/
def State.enterSync (s : State) : State :=
  let s := s.dropMirrored
  (s.setPair { s.pair with
    st := .sync, rank := 1, request := false, syncEnd := none, syncOp := none, syncMark := [], syncMoved := false, items := [], itemOut := [] }).bump
    0x6800 0x11

/-- The resynchronisation ended FAILED, the member ISOLATED and incomplete (R479). -/
def State.syncFail (s : State) : State :=
  let s := match s.resyncSlot with
    | some i => s.endOp i 3 0
    | none => s
  let s := s.dropMirrored
  s.setPair { s.pair with st := .isolated, rank := 1, incomplete := true, syncEnd := none, syncOp := none }

/-- The member enters ISOLATED from STANDBY. -/
def State.isolate (s : State) : State :=
  let s := s.dropMirrored
  s.setPair { s.pair with st := .isolated, rank := 1 }

/-- Divergence of a standby (R489); in SYNC what would be one is a transfer that has failed (R479). -/
def State.diverge (s : State) : State :=
  if s.pair.st = .sync then s.syncFail else (s.pairNote 6 1 0x13).enterSync

/-- Steps of a resynchronisation completed up to the `n`-th, with the progress mark of the last (R70, R494). -/
def State.stepsTo (s : State) (i n : Nat) (mark : List Byte) : State :=
  if n ≤ (s.slot i).steps then s
  else
    let s := s.stepDone i mark
    s.setSlot i { s.slot i with steps := n }

/-- The resynchronisation that the stay in SYNC started is open no more, without a sync end (R479, R555). -/
def State.syncBroken (s : State) : Bool :=
  match s.pair.syncOp with
  | some h => match s.resyncSlot with
    | some i => (s.slot i).handle != h
    | none => true
  | none => false

/-- Sync end has arrived and the commit number is the one it carries: STANDBY, incomplete cleared, operation DONE with its 157
steps (R479, R494, R495). An operation that was interrupted has failed: ISOLATED. -/
def State.syncCheck (s : State) : State :=
  if s.pair.st ≠ .sync then s
  else if s.pair.syncEnd = some s.tx.commit then
    let s := match s.resyncSlot with
      | some i => (s.stepsTo i 157 (leBytes 2 0xFFFF ++ zeros 6 ++ leBytes 4 s.pair.got)).endOp i 2 0
      | none => s
    s.setPair { s.pair with st := .standby, incomplete := false, syncEnd := none, syncOp := none }
  else if s.syncBroken then s.syncFail
  else s

/-- The pair moves only from the START of the part (R657). -/
def State.pairRuns (s : State) : Bool := s.dev.st.inService

/-! ### Serving a resynchronisation (R494) -/

/-- Octets cut into pieces of `n`; `fuel` bounds them. -/
def pieces (n : Nat) : Nat → List Byte → List (List Byte)
  | 0, _ => []
  | fuel + 1, l => if l.isEmpty then [] else l.take n :: pieces n fuel (l.drop n)

/-- The pieces of a program object: direction, commit number, offset, total length, bytes. -/
def progPieces (p : Prog) : List (List Byte) :=
  ((pieces 200 (p.data.length / 200 + 1) p.data).zipIdx).map (fun x =>
    [4, byteOf p.dir] ++ beBytes 8 p.commit ++ beBytes 4 (200 * x.2) ++ beBytes 4 p.data.length ++ x.1)

/-- The pieces of a graticule: its head, then its entries. -/
def gratPieces (port which x : Nat) (enable : Bool) (g : Grat) : List (List Byte) :=
  let head := [5, byteOf port, byteOf which, byteOf g.gated, byteOf g.allow, byteOf (flag enable)] ++ beBytes 10 g.base ++
    beBytes 8 g.commit ++ beBytes 16 x
  let es := g.entries.flatMap (fun e => [byteOf e.1] ++ beBytes 4 e.2)
  head :: (pieces 200 (es.length / 200 + 1) es).map (fun b => [6, byteOf port, byteOf which] ++ b)

/-- The newest committed version of each entry. -/
def newestVers (l : List Ver) : List Ver :=
  l.filter (fun v => !l.any (fun w => w.table == v.table && w.key == v.key && decide (v.commit < w.commit)))

/-- The journal section: commit number, journal ring, digest, programs, graticules. -/
def State.journalSection (s : State) : List (List Byte) :=
  let old := s.oldestLive
  let progs := [0, 1].filterMap (fun d => (s.tx.progs.filter (fun p => p.dir == d)).head?)
  [[1] ++ beBytes 8 s.tx.commit] ++
  (s.tx.journal.reverse.map (fun r => [2] ++ r.bytes old)) ++
  s.tx.digest.map (fun e => [3, byteOf e.1] ++ beBytes 8 e.2) ++
  progs.flatMap progPieces ++
  s.gates.inForce.flatMap (fun x => gratPieces x.1 0 0 true x.2) ++
  s.gates.pending.flatMap (fun c => gratPieces c.port 1 c.x c.enable c.grat)

/-- One line of a table image: entry, epoch stamp, contents. -/
def linePiece (v : Ver) : List Byte := beBytes 40 v.key ++ beBytes 8 v.commit ++ beBytes 176 v.data

/-- The streams' numbers of the last step. -/
def State.streamSection (s : State) : List (List Byte) := s.streams.map (fun x => [9] ++ beBytes 2 x.num ++ beBytes 2 x.next)

/-- Journal blocks sent in turn from an offset in the journal section, each with its own (R491). -/
def State.sendItems (s : State) : Nat → List (List Byte) → State
  | _, [] => s
  | off, b :: r => (s.sendItem 4 off b).sendItems (off + b.length) r

/-- The place of a table's image among the images, in bytes (R494): the central regions, then the tables held only in
stage-local copies. -/
def imageBase (t : Nat) : Nat :=
  if t ≤ 0x11 then 0
  else if t ≤ 0x23 then 40 * 2 ^ 20 + (t - 0x20) * 2 ^ 23
  else if t = 0x31 then 72 * 2 ^ 20
  else if t = 0x40 then 145 * 2 ^ 19
  else if t = 0x42 then 177 * 2 ^ 19
  else if 0x60 ≤ t then 213 * 2 ^ 19
  else 309 * 2 ^ 19 + (if t = 0x30 then 0 else if t = 0x32 then 32 * 2 ^ 10 else if t = 0x33 then 34 * 2 ^ 10 else 162 * 2 ^ 10)

/-- The byte offset of an entry in its table's image (R491): by its index; leaves and classification buckets lie where the part
lays them (log entry 25). -/
def imageOffset (t key : Nat) : Nat :=
  if t ≤ 0x11 then Config.imagePlace t key % (40 * 2 ^ 20)
  else if 0x60 ≤ t then Config.imagePlace t key % (48 * 2 ^ 20)
  else key * entryBytes t

/-- The place of an entry among the images. -/
def imageAt (v : Ver) : Nat := imageBase v.table + imageOffset v.table v.key

/-- The ACTIVE member serves a partner that has entered SYNC: the items begin after the partner's acknowledgement (R494). -/
def State.serveSync (s : State) (ack : Nat) : State :=
  let s := s.setPair { s.pair with items := [], itemOut := [], itemSeq := ack, acked := ack, ackAt := s.clock.now }
  let s := s.sendItems 0 s.journalSection
  let vs := sortBy imageAt (newestVers s.tables.vers)
  let s := vs.foldl (fun s v => s.sendItem 3 (v.table * 2 ^ 48 + imageOffset v.table v.key) (linePiece v)) s
  (s.sendItems (2 ^ 21) s.streamSection).sendItem 5 s.tx.commit []

/-! ### Receiving claim cells (R475, R479, R497) -/

/-- A pair state of its code. -/
def pairStOf (c : Nat) : PairSt :=
  match c with
  | 1 => .active
  | 2 => .standby
  | 3 => .sync
  | 4 => .isolated
  | _ => .unpaired

/-- The fields of a claim cell break R471 or R472. -/
def claimBad (b : List Byte) : Bool :=
  let claim := beAt b 0 1
  let st := beAt b 1 1
  st == 0 || decide (4 < st) || decide (32 ≤ beAt b 3 1) || decide (512 ≤ beAt b 4 2) || decide (claim < 16) ||
    (st == 1) != decide (32 ≤ claim) || claim % 16 == 0 || beAt b 2 1 == 0 || decide (10 < beAt b 2 1) ||
    (b.drop 20).any (· != 0)

/-- The acknowledgement of a claim cell taken (R492). -/
def State.takeAck (s : State) (ack : Nat) : State :=
  let d := (ack + 2 ^ 32 - s.pair.acked) % 2 ^ 32
  if d = 0 ∨ 2 ^ 31 ≤ d then s
  else
    let done (q : Nat) : Bool := decide ((ack + 2 ^ 32 - q) % 2 ^ 32 < 2 ^ 31)
    s.setPair { s.pair with
      acked := ack
      ackAt := s.clock.now
      items := s.pair.items.filter (fun x => !done x.1) }

/-- A valid claim cell noted. -/
def State.noteClaimCell (s : State) (b : List Byte) : State :=
  let now := s.clock.now
  let claim := beAt b 0 1
  let p := s.pair
  (s.setPair { p with
    partnerSt := pairStOf (beAt b 1 1)
    pClaim := claim
    pFlags := beAt b 3 1
    pCommit := beAt b 8 8
    pSeq := some (beAt b 6 2)
    pAt := now
    lostFlag := false
    released := p.released && beAt b 1 1 != 1
    recent := p.recent.filter (fun e => decide (now < e.1 + 6 * Config.ms)) ++ [(now, claim)]
    rankOne := if claim / 16 ≠ 1 then 0 else if p.rankOne = 0 then now + 1 else p.rankOne }).takeAck (beAt b 16 4)

/-- The transition that a valid partner claim makes (R479); `was` is the partner's state before it. -/
def State.onClaim (s : State) (was : PairSt) (ack : Nat) : State :=
  let theirs := s.pair.partnerSt
  let tie := s.pair.pClaim % 16
  let own := s.obj 0x6800 3
  match s.pair.st with
  | .unpaired => s
  | .isolated =>
    if tie = own then s.pairNote 2 1 0x12
    else if ¬ s.pairRuns then s
    else if theirs = .active then s.enterSync
    else if theirs = .isolated ∧ tie < own ∧ ¬ s.pair.incomplete then
      s.setPair { s.pair with st := .active, rank := 2 }
    else s
  | .sync => if theirs = .active then s else s.syncFail
  | .standby => if theirs = .active ∨ s.pair.released then s else s.takeover
  | .active =>
    if theirs = .active ∧ s.claimNo < s.pair.pClaim then (s.pairNote 7 1 0xE).enterSync
    else if s.pair.request ∧ bit s.pair.pFlags 2 then
      (s.setPair { s.pair with st := .standby, rank := 1, released := true, request := false, items := [], itemOut := [] }).bump
        0x6800 0x10
    else if theirs = .sync ∧ was ≠ .sync then s.serveSync ack
    else s

/-- A claim cell received on a pairing lane (R475, R497). -/
def State.claimCell (s : State) (c : List Byte) : State :=
  let b := c.drop 8
  if s.pair.st = .unpaired ∨ c.length < 264 ∨ cellKind c ≠ 1 then s
  else if beAt b 4 2 % 512 ≠ s.partner then s.pairNote 0 1 0x12
  else if claimBad b then s.pairNote 1 0 0x12
  else
    let d := match s.pair.pSeq with
      | some q => (beAt b 6 2 + 65536 - q) % 65536
      | none => 1
    if d = 0 ∨ 32768 ≤ d then s
    else
      let was := s.pair.partnerSt
      (s.noteClaimCell b).onClaim was (beAt b 16 4)

/-- CLAIM_CELL_RECEIVE: the cell given, or the next one that the framer of the lane has delivered. -/
def State.claimReceive (s : State) (lane : Nat) (slot : Option (List Byte)) : State :=
  match slot with
  | some c => s.claimCell c
  | none =>
    match s.pair.claimIn.find? (fun x => x.1 == lane) with
    | some (_, c) =>
      (s.setPair { s.pair with claimIn := dropFirst (fun x => x.1 == lane) s.pair.claimIn }).claimCell c
    | none => s

/-- CLAIM_LOSS (R476, R479). -/
def State.claimLoss (s : State) : State :=
  let p := s.pair
  if p.st = .unpaired ∨ s.partnerLost ∨ s.clock.now < p.pAt + 1184 * Config.core then s
  else
    let s := (s.setPair { p with
      partnerSt := .unpaired, pClaim := 0, pFlags := 0, rankOne := 0, lostAt := s.clock.now }).bump 0x6800 0xF
    match p.st with
    | .standby => if s.obj 0x6800 4 = 0 then s.takeover else s.isolate
    | .sync => s.syncFail
    | .active => (s.setPair { s.pair with lostFlag := true }).pairEvent 0 0xF
    | _ => s

/-- LONE_START_TIMEOUT (R479). -/
def State.loneStart (s : State) : State :=
  if s.pair.st = .isolated ∧ s.partnerLost ∧ s.pairRuns ∧ s.obj 0x6800 4 = 0 ∧ ¬ s.pair.incomplete ∧
      s.pair.lostAt + s.obj 0x6800 5 * Config.ms ≤ s.clock.now then s.takeover
  else s

/-- HANDOVER_TIMEOUT (R479). -/
def State.handoverTimeout (s : State) : State :=
  if s.pair.request ∧ s.pair.requestAt + Config.sec ≤ s.clock.now then
    (s.setPair { s.pair with request := false }).pairEvent 1 0
  else s

/-- RANK_LOWER (R483). -/
def State.rankLower (s : State) : State :=
  if s.pair.st = .active ∧ 2 < s.pair.rank ∧ ¬ s.partnerLost ∧ s.pair.rankOne ≠ 0 ∧
      s.pair.rankOne - 1 + 6 * Config.ms ≤ s.clock.now then s.setPair { s.pair with rank := 2 }
  else s

/-- A command of 0x6800:0B stands in its row of R479. -/
def State.pairCmdOk (s : State) (c : Nat) : Bool :=
  match c with
  | 1 => s.pair.st == .isolated && s.pairRuns && s.pair.partnerSt != .active
  | 2 => s.pair.st == .active && s.pair.partnerSt == .standby
  | 3 => s.pair.st == .standby
  | 4 => s.pair.st == .standby
  | _ => false

/-- A command of 0x6800:0B carried out (R479). -/
def State.pairCmd (s : State) (c : Nat) : State :=
  match c with
  | 1 => s.takeover
  | 2 => s.setPair { s.pair with request := true, requestAt := s.clock.now }
  | 3 => s.enterSync
  | 4 => s.isolate
  | _ => s

/-- The pair as it stands while pairing is disabled. -/
def Pair.none_ : Pair :=
  { st := .unpaired, partnerSt := .unpaired, request := false, requestAt := 0, rank := 0, released := false,
    incomplete := false, lostFlag := false, pClaim := 0, pFlags := 0, pCommit := 0, pSeq := none, pAt := 0, lostAt := 0,
    recent := [], rankOne := 0, seq := 0, lastCell := [], lastTick := 0, claimOut := [], claimIn := [], itemIn := [],
    items := [], itemOut := [], cellOut := [], itemSeq := 0, ackAt := 0, acked := 0, got := 0, mirrored := [],
    syncEnd := none, syncMark := [], syncMoved := false, syncOp := none, data := [] }

/-- Pairing enabled or disabled (R470, R479): ISOLATED with rank 1, or not paired, mirror and transfer stopped. -/
def State.setPairing (s : State) (on : Bool) : State :=
  if on then
    if s.pair.st = .unpaired then
      s.setPair { Pair.none_ with st := .isolated, rank := 1, lostAt := s.clock.now, incomplete := s.pair.incomplete,
                                  data := s.pair.data, cellOut := s.pair.cellOut }
    else s
  else
    let s := s.dropMirrored
    s.setPair { Pair.none_ with incomplete := s.pair.incomplete, data := s.pair.data, cellOut := s.pair.cellOut }

/-! ### Transfer items (R487 to R495) -/

/-- A journal record of its 64 octets (R246). -/
def jrecOf (b : List Byte) : JRec :=
  ⟨leAt b 0 4, leAt b 4 1, leAt b 5 1, leAt b 6 1, leAt b 7 1, leAt b 8 2, leAt b 12 4, leAt b 16 4, leAt b 20 4,
    leAt b 24 8, leAt b 32 10, leAt b 42 10⟩

/-- The graticule of a port among those in force or pending changed. -/
def Gates.modify (g : Gates) (port which : Nat) (f : Grat → Grat) : Gates :=
  if which = 0 then { g with inForce := modFirst (fun x => x.1 == port) (fun x => (x.1, f x.2)) g.inForce }
  else { g with pending := modFirst (fun c => c.port == port) (fun c => { c with grat := f c.grat }) g.pending }

/-- Entries of five octets each: mask and duration. -/
def gratEntries (b : List Byte) : List (Nat × Nat) :=
  (List.range (b.length / 5)).map (fun i => (beAt b (5 * i) 1, beAt b (5 * i + 1) 4))

/-- One piece of the journal section, or of the streams' numbers, taken (R494). -/
def State.journalPiece (s : State) (b : List Byte) : State :=
  match beAt b 0 1 with
  | 1 =>
    { s with tx := { s.tx with commit := beAt b 1 8, journal := [], digest := [] }
             gates := { s.gates with inForce := [], pending := [] } }
  | 2 => { s with tx := { s.tx with journal := (jrecOf (b.drop 1) :: s.tx.journal).take 256 } }
  | 3 => { s with tx := { s.tx with digest := nset s.tx.digest (beAt b 1 1) (beAt b 2 8) 0 } }
  | 4 =>
    let d := beAt b 1 1
    let n := beAt b 2 8
    let data := b.drop 18
    let mine (p : Prog) : Bool := p.dir == d && p.commit == n
    if beAt b 10 4 = 0 then { s with tx := { s.tx with progs := Prog.mk d n data :: s.tx.progs.filter (fun p => !mine p) } }
    else { s with tx := { s.tx with progs := modFirst mine (fun p => { p with data := p.data ++ data }) s.tx.progs } }
  | 5 =>
    let port := beAt b 1 1
    let g : Grat := ⟨beAt b 3 1, [], beAt b 4 1, beAt b 6 10, beAt b 16 8⟩
    if beAt b 2 1 = 0 then { s with gates := { s.gates with inForce := s.gates.inForce ++ [(port, g)] } }
    else { s with gates := { s.gates with
             pending := s.gates.pending ++ [GratChange.mk port (beAt b 24 16) (beAt b 5 1 == 1) g] } }
  | 6 =>
    { s with gates := s.gates.modify (beAt b 1 1) (beAt b 2 1) (fun g =>
        { g with entries := g.entries ++ gratEntries (b.drop 3) }) }
  | 9 => s.setStream { s.stream (beAt b 1 2) with next := beAt b 3 2 }
  | _ => s

/-- A copied line, written only when its epoch stamp is no lower than that of the line held (R495). -/
def State.imagePiece (s : State) (table : Nat) (b : List Byte) : State :=
  let v : Ver := ⟨table, beAt b 0 40, beAt b 40 8, beAt b 48 176⟩
  let held := s.tables.vers.filter (fun w => w.table == v.table && w.key == v.key)
  if held.any (fun w => decide (v.commit < w.commit)) then s
  else
    let rest := s.tables.vers.filter (fun w => !(w.table == v.table && w.key == v.key && decide (w.commit = v.commit)))
    let s := { s with tables := { s.tables with vers := v :: rest }.writeBack [v] }
    if tableKind v.table = 4 ∧ bit (ruleField v.data 0 1) 7 then s.placeRule v.table v.key else s

/-- The number that a marker must carry: the own current commit number plus 1 (R489). -/
def State.nextMarker (s : State) : Nat := s.tx.commit + 1

/-- A mirrored transaction whose marker has come waits to commit: the next marker is taken once it has (log entry 162). -/
def State.markerWaits (s : State) : Bool := s.tx.staged.any (fun w => !s.pair.mirrored.contains w.tag)

/-- A mirrored record (R487, R489): laid, a refusal is divergence; none when it waits for shadow slots. -/
def State.mirrorItem (s : State) (arg : Nat) (data : List Byte) : Option State :=
  let tag := arg % 2 ^ 32
  let s := if beAt data 0 1 = 1 then s.setPair { s.pair with mirrored := s.pair.mirrored ++ [tag] } else s
  match s.txMirror (arg / 2 ^ 32 % 65536) data with
  | (s, .done) => some s
  | (_, .wait) => none
  | (s, .abort _) => some s.diverge

/-- A commit marker (R487, R489): the mirrored transaction commits under its number, or the member diverges. -/
def State.markerItem (s : State) (n : Nat) : State :=
  match s.pair.mirrored with
  | [] => s.diverge
  | tag :: r =>
    if n ≠ s.nextMarker ∨ (s.tx.staged.all (fun w => w.tag != tag)) then s.diverge
    else (s.setPair { s.pair with mirrored := r }).commitNext

/-- A transfer item in sequence carried out; none when it must be sent again. -/
def State.takeItem (s : State) (b : List Byte) : Option State :=
  let arg := beAt b 8 8
  let data := (b.drop 16).take (min 240 (beAt b 2 2))
  match beAt b 0 1 with
  | 1 => s.mirrorItem arg (bytesAt data 0 192)
  | 2 => if s.markerWaits then none else some (s.markerItem arg)
  | 3 => some (if s.pair.st = .sync then s.imagePiece (arg / 2 ^ 48) data else s)
  | 4 => some (if s.pair.st = .sync then s.journalPiece data else s)
  | 5 => some (if s.pair.st = .sync then s.setPair { s.pair with syncEnd := some arg } else s)
  | _ => some s

/-- The progress mark of a resynchronisation after an item: table or 0xFFFF, offset, item sequence. -/
def syncMark (b : List Byte) (q : Nat) : List Byte :=
  let arg := beAt b 8 8
  let t := if beAt b 0 1 = 3 then arg / 2 ^ 48 else 0xFFFF
  leBytes 2 t ++ leBytes 6 (arg % 2 ^ 48) ++ leBytes 4 q

/-- The position of a resynchronisation after an item, kept until the step that the item belongs to ends: the journal
slot itself is rewritten only then (R70). -/
def State.markSync (s : State) (b : List Byte) (q : Nat) : State :=
  if beAt b 0 1 < 3 ∨ s.pair.st ≠ .sync then s else s.setPair { s.pair with syncMark := syncMark b q, syncMoved := true }

/-- The steps that the items up to a progress mark complete (R494): the first with the journal section, then one for each MiB
of the images, the last with the sync end. -/
def syncSteps (mark : List Byte) : Nat :=
  if leAt mark 0 2 = 0xFFFF then (if leAt mark 2 6 < 2 ^ 21 then 0 else 156)
  else 1 + (imageBase (leAt mark 0 2) + leAt mark 2 6) / 2 ^ 20

/-- Steps of a resynchronisation end: those that the items taken since complete, the mark the position after the last of them
(R70, R494). The last of the 157 steps ends with the sync end. -/
def State.resyncStep (s : State) (i : Nat) : State :=
  if s.pair.syncMoved ∧ (s.slot i).steps < syncSteps s.pair.syncMark then
    (s.stepsTo i (syncSteps s.pair.syncMark) s.pair.syncMark).setPair { s.pair with syncMoved := false }
  else s

/-- A transfer cell (R491, R492, R497). -/
def State.itemCell (s : State) (c : List Byte) : State :=
  let b := c.drop 8
  if s.pair.st = .unpaired then s
  else if ¬ s.pairTakesNone then s.pairNote 3 0 0x12
  else
    let q := beAt b 4 4
    if q ≠ (s.pair.got + 1) % 2 ^ 32 then s
    else match s.takeItem b with
    | none => s
    | some s => ((s.setPair { s.pair with got := q }).markSync b q).syncCheck

/-- TRANSFER_ITEM_RECEIVE: the cell given, or the next one that the slip buffer of the lane has delivered. -/
def State.itemReceive (s : State) (lane : Nat) (slot : Option (List Byte)) : State :=
  match slot with
  | some c => s.itemCell c
  | none =>
    match s.pair.itemIn.find? (fun x => x.1 == lane) with
    | some (_, c) =>
      (s.setPair { s.pair with itemIn := dropFirst (fun x => x.1 == lane) s.pair.itemIn }).itemCell c
    | none => s

/-- TRANSFER_RESEND (R492): the acknowledgement has not advanced for 4 claim periods while items are outstanding. -/
def State.itemResend (s : State) : State :=
  if s.pair.items.isEmpty ∨ s.clock.now < s.pair.ackAt + 1024 * Config.core then s
  else s.setPair { s.pair with itemOut := s.pair.items.map (·.2), ackAt := s.clock.now }

/-- RESYNCHRONISATION (R494): a member in SYNC starts its stepped operation of 157 steps, once a slot is free. -/
def State.resyncStart (s : State) : State :=
  if s.pair.st ≠ .sync ∨ s.resyncSlot.isSome then s
  else
    let (h, s) := s.startOp true 0x6800 0xB selfId 157 resyncArg
    s.setPair { s.pair with syncOp := h }

/-- The device state that a pair state sets (R481); `degraded` is the degraded mark. -/
def State.pairDev (s : State) (degraded : Bool) : DevState :=
  match s.pair.st with
  | .unpaired => if degraded then .degraded else .run
  | .active => if s.pair.request then .handover else if degraded then .degraded else .run
  | .standby => .standby
  | .isolated => .standby
  | .sync => .sync

/-- The part holds transmit permission as 0x6800:0A reads it (R477). -/
def State.permission (s : State) : Bool :=
  s.pair.st == .unpaired || (s.pair.st == .active && decide (s.pair.pClaim < s.claimNo))

end Sys2Proof.Machine
end

