-- ==== Sys2Proof/Machine/Crypto.lean ====
section
/-! DEFINITION. SHA-384 and the ECDSA P-384 verification of R608 and R611, the curve test of R613, and the AES-256-GCM of
R610. -/

namespace Sys2Proof.Machine

/-- SHA-384, as the cartouche digest and signature use it (R608): its chaining value starts from the square roots of
the ninth to the sixteenth prime, and its digest leaves out the last two words. -/
def sha384 (m : List Byte) : List Byte :=
  let k : ShaKind := ⟨8, 80, (1, 8, 7), (19, 61, 6), (28, 34, 39), (14, 18, 41)⟩
  (k.digest (((smallPrimes.drop 8).take 8).map (rootBits 2 64)) m).take 48

/-- The field prime of the curve P-384. -/
def p384p : Nat := 2 ^ 384 - 2 ^ 128 - 2 ^ 96 + 2 ^ 32 - 1
/-- The curve coefficient b of P-384 (a is -3). -/
def p384b : Nat := 0xb3312fa7e23ee7e4988e056be3f82d19181d9c6efe8141120314088f5013875ac656398d8a2ed19d2a85c8edd3ec2aef
/-- The group order of P-384. -/
def p384n : Nat := 0xffffffffffffffffffffffffffffffffffffffffffffffffc7634d81f4372ddf581a0db248b0a77aecec196accc52973
/-- The base point of P-384. -/
def p384G : Option (Nat × Nat) := some
  (0xaa87ca22be8b05378eb1c71ef320ad746e1d3b628ba79b9859f741e082542a385502f25dbf55296c3a545e3872760ab7,
   0x3617de4a96262c6f5d9e98bf9292dc29f8f41dbd289a147ce9da3113b5f0b8c00a60b1ce1d7e819d7a431d7c90ea0e5f)

/-- `a ^ e mod m` by squaring, over at most `fuel` bits of the exponent. -/
def powMod (m : Nat) : Nat → Nat → Nat → Nat
  | 0, _, _ => 1
  | fuel + 1, a, e => (if e % 2 = 1 then a else 1) * powMod m fuel (a * a % m) (e / 2) % m

/-- The inverse modulo a prime. -/
def invMod (m a : Nat) : Nat := powMod m 400 (a % m) (m - 2)

/-- Whether (x, y) lies on the curve P-384. -/
def onP384 (x y : Nat) : Bool :=
  x < p384p && y < p384p && (y * y % p384p == (x * x * x + (p384p - 3) * x + p384b) % p384p)

/-- Point addition on P-384; none is the neutral point. -/
def p384Add : Option (Nat × Nat) → Option (Nat × Nat) → Option (Nat × Nat)
  | none, q => q
  | p, none => p
  | some (x1, y1), some (x2, y2) =>
    let m := p384p
    if x1 = x2 ∧ (y1 + y2) % m = 0 then none
    else
      let l := if x1 = x2 then (3 * x1 * x1 + (m - 3)) * invMod m (2 * y1) % m
               else (y2 + m - y1) * invMod m (x2 + m - x1) % m
      let x3 := (l * l + 2 * m - x1 - x2) % m
      some (x3, (l * (x1 + m - x3) + m - y1) % m)

/-- `k` times a point. -/
def p384Mul : Nat → Nat → Option (Nat × Nat) → Option (Nat × Nat)
  | 0, _, _ => none
  | fuel + 1, k, p =>
    let r := p384Mul fuel (k / 2) (p384Add p p)
    if k % 2 = 1 then p384Add p r else r

/-- ECDSA over P-384 with SHA-384: key 0x04 ‖ x ‖ y, signature r ‖ s. -/
def ecdsaOk (key msg sig : List Byte) : Bool :=
  let x := beAt key 1 48
  let y := beAt key 49 48
  let r := beAt sig 0 48
  let s := beAt sig 48 48
  if key.head? = some 0x04 ∧ onP384 x y ∧ 0 < r ∧ r < p384n ∧ 0 < s ∧ s < p384n then
    let e := beNat (sha384 msg)
    let w := invMod p384n s
    match p384Add (p384Mul 384 (e * w % p384n) p384G) (p384Mul 384 (r * w % p384n) (some (x, y))) with
    | some (x1, _) => x1 % p384n == r
    | none => false
  else false

/-! ### AES-256 and its Galois/Counter Mode (R610) -/

/-- An element of the field of 256 elements times x. -/
def gfDouble (a : Nat) : Nat := if a < 128 then 2 * a else (2 * a) ^^^ 0x11B

/-- A product in the field of 256 elements: one bit of `b` after the other, from the lowest. -/
def gfMul : Nat → Nat → Nat → Nat
  | 0, _, _ => 0
  | fuel + 1, a, b => (if b % 2 = 1 then a else 0) ^^^ gfMul fuel (gfDouble a) (b / 2)

/-- The power 254 of an element, its inverse: the product of its powers 2, 4, up to 128. -/
def gfInverse (a : Nat) : Nat :=
  ((List.range 7).foldl (fun (x : Nat × Nat) _ =>
    let sq := gfMul 8 x.1 x.1
    (sq, gfMul 8 x.2 sq)) (a, 1)).2

/-- The substitution of AES: the inverse, then the affine map, which adds four rotations of it. -/
def aesSub : List Nat := (List.range 256).map (fun a =>
  let i := gfInverse a
  ([1, 2, 3, 4].map (fun r => i * 2 ^ r % 256 + i / 2 ^ (8 - r))).foldl Nat.xor i ^^^ 0x63)

/-- Octet by octet sum of two strings. -/
def xorOctets (a b : List Nat) : List Nat := List.zipWith Nat.xor a b

/-- The words of the key schedule, newest first, each of four octets, from those of the key: word `n` is the word eight
places before it plus the last word, which every eighth place turns and substitutes and the place halfway substitutes. -/
def aesSchedule (key : List Nat) : List (List Nat) :=
  let sub (w : List Nat) : List Nat := w.map (fun b => aesSub.getD b 0)
  let start := ((List.range 8).map (fun i => (key.drop (4 * i)).take 4)).reverse
  (List.range 52).foldl (fun ws i =>
    let last := ws.getD 0 []
    let f := if i % 8 = 0 then xorOctets (sub (last.drop 1 ++ last.take 1)) [2 ^ (i / 8), 0, 0, 0]
      else if i % 8 = 4 then sub last else last
    xorOctets (ws.getD 7 []) f :: ws) start

/-- A column of the state mixed. -/
def aesMix (c : List Nat) : List Nat :=
  (List.range 4).map (fun i =>
    let g (k : Nat) : Nat := c.getD ((i + k) % 4) 0
    gfMul 8 (g 0) 2 ^^^ gfMul 8 (g 1) 3 ^^^ g 2 ^^^ g 3)

/-- AES-256 of a block of 16 octets under the round keys, each of 16 octets, first to last. -/
def aesBlock (keys : List (List Nat)) (block : List Nat) : List Nat :=
  let shift (s : List Nat) : List Nat :=
    (List.range 16).map (fun i => aesSub.getD (s.getD ((i + 4 * (i % 4)) % 16) 0) 0)
  let mix (s : List Nat) : List Nat := (List.range 4).flatMap (fun c => aesMix ((s.drop (4 * c)).take 4))
  let s := ((keys.drop 1).take 13).foldl (fun s k => xorOctets (mix (shift s)) k) (xorOctets block (keys.getD 0 []))
  xorOctets (shift s) (keys.getD 14 [])

/-- The 15 round keys of a key. -/
def aesKeys (key : List Byte) : List (List Nat) :=
  let ws := (aesSchedule ((bytesAt key 0 32).map (·.toNat))).reverse
  (List.range 15).map (fun r => ((ws.drop (4 * r)).take 4).flatten)

/-- AES-256 of a block as a number, most significant octet first. -/
def aesNat (keys : List (List Nat)) (x : Nat) : Nat :=
  beNat ((aesBlock keys ((beBytes 16 x).map (·.toNat))).map byteOf)

/-- A product in the field of 2^128 elements as GCM writes it, its lowest power first: over the bits of `x` from the
highest of the 128. -/
def ghashMul (x y : Nat) : Nat :=
  ((List.range 128).foldl (fun (a : Nat × Nat) i =>
    (if x.testBit (127 - i) then a.1 ^^^ a.2 else a.1,
      if a.2 % 2 = 1 then a.2 / 2 ^^^ 0xE1 * 2 ^ 120 else a.2 / 2)) (0, y)).1

/-- A string cut into blocks of 16 octets as numbers, the last one filled with zeros. -/
def gcmBlocks (b : List Byte) : List Nat :=
  (List.range ((b.length + 15) / 16)).map (fun i => beNat (bytesAt b (16 * i) 16))

/-- The tag of GCM over additional data and ciphertext. -/
def gcmTag (keys : List (List Nat)) (nonce aad c : List Byte) : Nat :=
  let h := aesNat keys 0
  let lens := aad.length * 8 * 2 ^ 64 + c.length * 8
  (gcmBlocks aad ++ gcmBlocks c ++ [lens]).foldl (fun a b => ghashMul (a ^^^ b) h) 0 ^^^ aesNat keys (beNat nonce * 2 ^ 32 + 1)

/-- AES-256-GCM opened: the plaintext, when the tag is that of the data (R610). The counter of the first block is 2. -/
def gcmOpen (key nonce aad c tag : List Byte) : Option (List Byte) :=
  let keys := aesKeys key
  if beNat tag = gcmTag keys nonce aad c then
    some (((List.range ((c.length + 15) / 16)).flatMap (fun i =>
      beBytes 16 (beNat (bytesAt c (16 * i) 16) ^^^ aesNat keys (beNat nonce * 2 ^ 32 + (i + 2) % 2 ^ 32)))).take c.length)
  else none

end Sys2Proof.Machine
end

