-- ==== Sys2Proof/Machine/Record.lean ====
section
/-! DEFINITION. The change record (R77) and the copies of the device record in flash (R644, R645). -/

namespace Sys2Proof.Machine

/-- The octets of an object's value, as wide as its row says. -/
def objBytes (idx sub v : Nat) : List Byte := leBytes (((objDesc idx sub).map (·.len)).getD 4) v

/-- A value in the 14 octets of a change record entry: padded, shortened (flag [0]), or its digest (flag [2]). -/
def entryField (wo : Bool) (v : List Byte) : List Byte :=
  if wo then (sha256 v).take 14
  else if v.length ≤ 14 then v ++ zeros (14 - v.length)
  else v.take 6 ++ (sha256 v).take 8

/-- The flags of a change record entry. -/
def entryFlags (wo counted : Bool) (old new : List Byte) : Nat :=
  (if wo then 4 else flag (decide (14 < max old.length new.length))) + (if counted then 2 else 0)

/-- The 64 octets of a change record entry (R77). -/
def changeEntry (num : Nat) (time : Time80) (requester role label idx sub : Nat) (counted : Bool) (old new : List Byte) :
    List Byte :=
  let d := objDesc idx sub
  let wo := (d.map (·.acc)).getD 1 == 3
  let body := leBytes 4 num ++ timeLe time ++ leBytes 2 requester ++ [byteOf role] ++ zeros 3 ++ leBytes 4 label ++
    leBytes 2 idx ++ [byteOf sub, byteOf ((d.map (·.ty)).getD 0), byteOf (entryFlags wo counted old new)] ++ zeros 3 ++
    entryField wo old ++ entryField wo new
  body ++ leBytes 4 (crc32 body)

/-- An entry added to the ring of 1,024 (R77). -/
def Rec.addEntry (r : Rec) (e : Nat → List Byte) : Rec :=
  { r with lastEntry := (r.lastEntry + 1) % 2 ^ 32
           changes := (e ((r.lastEntry + 1) % 2 ^ 32) :: r.changes).take 1024 }

/-- The in-memory record changed. -/
def State.mapRec (s : State) (f : Rec → Rec) : State :=
  { s with record := { s.record with mem := f s.record.mem } }

/-- A change record entry for a write that took effect at a time (R77). -/
def State.logChange (s : State) (time : Time80) (requester role label idx sub : Nat) (counted : Bool)
    (old new : List Byte) : State :=
  s.mapRec (fun r => r.addEntry (fun n => changeEntry n time requester role label idx sub counted old new))

/-- An entry for a change that the part itself made: requester 0x4000, role 0 (R77). -/
def State.logOwn (s : State) (idx sub old new : Nat) : State :=
  s.logChange s.time80 selfId 0 0 idx sub false (objBytes idx sub old) (objBytes idx sub new)

/-- The device record rewritten (R644): three copies at the next generation; none while divergent (R648). A fuse burn that
went on meanwhile is over. -/
def State.rewriteRecord (s : State) : State :=
  let s := { s with dev := { s.dev with burn := none } }
  if s.record.divergent then { s with record := { s.record with dirty := false } }
  else
    let g := s.record.gen + 1
    let c : RecCopy := ⟨false, g, s.time80, s.record.mem⟩
    { s with record := { s.record with gen := g, dirty := false, copies := [c, c, c] } }

/-- A rewrite is owed (R644). -/
def State.owe (s : State) : State := { s with record := { s.record with dirty := true } }

/-- What stands for the body of a copy: its encoding is the part's own (log entry 3). -/
opaque Config.recordBody : Rec → List Byte

/-- The octets of a body as a copy holds them: at most 1,048,544 (R643). -/
def recordBody (r : Rec) : List Byte := (Config.recordBody r).take 1048544

/-- The first 28 bytes of the header of a copy, in network order (R5, R643). -/
def copyHead (gen : Nat) (written : Time80) (len : Nat) : List Byte :=
  beBytes 4 0x44524543 ++ beBytes 2 1 ++ [0, 0] ++ beBytes 4 gen ++ beBytes 4 len ++ timeBe written ++ [0, 0]

/-- A copy as it stands in flash: header, CRC-32 over its first 28 bytes and the body, body (R643). -/
def copyBytes (gen : Nat) (written : Time80) (body : List Byte) : List Byte :=
  copyHead gen written body.length ++ beBytes 4 (crc32 (copyHead gen written body.length ++ body)) ++ body

/-- The octets of an undamaged copy (R643). -/
def RecCopy.bytes (c : RecCopy) : List Byte := copyBytes c.gen c.written (recordBody c.body)

/-- A copy in flash is intact: magic, format, length and CRC-32 are good (R645). -/
def copyIntact (b : List Byte) : Bool :=
  let len := beAt b 12 4
  decide (32 ≤ b.length) && beAt b 0 4 == 0x44524543 && beAt b 4 2 == 1 && decide (len ≤ 1048544) &&
    decide (32 + len ≤ b.length) && beAt b 28 4 == crc32 (b.take 28 ++ bytesAt b 32 len)

/-- Where copy n stands in flash (R643). -/
def copyOffset (n : Nat) : Nat := n * 0x100000

/-- The copy status of 0x1300:03: 0 matches the record in use, 1 intact and different, 2 damaged. -/
def RecState.copyStatus (r : RecState) (n : Nat) : Nat :=
  match r.copies[n]? with
  | none => 2
  | some c => if c.damaged then 2 else if c.gen = r.gen ∧ c.body = r.mem then 0 else 1

/-- The generation of a copy, 0 when damaged (0x1300:04 to :06). -/
def RecState.copyGen (r : RecState) (n : Nat) : Nat :=
  match r.copies[n]? with
  | none => 0
  | some c => if c.damaged then 0 else c.gen

/-- A rewrite cut by a loss of power (R633, R645): so many copies were complete, and the next one damaged when it had
been begun. -/
def State.cutRewrite (s : State) (complete : Nat) (damage : Bool) : State :=
  let g := s.record.gen + 1
  let c : RecCopy := ⟨false, g, s.time80, s.record.mem⟩
  let l := (List.range 3).map (fun i =>
    let old := s.record.copies.getD i c
    if i < complete then c else if i = complete ∧ damage then { old with damaged := true } else old)
  { s with record := { s.record with copies := l } }

/-- The choice among the copies at a cold start (R645, R648): the copy taken, and whether the record is divergent; none
when no copy is intact. -/
def chooseCopy (l : List RecCopy) : Option (RecCopy × Bool) :=
  let ok := l.filter (fun c => !c.damaged)
  let g := maxOf (·.gen) ok
  match ok.filter (fun c => c.gen == g) with
  | [] => none
  | [c] => some (c, false)
  | c :: r =>
    match (c :: r).find? (fun x => decide (2 ≤ ((c :: r).filter (fun y => decide (y.body = x.body))).length)) with
    | some x => some (x, false)
    | none => some (c, true)

end Sys2Proof.Machine
end

