-- ==== Sys2Proof/Machine/Survey.lean ====
section
/-! DEFINITION. The Survey (chapter 14): benchmarks, levels, remedies, the margin plan, spares and fuses; substitution
and retirement of pipelines, lanes, banks, HBM blocks and bond wires. -/

namespace Sys2Proof.Machine

/-! ### Benchmarks (R505 to R508, R516) -/

/-- An identifier of R506 names a benchmark. -/
def isBench (b : Nat) : Bool :=
  let i := b % 0x1000
  match b / 0x1000 with
  | 1 => decide (i < 544)
  | 2 => decide (i < 448)
  | 3 => decide (i < 160)
  | 4 => decide (i < 64)
  | 5 => decide (i < 96)
  | 6 => isLaneCode i
  | 7 => decide (i < 128)
  | _ => false

/-- The die of a benchmark: 0 TM, 1 FE, 2 HBM (R505). -/
def benchDie (b : Nat) : Nat :=
  let i := b % 0x1000
  match b / 0x1000 with
  | 1 => 1
  | 2 => if i < 192 then 1 else 0
  | 3 => if i < 32 then 1 else 0
  | 4 => if i < 32 then 1 else 0
  | 5 => if i < 48 then 1 else if i < 88 then 0 else 2
  | 6 => if i < 0x100 then 1 else 0
  | _ => 0

/-- The present reading of a benchmark, in tenths of its kind's measure. -/
def State.benchRead (s : State) (b : Nat) : Int := toInt 32 (nget s.survey.readings b 0)

/-- The present level of a benchmark (R516). -/
def State.benchLevel (s : State) (b : Nat) : Nat := nget s.survey.levels b 0

/-- The thresholds of a kind in tenths: watch, act, limit (R516). -/
def benchLimits (kind : Nat) : Option (Int × Int × Int) :=
  match kind with
  | 1 => some (800, 400, 200)
  | 2 => some (800, 400, 200)
  | 4 => some (600, 400, 250)
  | 6 => some (150, 120, 80)
  | 7 => some (300, 200, 120)
  | _ => none

/-- The level of a reading: the lowest threshold it is below, kept until it is a tenth above the present level's. -/
def benchLevelOf (kind present : Nat) (r : Int) : Nat :=
  match benchLimits kind with
  | none => if kind = 3 ∧ 30 < r then 1 else 0
  | some (w, a, l) =>
    let raw := if r < l then 3 else if r < a then 2 else if r < w then 1 else 0
    let thr := match present with
      | 1 => w
      | 2 => a
      | _ => l
    if present ≤ raw ∨ present = 0 then raw else if thr * 11 ≤ r * 10 then raw else present

/-- Benchmarks standing at a level (0x7000:09 to :0B). -/
def State.benchesAt (s : State) (l : Nat) : Nat := (s.survey.levels.filter (fun e => e.2 == l)).length

/-- The rail of a die. -/
def State.avs (s : State) (die : Nat) : Avs := if die = 1 then s.survey.avsFe else s.survey.avsTm

/-- The rail of a die set. -/
def State.setAvs (s : State) (die : Nat) (a : Avs) : State :=
  { s with survey := if die = 1 then { s.survey with avsFe := a } else { s.survey with avsTm := a } }

/-- Readings of a die count: 2 ms have passed since a raise of its rail (R519). -/
def State.settled (s : State) (die : Nat) : Bool :=
  match (s.avs die).raised with
  | some t => decide (t + 2 * Config.ms ≤ s.clock.now)
  | none => true

/-! ### Spares, fuses, evidence (R528, R534 to R536) -/

/-- The spares of a code: each unit's, and the units. -/
def spareTable (code : Nat) : Nat × Nat :=
  match code with
  | 1 => (1, 32)
  | 2 => (16, 128)
  | 3 => (4, 128)
  | 4 => (4, 544)
  | 5 => (2, 544)
  | 6 => (8, 224)
  | 7 => (2, 224)
  | 8 => (2, 1)
  | 9 => (8, 1)
  | 10 => (64, 2)
  | 11 => (2048, 4)
  | _ => (0, 0)

/-- Spares of a code in all units. -/
def spareTotal (code : Nat) : Nat := (spareTable code).1 * (spareTable code).2

/-- Spares of a code that a unit has spent. -/
def Spares.used (p : Spares) (code unit : Nat) : Nat := nget p.spent (code * 65536 + unit) 0

/-- Spares of a code spent in all units (0x7200:06). -/
def Spares.usedAll (p : Spares) (code : Nat) : Nat :=
  sumOf (fun e => if e.1 / 65536 = code then e.2 else 0) p.spent

/-- Units with no spare of a code left (0x7200:07). -/
def Spares.exhausted (p : Spares) (code : Nat) : Nat :=
  (p.spent.filter (fun e => e.1 / 65536 == code && decide ((spareTable code).1 ≤ e.2))).length

/-- A unit has a spare of a code left. -/
def State.spareLeft (s : State) (code unit : Nat) : Bool :=
  decide (s.record.mem.spares.used code unit < (spareTable code).1)

/-- The spare accounting changed. -/
def State.mapSpares (s : State) (f : Spares → Spares) : State := s.mapRec (fun r => { r with spares := f r.spares })

/-- The margin plan changed. -/
def State.mapMargin (s : State) (f : Margin → Margin) : State := s.mapRec (fun r => { r with margin := f r.margin })

/-- The evidence record of an action (R536). -/
def State.evidence (s : State) (bench action code unit errors : Nat) : List Byte :=
  leBytes 2 bench ++ [byteOf (s.benchLevel bench), byteOf action] ++ leBytes 4 (code * 2 ^ 24 + unit % 2 ^ 24) ++
    leBytes 4 (if bench = 0xFFFF then 0 else nget s.record.mem.survey.base bench 0) ++
    leBytes 4 (if bench = 0xFFFF then 0 else nget s.survey.readings bench 0) ++ leBytes 4 errors ++
    leBytes 2 (spareTotal code - s.record.mem.spares.usedAll code) ++ timeLe s.time80

/-- FC-12 with an evidence record (R536). -/
def State.surveyEvent (s : State) (level die bench action code unit errors : Nat) : State :=
  s.raise { cls := 12, level := level, die := die, object := bench, value := code * 2 ^ 24 + unit,
            rest := s.evidence bench action code unit errors }

/-- An entry of the retirement fuse array burned (R534, R535); once the array is full, the record alone has it. -/
def State.burnEntry (s : State) (kind unit : Nat) : State :=
  if s.fuses.retirements.length < 4096 then
    { s with fuses := { s.fuses with
        retirements := s.fuses.retirements ++ [2 ^ 31 + kind * 2 ^ 24 + unit % 2 ^ 24] } }
  else if s.record.mem.spares.fuseOver then s
  else (s.mapSpares (fun p => { p with fuseOver := true })).surveyEvent 1 0 0xFFFF 0x00 kind unit 0

/-- A repair row or column burned into the repair fuses of its own memory (R534). -/
def State.burnRepair (s : State) (code unit : Nat) : State :=
  { s with fuses := { s.fuses with repairs := s.fuses.repairs ++ [(code, unit)] } }

/-- The die code of a spare's event (R528, R556): FE for the central store and the stages, of a pool macro its own, TM for a
lane, 2 for HBM and the bond link. -/
def spareDie (code unit : Nat) : Nat :=
  if code < 6 ∨ code = 8 then 1 else if code < 8 then flag (decide (192 ≤ unit)) else if code = 9 then 0 else 2

/-- A spare of a unit spent: counted, entered in the change record, raised as FC-12 at level F0; `shown` is the unit as the
evidence record gives it (R77, R536). -/
def State.spend (s : State) (code unit shown bench errors : Nat) : State :=
  let old := s.record.mem.spares.usedAll code
  let key := code * 65536 + unit
  let s := s.mapSpares (fun p => { p with spent := nset p.spent key (nget p.spent key 0 + 1) 0 })
  (s.logOwn 0x7200 6 old (old + 1)).surveyEvent 0 (spareDie code shown) bench 0x10 code shown errors

/-! ### Pipelines (R119 to R122, R518 to R522) -/

/-- The stage path index of a pipeline's stage; stage 16 is SX (R506). -/
def stagePath (pl stage : Nat) : Nat := pl * 17 + stage

/-- A pipeline of a direction is draining or substituting (R519). -/
def State.pipeMoving (s : State) (pl : Nat) : Bool :=
  (List.range 16).any (fun i => let p := pl / 16 * 16 + i; s.pipeState p == 1 || s.pipeState p == 2)

/-- The map of retired or of substituted pipelines (0x4000:04, :05). -/
def State.retiredMap (s : State) : Nat :=
  sumOf (fun p => if s.record.mem.spares.pipeRetired.contains p then 2 ^ p else 0) (List.range 32)
def State.substMap (s : State) : Nat := sumOf (fun p => if s.pipeSubst p = 0xFF then 0 else 2 ^ p) (List.range 32)

/-- SX of a pipeline is free and fit (R517, R518). -/
def State.sxFit (s : State) (pl : Nat) : Bool :=
  s.spareLeft 1 pl && s.pipeSubst pl == 0xFF && decide (s.benchLevel (0x1000 + stagePath pl 16) < 2)

/-- The pipeline stops being dealt to: DRAINING while packets are in its contexts, then SUBSTITUTING where SX takes a
stage over (R120). -/
def State.drainPipe (s : State) (pl mark : Nat) : State :=
  { s with flow := { s.flow with
      pipeBusy := nset s.flow.pipeBusy pl 1 0, pipeStage := nset s.flow.pipeStage pl mark 0 } }

/-- The engine at a position of a pipeline: its own, or SX where it has been substituted. -/
def State.engineAt (s : State) (pl stage : Nat) : Nat := if s.pipeSubst pl = stage then 16 else stage

/-- The benchmark of the successor of a position: the next stage's engine, or the deparser's logic path. -/
def State.successor (s : State) (pl pos : Nat) : Nat :=
  if pos < 15 then 0x1000 + stagePath pl (s.engineAt pl (pos + 1)) else 0x2000 + 160 + pl

/-- The position at which an engine works; SX works where it has been substituted. -/
def State.positionOf (s : State) (pl stage : Nat) : Option Nat :=
  if stage = 16 then (if s.pipeSubst pl = 0xFF then none else some (s.pipeSubst pl))
  else if s.pipeSubst pl = stage then none else some stage

/-- The stage trim of a stage path (R526). -/
def State.stageTrim (s : State) (path : Nat) : Nat := nget s.record.mem.margin.stageTrims path 0

/-- The stage path whose successor a path is (R526): of a stage engine in use the one before it, of a deparser's logic path
the engine at S15. -/
def State.predecessor (s : State) (bench : Nat) : Option Nat :=
  let i := bench % 0x1000
  if bench / 0x1000 = 1 then
    match s.positionOf (i / 17) (i % 17) with
    | some (pos + 1) => some (stagePath (i / 17) (s.engineAt (i / 17) pos))
    | _ => none
  else if bench / 0x1000 = 2 ∧ 160 ≤ i ∧ i < 192 then some (stagePath (i - 160) (s.engineAt (i - 160) 15))
  else none

/-- The slack that the stage trims give a path: 5 ps a step of its own, less 5 ps a step of the stage whose successor it is
(R526); in tenths. -/
def State.trimGain (s : State) (bench : Nat) : Int :=
  50 * (((if bench / 0x1000 = 1 then s.stageTrim (bench % 0x1000) else 0 : Nat) : Int) -
    (((s.predecessor bench).map s.stageTrim).getD 0 : Nat))

/-- The slack of a path (R507): what the baseline's sweep found, less the rise of its replica's delay since, with what the
stage trims have given since (R526). -/
def State.slack (s : State) (bench : Nat) : Int :=
  let b := s.record.mem.survey
  toInt 32 (nget b.base bench 0) - (toInt 32 (nget s.survey.delays bench 0) - toInt 32 (nget b.delays bench 0)) +
    (s.trimGain bench - toInt 32 (nget b.gains bench 0))

/-- A benchmark stands at a reading, and at the level that it gives (R516). -/
def State.standAt (s : State) (bench : Nat) (r : Int) : State :=
  let lvl := benchLevelOf (bench / 0x1000) (s.benchLevel bench) r
  { s with survey := { s.survey with
      readings := nset s.survey.readings bench (ofInt 32 r) 0
      levels := nset s.survey.levels bench lvl 0
      waiting := if lvl < 3 then s.survey.waiting.filter (fun b => b != bench) else s.survey.waiting } }

/-- The reading of a path follows a change of a trim (R526); a path whose replica has not been read has none. -/
def State.trimmed (s : State) (bench : Nat) : State :=
  if s.record.mem.survey.present ∧ nget s.survey.delays bench 0 ≠ 0 then s.standAt bench (s.slack bench) else s

/-- A retirement that waits is dealt with. -/
def State.unwait (s : State) (gone : Nat → Bool) : State :=
  { s with survey := { s.survey with waiting := s.survey.waiting.filter (fun k => !gone k) } }

/-- Under which a deferred retirement waits: its benchmark, or the unit where error history asked for it. -/
def waitKey (bench code unit : Nat) : Nat := if bench = 0xFFFF then 2 ^ 32 + code * 2 ^ 24 + unit else bench

/-- FC-03 at level F1 with its evidence (R122). -/
def State.stageEvent (s : State) (path bench action code unit errors : Nat) : State :=
  s.raise { cls := 3, level := 1, die := 1, object := path, value := unit, rest := s.evidence bench action code unit errors }

/-- SX begins to take a stage's place (R119): record, fuse, event; the pipeline drains. -/
def State.substitute (s : State) (pl stage bench errors : Nat) : State :=
  let path := stagePath pl stage
  let old := s.substMap
  let s := s.spend 1 pl path bench errors
  let s := s.mapSpares (fun p => { p with pipeSubst := nset p.pipeSubst pl (stage + 1) 0 })
  let s := s.mapMargin (fun m => { m with stageTrims := nset m.stageTrims (stagePath pl 16) 0 0 })
  let s := ((s.logOwn 0x4000 5 old s.substMap).burnEntry 1 path).rewriteRecord
  ((s.drainPipe pl (stage + 1)).stageEvent path bench 0x10 1 path errors).trimmed (s.successor pl stage)

/-- A pipeline retired (R120, R121): record, fuse, event; it drains, and the spreader skips it. -/
def State.retirePipe (s : State) (pl path bench errors : Nat) : State :=
  if s.record.mem.spares.pipeRetired.contains pl then s
  else
    let old := s.retiredMap
    let s := s.mapSpares (fun p => { p with pipeRetired := p.pipeRetired ++ [pl] })
    let s := ((s.logOwn 0x4000 4 old s.retiredMap).burnEntry 0x10 pl).rewriteRecord
    let s := s.unwait (fun k => k == waitKey 0xFFFF 0x10 pl || (k / 0x1000 == 1 && k % 0x1000 / 17 == pl))
    (if s.flow.ctxCount pl = 0 then s else s.drainPipe pl 0).stageEvent path bench 0x20 0x10 pl errors

/-- A retirement kept back under R520: FC-12 at level F3, counted at 0x7200:08; it awaits (R550). -/
def State.deferRetire (s : State) (die bench code unit errors : Nat) : State :=
  let s := (s.bump 0x7200 8).surveyEvent 3 die bench 0x30 code unit errors
  let k := waitKey bench code unit
  { s with survey := { s.survey with waiting := if s.survey.waiting.contains k then s.survey.waiting else s.survey.waiting ++ [k] } }

/-- Retiring a pipeline keeps its direction at or above the pipeline floor (R520). -/
def State.retireFits (s : State) (pl : Nat) : Bool :=
  decide (s.obj 0x7200 1 + 1 ≤ s.pipesInService (if pl < 16 then .ingress else .egress))

/-- A stage at limit, or one that is treated so: SX takes its place, or its pipeline is retired, or its retirement is
deferred (R517, R520, R552). Nothing is done while another pipeline of the direction drains. Where the path is that of SX
itself, which nothing can replace, its pipeline is retired or the retirement deferred (DESIGN CHOICE, log entry 165). -/
def State.stageLimit (s : State) (path bench errors : Nat) : State :=
  let pl := path / 17
  let stage := path % 17
  if s.record.mem.spares.pipeRetired.contains pl ∨ s.pipeMoving pl then s
  else if stage < 16 ∧ s.sxFit pl then s.substitute pl stage bench errors
  else if s.retireFits pl then s.retirePipe pl path bench errors
  else s.deferRetire 1 bench 0x10 pl errors

/-- STAGE_SUBSTITUTE (R119): SX takes the place of a stage that has failed, when it is free and fit; while another pipeline
of the direction drains, what the stage needs waits (R519). -/
def State.stageSubstitute (s : State) (pl stage : Nat) : State :=
  if s.sxFit pl ∧ ¬ s.record.mem.spares.pipeRetired.contains pl then
    if s.pipeMoving pl then
      { s with faults := { s.faults with waiting := s.faults.waiting ++ [Contain.mk 3 (stagePath pl stage) 0 0 false] } }
    else s.substitute pl stage (0x1000 + stagePath pl stage) 0
  else s

/-- The pipelines that wait are retired, each once no other of its direction drains (R120, R519). The event names the stage
that SX replaced (DESIGN CHOICE, log entry 166). -/
def State.retireNext (s : State) : State :=
  s.survey.retires.foldl (fun s pl =>
    if s.pipeMoving pl then s
    else { s with survey := { s.survey with retires := s.survey.retires.filter (· != pl) } }.retirePipe pl
      (stagePath pl (s.pipeSubst pl)) 0xFFFF 0) s

/-- PIPELINE_DRAIN_COMPLETE (R119, R120): once the last context has completed, the copy is made and the pipeline returns
to service with its SX, or the pipeline is retired; what waited for the drain is called for again. -/
def State.drainComplete (s : State) (pl : Nat) : State :=
  if nget s.flow.pipeBusy pl 0 ≠ 0 ∧ s.flow.ctxCount pl = 0 then
    { s with
        flow := { s.flow with
          pipeBusy := nset s.flow.pipeBusy pl 0 0, pipeStage := nset s.flow.pipeStage pl 0 0 }
        faults := { s.faults with todo := s.faults.todo ++ s.faults.waiting, waiting := [] } }.retireNext
  else s

/-- PIPELINE_FAILURE (R106, R120): the frames in its contexts are dropped and the pipeline is retired. It fails as a whole;
the event names its stage 0 (DESIGN CHOICE, log entry 166). -/
def State.pipeFailure (s : State) (pl : Nat) : State :=
  ((s.dropContexts pl).retirePipe pl (stagePath pl 0) 0xFFFF 0).drainComplete pl

/-- PIPELINE_RETIRE (R120): a stage has failed with SX in use; the pipeline waits while another of its direction drains
(R519). -/
def State.pipeRetire (s : State) (pl : Nat) : State :=
  if s.pipeSubst pl = 0xFF ∨ s.record.mem.spares.pipeRetired.contains pl ∨ s.survey.retires.contains pl then s
  else { s with survey := { s.survey with retires := s.survey.retires ++ [pl] } }.retireNext

/-! ### Fabric lanes (R391, R392) -/

/-- Retiring one more lane keeps the lanes not retired at the lanes needed (R520). -/
def State.laneRetireFits (s : State) : Bool :=
  decide (s.lanesNeeded + 1 ≤ s.lanesLeft)

/-- A lane's retirement begins: no new cell is dealt to it, the device record holds the retirement from now on, a lane
spare is spent for each of the first 8; FC-08 at level F1 with its evidence (R391, R392). -/
def State.retireLane (s : State) (n bench : Nat) : State :=
  if s.laneRetired n then s
  else
    let old := s.record.mem.spares.laneRetired.length
    let s := s.setLane { s.lane n with retiring := true }
    let s := if s.spareLeft 9 0 then s.spend 9 0 (laneCode n) bench 0 else s
    let s := s.mapSpares (fun p => { p with laneRetired := p.laneRetired ++ [n] })
    let s := (((s.logOwn 0x6000 2 old (old + 1)).burnEntry 0x13 n).rewriteRecord).unwait (fun k => k == 0x6000 + laneCode n)
    (s.raise { cls := 8, level := 1, object := laneName n, value := n, rest := s.evidence bench 0x20 9 (laneCode n) 0 }).floorSync

/-- LANE_RETIRE (R391, R520): by the Survey, deferred where it would leave too few lanes, or after 16 UNUSABLE events within an hour. -/
def State.laneRetire (s : State) (n : Nat) (bySurvey : Bool) : State :=
  if bySurvey then
    let b := 0x6000 + laneCode n
    (if s.laneRetireFits then s.retireLane n b
     else if s.laneRetired n ∨ s.survey.waiting.contains b then s else s.deferRetire 0 b 9 (laneCode n) 0)
  else if 16 ≤ ((s.lane n).events.filter (fun t => decide (s.clock.now < t + 3600 * Config.sec))).length then s.retireLane n 0xFFFF
  else s

/-- LANE_POWER_DOWN (R392): the transmit path of a RETIRING lane is empty; it is RETIRED from now on. -/
def State.lanePowerDown (s : State) (n : Nat) : State :=
  let l := s.lane n
  if ¬ l.retiring ∨ l.slots ≠ [] then s else (s.setLane { l with retiring := false }).floorSync

/-! ### Memories, banks, HBM blocks, bond wires (R15, R211, R212, R528 to R531) -/

/-- A pseudo-channel's blocks withdrawn, or FC-12 at level F3 when that would pass the limit (R531, R552). -/
def State.withdrawChannel (s : State) (c : Nat) : State :=
  if s.record.mem.spares.channels.contains c then s
  else if s.obj 0x7200 2 < s.record.mem.spares.blocksOut + 196608 then s.deferRetire 2 (0x7000 + c) 0x11 c 0
  else
    let old := s.record.mem.spares.blocksOut
    let s := s.mapSpares (fun p => { p with channels := p.channels ++ [c] })
    let s := (((s.logOwn 0x7200 3 old s.record.mem.spares.blocksOut).burnEntry 0x12 c).rewriteRecord).unwait
      (fun k => k == 0x7000 + c)
    (s.poolSync 2).surveyEvent 1 2 0xFFFF 0x20 0x11 c 0x10000

/-- The blocks of an HBM row withdrawn, subject to R520 (R529). -/
def State.withdrawGroup (s : State) (g errors : Nat) : State :=
  if nget s.record.mem.spares.spent (groupKey g) 0 = 1 then s
  else if s.obj 0x7200 2 < s.record.mem.spares.blocksOut + 8 then s.deferRetire 2 0xFFFF 0x11 (8 * g) errors
  else
    let old := s.record.mem.spares.blocksOut
    let s := s.mapSpares (fun p => { p with spent := nset p.spent (groupKey g) 1 0 })
    let s := (((s.logOwn 0x7200 3 old s.record.mem.spares.blocksOut).burnEntry 0x11 g).rewriteRecord).unwait
      (fun k => k == waitKey 0xFFFF 0x11 (8 * g))
    (s.poolSync 2).surveyEvent 1 2 0xFFFF 0x20 0x11 (8 * g) errors

/-- A bond data wire mapped onto a spare of its direction (R15); FC-12 at level F3 when none is left (R529). -/
def State.mapWire (s : State) (dir wire errors : Nat) : State :=
  let key := dir * 65536 + wire
  if s.record.mem.spares.wires.contains key then s
  else if s.spareLeft 10 dir then
    let s := s.mapSpares (fun p => { p with wires := p.wires ++ [key] })
    ((s.spend 10 dir key 0xFFFF errors).burnEntry 0x0A (dir * 2 ^ 23 + wire)).rewriteRecord
  else s.surveyEvent 3 2 0xFFFF 0x00 10 key errors

/-- The code and index under which the part's own re-laying of a bank stands in the journal. -/
def relayIdx : Nat := 0x7200
def relaySub : Nat := 6

/-- Banks that hold a place in the reserve: re-laid, or being re-laid (R212). -/
def State.reserveUsed (s : State) : Nat :=
  (s.record.mem.spares.banksRelaid ++
    ((List.range 128).filter (fun b => (s.openOp relayIdx relaySub b).isSome && !s.record.mem.spares.banksRelaid.contains b))).length

/-- A central store bank is beyond repair (R211, R212): it waits to be re-laid, or FC-12 at level F3. The error history that
led to it goes with it (R536). -/
def State.bankBeyond (s : State) (b errors : Nat) : State :=
  if s.record.mem.spares.banksRelaid.contains b ∨ s.tables.relaying.any (fun x => x.1 == b) then s
  else if 2 ≤ s.record.mem.spares.banksRelaid.length + s.tables.relaying.length then
    { s with faults := { s.faults with bankLost := true } }.surveyEvent 3 1 0xFFFF 0x00 2 b errors
  else { s with tables := { s.tables with relaying := s.tables.relaying ++ [(b, errors)] } }

/-- BANK_RELAY (R211): the part's own operation of 128 steps, once a slot is free. -/
def State.bankRelay (s : State) (b : Nat) : State :=
  if s.tables.relaying.any (fun x => x.1 == b) ∧ (s.openOp relayIdx relaySub b).isNone ∧ s.reserveUsed < 2 then
    (s.startOp true relayIdx relaySub selfId 128 b).2
  else s

/-- The last step of a re-laying: the bank stands in the reserve (R211, R536). -/
def State.relayDone (s : State) (b : Nat) : State :=
  let errors := ((s.tables.relaying.find? (fun x => x.1 == b)).map (·.2)).getD 0
  let s := { s with tables := { s.tables with relaying := s.tables.relaying.filter (fun x => x.1 != b) } }
  let s := s.mapSpares (fun p => { p with banksRelaid := p.banksRelaid ++ [b] })
  let s := ((s.spend 8 0 b 0xFFFF errors).burnEntry 0x08 b).rewriteRecord
  s.surveyEvent 1 1 0xFFFF 0x20 8 b errors

/-- The lines that a step of a bank's re-laying moves into the reserve, taken from their backing copies: damage of the old
place is left behind, but for a line whose backing copy is bad as well (R208, R211). -/
def Tables.relayLines (t : Tables) (bank step : Nat) : Tables :=
  (t.lines.filter (fun l => Config.linePlace l.table l.line == bank * 128 + step && !l.backingBad)).foldl
    (fun t l => t.restoreLine l.table l.line) t

/-- Where a lookup reads a line: from the reserve once its step is done (R211). -/
def State.lineMoved (s : State) (table line : Nat) : Bool :=
  inReserve s.record.mem.spares.banksRelaid
    (fun b => match s.openOp relayIdx relaySub b with
      | some i => (s.slot i).steps
      | none => 0) table line

/-- One step of a re-laying (R211): 16 KiB; the mark holds the next line. -/
def State.relayStep (s : State) (i : Nat) : State :=
  let j := s.slot i
  let s := s.setTables (s.tables.relayLines j.arg j.steps)
  let s := s.stepDone i (leBytes 4 ((j.steps + 1) * 256) ++ zeros 8)
  if 128 ≤ j.steps + 1 then (s.relayDone j.arg).endOp i 2 0 else s

/-- The HBM stack of a group of 8 blocks: blocks lie over the pseudo-channels by number modulo 128. -/
def groupStack (g : Nat) : Nat := 8 * g % 128 / 32

/-- The unit that the spares of a code serve, of a row or column as the commands name it: the row's number times the units of
the code, plus the unit; an HBM row by its group of blocks, which gives the stack; a bond wire as direction × 65,536 + wire
(log entry 163). -/
def spareUnit (code row : Nat) : Nat :=
  if code = 11 then groupStack row else if code = 10 then row / 65536 else row % (spareTable code).2

/-- A row, column or wire of a unit that spares serve (R528, R529). -/
def isRow (code row : Nat) : Bool :=
  decide (2 ≤ code ∧ code ≤ 11 ∧ code ≠ 8 ∧ code ≠ 9) && (code != 10 || (decide (row / 65536 < 2 ∧ row % 65536 < 9216)))

/-- The errors of a row in the last 24 h, as the evidence counts them (R536). -/
def State.errorHistory (s : State) (code row : Nat) : Nat :=
  let l := s.survey.finds.filter (fun f => f.code == code && f.row == row)
  (l.filter (fun f => !f.hard)).length % 0x10000 + 0x10000 * (l.filter (·.hard)).length

/-- A row or column has to be repaired (R529): corrected errors on 2 visits within 24 h, an uncorrectable error; a bond wire
corrected bits in more than 16 flits within 1 s. -/
def State.rowFails (s : State) (code row : Nat) : Bool :=
  let l := s.survey.finds.filter (fun f => f.code == code && f.row == row)
  if code = 10 then decide (16 < (l.filter (fun f => decide (s.clock.now < f.at_ + Config.sec))).length)
  else decide (2 ≤ l.length) || l.any (·.hard)

/-- An error of a row or column entered in the history of the last 24 h (R529); a repair that it makes due waits. -/
def State.noteError (s : State) (code row : Nat) (hard : Bool) : State :=
  let s := { s with survey := { s.survey with
    finds := (⟨code, row, s.clock.now, hard⟩ : Find) :: s.survey.finds.filter (fun f => decide (s.clock.now < f.at_ + 86400 * Config.sec)) } }
  if s.rowFails code row ∧ (code, row) ∉ s.survey.repairs then
    { s with survey := { s.survey with repairs := s.survey.repairs ++ [(code, row)] } }
  else s

/-- A row or column repaired, or what its table gives when the unit has no spare of that kind left (R529, R530); its history
has been dealt with. -/
def State.repairRow (s : State) (code row : Nat) : State :=
  let u := spareUnit code row
  let errors := s.errorHistory code row
  let s := { s with survey := { s.survey with
    finds := s.survey.finds.filter (fun f => !(f.code == code && f.row == row))
    repairs := s.survey.repairs.filter (fun x => x != (code, row)) } }
  if code = 10 then s.mapWire u (row % 65536) errors
  else if s.spareLeft code u then ((s.spend code u (if code = 11 then row else u) 0xFFFF errors).burnRepair code u).rewriteRecord
  else if code ≤ 3 then s.bankBeyond u errors
  else if code ≤ 5 then s.stageLimit u 0xFFFF errors
  else if code ≤ 7 then s.surveyEvent 3 (if u < 192 then 0 else 1) 0xFFFF 0x00 code u errors
  else s.withdrawGroup row errors

/-- The die whose one remedy at a time a repair is (R519): the FE die for the central store, the stages, its body store and the
wires on which it sends, the TM die for the rest, HBM included (log entry 163). -/
def repairDie (code row : Nat) : Nat :=
  let u := spareUnit code row
  flag (decide (code ≤ 5) || (decide (code ≤ 7) && decide (192 ≤ u)) || (decide (code = 10) && decide (u = 0)))

/-- A repair that is due can be made now (R519): no other remedy of its die runs, which only a rail whose read-back is being
retried does; one that would replace a stage or retire its pipeline waits while another pipeline drains. -/
def State.repairReady (s : State) (code row : Nat) : Bool :=
  (s.avs (repairDie code row)).tries == 0 &&
    !(decide (4 ≤ code ∧ code ≤ 5) && !s.spareLeft code (spareUnit code row) && s.pipeMoving (spareUnit code row / 17))

/-- MEMORY_REPAIR (R529, R530): a row or column has produced an error, and is repaired once that is due. -/
def State.memoryRepair (s : State) (code row : Nat) (uncorrectable : Bool) : State :=
  if ¬ isRow code row ∨ (code = 10 ∧ s.record.mem.spares.wires.contains row) then s
  else
    let s := if s.survey.repairs.contains (code, row) then s else s.noteError code row uncorrectable
    if s.survey.repairs.contains (code, row) ∧ s.repairReady code row then s.repairRow code row else s

/-- BOND_WIRE_SUBSTITUTE (R15, R529): a flit has shown corrected bits on a wire; the wire that has shown them in more than 16
flits within 1 s is mapped at this flit boundary. -/
def State.wireFails (s : State) (dir wire : Nat) : State := s.memoryRepair 10 (dir * 65536 + wire) false

/-- The first repair that waits for a die and can be made (R519). -/
def State.nextRepair (s : State) (die : Nat) : Option (Nat × Nat) :=
  s.survey.repairs.find? (fun x => repairDie x.1 x.2 == die && s.repairReady x.1 x.2)

/-! ### Readings (R507, R508, R516, R518, R553, R554) -/

/-- The hottest reading among thermal benchmarks of an index range, not below 0. -/
def State.hottest (s : State) (lo n : Nat) : Nat :=
  maxOf (fun i => (s.benchRead (0x5000 + lo + i)).toNat) (List.range n)

/-- The hottest benchmark of an index range: the one just read where it is, else the first (R553). -/
def State.hottestBench (s : State) (bench lo n : Nat) : Nat :=
  let hot (b : Nat) : Bool := (s.benchRead b).toNat == s.hottest lo n
  if hot bench then bench else (((List.range n).map (fun i => 0x5000 + lo + i)).find? hot).getD bench

/-- The four thresholds of a judged group: 0 FE, 1 TM, 2 HBM (R553). -/
def State.thermalLimits (s : State) (g : Nat) : List Nat :=
  let d := if g = 2 then 100 else 0
  [s.obj 0x8000 0xC - d, s.obj 0x8000 0xD - d, 1050 - d, 1150 - d]

/-- The trip: every HBM stack into self-refresh, and only a cold reset returns the part to service (R554, R640). -/
def State.trip (s : State) : State := { s with faults := { s.faults with tripped := true, selfRefresh := true } }

/-- One threshold looked at: raised once at a rising crossing, armed again 3 °C below (R553). -/
def State.thermalCheck (s : State) (g bench hot i : Nat) : State :=
  let key := g * 4 + i
  let thr := (s.thermalLimits g).getD i 0
  let level := [0, 1, 3, 4].getD i 0
  if thr ≤ hot ∧ nget s.faults.armed key 0 = 0 then
    let s := { s with faults := { s.faults with armed := nset s.faults.armed key 1 0 } }
    let s := if level = 4 then s.trip else s
    s.raise { cls := 11, level := level, object := bench, value := hot,
              die := if level = 4 then (if g = 0 then 1 else 0) else (if g = 0 then 1 else if g = 1 then 0 else 2) }
  else if hot + 30 ≤ thr then { s with faults := { s.faults with armed := nset s.faults.armed key 0 0 } }
  else s

/-- A thermal reading: the hottest of its die or of the HBM, and its crossings (R553). -/
def State.thermal (s : State) (bench : Nat) : State :=
  let i := bench % 0x1000
  let g := if i < 48 then 0 else if i < 88 then 1 else 2
  let (lo, n) := if g = 0 then (0, 48) else if g = 1 then (48, 40) else (88, 8)
  let hot := s.hottest lo n
  let top := s.hottestBench bench lo n
  let f := s.faults
  let s := { s with faults := if g = 0 then { f with hotFe := hot } else if g = 1 then { f with hotTm := hot } else { f with hotHbm := hot } }
  (List.range 4).foldl (fun s k => s.thermalCheck g top hot k) s

/-- SX of a pipeline whose own level is act or worse, and which is not in use, counts as spent (R518, R534). -/
def State.sxLost (s : State) (bench : Nat) : State :=
  let path := bench % 0x1000
  let pl := path / 17
  if bench / 0x1000 = 1 ∧ path % 17 = 16 ∧ 2 ≤ s.benchLevel bench ∧ s.spareLeft 1 pl ∧ s.pipeSubst pl = 0xFF then
    ((s.spend 1 pl path bench 0).burnEntry 1 path).rewriteRecord else s

/-- The delay of a replica as it would be at 85 °C, by the nearest thermal benchmark (R507). -/
def State.delayNow (s : State) (bench : Nat) (r : Int) : Int :=
  Config.delayAt85 bench r (s.benchRead (0x5000 + Config.nearestThermal bench % 96))

/-- A reading taken into effect: of a path its replica's delay, which gives a slack once there is a baseline (R507). -/
def State.takeReading (s : State) (bench : Nat) (r : Int) : State :=
  let path := bench / 0x1000 == 1 || bench / 0x1000 == 2
  let s := if path then
      { s with survey := { s.survey with delays := nset s.survey.delays bench (ofInt 32 (s.delayNow bench r)) 0 } }
    else s
  if path ∧ ¬ s.record.mem.survey.present then s
  else
    let s := s.standAt bench (if path then s.slack bench else r)
    let g := nget s.survey.given bench 0
    let s := { s with survey := { s.survey with
        readAt := nset s.survey.readAt bench s.time80 0
        given := nset s.survey.given bench (if g = 1 ∨ s.benchLevel bench + 1 < g then 0 else g) 0 } }
    if bench / 0x1000 = 5 then s.thermal bench else s.sxLost bench

/-- A lane benchmark is read: its lane is neither asleep nor retired (R508). -/
def State.eyeRead (s : State) (code : Nat) : Bool :=
  s.laneSet code 0xC == 0 && s.laneSet code 0xD == 0 && !(s.serdes code).asleep &&
    (match framedLane code with
     | some n => !s.laneOut n
     | none => true)

/-- A reading counts: a benchmark of the part, outside BOOT, not in the 2 ms after a raise of its die's rail, not of a lane
asleep or retired, not while the survey controller is reloaded, thermal readings excepted from the last (R508, R519, R625). -/
def State.readingOk (s : State) (bench : Nat) : Bool :=
  let kind := bench / 0x1000
  isBench bench && s.dev.st != .boot &&
    (benchDie bench == 2 || s.settled (benchDie bench)) &&
    (kind == 5 || (s.update.sess.st != 5 && !s.ctlOut 18)) &&
    (kind != 6 || s.eyeRead (bench % 0x1000))

/-- BENCHMARK_READING (R508): kinds 0x4 and 0x7 are read in the daily pass only. -/
def State.benchmark (s : State) (bench : Nat) (r : Int) : State :=
  if s.readingOk bench ∧ bench / 0x1000 ≠ 4 ∧ bench / 0x1000 ≠ 7 then s.takeReading bench r else s

/-! ### The order of remedies (R517 to R520, R523 to R527) -/

/-- What a remedy can do now for a benchmark: nothing more, wait, or act. -/
inductive Remedy where
  | none
  | wait
  | act (s : State)

/-- A margin value of the record changed by a remedy, and the record rewritten (R532); the persistent objects that it changes
are entered in the change record, each with its old and its new value (R77, R538). -/
def State.margin (s : State) (bench action unit : Nat) (logs : List (Nat × Nat × Nat)) (f : Margin → Margin) : State :=
  let s := (logs.foldl (fun (s : State) x => s.logOwn 0x7100 x.1 x.2.1 x.2.2) (s.mapMargin f)).rewriteRecord
  s.surveyEvent 0 (if bench / 0x1000 = 7 then 2 else benchDie bench) bench action 0 unit 0

/-- The plan voltage and the ceiling of a die's rail. -/
def State.railPlan (s : State) (die : Nat) : Nat := if die = 1 then s.record.mem.margin.railFe else s.record.mem.margin.railTm
def State.railCeiling (s : State) (die : Nat) : Nat := s.obj 0x7100 (if die = 1 then 3 else 4)

/-- A read-back within 10 mV of the request confirms it (R523, R524). -/
def avsOk (plan : Nat) (readBack : Option Nat) : Bool :=
  match readBack with
  | some v => decide (v ≤ plan + 10 ∧ plan ≤ v + 10)
  | none => false

/-- The plan voltage of a die's rail requested, and what is read back (R523, R524). -/
def State.requestRail (s : State) (die : Nat) (readBack : Option Nat) : State :=
  (s.out (.avs (1 - die) (s.railPlan die))).setAvs die
    { s.avs die with at_ := s.clock.now, tries := if avsOk (s.railPlan die) readBack then 0 else (s.avs die).tries + 1 }

/-- A raise of a die's rail by 5 mV (R519, R523): nothing above the ceiling or on a rail treated as standing there, and
no sooner than 100 ms after the last. -/
def State.railRaise (s : State) (die bench : Nat) (readBack : Option Nat) : Remedy :=
  let a := s.avs die
  let plan := s.railPlan die + 5
  if s.railCeiling die < plan ∨ a.stuck then .none
  else if a.tries ≠ 0 ∨ s.clock.now < (a.raised.map (· + 100 * Config.ms)).getD 0 then .wait
  else
    let n := s.record.mem.margin.raises
    let s := s.margin bench 0x02 die [(if die = 1 then 1 else 2, plan - 5, plan), (5, n, n + 1)] (fun m =>
      if die = 1 then { m with railFe := plan, raises := m.raises + 1 } else { m with railTm := plan, raises := m.raises + 1 })
    .act ((s.setAvs die { a with raised := some s.clock.now, tries := 0 }).requestRail die readBack)

/-- AVS_RETRY (R524): after the third retry, FC-12 at level F1 and the rail treated as standing at its ceiling. -/
def State.avsRetry (s : State) (die : Nat) (readBack : Option Nat) : State :=
  let a := s.avs die
  if a.tries = 0 ∨ s.clock.now < a.at_ + Config.ms then s
  else
    let s := s.requestRail die readBack
    if (s.avs die).tries ≤ 3 then s
    else (s.setAvs die { s.avs die with tries := 0, stuck := true }).surveyEvent 1 die 0xFFFF 0x02 0 die 0

/-- The remedies of a stage path at act: stage trim, FE rail raise (R517). -/
def State.stageAct (s : State) (bench pos : Nat) (readBack : Option Nat) : Remedy :=
  let path := bench % 0x1000
  let t := s.stageTrim path
  if t < 7 ∧ 850 ≤ s.benchRead (s.successor (path / 17) pos) then
    .act (((s.margin bench 0x01 path [(7, t, t + 1)] (fun m =>
      { m with stageTrims := nset m.stageTrims path (t + 1) 0 })).trimmed bench).trimmed (s.successor (path / 17) pos))
  else s.railRaise 1 bench readBack

/-- The assist levels of R538 as the 128-bit value. -/
def Margin.assistBits (m : Margin) : Nat := sumOf (fun r => nget m.sramAssist r 0 * 4 ^ r) (List.range 64)

/-- The remedies of an SRAM margin at act: assist, rail raise of its die. -/
def State.sramAct (s : State) (bench : Nat) (readBack : Option Nat) : Remedy :=
  let r := bench % 0x1000
  let a := nget s.record.mem.margin.sramAssist r 0
  let old := s.record.mem.margin.assistBits
  if a < 3 then
    .act (s.margin bench 0x03 r [(8, old, old + 4 ^ r)] (fun m => { m with sramAssist := nset m.sramAssist r (a + 1) 0 }))
  else s.railRaise (benchDie bench) bench readBack

/-- The remedy of a lane eye at act: an adaptation bound step. 0x3201:11 is no persistent object (R77, R468). -/
def State.laneAct (s : State) (bench : Nat) : Remedy :=
  let code := bench % 0x1000
  let n := nget s.record.mem.margin.laneSteps code 0
  if n < 7 then
    .act (s.margin bench 0x04 code [] (fun m => { m with laneSteps := nset m.laneSteps code (n + 1) 0 }))
  else .none

/-- A trim moved one step in a direction, within −15 to 15; none when it stands at the end (R527). -/
def trimStep (t : Nat) (up : Bool) : Option Nat :=
  let v := toInt 8 t
  if up then (if v < 15 then some (ofInt 8 (v + 1)) else none) else (if -15 < v then some (ofInt 8 (v - 1)) else none)

/-- The trims of a pseudo-channel as 0x7100:0B reads them. -/
def Margin.trimBits (m : Margin) (c : Nat) : Nat := nget m.hbmWrite c 0 * 256 + nget m.hbmRead c 0

/-- The refresh multipliers as 0x7100:09 reads them. -/
def Margin.refreshBits (m : Margin) : Nat := sumOf (fun k => nget m.refresh k 0 * 2 ^ k) (List.range 4)

/-- The remedies of an HBM timing at act: read and write trims, refresh multiplier 2. -/
def State.hbmAct (s : State) (bench : Nat) (trim : HbmTrim) : Remedy :=
  let c := bench % 0x1000
  let m := s.record.mem.margin
  let old := m.trimBits c
  match trim.read.bind (trimStep (nget m.hbmRead c 0)), trim.write.bind (trimStep (nget m.hbmWrite c 0)) with
  | some v, _ =>
    .act (s.margin bench 0x05 c [(0xB, old, old / 256 * 256 + v)] (fun m => { m with hbmRead := nset m.hbmRead c v 0 }))
  | none, some v =>
    .act (s.margin bench 0x05 c [(0xB, old, v * 256 + old % 256)] (fun m => { m with hbmWrite := nset m.hbmWrite c v 0 }))
  | none, none =>
    if nget m.refresh (c / 32) 0 = 0 then
      .act (s.margin bench 0x06 (c / 32) [(9, m.refreshBits, m.refreshBits + 2 ^ (c / 32))]
        (fun m => { m with refresh := nset m.refresh (c / 32) 1 0 }))
    else .none

/-- The remedies at act of a benchmark's row (R517). -/
def State.actRemedy (s : State) (bench : Nat) (readBack : Option Nat) (trim : HbmTrim) : Remedy :=
  match bench / 0x1000 with
  | 1 =>
    match s.positionOf (bench % 0x1000 / 17) (bench % 0x1000 % 17) with
    | some pos => s.stageAct bench pos readBack
    | none => .none
  | 2 => s.railRaise (benchDie bench) bench readBack
  | 4 => s.sramAct bench readBack
  | 6 => s.laneAct bench
  | 7 => s.hbmAct bench trim
  | _ => .none

/-- What a benchmark at limit gets once no remedy at act is left (R517). -/
def State.atLimit (s : State) (bench : Nat) : State :=
  let i := bench % 0x1000
  match bench / 0x1000 with
  | 1 => s.stageLimit i bench 0
  | 6 =>
    if i < 0x100 then s.surveyEvent 3 1 bench 0x00 9 i 0
    else match framedLane i with
    | some n =>
      if 160 ≤ n then s.surveyEvent 1 0 bench 0x00 9 i 0
      else if s.laneRetired n then s
      else if s.laneRetireFits then s.retireLane n bench
      else s.deferRetire 0 bench 9 i 0
    | none => s
  | 2 => s.surveyEvent 3 (benchDie bench) bench 0x00 0 i 0
  | 4 => s.surveyEvent 3 (benchDie bench) bench 0x00 0 i 0
  | 7 => s.surveyEvent 3 2 bench 0x00 0 i 0
  | _ => s

/-- A benchmark waits for a remedy: at act or limit, not given one since its last reading, nor its last resort at this
level; of a unit in service; kinds 0x1 and 0x2 only once a baseline exists (R513, R517). -/
def State.wants (s : State) (die bench : Nat) : Bool :=
  let kind := bench / 0x1000
  decide (2 ≤ s.benchLevel bench) && (if kind == 7 then die == 0 else benchDie bench == die) &&
    nget s.survey.given bench 0 == 0 &&
    (s.record.mem.survey.present || (kind != 1 && kind != 2)) &&
    (kind != 1 || ((s.positionOf (bench % 0x1000 / 17) (bench % 0x1000 % 17)).isSome &&
      !s.record.mem.spares.pipeRetired.contains (bench % 0x1000 / 17)))

/-- The benchmarks that wait in a die, in the order of R519: limit before act, then rising identifier. -/
def State.waiters (s : State) (die : Nat) : List Nat :=
  let l := (s.survey.levels.map (·.1)).filter (s.wants die)
  (l.filter (fun b => s.benchLevel b == 3)) ++ (l.filter (fun b => s.benchLevel b == 2))

/-- A benchmark marked: 1 until its next reading, 4 until it leaves the limit. -/
def State.giveMark (s : State) (bench v : Nat) : State :=
  { s with survey := { s.survey with given := nset s.survey.given bench v 0 } }

/-- What a benchmark that waits gets now, if anything is done: its remedy at act, or what the limit calls for, or nothing more
(R517). One whose remedy has to wait gets nothing. -/
def State.giveRemedy (s : State) (readBack : Option Nat) (trim : HbmTrim) (b : Nat) : Remedy :=
  match s.actRemedy b readBack trim with
  | .act s' => .act (s'.giveMark b 1)
  | .wait => .wait
  | .none =>
    if s.benchLevel b = 3 then
      if b / 0x1000 = 1 ∧ s.pipeMoving (b % 0x1000 / 17) then .wait else .act ((s.atLimit b).giveMark b 4)
    else .none

/-- The first benchmark of a list for which something is to be done: one whose remedy has to wait holds up the rest. -/
def State.tryRemedies (s : State) (readBack : Option Nat) (trim : HbmTrim) : List Nat → State
  | [] => s
  | b :: r =>
    match s.giveRemedy readBack trim b with
    | .act s' => s'
    | .wait => s
    | .none => (s.giveMark b 1).tryRemedies readBack trim r

/-- SURVEY_REMEDY (R517, R519): at most one remedy in each die at a time; a rail whose read-back is being retried is one.
What the error history calls for comes first (log entry 163). -/
def State.surveyRemedy (s : State) (die : Nat) (readBack : Option Nat) (trim : HbmTrim) : State :=
  if s.dev.st = .boot ∨ s.dev.st = .init ∨ (s.avs die).tries ≠ 0 then s
  else
    let s := if die = 1 then s.retireNext else s
    match s.nextRepair die with
    | some (code, row) => s.repairRow code row
    | none => s.tryRemedies readBack trim (s.waiters die)

/-! ### Passes (R509 to R515) -/

/-- The journal numbers of the passes: the daily pass, the baseline pass. -/
def dailyArg : Nat := 2
def baselineArg : Nat := 3

/-- The slot of a running pass of a kind: the part's own, or the re-take of R514. -/
def State.passSlot (s : State) (arg : Nat) : Option Nat :=
  (s.openOp 0x7000 0xC arg).orElse (fun _ => if arg = baselineArg then s.openOp 0x1204 1 baselineArg else none)

/-- A pass of either kind is running. -/
def State.passRuns (s : State) : Bool := (s.passSlot dailyArg).isSome || (s.passSlot baselineArg).isSome

/-- The pending pass dealt with. -/
def State.passOver (s : State) : State := { s with survey := { s.survey with pend := false, waitFrom := none } }

/-- The day's pass time has been reached and its pass is not yet dealt with (R510). -/
def State.passDue (s : State) : Bool :=
  decide (s.obj 0x7000 4 ≤ s.clock.sec % 86400) && s.survey.day != s.clock.sec / 86400 + 1

/-- The day's pass begins to wait for its start, over midnight if need be; one of an earlier day that still waits gives way
to it and is skipped (R510; log entry 164). -/
def State.passReached (s : State) : State :=
  if ¬ s.passDue then s
  else
    let s := if s.survey.pend then (s.bump 0x7000 8).passOver else s
    { s with survey := { s.survey with day := s.clock.sec / 86400 + 1, pend := true } }

/-- The pending pass has waited 1 h for a slot (R510). -/
def State.waitedOut (s : State) : Bool :=
  match s.survey.waitFrom with
  | some t => decide (t + 3600 * Config.sec ≤ s.clock.now)
  | none => false

/-- DAILY_PASS_START (R510). -/
def State.dailyStart (s : State) : State :=
  let s := s.passReached
  if ¬ s.survey.pend then s
  else if s.waitedOut ∨ s.passRuns then (s.bump 0x7000 8).passOver
  else if s.dev.st ≠ .run ∧ s.dev.st ≠ .degraded ∧ s.dev.st ≠ .standby then s
  else match s.startOp true 0x7000 0xC selfId 294 dailyArg with
  | (some _, s) => s.passOver
  | (none, s) =>
    { s with survey := { s.survey with waitFrom := some (s.survey.waitFrom.getD s.clock.now) } }

/-- DAILY_PASS_SKIP (R510): a pass that has waited 1 h for a slot. -/
def State.dailySkip (s : State) : State :=
  if s.waitedOut then (s.bump 0x7000 8).passOver else s

/-- BASELINE_PASS_START (R512): READY reached without a baseline. -/
def State.baselineStart (s : State) : State :=
  if s.record.mem.survey.present ∨ s.passRuns ∨ s.dev.st = .boot ∨ s.dev.st = .init ∨ s.dev.st = .halt then s
  else
    let s := (s.startOp true 0x7000 0xC selfId 294 baselineArg).2
    { s with survey := { s.survey with sweep := [], sweepDelays := [] } }

/-- The lane codes in rising order. -/
def laneCodes : List Nat :=
  List.range 128 ++ (List.range 160).map (fun i => 0x100 + i) ++ [0x1F0, 0x1F1]

/-- The benchmarks of a pass in order (R509). -/
def passBenches : List Nat :=
  (List.range 544).map (fun i => 0x1000 + i) ++ (List.range 448).map (fun i => 0x2000 + i) ++
    (List.range 160).map (fun i => 0x3000 + i) ++ (List.range 64).map (fun i => 0x4000 + i) ++
    laneCodes.map (fun c => 0x6000 + c) ++ (List.range 128).map (fun i => 0x7000 + i)

/-- The place in `passBenches` at which a step begins (R509). -/
def passAt (k : Nat) : Nat :=
  if k ≤ 72 then 16 * k
  else if k ≤ 136 then 1152 + (k - 72)
  else if k ≤ 165 then 1216 + 10 * (k - 136)
  else 1506 + (k - 165)

/-- The benchmarks of a step of a pass. -/
def passStep (k : Nat) : List Nat := (passBenches.drop (passAt k)).take (passAt (k + 1) - passAt k)

/-- A reading of a baseline pass kept: of a path the slack that the clock-margin sweep found, and its replica's delay (R507,
R512). -/
def State.keepSweep (s : State) (x : PassRead) : State :=
  let v := s.survey
  if x.bench / 0x1000 = 1 ∨ x.bench / 0x1000 = 2 then
    { s with survey := { v with
        sweep := nset v.sweep x.bench (ofInt 32 x.sweep) 0
        sweepDelays := nset v.sweepDelays x.bench (ofInt 32 (s.delayNow x.bench x.value)) 0 } }
  else { s with survey := { v with sweep := nset v.sweep x.bench (ofInt 32 x.value) 0 } }

/-- The readings of a step taken into effect; a baseline pass keeps them. -/
def State.sweepReadings (s : State) (k : Nat) (base : Bool) (l : List PassRead) : State :=
  (l.filter (fun x => (passStep k).contains x.bench)).foldl (fun (s : State) x =>
    let s := if base then s.keepSweep x else s
    if s.readingOk x.bench then s.takeReading x.bench x.value else s) s

/-- What the stage trims give each path at present (R526), for the baseline. -/
def State.trimGains (s : State) : NMap :=
  (List.range 544).foldl (fun m i => nset m (0x1000 + i) (ofInt 32 (s.trimGain (0x1000 + i))) 0)
    ((List.range 32).foldl (fun m i => nset m (0x2000 + 160 + i) (ofInt 32 (s.trimGain (0x2000 + 160 + i))) 0) [])

/-- The baseline stored when its pass completes (R512, R514); the change record has one entry for each persistent object that
it changes, that of 0x7001:02 for the benchmark selected (log entry 167). -/
def State.baselineDone (s : State) : State :=
  let old := s.record.mem.survey
  let t := s.time80
  let b := s.obj 0x7001 1
  let s := s.mapRec (fun r => { r with survey := ⟨true, t, old.taken + 1, s.survey.sweep, s.survey.sweepDelays, s.trimGains⟩ })
  (((s.logOwn 0x7000 2 old.baseTime t).logOwn 0x7000 3 old.taken (old.taken + 1)).logOwn 0x7001 2 (nget old.base b 0)
    (nget s.record.mem.survey.base b 0)).rewriteRecord

/-- The daily pass complete. -/
def State.dailyDone (s : State) : State := (s.setObj 0x7000 5 s.time80).bump 0x7000 7

/-- The plan review of a die: a remedy for every benchmark at act or limit, one after the other in the order of R519; one
whose remedy has to wait keeps its turn. -/
def State.reviewDie (s : State) (die : Nat) (p : PlanInput) : State :=
  if (s.avs die).tries ≠ 0 then s
  else (s.waiters die).foldl (fun (s : State) b =>
    let trim := ((p.trims.find? (fun x => x.1 == b % 0x1000)).map (·.2)).getD ⟨none, none⟩
    match s.giveRemedy (if die = 1 then p.railFe else p.railTm) trim b with
    | .act s' => s'
    | .wait => s
    | .none => s.giveMark b 1) s

/-- The plan review: every benchmark at act or limit is given its next remedy (R509). -/
def State.planReview (s : State) (p : PlanInput) : State :=
  let s := { s with survey := { s.survey with given := s.survey.given.filter (fun e => e.2 != 1) } }
  (s.reviewDie 1 p).reviewDie 0 p

/-- The readings that a step of a pass took. -/
def readsOf : StepResult → List PassRead
  | .readings l => l
  | _ => []

/-- What a plan review met outside the part. -/
def planOf : StepResult → PlanInput
  | .review p => p
  | _ => ⟨none, none, []⟩

/-- One step of a pass (R509, R512): the mark holds the identifier of the next benchmark. -/
def State.passStepRun (s : State) (i : Nat) (r : StepResult) : State :=
  let j := s.slot i
  let base := j.arg == baselineArg
  let s := if j.steps < 293 then s.sweepReadings j.steps base (readsOf r) else s.planReview (planOf r)
  let s := s.stepDone i (leBytes 2 (passBenches.getD (passAt (j.steps + 1)) 0) ++ zeros 10)
  if 294 ≤ j.steps + 1 then (if base then s.baselineDone else s.dailyDone).endOp i 2 0 else s

/-- The state of the Survey (0x7000:01). -/
def State.surveyState (s : State) : Nat :=
  if (s.passSlot baselineArg).isSome then 1
  else if ¬ s.record.mem.survey.present then 0
  else if (s.passSlot dailyArg).isSome then 3 else 2

/-- The next pass (0x7000:06): the pass time of today, or of tomorrow once today's has been dealt with. -/
def State.nextPass (s : State) : Time80 :=
  let d := s.clock.sec / 86400
  mkTime ((if s.survey.day = d + 1 then d + 1 else d) * 86400 + s.obj 0x7000 4) 0

/-! ### The degraded mark (R549, R550) -/

/-- The degraded mark. -/
def State.degraded (s : State) : Bool :=
  s.faults.standing.any (fun e => e.level == 3) ||
    decide (s.pipesInService .ingress < s.obj 0x7200 1) || decide (s.pipesInService .egress < s.obj 0x7200 1) ||
    decide (s.lanesLeft < s.lanesNeeded) || s.faults.bankLost || !s.survey.waiting.isEmpty ||
    decide (s.obj 0x7200 2 ≤ s.record.mem.spares.blocksOut)

/-- PIPELINE_FLOOR_WRITE's effect (R521): a floor above a direction's count raises FC-12 at level F3. -/
def State.floorWritten (s : State) (v : Nat) : State :=
  if s.pipesInService .ingress < v ∨ s.pipesInService .egress < v then s.surveyEvent 3 1 0xFFFF 0x00 0x10 v 0 else s

end Sys2Proof.Machine
end

