-- ==== Sys2Proof/Machine/Service.lean ====
section
/-! DEFINITION. The service core: how a request is answered, the update session's lock, and what a restart of the service
core leaves (R555, R618). -/

namespace Sys2Proof.Machine

/-- How a request is answered: done with a value, aborted, a stepped operation started, or not yet. -/
inductive Ans where
  | done (val : List Byte)
  | abort (code : Nat)
  | started (handle : Nat)
  | later
  deriving DecidableEq, Repr

/-- An abort code (chapter 2): class, reason, detail. -/
def abortCode (cls reason detail : Nat) : Nat := cls * 2 ^ 24 + reason * 2 ^ 16 + detail % 65536

/-- A value out of range or illegal (class 0x03, reason 0x02). -/
def cIllegal : Nat := abortCode 3 2 0
/-- A reserved bit or byte is set (class 0x03, reason 0x03). -/
def cReserved : Nat := abortCode 3 3 0

/-- The abort code, when a condition holds. -/
def refuseIf (b : Bool) (code : Nat) : Option Nat := if b then some code else none

/-- The first refusal of a list. -/
def firstFault (l : List (Option Nat)) : Option Nat := l.findSome? id

/-- Refused for the device state (R44): class 0x04, reason 0x01. -/
def State.badState (s : State) : Ans := .abort (abortCode 4 1 s.dev.st.code)

/-- A value refused as out of range or illegal. -/
def badValue : Ans := .abort (abortCode 3 2 0)

/-! ### The update session as others see it (R605, R618) -/

/-- The number of the bank-status copy that is written first: a damaged one, else that of the lower generation, else copy 0
(R605; log entry 153). -/
def olderCopy (l : List BankCopy) : Nat :=
  let a := l.getD 0 ⟨true, 0, []⟩
  let b := l.getD 1 ⟨true, 0, []⟩
  if a.damaged then 0 else if b.damaged then 1 else if b.gen < a.gen then 1 else 0

/-- A bank's state set: both copies of the bank status rewritten at the next generation (R604, R605). -/
def State.setBank (s : State) (b st : Nat) : State :=
  let u := s.update
  let banks := modAt u.banks b (fun x => { x with st := st })
  let c : BankCopy := ⟨false, u.gen + 1, banks.map (·.st)⟩
  { s with update := { u with
      gen := u.gen + 1
      copies := [c, c]
      prior := some (s.clock.now, match u.prior with
        | some (at_, l) => if at_ = s.clock.now then l else u.copies
        | none => u.copies)
      banks := banks } }

/-- The bank-status copy whose generation prevails: the higher of those that are whole (R604). -/
def bankStatus (l : List BankCopy) : Option BankCopy :=
  let ok := l.filter (fun c => !c.damaged)
  ok.find? (fun c => c.gen == maxOf (·.gen) ok)

/-- The bank states read from flash at a start (R604); with no whole copy no bank holds a state that loads, which is EMPTY
(log entry 153). -/
def State.readBanks (s : State) : State :=
  let u := s.update
  let c := (bankStatus u.copies).getD ⟨true, u.gen, [0, 0]⟩
  { s with update := { u with
      gen := c.gen
      banks := u.banks.mapIdx (fun i x => { x with st := c.states.getD i 0 }) } }

/-- Power falls at the instant of a rewrite of the bank status (R605): the older copy is written first, so the other still
stands while it is written; how far the rewrite has come is free (log entry 153). -/
def State.cutBanks (s : State) : State :=
  match s.update.prior with
  | some (at_, l) =>
    if at_ ≠ s.clock.now then s
    else
      let o := olderCopy l
      let k := Config.freeNat s.freeCtr % 5
      let hurt (x : BankCopy) : BankCopy := { x with damaged := true }
      let l' := match k with
        | 0 => l
        | 1 => modAt l o hurt
        | 2 => l.set o (s.update.copies.getD o ⟨true, 0, []⟩)
        | 3 => modAt (l.set o (s.update.copies.getD o ⟨true, 0, []⟩)) (1 - o) hurt
        | _ => s.update.copies
      { s with freeCtr := s.freeCtr + 1, update := { s.update with copies := l', prior := none } }
  | none => s

/-- The session changed. -/
def State.mapSess (s : State) (f : Session → Session) : State :=
  { s with update := { s.update with sess := f s.update.sess } }

/-- A session ended: ABANDONED or FAILED with its cause and result, its lock free, its bank INVALID when asked (R617,
R618, R622, R624, R626). -/
def State.endSession (s : State) (st cause result : Nat) (invalid : Bool) : State :=
  let b := s.update.sess.bank
  let s := if invalid then s.setBank b 6 else s
  s.mapSess (fun x => { x with st := st, cause := cause, result := result, holder := 0 })

/-- The lock freed (R618): a session that is RECEIVING or VERIFYING becomes ABANDONED. -/
def State.freeLock (s : State) (cause : Nat) : State :=
  if s.update.sess.st = 1 ∨ s.update.sess.st = 2 then s.endSession 9 cause 0 true
  else s.mapSess (fun x => { x with holder := 0 })

/-- A request came from a POP session slot. -/
def Req.ofSlot (r : Req) (slot : Nat) : Bool :=
  match r.path with
  | .pop i => i.val == slot
  | _ => false

/-- A POP session closes: the requests it has not had answered are dropped, and its lock of the update session is freed
(R618). A write whose value is in effect still goes to flash. -/
def State.closePop (s : State) (slot : Nat) : State :=
  let keep := s.tx.waits.filter (fun w => !((w.req.map (fun r => r.ofSlot slot)).getD false))
  let owed := s.dict.deferred.map (fun d => if d.req.ofSlot slot then { d with answer := [] } else d)
  let s := { s with tx := { s.tx with waits := keep } }
  let s := { s with dict := { s.dict with
    deferred := owed
    pop := { s.dict.pop with sess := s.dict.pop.sess.set slot none } } }
  if s.update.sess.holder = 0x3000 + slot then s.freeLock 3 else s

/-! ### Restart of the service core (R555, R624) -/

/-- The change record entry of a write whose value is in effect (R77). -/
def State.logDeferred (s : State) (d : Deferred) : State :=
  s.logChange d.at_ d.req.requester d.req.role d.req.label d.idx d.sub d.counted d.oldVal d.newVal

/-- The counted write, of those that wait, whose fuses burn: the newest that changes its value (R72). -/
def burning (l : List Deferred) : Option Deferred := (l.filter (fun d => d.counted && d.oldVal != d.newVal)).getLast?

/-- The requests not yet answered are discarded: queues, the mailbox, writes waiting for flash, records waiting for
shadow slots. A write whose value is in effect is still owed to flash; a counted one is recorded together with its fuse
burn (R75). -/
def State.discardRequests (s : State) : State :=
  let s := (s.dict.deferred.filter (·.counted)).foldl State.logDeferred s
  let d := s.dict
  let s := { s with dev := { s.dev with burn := (burning d.deferred).or s.dev.burn } }
  let owed := !d.deferred.isEmpty
  let pop := { d.pop with hs := [], sess := d.pop.sess.map (fun x => x.map (fun y => { y with queue := [] })) }
  let s := { s with dict := { d with
    i3c := { d.i3c with queue := [] }
    mbx := { d.mbx with busy := false, done := false, req := none }
    pop := pop
    deferred := [] } }
  let s := { s with tx := { s.tx with waits := s.tx.waits.filter (fun w => w.req.isNone) } }
  if owed then s.owe else s

/-- The effects of a restart of the service core (R555): sessions closed, requests discarded, operations interrupted;
`keepLock` spares the update session (R624). -/
def State.restartEffects (s : State) (keepLock : Bool) : State :=
  let held := s.update.sess
  let s := (List.range 4).foldl State.closePop s
  let s := if keepLock then { s with update := { s.update with sess := held } } else s
  s.discardRequests.interruptOps

/-- The service core begins a restart (R555): it serves no request until it is over. -/
def State.beginRestart (s : State) : State := { s with faults := { s.faults with restarting := true } }

end Sys2Proof.Machine
end

