-- ==== Sys2Proof/Machine/Update.lean ====
section
/-! DEFINITION. Images, banks and the update session (chapter 17). -/

namespace Sys2Proof.Machine

/-! ### Cartouches and their checks (R608 to R614) -/

/-- The cartouche of what a bank holds. -/
def Image.cart : Image → List Byte
  | .none => zeros 1024
  | .factory => Config.factoryCartouche
  | .bytes c _ => c

/-- The offsets of reserved bytes of a cartouche. -/
def cartReserved : List Nat :=
  [19, 62, 63] ++ (List.range 32).map (· + 96) ++
    (List.range 25).flatMap (fun n => [129 + 16 * n, 130 + 16 * n, 131 + 16 * n]) ++ (List.range 400).map (· + 528)

/-- The first byte of `c` at `o` that differs from what is expected. -/
def firstDiff (c : List Byte) (o : Nat) (want : List Byte) : Option Nat :=
  ((List.range want.length).find? (fun i => c.getD (o + i) 0 != want.getD i 0)).map (· + o)

/-- The first byte of a STRING outside its legal set: printable ASCII, then zeros. -/
def badLabel (c : List Byte) (o n : Nat) : Option Nat :=
  ((List.range n).find? (fun i =>
    let b := (c.getD (o + i) 0).toNat
    !(b == 0 || (32 ≤ b && b ≤ 126)) || (b != 0 && 0 < i && c.getD (o + i - 1) 0 == 0))).map (· + o)

/-- Section n of a cartouche: offset, length, CRC-32 (R609). -/
def cartSection (c : List Byte) (n : Nat) : Nat × Nat × Nat :=
  (beAt c (132 + 16 * n) 4, beAt c (136 + 16 * n) 4, beAt c (140 + 16 * n) 4)

/-- The byte by which a section lies beyond the payload or overlaps one before it. -/
def badSection (c : List Byte) (n : Nat) : Option Nat :=
  let x := cartSection c n
  let laps := (List.range n).any (fun m =>
    let y := cartSection c m
    decide (x.1 < y.1 + y.2.1 ∧ y.1 < x.1 + x.2.1))
  if laps then some (132 + 16 * n) else if beAt c 20 4 < x.1 + x.2.1 then some (136 + 16 * n) else none

/-- The payload bytes that a bank can hold (R604). -/
def maxPayload : Nat := 31456256

/-- The first bad byte of a cartouche (R612, first row). -/
def cartBadByte (c : List Byte) : Option Nat :=
  let l := [firstDiff c 0 [0x43, 0x41, 0x52, 0x54], firstDiff c 4 [0, 1], firstDiff c 18 [25],
      cartReserved.find? (fun o => c.getD o 0 != 0), badLabel c 64 32,
      if beAt c 20 4 = 0 ∨ maxPayload < beAt c 20 4 then some 20 else none] ++ (List.range 25).map (badSection c)
  l.foldl (fun a b => match a, b with
    | some x, some y => some (min x y)
    | none, y => y
    | x, none => x) none

/-- The public key of a slot, as 97 octets. -/
def State.imageKey (s : State) (slot : Nat) : List Byte := leBytes 97 (if slot = 0 then s.fuses.key0 else s.fuses.key1)

/-- The key that a cartouche names, when it is permitted (R611). -/
def State.cartKey (s : State) (slot : Nat) : Option (List Byte) :=
  if slot ≤ 1 then (if (if slot = 0 then s.fuses.key0 else s.fuses.key1) = 0 then none else some (s.imageKey slot))
  else if slot = 0xFF ∧ s.fuses.factoryKey then some Config.factoryKey
  else none

/-- The cartouche checks of R612 that look at the value alone (R702). -/
def cartValueFault (c : List Byte) : Option Nat :=
  match cartBadByte c with
  | some o => some (abortCode 3 0x2C o)
  | none => refuseIf (decide (beAt c 6 2 ≠ 0x0C3E ∨ beAt c 8 2 ≠ 0x5120 ∨ 0x00A1 < beAt c 10 2)) 0x03110000

/-- The cartouche checks of R612 that look at the part: key, signature, floor. -/
def State.cartKeyFault (s : State) (c : List Byte) : Option Nat :=
  match s.cartKey (beAt c 17 1) with
  | none => some 0x07100000
  | some k =>
    if ¬ ecdsaOk k (c.take 928) (bytesAt c 928 96) then some 0x07100000
    else refuseIf (decide (beAt c 16 1 < s.fuses.floor)) (abortCode 7 0x11 s.fuses.floor)

/-- The cartouche checks in the order of R612: the abort of the first that fails. -/
def State.cartFault (s : State) (c : List Byte) : Option Nat := (cartValueFault c).or (s.cartKeyFault c)

/-- The payload checks of R612. -/
def payloadFault (c p : List Byte) : Option Nat :=
  match gcmOpen Config.familyKey (bytesAt c 24 12) (c.take 24) p (bytesAt c 36 16) with
  | none => some 0x071200FF
  | some d =>
    ((List.range 25).find? (fun n =>
      let x := cartSection c n
      crc32 (bytesAt d x.1 x.2.1) != x.2.2)).map (fun n => abortCode 7 0x12 n)

/-- The checks of a bank's image: those of the cartouche, then those of the payload when asked. The image of manufacture
passes while its key is accepted and its security version is not below the floor. -/
def State.imageFault (s : State) (i : Image) (payload : Bool) : Option Nat :=
  match i with
  | .none => some (abortCode 3 0x2C 0)
  | .factory =>
    if ¬ s.fuses.factoryKey then some 0x07100000
    else if beAt Config.factoryCartouche 16 1 < s.fuses.floor then some (abortCode 7 0x11 s.fuses.floor) else none
  | .bytes c p =>
    match s.cartFault c with
    | some a => some a
    | none => if payload then (if p.length = beAt c 20 4 then payloadFault c p else some 0x071200FF) else none

/-- A bank. -/
def State.bank (s : State) (b : Nat) : Bank := s.update.banks.getD b ⟨0, .none⟩

/-- The cartouche digest (R608). -/
def cartDigest (c : List Byte) : List Byte := sha384 (c.take 928)

/-- The key slot that an image was signed with; 0xFF for the factory key. -/
def Image.keySlot : Image → Nat
  | .none => 0
  | .factory => 0xFF
  | .bytes c _ => beAt c 17 1

/-- The ACTIVE bank. -/
def State.activeBank (s : State) : Option Nat := (List.range 2).find? (fun b => (s.bank b).st == 4)

/-! ### Banks at a start (R606, R607) -/

/-- The bank that a start sets out to load (R606). -/
def State.startBank (s : State) : State × Option Nat :=
  match (List.range 2).find? (fun b => (s.bank b).st == 3) with
  | some b => (s.setBank b 6, some (1 - b))
  | none =>
    if s.dev.bootsel = 1 then (s, some 0)
    else if s.dev.bootsel = 2 then (s, some 1)
    else (s, s.activeBank)

/-- The bank loads: its image passes every check (R606). -/
def State.loads (s : State) (b : Nat) : Bool := (s.imageFault (s.bank b).img true).isNone

/-- A bank loaded. -/
def State.setLoaded (s : State) (b : Nat) : State := { s with update := { s.update with loaded := b, loadable := true } }

/-- The other bank in place of one that failed: it is ACTIVE or PREVIOUS and passes (R606). -/
def State.fallBack (s : State) (failed other : Nat) : State :=
  if ((s.bank other).st = 4 ∨ (s.bank other).st = 5) ∧ s.loads other then
    (((s.setBank failed 6).setBank other 4).setLoaded other).raise { cls := 15, level := 1, object := 0xFF, value := failed }
  else { s with update := { s.update with loadable := false } }

/-- The choice and load of a bank at a start (R604, R606, R607), from the bank status as flash holds it. -/
def State.bootBank (s : State) : State :=
  let (s, c) := s.readBanks.startBank
  match c with
  | some b => if s.loads b then s.setLoaded b else s.fallBack b (1 - b)
  | none =>
    if (s.bank 0).st = 5 then s.fallBack 1 0 else s.fallBack 0 1

/-- The QSPI pins are at high impedance (R607): a part left in BOOT, while RST_N is low. -/
def State.qspiReleased (s : State) : Bool := !s.update.loadable && s.dev.st == .boot && !s.dev.rstN

/-! ### The session (R615 to R623) -/

/-- Expiry of the lock at the start of service of a request (R617). -/
def State.lockExpiry (s : State) : State :=
  let x := s.update.sess
  if x.holder ≠ 0 ∧ x.lastReq + 60 * Config.sec ≤ s.clock.now then
    if x.st = 1 then s.endSession 9 2 0 true
    else if x.st = 3 then s.mapSess (fun x => { x with holder := 0 })
    else s
  else s

/-- Refused for the session state: 0x041F_00ss. -/
def State.badSession (s : State) : Ans := .abort (abortCode 4 0x1F s.update.sess.st)

/-- A session is SCHEDULED, ACTIVATING or TRIAL. -/
def Session.busy (x : Session) : Bool := x.st == 4 || x.st == 5 || x.st == 6

/-- A STAGED bank whose image has a cartouche's digest. -/
def State.stagedAs (s : State) (c : List Byte) : Bool :=
  (List.range 2).any (fun b => (s.bank b).st == 2 && decide (cartDigest (s.bank b).img.cart = cartDigest c))

/-- The bank that a session writes: neither ACTIVE nor TRIAL (R615). -/
def State.targetBank (s : State) : Nat :=
  ((List.range 2).find? (fun b => (s.bank b).st != 4 && (s.bank b).st != 3)).getD 1

/-- CARTOUCHE (R612, R615, R616). -/
def State.openSession (s : State) (who : Nat) (c : List Byte) : State × Ans :=
  let x := s.update.sess
  if x.busy then (s, s.badSession)
  else if x.holder ≠ 0 ∧ x.holder ≠ who then
    (s, .abort (if x.st = 3 ∧ s.stagedAs c then abortCode 8 0x12 x.holder else abortCode 8 1 x.holder))
  else if x.holder = 0 ∧ s.stagedAs c then (s, .abort 0x08120000)
  else match s.cartKeyFault c with
  | some a => (s, .abort a)
  | none =>
    let b := s.targetBank
    let s := s.setBank b 1
    let s := { s with update := { s.update with
      banks := modAt s.update.banks b (fun x => { x with img := .bytes c [] })
      sess := { st := 1, cause := 0, holder := who, bank := b, recv := 0, len := beAt c 20 4, result := 0
                opened := s.time80, act := 0, digest := (cartDigest c).take 16, version := beAt c 12 4
                lastReq := s.clock.now, trialEnd := 0, former := 0, reverting := false } } }
    (s, .done [])

/-- A write of :02, :03 or :05 by a requester without the lock, or in a state in which the table of R616 refuses it. -/
def State.sessionRefuses (s : State) (who : Nat) : Option Ans :=
  if s.update.sess.busy then some s.badSession
  else if s.update.sess.holder ≠ who then some (.abort 0x08130000)
  else none

/-- The value checks of a chunk (R619): its length and reserved bytes. -/
def chunkBad (v : List Byte) : Option Ans :=
  let n := leAt v 4 2
  if n = 0 ∨ 1016 < n then some badValue
  else if bytesAt v 6 2 ≠ [0, 0] ∨ (v.drop (8 + n)).any (· != 0) then some (.abort (abortCode 3 3 0))
  else none

/-- CHUNK (R619, R620), its value checks passed. -/
def State.chunk (s : State) (who : Nat) (v : List Byte) : State × Ans :=
  match s.sessionRefuses who with
  | some a => (s, a)
  | none =>
    let x := s.update.sess
    let o := leAt v 0 4
    let n := leAt v 4 2
    if o + n ≤ x.recv then (s, .done [])
    else if x.st ≠ 1 ∨ o ≠ x.recv ∨ x.len < o + n then (s, .abort (abortCode 3 0x2D x.recv))
    else
      let f (i : Image) : Image := match i with
        | .bytes c p => .bytes c (p ++ bytesAt v 8 n)
        | i => i
      let s := { s with update := { s.update with
        banks := modAt s.update.banks x.bank (fun y => { y with img := f y.img }) } }
      (s.mapSess (fun x => { x with recv := o + n }), .done [])

/-- The steps of a verification: the payload in pieces of 65,536, and one more (R622). -/
def verifySteps (len : Nat) : Nat := (len + 65535) / 65536 + 1

/-- The open operation of an object, whatever it works on. -/
def State.heldBy (s : State) (idx sub : Nat) : Option Nat :=
  (List.range 12).find? (fun i => (s.slot i).isOpen && (s.slot i).idx == idx && (s.slot i).sub == sub)

/-- VERIFY (R622): the operation of the holder; while an open verification holds the object its handle is answered
(R67), before a requester without the lock is refused under R618 (log entry 134). -/
def State.verify (s : State) (who : Nat) : State × Ans :=
  match s.heldBy 0x9000 3 with
  | some i => (s, .abort (abortCode 0xA 1 (s.slot i).handle))
  | none =>
    match s.sessionRefuses who with
    | some a => (s, a)
    | none =>
      let x := s.update.sess
      if x.st ≠ 1 ∨ x.recv ≠ x.len then (s, s.badSession)
      else match s.startOp false 0x9000 3 who (verifySteps x.len) x.bank with
      | (some h, s) => (s.mapSess (fun x => { x with st := 2 }), .started h)
      | (none, s) => (s, .abort (abortCode 5 1 0))

/-- What a verification that has failed or succeeded does to its session: nothing once the session has ended (R69). -/
def State.verifyEnd (s : State) (b : Nat) (fault : Option Nat) : State :=
  if s.update.sess.st ≠ 2 then s
  else match fault with
  | some a => s.endSession 8 0x10 a true
  | none => (s.setBank b 2).mapSess (fun x => { x with st := 3 })

/-- One step of a verification (R622): the last applies the payload checks; `bad` is a check that failed on the way. It
runs on when the session that started it has closed (R69). -/
def State.verifyStep (s : State) (i : Nat) (bad : Option Nat) : State :=
  let s := s.stepBegun i
  let j := s.slot i
  let last := decide (j.planned ≤ j.steps + 1)
  let fault := match bad with
    | some a => some a
    | none => if ¬ last then none
      else (match (s.bank j.arg).img with
        | .bytes c p => payloadFault c p
        | _ => none)
  match fault with
  | some a => (s.endOp i 3 a).verifyEnd j.arg (some a)
  | none =>
    let s := s.stepDone i (leBytes 4 (min ((j.planned - 1) * 65536) ((j.steps + 1) * 65536)) ++ zeros 8)
    if ¬ last then s else (s.endOp i 2 0).verifyEnd j.arg none

/-- A verification cancelled (R622). -/
def State.verifyCancel (s : State) : State := if s.update.sess.st = 2 then s.endSession 9 5 0 true else s

/-- ACTIVATION_TIME (R623). -/
def State.schedule_ (s : State) (who v : Nat) : State × Ans :=
  let x := s.update.sess
  if x.st = 4 ∧ v = 0 then
    if x.holder ≠ 0 ∧ x.holder ≠ who then (s, .abort 0x08130000)
    else (s.mapSess (fun x => { x with st := 3, act := 0 }), .done [])
  else if x.busy then (s, s.badSession)
  else if x.holder ≠ 0 ∧ x.holder ≠ who then (s, .abort 0x08130000)
  else if x.st ≠ 3 then (s, s.badSession)
  else if v ≤ s.time80 then (s, .abort 0x032E0000)
  else (s.mapSess (fun x => { x with st := 4, act := v }), .done [])

/-- CLOSE (R630): a RECEIVING or STAGED session abandoned with cause 0x01; a RECEIVING one's bank is INVALID. -/
def State.closeSession (s : State) (who : Nat) : State × Ans :=
  match s.sessionRefuses who with
  | some a => (s, a)
  | none =>
    if s.update.sess.st = 1 then (s.endSession 9 1 0 true, .done [])
    else if s.update.sess.st = 3 then (s.endSession 9 1 0 false, .done [])
    else (s, s.badSession)

/-! ### Activation, trial, reversion (R624 to R626) -/

/-- The former bank ACTIVE no more, the new one ACTIVE: the end of a trial or of a reversion by command. -/
def State.promote (s : State) : State :=
  let x := s.update.sess
  let s := if x.former = x.bank then s else s.setBank x.former 5
  (s.setBank x.bank 4).mapSess (fun x => { x with st := 7, cause := 0, result := 0, holder := 0 })

/-- What the table of R616 has against a write to 0x9000 that no rule of its own names: a session SCHEDULED, ACTIVATING or
TRIAL, or the lock held by another requester. -/
def State.sessionHeld (s : State) (who : Nat) : Option Ans :=
  let x := s.update.sess
  if x.busy then some s.badSession
  else if x.holder ≠ 0 ∧ x.holder ≠ who then some (.abort (abortCode 8 1 x.holder))
  else none

/-- CONFIRM (R616, R626): a slot-signed image ends the acceptance of the factory key (R611). -/
def State.confirm (s : State) (who : Nat) : State × Ans :=
  if s.update.sess.st ≠ 6 then (s, (s.sessionHeld who).getD s.badSession)
  else
    let slot := (s.bank s.update.sess.bank).img.keySlot
    let s := s.promote
    let s := if slot ≤ 1 then { s with fuses := { s.fuses with factoryKey := false } } else s
    (s, .done [])

/-- Steps 1 and 2 of an activation (R624): the bank TRIAL, the service core restarted from it. -/
def State.activate (s : State) (b : Nat) (reverting : Bool) : State :=
  let f := (s.activeBank).getD s.update.loaded
  let s := (s.setBank b 3).setLoaded b
  let s := s.mapSess (fun x => { x with st := 5, bank := b, former := f, reverting := reverting })
  (s.restartEffects true).beginRestart

/-- UPDATE_ACTIVATE (R624): at the activation time, in a state that admits it, once the cartouche checks pass again. -/
def State.updateActivate (s : State) : State :=
  let x := s.update.sess
  if x.st ≠ 4 ∨ s.time80 < x.act then s
  else if ¬ [DevState.run, .degraded, .standby, .ready, .maint].contains s.dev.st then
    s.endSession 8 0x11 (abortCode 4 1 s.dev.st.code) false
  else match s.imageFault (s.bank x.bank).img false with
  | some a => s.endSession 8 0x10 a true
  | none => s.activate x.bank false

/-- The part reverts (R626): the service core is restarted from the former ACTIVE bank, the new bank is INVALID, the
session FAILED, FC-15 raised at level F1. -/
def State.revertTrial (s : State) (cause : Nat) : State :=
  let x := s.update.sess
  let s := ((s.setBank x.bank 6).setLoaded x.former).endSession 8 cause 0 false
  ((s.restartEffects false).beginRestart).raise { cls := 15, level := 1, object := 0xFF, value := x.bank }

/-- ACTIVATION_LOADS_COMPLETE (R624 to R626): requests sent during the reload are discarded; the session enters TRIAL, or ends a reversion by command; a failed check
reverts. -/
def State.loadsComplete (s : State) (ok : Bool) : State :=
  let x := s.update.sess
  if x.st ≠ 5 then s
  else if ¬ ok then s.revertTrial 0x10
  else
    let s := s.discardRequests
    let s := { s with faults := { s.faults with restarting := false } }
    if x.reverting then s.promote
    else s.mapSess (fun x => { x with st := 6, trialEnd := s.clock.now + s.obj 0x9000 8 * Config.sec })

/-- TRIAL_EXPIRE (R626). -/
def State.trialExpire (s : State) : State :=
  if s.update.sess.st = 6 ∧ s.update.sess.trialEnd ≤ s.clock.now then s.revertTrial 0x12 else s

/-- REVERT (R626): the PREVIOUS bank activated at once. -/
def State.revert (s : State) : State × Ans :=
  let x := s.update.sess
  if 1 ≤ x.st ∧ x.st ≤ 6 then (s, s.badSession)
  else match (List.range 2).find? (fun b => (s.bank b).st == 5) with
  | none => (s, s.badSession)
  | some b =>
    match s.imageFault (s.bank b).img true with
    | some a => (s, .abort a)
    | none =>
      let c := (s.bank b).img.cart
      let s := s.mapSess (fun _ =>
        { st := 5, cause := 0, holder := 0, bank := b, recv := beAt c 20 4, len := beAt c 20 4, result := 0
          opened := s.time80, act := 0, digest := (cartDigest c).take 16, version := beAt c 12 4
          lastReq := s.clock.now, trialEnd := 0, former := 0, reverting := true })
      (s.activate b true, .done [])

/-- The session as a cold reset leaves it. -/
def Session.none_ : Session :=
  { st := 0, cause := 0, holder := 0, bank := 0, recv := 0, len := 0, result := 0, opened := 0, act := 0
    digest := zeros 16, version := 0, lastReq := 0, trialEnd := 0, former := 0, reverting := false }

/-- What a warm reset does to the session (R606, R629); a SCHEDULED one is looked at when the start is over. -/
def State.sessionWarm (s : State) : State :=
  let x := s.update.sess
  if x.st = 1 ∨ x.st = 2 then s.endSession 9 4 0 true
  else if x.st = 5 ∨ x.st = 6 then s.endSession 8 0x10 0 false
  else s

/-- A SCHEDULED session whose time passed during the reset (R629). -/
def State.sessionLate (s : State) : State :=
  if s.update.sess.st = 4 ∧ s.update.sess.act ≤ s.time80 then s.endSession 8 0x11 (abortCode 4 1 s.dev.st.code) false else s

/-- The 64 octets of the session record (R628). -/
def Session.bytes (x : Session) : List Byte :=
  let b := [byteOf x.st, byteOf x.cause] ++ leBytes 2 x.holder ++ [byteOf x.bank, 0, 0, 0] ++ leBytes 4 x.recv ++
    leBytes 4 x.len ++ leBytes 4 x.result ++ timeLe x.opened ++ timeLe x.act ++ bytesAt x.digest 0 16 ++
    leBytes 4 x.version
  if x.st = 0 then zeros 64 else b ++ leBytes 4 (crc32 b)

end Sys2Proof.Machine
end

