-- ==== Sys2Proof/Machine/Reaction.lean ====
section
/-! DEFINITION. The containments of the fault classes (R541, R552), and the detectors of the bond link, the crossings, the
fault paths, the controllers and the service core (R13 to R15, R18, R21, R540 to R562, R627, R703). -/

namespace Sys2Proof.Machine

/-! ### Containment (R552) -/

/-- The bank of the central store in which a table's line lies, and its row: the part's own (log entry 2). A line moved into
the reserve lies where the reserve has it. -/
def State.lineRow (s : State) (table line : Nat) : Nat :=
  let place := Config.linePlace (if s.lineMoved table line then 0x10000 + table else table) line
  place / 128 % 128 + 128 * Config.memRow 2 place

/-- The spare code and the row by which an object of FC-01 is repaired: a pool's macro or block group, a table's bank, of the
other memories that of a stage engine in an SRAM region of the FE die; those of the TM die have no spares of R528 (log entry
163). -/
def State.repairOf (s : State) (object value : Nat) : Option (Nat × Nat) :=
  let t := object / 2 ^ 24
  if t = 0xFF then
    (if object % 2 ^ 24 < 32 then some (4, Config.regionEngine (object % 2 ^ 24) value % 544 + 544 * Config.memRow 4 value) else none)
  else if t = 0xF2 then some (11, value / 8)
  else if t = 0xF3 then some (6, 192 + value / 4096 % 32 + 224 * Config.memRow 6 value)
  else if 0xF0 ≤ t then some (6, value / 4096 % 192 + 224 * Config.memRow 6 value)
  else some (2, s.lineRow t value)

/-- FC-01 at level F2: the row is repaired at once, whatever its history. -/
def State.containMemory (s : State) (object value : Nat) : State :=
  match s.repairOf object value with
  | some (code, row) => s.repairRow code row
  | none => s

/-- A place of a packet is a cell, or lies in a block, of a pool. -/
def placeIn (pool num : Nat) : Place → Bool
  | .die n => pool < 2 && n == num
  | .block b _ => pool == 2 && b == num

/-- The queues that hold a cell or a block. -/
def State.queuesHolding (s : State) (pool num : Nat) : List Nat :=
  (s.sched.ques.filter (fun q => (q.pkts ++ q.locals).any (fun p => p.places.any (placeIn pool num)))).map (·.qid)

/-- Packets outside the queues that hold a cell of the die, dropped: a packet in reassembly and a cell held by the
resequencer, a packet in a stream (R297), the punts of a class and the inject frames that wait with it (log entry 158). -/
def State.dropHolders (s : State) (num : Nat) : State :=
  let has (p : Pkt) : Bool := p.places.contains (.die num)
  let asm := (s.fabric.rxs.filterMap (·.asm) ++ s.fabric.pins.filterMap (·.asm)).filter
    (fun a => !a.refused && !a.placed && has a.pkt)
  let s := asm.foldl (fun s a => (s.portFlushed a.pkt.qid 1).release [a.pkt]) s
  let held := s.fabric.rxs.flatMap (fun x => x.held.filter (fun h => h.place == some num))
  let s := { s with fabric := { s.fabric with
    rxs := s.fabric.rxs.map (fun x => { x with held := x.held.filter (fun h => h.place != some num) }) } }
  let s := held.foldl State.freeHeld s
  let s := (s.txBad (fun t => (t.held.map has).getD false)).getD s
  let cls := (s.flow.punts.filter (fun p => p.cells.contains num)).map (·.cls)
  let punts := s.flow.punts.filter (fun p => cls.contains p.cls)
  let inj := if s.flow.injectIn.any (fun x => x.2.contains num) then s.flow.injectIn else []
  let s := { s with flow := { s.flow with
    punts := s.flow.punts.filter (fun p => !cls.contains p.cls)
    injectIn := if inj.isEmpty then s.flow.injectIn else [] } }
  ((s.freeCells 0 (punts.flatMap (fun p => p.cells.map (fun n => (n, 5))))).freeCells 1
    (inj.flatMap (fun x => x.2.map (fun n => (n, 5))))).bumpN 0x5101 6 (punts.length + inj.length)

/-- The frames of a list, dropped whole when one of them holds a cell of the FE body store. -/
def dropBodies (num : Nat) (l : List Frame) : List Frame := if l.any (fun f => f.cells.contains num) then [] else l

/-- The frames of the FE die whose queue holds a cell of the FE body store, dropped: a recirculation queue, what waits for a
line MAC; and the frame in a pipeline or in the reorder unit that holds it (R258, R266; log entry 158). -/
def State.dropBody (s : State) (num : Nat) : State :=
  let old := s.flow
  let hit (f : Frame) : Bool := f.cells.contains num
  let ports := (old.toLine.filter (fun x => hit x.2)).map (·.1)
  let gone := old.ctxs.filter (fun c => hit c.frame)
  let s := { s with flow := { old with
    recircI := dropBodies num old.recircI
    recircE := dropBodies num old.recircE
    toLine := old.toLine.filter (fun x => !ports.contains x.1)
    ctxs := old.ctxs.filter (fun c => !hit c.frame)
    ro := old.ro.map (fun (e : RoEntry) => if (e.res.frame?.map hit).getD false then { e with res := .gone } else e) } }
  let s := gone.foldl (fun s c => if c.dir = Dir.ingress then s.settleSeq c.frame.dom c.frame.seq .gone else s) s
  (s.bumpN 0x5101 6 (old.frames.length - s.flow.frames.length)).feSettle old

/-- FC-04 at level F2: the queues holding the cell are flushed, the cell is withdrawn until the next reset. -/
def State.containCell (s : State) (object : Nat) : State :=
  let pool := object / 2 ^ 29
  let num := object % 2 ^ 29
  if num = 2 ^ 29 - 1 then s
  else
    let s := (s.queuesHolding pool num).foldl State.flushAll s
    let s := if pool = 3 then s.dropBody num else if pool < 2 then s.dropHolders num else s
    let u := (unitKind pool, num)
    if s.buf.withdrawn.contains u then s
    else { s with buf := { s.buf with withdrawn := s.buf.withdrawn ++ [u] } }.poolSync pool

/-- The elements of a list whose places are not named. -/
def dropPlaces {α : Type} (l : List α) (gone : List Nat) : List α :=
  ((l.zip (List.range l.length)).filter (fun x => !gone.contains x.2)).map (·.1)

/-- Packets on the bond link lost in one direction, by their places in it, and counted (R13, R552): towards the TM die the
frames, copies and punts of `toTm`, and the tail of one that is cut through (R297); towards the FE die those of the egress
queues, then the ingress-mode injects, whose cells of the egress partition are freed (R258), then the frames of line
cut-through whose later bytes are still to come (R295). -/
def State.loseBond (s : State) (toTm : Bool) (gone : List Nat) (idx sub : Nat) : State :=
  let fl := s.flow
  if toTm then
    let l := dropPlaces fl.toTm gone
    let out := (fl.toTm.zip (List.range fl.toTm.length)).filter (fun x => gone.contains x.2)
    (out.filterMap (·.1.pid)).foldl State.bondLost
      ({ s with flow := { fl with toTm := l } }.bumpN idx sub (fl.toTm.length - l.length))
  else
    let e := dropPlaces fl.egressIn gone
    let skip := fl.egressIn.length
    let out := (gone.filter (fun i => decide (skip ≤ i))).map (· - skip)
    let tails := (fl.arriving.zip (List.range fl.arriving.length)).filter (fun x => out.contains (fl.injectIn.length + x.2))
    let j := dropPlaces fl.injectIn out
    let cells := ((fl.injectIn.zip (List.range fl.injectIn.length)).filter (fun x => out.contains x.2)).flatMap (·.1.2)
    (tails.map (·.1)).foldl State.loseTail
      (({ s with flow := { fl with egressIn := e, injectIn := j } }.bumpN idx sub
        (skip - e.length + (fl.injectIn.length - j.length) + tails.length)).freeCells 1 (cells.map (fun n => (n, 5))))

/-- FC-05 at level F2: the frames that a crossing FIFO held are dropped and counted at 0x8000:0E. The crossings that hold
frames between commands are those to the line MACs (1) and those of the two directions of the bond link (3, 5; 6, 8). -/
def State.containCrossing (s : State) (c : Nat) : State :=
  let fl := s.flow
  if c = 1 then ({ s with flow := { fl with toLine := [] } }.bumpN 0x8000 0xE fl.toLine.length).feSettle fl
  else if c = 3 ∨ c = 5 then s.loseBond true (List.range fl.toTm.length) 0x8000 0xE
  else if c = 6 ∨ c = 8 then s.loseBond false (List.range (fl.egressIn.length + fl.injectIn.length + fl.arriving.length)) 0x8000 0xE
  else s

/-- FC-07 at level F2: the lane sleeps in both directions until host software wakes it. -/
def State.containLane (s : State) (code : Nat) : State :=
  if ¬ isLaneCode code then s
  else
    let tx := s.laneSet code 0xC
    let rx := s.laneSet code 0xD
    let s := (s.setObjI 0x3201 0xC code 1).laneWritten code 0xC tx 1
    (s.setObjI 0x3201 0xD code 1).laneWritten code 0xD rx 1

/-- The key under which a path other than a POP address is ignored (R62, R552). -/
def ignoreKey (requester : Nat) : Nat := 2 ^ 129 + requester

/-- A source ignored for 10 s. -/
def State.ignore (s : State) (key : Nat) : State :=
  let p := s.dict.pop
  let l := p.ignored.filter (fun e => e.1 != key)
  { s with dict := { s.dict with pop := { p with ignored := l ++ [(key, s.clock.now + 10 * Config.sec)] } } }

/-- The key under which a requester is ignored: a POP session's source address, any other path's own. -/
def State.hostKey (s : State) (requester : Nat) : Option Nat :=
  if 0x3000 ≤ requester ∧ requester < 0x3004 then (s.dict.pop.sess.getD (requester - 0x3000) none).map (·.peer.ip)
  else if 0x2010 ≤ requester ∧ requester < 0x2014 then none
  else some (ignoreKey requester)

/-- A source is being ignored: for its 10 s, or as the source of a failed path (R62, R542, R552). -/
def State.ignores (s : State) (key : Nat) : Bool :=
  s.dict.pop.ignored.any (fun e => e.1 == key && decide (s.clock.now < e.2)) ||
    s.faults.paths.any (fun p => p.source.cls.val + 1 == 13 && s.hostKey p.source.object == some key)

/-- A DMA engine stops at its current descriptor: its channel stops. -/
def State.stopEngine (s : State) (e : Nat) : State :=
  match (s.pcie.engines.getD e ⟨none, 0⟩).xfer with
  | none => s
  | some x =>
    { s with pcie := { s.pcie with
        chans := modAt s.pcie.chans x.ch (fun c => { c with stopped := true, stopErr := x.err, stopIdx := x.idx }) } }

/-- FC-13 at level F2: the path or the POP source address is ignored for 10 s; a DMA engine stops. -/
def State.containHost (s : State) (requester : Nat) : State :=
  if 0x2010 ≤ requester ∧ requester < 0x2014 then s.stopEngine (requester - 0x2010)
  else match s.hostKey requester with
  | some key => s.ignore key
  | none => s

/-- FC-14 at level F2: a line port is held down for its flap hold. -/
def State.containPort (s : State) (p : Nat) : State :=
  if 128 ≤ p then s
  else
    let s := s.goDown p 0
    s.setPort { s.port p with link := 3, flapEnd := s.clock.now + s.obj (0x3000 + p) 0x13 * Config.sec }

/-- A controller's record set, and what its units' users see of it. -/
def State.setCtl (s : State) (c : Nat) (x : Ctl) : State :=
  let s := { s with faults := { s.faults with ctls := s.faults.ctls.set c x } }
  if c < 8 then (List.range 16).foldl (fun s i => s.laneChanged (16 * c + i)) s
  else if c < 18 then s.floorSync else s

/-- FC-15 at level F2: the controller is reloaded, its units are out of service until its check passes; the service core
is restarted. -/
def State.containCtl (s : State) (c : Nat) : State :=
  if c = 0xFF then s.beginRestart else if 24 ≤ c then s else s.setCtl c ⟨false, 0, true⟩

/-- FC-03 at level F2 (R120, R552): a stage that SX has replaced is out of use already; while another pipeline of the
direction drains the containment waits. -/
def State.containStage (s : State) (c : Contain) : State :=
  let pl := c.object / 17
  if 544 ≤ c.object ∨ s.record.mem.spares.pipeRetired.contains pl ∨ s.pipeSubst pl = c.object % 17 then s
  else if s.pipeMoving pl then { s with faults := { s.faults with waiting := s.faults.waiting ++ [c] } }
  else s.stageLimit c.object (0x1000 + c.object) 0

/-- A place of a packet's last cell marked BAD: the cell's descriptor, or its bit of the block's BAD map (R255, R257). -/
def Buf.markBad (b : Buf) : Place → Buf
  | .die n => { b with cells := modFirst (fun c => c.pool == 0 && c.num == n) (fun c => { c with bad := true }) b.cells }
  | .block k i => { b with blocks := modFirst (fun x => x.num == k) (fun x => { x with badMap := setBit x.badMap i true }) b.blocks }

/-- Packets whose tail has gone bad: in queues, in reassembly, in a transmit stream (R266, R297, R298). -/
def State.spoilPkts (s : State) (hit : Pkt → Bool) : State :=
  let mine : List Pkt := s.sched.ques.flatMap (fun q => (q.pkts ++ q.locals).filter hit)
  let set (p : Pkt) : Pkt := if hit p then { p with bad := true } else p
  let setA (a : Option Asm) : Option Asm := a.map (fun a => { a with pkt := set a.pkt })
  let s : State := { s with
    buf := (mine.filterMap (fun p => p.places.getLast?)).foldl Buf.markBad s.buf
    sched := { s.sched with
      ques := s.sched.ques.map (fun q => { q with pkts := q.pkts.map set, locals := q.locals.map set }) }
    fabric := { s.fabric with
      rxs := s.fabric.rxs.map (fun x => { x with asm := setA x.asm })
      pins := s.fabric.pins.map (fun x => { x with asm := setA x.asm }) } }
  (s.txBad (fun t => (t.held.map hit).getD false)).getD s

/-- The transfer word of a held cell with BAD set (R362). -/
def HeldCell.spoil (h : HeldCell) : HeldCell :=
  { h with cell := { h.cell with bytes := h.cell.bytes.modifyHead (fun b => b ||| 4) } }

/-- What the TM die holds outside its queues in a cell with a bad tail (R266, R298): a punt is dropped and counted, an inject
frame and a cell of the resequencer are bad. -/
def State.spoilHolders (s : State) (num : Nat) : State :=
  let gone := s.flow.punts.filter (fun p => p.cells.contains num)
  let s := { s with
    flow := { s.flow with
      punts := s.flow.punts.filter (fun p => !p.cells.contains num)
      injectIn := s.flow.injectIn.map (fun (x : Frame × List Nat) => if x.2.contains num then ({ x.1 with bad := true }, x.2) else x) }
    fabric := { s.fabric with
      rxs := s.fabric.rxs.map (fun (x : RxStream) => { x with held := x.held.map (fun (h : HeldCell) => if h.place = some num then h.spoil else h) }) } }
  (s.bumpN 0x5001 6 gone.length).freeCells 0 (gone.flatMap (fun (p : Punt) => p.cells.map (fun n => (n, 5))))

/-- A frame with a bad cell of the FE body store. -/
def Frame.spoilCell (n : Nat) (f : Frame) : Frame := if f.cells.contains n then { f with bad := true } else f

/-- The frame of a settled number changed. -/
def Settle.mapFrame (g : Frame → Frame) : Settle → Settle
  | .forward f k d m => .forward (g f) k d m
  | .recirc f => .recirc (g f)
  | .punt f b c => .punt (g f) b c
  | r => r

/-- An uncorrectable error in the data of a cell of a pool: the tail of what lies in it is bad (R266). -/
def State.cellBad (s : State) (pool num : Nat) : State :=
  if pool = 3 then
    let g := Frame.spoilCell num
    { s with flow := { s.flow with
        ctxs := s.flow.ctxs.map (fun c => { c with frame := g c.frame })
        recircI := s.flow.recircI.map g
        recircE := s.flow.recircE.map g
        toLine := s.flow.toLine.map (fun x => (x.1, g x.2))
        ro := s.flow.ro.map (fun e => { e with res := e.res.mapFrame g }) } }
  else (s.spoilPkts (fun p => p.places.contains (.die num))).spoilHolders num

/-- FC-02 at level F2: a table line that has not been repaired is handled as under R208, so that only a rewrite of its
entries lifts the poison; nothing for an object that has been repaired. What reads a line of any other memory is lost with
it: of a cell or a block, the packets and frames whose bytes lie in it (R208, R298; log entry 168). -/
def State.containLine (s : State) (object value : Nat) : State :=
  let table := object / 2 ^ 24
  if table = 0xFF then s
  else if table = 0xF2 then s.spoilPkts (fun p => p.places.any (placeIn 2 value))
  else if 0xF0 ≤ table then s.cellBad (table - 0xF0) value
  else match s.tables.lineAt table value with
  | some l => if l.poisoned ∧ ¬ l.backingBad then s.setTables (s.tables.setLine table value true true) else s
  | none => s

/-- FC-16 at level F2: a member in STANDBY or SYNC enters ISOLATED; a resynchronisation that runs has failed (R479). -/
def State.containPair (s : State) : State :=
  match s.pair.st with
  | .standby => s.isolate
  | .sync => s.syncFail
  | _ => s

/-- The containment of a class at level F2, applied to an object (R552). Class 0 stands for the halt of a die. -/
def State.contain (s : State) (c : Contain) : State :=
  match c.cls with
  | 1 => s.containMemory c.object c.value
  | 2 => s.containLine c.object c.value
  | 3 => s.containStage c
  | 4 => s.containCell c.object
  | 5 => s.containCrossing c.object
  | 7 => s.containLane c.object
  | 8 => { s with faults := { s.faults with laneHolds := s.faults.laneHolds ++ [(c.event, c.object)] } }.floorSync
  | 9 => s.mapWire (c.object / 2 ^ 31) (c.object % 2 ^ 16) 0
  | 10 => s.withdrawChannel (c.object % 128)
  | 12 => if isBench c.object then s.atLimit c.object else s
  | 13 => s.containHost c.object
  | 14 => if c.port then s.containPort c.object else s
  | 15 => s.containCtl c.object
  | 16 => s.containPair
  | _ => s

/-- The containments called for, carried out in turn; `fuel` bounds them. -/
def State.containAll (s : State) : Nat → State
  | 0 => s
  | fuel + 1 =>
    match s.faults.todo with
    | [] => s
    | c :: r => ({ s with faults := { s.faults with todo := r } }.contain c).containAll fuel

/-! ### Bond link, sideband, crossings (R13 to R15, R21, R548) -/

/-- BOND_FLIT_UNCORRECTABLE (R13): packets with bytes in the flit, by their places in the direction, are dropped. A flit
error names no wire: the event's object names wire 0 of the direction (log entry 127). -/
def State.flitLost (s : State) (toTm : Bool) (lost : List Nat) : State :=
  let s := s.loseBond toTm lost 0xA100 1
  let sub := if toTm then 2 else 3
  (s.bump 0xA100 sub).raise { cls := 9, level := 1, die := 2, object := if toTm then 0 else 2 ^ 31, ctrIdx := 0xA100, ctrSub := 1 }

/-- The sideband as a die receives it. -/
def State.sb (s : State) (d : Die) : Sideband := match d with
  | .fe => s.sbFe
  | .tm => s.sbTm

/-- The sideband of a die set. -/
def State.setSb (s : State) (d : Die) (x : Sideband) : State := match d with
  | .fe => { s with sbFe := x }
  | .tm => { s with sbTm := x }

/-- The direction of the bond link in which a die receives, as FC-09 names it: 0 FE to TM. -/
def recvDir : Die → Nat
  | .tm => 0
  | .fe => 2 ^ 31

/-- SIDEBAND_SAFE_VALUE (R14): the permission is withdrawn and no commit is taken; its action at level F2 is its own. -/
def State.sidebandSafe (s : State) (d : Die) : State :=
  if (s.sb d).safe then s
  else
    (s.setSb d ⟨false, (s.sb d).commit, true, s.clock.now, false⟩).raise
      { cls := 9, level := 2, die := 2, object := recvDir d, own := true }

/-- SIDEBAND_SAFE_VALUE_CLEAR (R14): the words received take the place of the safe values. -/
def State.sidebandClear (s : State) (d : Die) : State := s.setSb d ⟨s.permitSent, s.tx.commit, false, s.clock.now, false⟩

/-- The code of a die in an event (R556). -/
def dieCode : Die → Nat
  | .tm => 0
  | .fe => 1

/-- SIDEBAND_SAFE_TIMEOUT (R548): 10 ms without interruption. -/
def State.sidebandTimeout (s : State) (d : Die) : State :=
  let x := s.sb d
  if x.safe ∧ ¬ x.raised ∧ x.since + 10 * Config.ms ≤ s.clock.now then
    (s.setSb d { x with raised := true }).raise { cls := 9, level := 4, die := dieCode d, object := recvDir d }
  else s

/-- The die of a crossing as an event names it, by its place in the table of crossings (R556): those between CORE, the line
clocks and the bond domain's FE end lie on the FE die, the transits are the bond link, the others lie on the TM die (DEDUCED, log entry 176). -/
def crossingDie (c : Nat) : Nat :=
  if c ≤ 3 ∨ c = 8 then 1 else if c = 4 ∨ c = 7 then 2 else 0

/-- CROSSING_POINTER_MISMATCH (R21). -/
def State.crossing (s : State) (c : Nat) : State := s.raise { cls := 5, level := 2, die := crossingDie c, object := c }

/-! ### Fault paths (R540 to R542) -/

/-- The class of a fault source: FC-01 to FC-16, which its place counts from 0. -/
def sourceClass (x : FaultSource) : Nat := x.cls.val + 1

/-- The collector does not hear a path: it has failed, or it is one of the FE die while the FE housekeeping controller is
out of service. -/
def State.deafTo (s : State) (path : Nat) : Bool :=
  s.faults.paths.any (fun p => p.path == path) || (path < 1280 && s.ctlOut 23)

/-- A memory error names a cell of the die or of the FE body store (R552). -/
def poolCell (x : FaultSource) : Bool :=
  [0xF0, 0xF1, 0xF3].contains (x.object / 2 ^ 24)

/-- What a memory error of a pool does beside its event (R266): FC-01 counts a corrected cell error, FC-02 marks tails bad,
FC-04 at level F2 by R266 itself withdraws the cell. -/
def State.poolError (s : State) (x : FaultSource) : State :=
  match sourceClass x with
  | 1 => if (poolCell x) then s.bump 0x5001 0xF else s
  | 2 => if (poolCell x) then s.cellBad (x.object / 2 ^ 24 - 0xF0) (x.object % 2 ^ 24) else s
  | 4 => if x.level.val = 2 ∧ x.ownAction then s.containCell x.object else s
  | _ => s

/-- An uncorrectable error that a path reports enters the history of its row (R529). -/
def State.hardError (s : State) (x : FaultSource) : State :=
  if sourceClass x = 2 then
    match s.repairOf x.object x.value with
    | some (code, row) => s.noteError code row true
    | none => s
  else s

/-- FAULT_PATH_ASSERT (R540): the source's event is raised; an error of a cell has the effects of R266. -/
def State.pathAssert (s : State) (path : Option Nat) (x : FaultSource) : State :=
  if path.any s.deafTo then s
  else
    let counted := sourceClass x == 1 && (poolCell x)
    ((s.poolError x).hardError x).raise
      { cls := sourceClass x, level := x.level.val, die := x.die.val, path := path.getD 0xFFFF, object := x.object,
        value := x.value, own := x.ownAction, port := x.die.val == 1, ctrIdx := if counted then 0x5001 else 0, ctrSub := if counted then 0xF else 0 }

/-- FAULT_PATH_FAILURE (R541): FC-06 at level F2, and the containment of the source's class at level F2. -/
def State.pathFailure (s : State) (path : Nat) (x : FaultSource) : State :=
  if s.deafTo path then s
  else
    let num := (s.faults.newest + 1) % 2 ^ 32
    let s := (s.bump 0x8000 7).raise
      { cls := 6, level := 2, die := x.die.val, path := path, object := path, own := true, failed := true,
        ctrIdx := 0x8000, ctrSub := 7 }
    { s with faults := { s.faults with
        paths := s.faults.paths ++ [FailedPath.mk path num false false x]
        todo := s.faults.todo ++ [Contain.mk (sourceClass x) x.object x.value num (x.die.val == 1)] } }

/-- FAULT_PATH_RECOVER (R542): a legal pair is read again. -/
def State.pathRecover (s : State) (path : Nat) : State :=
  { s with faults := { s.faults with
      paths := modFirst (fun p => p.path == path) (fun p => { p with recovered := true }) s.faults.paths } }

/-- Recovered paths whose FC-06 event has been acknowledged are taken back into use (R542); a hold whose event stands no more
is over (R552). -/
def State.pathSync (s : State) : State :=
  { s with faults := { s.faults with
      paths := s.faults.paths.filter (fun p => !(p.recovered && p.acked))
      laneHolds := s.faults.laneHolds.filter (fun h => s.faults.isStanding h.1) } }

/-! ### Service core and controllers (R18, R555, R627, R703) -/

/-- SERVICE_CORE_WATCHDOG (R555, R626): no signal for 30 ms. -/
def State.coreWatchdog (s : State) : State :=
  if s.dev.st = .boot ∨ s.faults.restarting then s
  else
    let s := (s.bump 0x8000 0xF).raise
      { cls := 15, level := 2, object := 0xFF, own := true, ctrIdx := 0x8000, ctrSub := 0xF }
    let s := if s.update.sess.st = 5 ∨ s.update.sess.st = 6 then s.revertTrial 0x13 else s
    s.beginRestart

/-- SERVICE_CORE_RESTART_COMPLETE (R548, R555): a load check that fails halts the TM die. During an activation the paths stay
unserved until step 3 of R624 is over. -/
def State.coreRestarted (s : State) (ok : Bool) : State :=
  if ¬ s.faults.restarting then s
  else if ok then
    (if s.update.sess.st = 5 then s
     else { s.restartEffects false with faults := { (s.restartEffects false).faults with restarting := false } })
  else s.raise { cls := 15, level := 4, die := 0, object := 0xFF }

/-- CONTROLLER_WATCHDOG (R703): a controller in service is silent for 30 ms or reports an error. It is reloaded whatever
level its event takes. -/
def State.ctlWatchdog (s : State) (c : Nat) : State :=
  if s.dev.st = .boot ∨ s.ctlOut c ∨ ¬ (s.faults.ctls.getD c ⟨false, 0, false⟩).loaded then s
  else (s.raise { cls := 15, level := 2, die := if c < 8 ∨ c = 23 then 1 else 0, object := c, own := true }).containCtl c

/-- CONTROLLER_LOAD_CHECK (R18, R627, R703): a load that fails is made once more; a second failure holds the part in INIT
until the next reset, or leaves the controller's units out of service until the next start. -/
def State.ctlCheck (s : State) (c : Nat) (ok : Bool) : State :=
  let x := s.faults.ctls.getD c ⟨false, 0, false⟩
  if x.loaded ∨ 2 ≤ x.fails ∨ s.dev.st = .boot then s
  else if ok then
    let s := s.setCtl c ⟨true, 0, false⟩
    if c = 23 then { s with dev := { s.dev with feAlive := true } } else s
  else
    let s := s.setCtl c { x with fails := x.fails + 1 }
    if x.fails = 0 then s
    else if s.dev.st = .init then
      s.raise { cls := 15, level := 2, die := if c < 8 ∨ c = 23 then 1 else 0, object := c, own := true }
    else s.raise { cls := 15, level := 3, die := if c < 8 ∨ c = 23 then 1 else 0, object := c }

/-- ALIVE_T and ALIVE_F toggle (R560). -/
def State.aliveT (s : State) : Bool := s.dev.st != .boot && !s.faults.haltTm && !s.dev.tmStopped
def State.aliveF (s : State) : Bool := s.dev.feAlive && !s.faults.haltFe && !s.dev.feStopped

/-- DIE_CLOCK_STOP (R560). -/
def State.dieClockStop (s : State) (d : Die) : State :=
  { s with dev := match d with
      | .tm => { s.dev with tmStopped := true }
      | .fe => { s.dev with feStopped := true } }

/-! ### What follows from the faults (R542, R550, R561, R655) -/

/-- The device state follows the degraded mark and the pair state (R481, R655), and the words of the sideband follow it
(R14). -/
def State.devSync (s : State) : State :=
  (if s.dev.st.inService then s.enter (s.pairDev s.degraded) else s).sideWords

/-- Containments, then the states and marks that follow from them. -/
def State.react (s : State) : State :=
  (((s.containAll 64).pathSync.fltSync).devSync).endByState

end Sys2Proof.Machine
end

