-- ==== Sys2Proof/Machine/Dma.lean ====
section
/-! DEFINITION. PCIe: host misbehaviour, registers, channels and descriptors of the DMA engines, punt, inject and
timestamp rings, table and statistics descriptors, the table window (chapter 16, R195 to R203, R708). -/

namespace Sys2Proof.Machine

/-- Host misbehaviour of a kind, counted; FC-13 at level F0 on the first of its kind in each second (R601). -/
def State.hostMis (s : State) (idx sub who : Nat) : State :=
  let s := s.bump idx sub
  let (first, s) := s.firstInSecond (0x60100000000 + idx * 256 + sub)
  if first then s.raise { cls := 13, level := 0, object := who, ctrIdx := idx, ctrSub := sub } else s

/-- An access of a source reaches the part over a memory BAR: memory space is enabled and the source is not being ignored
(R552, R642). -/
def State.memOk (s : State) (who : Nat) : Bool := s.pcie.memory && !s.ignores (ignoreKey who)

/-- A memory request that does not: Unsupported Request without memory space; a source that is being ignored gets no answer
(R552, R642; log entry 169). -/
def State.turnedAway (s : State) : State := if s.pcie.memory then s else s.out (.pcieStatus 1)

/-- The size of a BAR (R566). -/
def barSize (n : Nat) : Nat := [2 ^ 17, 2 ^ 29, 2 ^ 16].getD n 0

/-- An access lies within a BAR (R566); one that does not is no access of the part, which answers Unsupported Request. -/
def inBar (n o len : Nat) : Bool := decide (o + len ≤ barSize n)

/-- The answer to a memory request that no BAR takes. -/
def State.noBar (s : State) : State := s.out (.pcieStatus 1)

/-- The Completer Abort that answers a bad window read (R592, R593); AER logs the sending of one as an advisory error, a
correctable one (R565, R602; log entry 170). -/
def State.completerAbort (s : State) : State := (s.bump 0x2000 7).out (.pcieStatus 4)

/-! ### Lock words (R197 to R203) -/

/-- A write to a lock word: a release by the holder, then an acquire (R197, R198). -/
def Tables.writeLock (t : Tables) (target : LockTarget) (who : Holder) (now : Tick) (release acquire : Bool) : Tables :=
  let t := if release ∧ t.holds target who then t.unlock target else t
  if acquire then t.lock target who now else t

/-- LOCK_EXPIRE (R203): a lock held longer than 100 µs. -/
def State.lockExpire (s : State) (target : LockTarget) : State :=
  match s.tables.lockOf target with
  | none => s
  | some l =>
    if l.since + 100 * Config.us < s.clock.now then
      (s.setTables (s.tables.unlock target)).hostMis 0x4600 3 (holderRequester l.holder)
    else s

/-- A write of learned entries or counter pairs without the lock: ignored and counted (R200). -/
def State.noLock (s : State) (who : Holder) : State := s.hostMis 0x4600 2 (holderRequester who)

/-! ### Buckets and counter blocks (R182, R195, R199, R200, R708) -/

/-- Entry s of a bucket as the host reads it (R708: zeros beyond the last sized table). -/
def State.slotRead (s : State) (b i : Nat) : Nat := if (s.bucketTable b).isSome then s.tables.slotAt b i else 0

/-- The 256 bytes of a bucket, as op 0x12 lays them out. -/
def State.bucketBytes (s : State) (b : Nat) : List Byte := (List.range 8).flatMap (fun i => leBytes 32 (s.slotRead b i))

/-- The bits of a learned entry that are not reserved (R182). -/
def learnedMask : Nat := 2 ^ 256 - 1 - 0x3F * 2 ^ 248 - 0xFF * 2 ^ 64

/-- An entry written by the host: its age stamp is the part's, the tick of the write, and reserved fields stay zero (R3,
R182). -/
def State.slotWrite (s : State) (b i v : Nat) : State :=
  match s.bucketTable b with
  | none => s
  | some t => s.setTables (s.tables.setSlot b i (s.tables.stamp t (v &&& learnedMask)))

/-- A whole bucket written. -/
def State.bucketWrite (s : State) (b : Nat) (data : List Byte) : State :=
  (List.range 8).foldl (fun s i => s.slotWrite b i (leAt data (32 * i) 32)) s

/-- Counter pairs as the host reads them. -/
def State.pairBytes (s : State) (first n : Nat) : List Byte :=
  (List.range n).flatMap (fun i => leBytes 16 (s.tables.pair (first + i)))

/-- A block of 8 pairs written. -/
def State.blockWrite (s : State) (k : Nat) (data : List Byte) : State :=
  (List.range 8).foldl (fun s i => s.setTables (s.tables.setPair (8 * k + i) (leAt data (16 * i) 16))) s

/-! ### The table window (R592, R593) -/

/-- What an offset of BAR1 names. -/
inductive Window where
  | bucket (b o : Nat)
  | pair (i o : Nat)
  | bucketLock (b o : Nat)
  | blockLock (k o : Nat)
  | undefined
  deriving DecidableEq, Repr

/-- The map of R592. -/
def windowAt (a : Nat) : Window :=
  if a < 0x4000000 then .bucket (a / 256) (a % 256)
  else if a < 0x14000000 then .pair ((a - 0x4000000) / 16) ((a - 0x4000000) % 16)
  else if a < 0x14100000 then .bucketLock ((a - 0x14000000) / 4) ((a - 0x14000000) % 4)
  else if a < 0x14900000 then .blockLock ((a - 0x14100000) / 4) ((a - 0x14100000) % 4)
  else .undefined

/-- The bytes of a window read of one bucket, one counter block or one lock word; none where R593 forbids it. -/
def State.windowRead (s : State) (a len : Nat) : Option (List Byte) :=
  if len = 0 then none
  else match windowAt a with
  | .bucket b o => if o + len ≤ 256 then some (bytesAt (s.bucketBytes b) o len) else none
  | .pair i o =>
    let at_ := i % 8 * 16 + o
    if at_ + len ≤ 128 then some (bytesAt (s.pairBytes (i - i % 8) 8) at_ len) else none
  | .bucketLock b o => if o + len ≤ 4 then some (bytesAt (leBytes 4 (s.tables.lockWord (bucketTarget b))) o len) else none
  | .blockLock k o => if o + len ≤ 4 then some (bytesAt (leBytes 4 (s.tables.lockWord (blockTarget k))) o len) else none
  | .undefined => none

/-- TABLE_WINDOW_READ (R593). -/
def State.tableWindowRead (s : State) (a len : Nat) : State :=
  if ¬ s.memOk 0x2021 then s.turnedAway
  else if ¬ inBar 1 a len then s.noBar
  else match s.windowRead a len with
  | some d => s.out (.readData (leNat d) len)
  | none => s.completerAbort.hostMis 0x2000 0xD 0x2021

/-- A bad window write: discarded and counted (R593). -/
def State.badWindow (s : State) : State := s.hostMis 0x2000 0xD 0x2021

/-- TABLE_WINDOW_WRITE (R200, R202, R592, R593): within one entry, one pair or one lock word. -/
def State.tableWindowWrite (s : State) (a : Nat) (d : List Byte) : State :=
  if ¬ s.memOk 0x2021 then s.turnedAway
  else if ¬ inBar 1 a d.length then s.noBar
  else if d.isEmpty then s.badWindow
  else match windowAt a with
  | .bucket b o =>
    if 32 < o % 32 + d.length then s.badWindow
    else if (s.bucketTable b).isNone then s
    else if ¬ s.tables.holds (bucketTarget b) .window then s.noLock .window
    else s.slotWrite b (o / 32) (leNat (putBytes (leBytes 32 (s.slotRead b (o / 32))) (o % 32) d))
  | .pair i o =>
    if 16 < o + d.length then s.badWindow
    else if ¬ s.tables.holds (blockTarget (counterBlock i)) .window then s.noLock .window
    else s.setTables (s.tables.setPair i (leNat (putBytes (leBytes 16 (s.tables.pair i)) o d)))
  | .bucketLock b o =>
    if 4 < o + d.length then s.badWindow
    else
      let w := if o = 0 then (d.getD 0 0).toNat else 0
      s.setTables (s.tables.writeLock (bucketTarget b) .window s.clock.now (bit w 1) (bit w 0))
  | .blockLock k o =>
    if 4 < o + d.length then s.badWindow
    else
      let w := if o = 0 then (d.getD 0 0).toNat else 0
      s.setTables (s.tables.writeLock (blockTarget k) .window s.clock.now (bit w 1) (bit w 0))
  | .undefined => s.badWindow

/-! ### Channels (R570 to R574) -/

/-- A channel as reset leaves it. -/
def Chan.fresh : Chan := ⟨0, 0, 0, 0, false, false, 0, 0, 0, false⟩

/-- A channel. -/
def State.chan (s : State) (k : Nat) : Chan := s.pcie.chans.getD k Chan.fresh

/-- A channel changed. -/
def State.mapChan (s : State) (k : Nat) (f : Chan → Chan) : State :=
  { s with pcie := { s.pcie with chans := modAt s.pcie.chans k f } }

/-- The fields of CH_CFG (R571). -/
def Chan.kind (c : Chan) : Nat := bits c.cfg 31 28
def Chan.size (c : Chan) : Nat := 2 ^ (min 12 (bits c.cfg 23 20) + 4)
def Chan.ring (c : Chan) : Nat := bits c.cfg 19 16
def Chan.prio (c : Chan) : Nat := bits c.cfg 15 14
def Chan.vector (c : Chan) : Nat := bits c.cfg 13 8

/-- The bits of CH_CFG that are not reserved (R571). -/
def cfgMask : Nat := 0xF0FFFF00

/-- TAIL (R573). -/
def State.writeTail (s : State) (k v : Nat) : State :=
  if ¬ s.memOk 0x2020 then s.turnedAway
  else if (s.chan k).size ≤ v % 65536 then s.hostMis 0x2000 0xB 0x2020
  else s.mapChan k (fun c => { c with tail := v % 65536, starved := false })

/-- EN (R572): a rise starts the ring over; a fall lets the descriptor in service complete. -/
def State.writeEn (s : State) (k : Nat) (on : Bool) : State :=
  if ¬ s.memOk 0x2020 then s.turnedAway
  else s.mapChan k (fun c =>
    if on ∧ ¬ c.en then { c with en := true, head := 0, tail := 0, done := 0, stopped := false, starved := false }
    else { c with en := on })

/-- RESUME (R572): a stopped channel goes on after the descriptor at which it stopped. -/
def State.resumeChan (s : State) (k : Nat) : State :=
  if ¬ s.memOk 0x2020 then s.turnedAway
  else s.mapChan k (fun c =>
    if c.stopped then { c with stopped := false, head := (c.stopIdx + 1) % c.size } else c)

/-- CH_CFG and the ring base (R570, R571). -/
def State.writeCfg (s : State) (k : Nat) (r : ChReg) (v : Nat) : State :=
  if ¬ s.memOk 0x2020 then s.turnedAway
  else if (s.chan k).en then s.hostMis 0x2000 0xC 0x2020
  else s.mapChan k (fun c => match r with
    | .cfg => { c with cfg := v % 2 ^ 32 &&& cfgMask }
    | .baseLow => { c with base := c.base / 2 ^ 32 * 2 ^ 32 + v % 2 ^ 32 / 32 * 32 }
    | .baseHigh => { c with base := v % 2 ^ 32 * 2 ^ 32 + c.base % 2 ^ 32 })

/-- An engine. -/
def State.engine (s : State) (e : Nat) : Engine := s.pcie.engines.getD e ⟨none, 15⟩

/-- An engine changed. -/
def State.mapEngine (s : State) (e : Nat) (f : Engine → Engine) : State :=
  { s with pcie := { s.pcie with engines := modAt s.pcie.engines e f } }

/-- The descriptor in service of an engine changed. -/
def State.setXfer (s : State) (e : Nat) (x : Xfer) : State := s.mapEngine e (fun g => { g with xfer := some x })

/-- A descriptor of a channel is in service (R572, Running). -/
def State.running (s : State) (k : Nat) : Bool := (s.engine (k / 16)).xfer.any (fun x => x.ch == k)

/-- CH_STAT (R572). -/
def State.chStat (s : State) (k : Nat) : Nat :=
  let c := s.chan k
  flag (s.running k) * 2 ^ 31 + flag c.stopped * 2 ^ 30 + c.stopErr * 65536 + c.stopIdx

/-- A defined register of BAR0 outside the mailbox and the MSI-X structures (R567, R570). -/
def State.register (s : State) (o : Nat) : Option Nat :=
  if o = 0 then some 0x512000A1
  else if o = 4 then some s.dev.st.code
  else if o = 8 then some (sumOf (fun e => flag (s.engine e).xfer.isSome * 2 ^ e) (List.range 4))
  else if o < 0x2000 ∨ 0x3000 ≤ o then none
  else
    let k := (o - 0x2000) / 64
    let c := s.chan k
    match o % 64 with
    | 0x00 => some (c.base % 2 ^ 32)
    | 0x04 => some (c.base / 2 ^ 32)
    | 0x08 => some c.cfg
    | 0x0C => some c.tail
    | 0x10 => some c.head
    | 0x14 => some (flag c.en)
    | 0x18 => some (s.chStat k)
    | 0x1C => some c.done
    | _ => none

/-- The MSI-X table and the pending bits as BAR0 maps them (R567). -/
def Msi.bytes (m : Msi) : List Byte := (List.range 256).flatMap (fun i => leBytes 4 (m.word i))
def Msi.pendingBytes (m : Msi) : List Byte := leBytes 8 (sumOf (fun v => flag (m.pending.contains v) * 2 ^ v) (List.range 64))

/-- A write into the MSI-X table: bits 1:0 of a message address and bits 31:1 of vector control are reserved. -/
def State.msiWrite (s : State) (o : Nat) (d : List Byte) : State :=
  let b := putBytes s.msi.bytes o d
  let word (i : Nat) : Nat :=
    let w := leAt b (4 * i) 4
    if i % 4 = 0 then w / 4 * 4 else if i % 4 = 3 then w % 2 else w
  ({ s with msi := { s.msi with table := (List.range 256).foldl (fun m i => nset m i (word i) (flag (i % 4 == 3))) [] } } : State).msixFlush

/-- An access of the MSI-X structures (R567), of any size within them; the pending bits are read only. -/
def State.msiAccess (s : State) (o size : Nat) (data : Option (List Byte)) : State :=
  match data with
  | some d => if o < 0x9000 then s.msiWrite (o - 0x8000) d else s
  | none =>
    s.out (.readData (leNat (if o < 0x9000 then bytesAt s.msi.bytes (o - 0x8000) size else bytesAt s.msi.pendingBytes (o - 0x9000) size)) size)

/-- An access lies within the MSI-X structures. -/
def inMsi (o size : Nat) : Bool :=
  (decide (0x8000 ≤ o) && decide (o + size ≤ 0x8400)) || (decide (0x9000 ≤ o) && decide (o + size ≤ 0x9008))

/-- An access of BAR0 outside the mailbox and the MSI-X structures (R568). A 4-byte read returns the register, or zero at an
undefined offset, a misaligned one among them; a write that is not an aligned one of 4 bytes to a defined offset, and an
access of another size, is discarded and counted. -/
def State.registerAccess (s : State) (o size : Nat) (data : Option (List Byte)) : State :=
  if size ≠ 4 then s.hostMis 0x2000 0xA 0x2020
  else match data with
  | none => s.out (.readData (if o % 4 = 0 then (s.register o).getD 0 else 0) 4)
  | some _ => if o % 4 = 0 ∧ (s.register o).isSome then s else s.hostMis 0x2000 0xA 0x2020

/-! ### Descriptors (R573, R574, R576 to R580, R587) -/

/-- A descriptor as the engine reads its 32 bytes, little-endian (R576). -/
def Desc.ofBytes (b : List Byte) : Desc := ⟨leAt b 0 4, leAt b 4 4, leAt b 8 8, leAt b 16 8, leAt b 28 4⟩

/-- OWN of the posted status word (R578). -/
def Desc.own (d : Desc) : Bool := bit d.status 31

/-- The op of a descriptor and the flags of its control word (R577). -/
def Desc.op (d : Desc) : Nat := bits d.control 31 24
def Desc.rel (d : Desc) : Bool := bit d.control 4
def Desc.acq (d : Desc) : Bool := bit d.control 3
def Desc.fence (d : Desc) : Bool := bit d.control 2
def Desc.irq (d : Desc) : Bool := bit d.control 1

/-- The channel kind of an op (R579). -/
def opKind (op : Nat) : Nat :=
  match op with
  | 1 => 1 | 2 => 2 | 3 => 3 | 0x10 => 4 | 0x11 => 4 | 0x12 => 4 | 0x13 => 4 | 0x14 => 4 | 0x15 => 4 | 0x20 => 5 | 0x21 => 5
  | _ => 0

/-- The Argument and Length of a descriptor are within the range of its op (R579, R600). -/
def Desc.argOk (d : Desc) : Bool :=
  match d.op with
  | 1 | 2 | 0x10 => d.arg == 0
  | 3 => d.arg == 0 && d.length % 32 == 0
  | 0x11 =>
    let table := d.arg % 65536
    let n := entryBytes table
    isVersioned table && table != 0x10 && table != 0x11 && d.arg / 2 ^ 48 == 0 && n != 0 && d.length % n == 0 &&
      decide (d.arg / 65536 % 2 ^ 32 + d.length / n ≤ tableEntries table)
  | 0x12 => d.length % 256 == 0 && decide (d.arg + d.length / 256 ≤ 262144)
  | 0x13 => d.length == 256 && decide (d.arg < 262144)
  | 0x14 => d.length % 128 == 0 && decide (d.arg + d.length / 128 ≤ 2097152)
  | 0x15 => d.length == 128 && decide (d.arg < 2097152)
  | 0x20 => d.length % 16 == 0 && decide (d.arg + d.length / 16 ≤ 16777216)
  | 0x21 => d.length % 16 == 0 && bits d.arg 59 23 == 0
  | _ => false

/-- A malformed descriptor (R580, code 0x03): a reserved bit of its control or posted status word, a Length or Argument out of
range, an op not of the kind. -/
def Desc.malformed (d : Desc) (kind : Nat) : Bool :=
  bits d.control 23 5 != 0 || bit d.control 0 || bits d.status 30 24 != 0 || bits d.status 15 10 != 0 || kind == 0 || opKind d.op != kind || d.length == 0 ||
    decide (262144 < d.length) || !d.argOk

/-- The bucket or counter block that a descriptor's ACQ and REL work on. -/
def Desc.target (d : Desc) : Option LockTarget :=
  if d.op = 0x12 ∨ d.op = 0x13 then some (bucketTarget d.arg)
  else if d.op = 0x14 ∨ d.op = 0x15 then some (blockTarget d.arg)
  else none

/-- An engine as a holder. -/
def engineHolder (e : Fin 4) : Holder := .dma e

/-- A channel serves what its kind serves: it is enabled, or its descriptor in service has still to complete (R572). -/
def State.chanServes (s : State) (k : Nat) : Bool :=
  (s.chan k).en || (s.engine (k / 16)).xfer.any (fun x => x.ch == k && !x.ended)

/-- The channel that serves a punt ring: the lowest-numbered enabled one of kind punt (R589). -/
def State.puntChan (s : State) (ring : Nat) : Option Nat :=
  (List.range 64).find? (fun k => s.chanServes k && (s.chan k).kind == 1 && (s.chan k).ring == ring)

/-- The channel of the timestamp ring (R591). -/
def State.stampChan (s : State) : Option Nat :=
  (List.range 64).find? (fun k => s.chanServes k && (s.chan k).kind == 3)

/-- A descriptor's op moves data to the host (R579). -/
def toHost (op : Nat) : Bool := [1, 3, 0x11, 0x12, 0x14, 0x20, 0x21].contains op

/-- A channel has a posted descriptor that the part can fetch (R573). -/
def Chan.posted (c : Chan) : Bool := c.en && !c.stopped && !c.starved && c.head != c.tail

/-- The punt ring of a punt's class (0x4301:05). -/
def State.puntRing (s : State) (p : Punt) : Nat := s.obj (0x4300 + p.cls) 5

/-- The head punt of a ring. -/
def State.puntOf (s : State) (ring : Nat) : Option Punt := s.flow.punts.find? (fun p => s.puntRing p == ring)

/-- A channel has a descriptor ready to serve: punt and timestamp channels when something waits for their ring, inject
channels while the egress partition is below W2 (R285, R574, R589, R591). -/
def State.ready (s : State) (k : Nat) : Bool :=
  let c := s.chan k
  c.posted && (match c.kind with
    | 1 => (s.puntOf c.ring).isSome && s.puntChan c.ring == some k
    | 2 => decide (s.poolLevel 1 < 2)
    | 3 => !s.lines.stamps.isEmpty && s.stampChan == some k
    | _ => true)

/-- The channel that an engine serves next (R574). -/
def State.nextChan (s : State) (e : Nat) : Option Nat :=
  let l := ((List.range 16).map (fun i => 16 * e + (((s.engine e).last % 16) + 1 + i) % 16)).filter s.ready
  let p := maxOf (fun k => (s.chan k).prio) l
  l.find? (fun k => (s.chan k).prio == p)

/-- The lock asked for at once, and again at each retry (R587). -/
def State.tryLock (s : State) (e : Fin 4) (x : Xfer) : State :=
  match x.desc.target with
  | none => s.setXfer e.val { x with lockFrom := none }
  | some target =>
    let t := s.tables.lock target (engineHolder e) s.clock.now
    if t.holds target (engineHolder e) then (s.setTables t).setXfer e.val { x with lockFrom := none }
    else s.setXfer e.val { x with lockFrom := some (x.lockFrom.getD s.clock.now), lockTry := s.clock.now }

/-- DESCRIPTOR_FETCH (R573, R574): the next ready channel's descriptor, as it stands in host memory. One that is not owned
is not posted yet; a malformed one ends at once. An engine that is the source of a failed path stays stopped (R542). -/
def State.descriptorFetch (s : State) (e : Fin 4) (b : List Byte) : State :=
  let d := Desc.ofBytes b
  if (s.engine e.val).xfer.isSome ∨ s.sourceHeld 13 (engineId e.val) then s
  else match s.nextChan e.val with
  | none => s
  | some k =>
    if ¬ d.own then s.mapChan k (fun c => { c with starved := true })
    else
      let c := s.chan k
      let bad := d.malformed c.kind
      let x : Xfer := { ch := k, idx := c.head, desc := d, moved := 0, err := if bad then 3 else 0, trunc := false
                        wdrn := false, ended := bad, begun := false, lockFrom := none, lockTry := 0, firstAt := none
                        cells := [], mark := 0 }
      let s := (s.mapChan k (fun c => { c with head := (c.head + 1) % c.size })).setXfer e.val x
      if d.acq ∧ ¬ bad then s.tryLock e x else s

/-- DMA_LOCK_RETRY (R587): each µs; after 100 µs the descriptor ends with code 0x06. -/
def State.lockRetry (s : State) (e : Fin 4) : State :=
  match (s.engine e.val).xfer with
  | none => s
  | some x =>
    match x.lockFrom with
    | none => s
    | some t0 =>
      if t0 + 100 * Config.us ≤ s.clock.now then s.setXfer e.val { x with lockFrom := none, err := 6, ended := true }
      else if x.lockTry + Config.us ≤ s.clock.now then s.tryLock e x
      else s

/-- The descriptor in service of an engine, when it is of an op whose data may move. -/
def State.serving (s : State) (e op : Nat) : Option Xfer :=
  match (s.engine e).xfer with
  | some x => if x.desc.op = op ∧ ¬ x.ended ∧ x.lockFrom = none then some x else none
  | none => none

/-! ### Transfers (R581) -/

/-- The whole 64-byte units of a transfer in accesses no larger than the maximum payload, none crossing 4 KiB. -/
def wholeParts (pay : Nat) : Nat → Nat → Nat → List (Nat × Nat)
  | 0, _, _ => []
  | fuel + 1, a, n =>
    if n < 64 then (if n = 0 then [] else [(a, n)])
    else
      let k := min (min pay (n / 64 * 64)) (4096 - a % 4096)
      (a, k) :: wholeParts pay fuel (a + k) (n - k)

/-- The accesses of a transfer in their order: head, whole units, tail (R581). -/
def transferParts (pay a n : Nat) : List (Nat × Nat) :=
  let head := if a % 64 = 0 then 0 else min n (64 - a % 64)
  (if head = 0 then [] else [(a, head)]) ++ wholeParts pay (n / 64 + 1) (a + head) (n - head)

/-- Data written to host memory (R581), with the relaxed ordering attribute when that is enabled (R584). -/
def State.hostWrite (s : State) (a : Nat) (d : List Byte) : State :=
  (transferParts (s.obj 0x2000 5) a d.length).foldl
    (fun s p => s.out (.host p.1 (bytesAt d (p.1 - a) p.2) (s.obj 0x2000 0xE == 1))) s

/-- Bytes read from host memory (R581). -/
def State.hostRead (s : State) (a n : Nat) : State :=
  (transferParts (s.obj 0x2000 6) a n).foldl (fun s p => s.out (.hostRead p.1 p.2)) s

/-- The host buffer of a descriptor read, when its data part begins. -/
def State.readBuffer (s : State) (x : Xfer) : State :=
  if x.begun then s else s.hostRead x.desc.addr x.desc.length

/-- Data moved to the host buffer of a descriptor, the end of its data part. -/
def State.moveOut (s : State) (e : Nat) (x : Xfer) (d : List Byte) : State :=
  (s.hostWrite (x.desc.addr + x.moved) d).setXfer e { x with moved := x.moved + d.length, begun := true, ended := true }

/-- A descriptor whose data part ends with an error code. -/
def State.failXfer (s : State) (e : Nat) (x : Xfer) (code : Nat) : State :=
  s.setXfer e { x with err := code, ended := true, begun := true }

/-- DMA_PUNT (R589): the head punt of the channel's ring; cut to Length with TRUNC and the Captured length corrected. -/
def State.dmaPunt (s : State) (e : Nat) : State :=
  match s.serving e 1 with
  | none => s
  | some x =>
    let ring := (s.chan x.ch).ring
    match s.puntOf ring with
    | none => s
    | some p =>
      let n := x.desc.length
      let cut := decide (n < p.bytes.length)
      let b := if cut then (putBytes p.bytes 12 (beBytes 2 (n - 48))).take n else p.bytes
      let s := { s with flow := { s.flow with punts := dropFirst (fun q => s.puntRing q == ring) s.flow.punts } }
      s.moveOut e { x with trunc := cut, cells := p.cells } b

/-- The inject header is bad (R114, R115). -/
def injectBad (d : List Byte) : Bool :=
  let mode := beAt d 1 1
  let src := beAt d 2 1
  let len := beAt d 8 2
  beAt d 0 1 != 1 || !(mode == 1 || mode == 2) || decide (1 < beAt d 3 1) || decide (7 < beAt d 10 1) || beAt d 11 1 != 0 ||
    decide (len < 60) || decide (16379 < len) ||
    (if mode = 1 then src != 0 || decide (524288 ≤ beAt d 4 4)
     else beAt d 4 4 != 0 || !(decide (src < 128) || (decide (0x84 ≤ src) && decide (src < 0x88))))

/-- A queue that no inject frame may enter (R306, R586). -/
def State.noInject (s : State) (qid : Nat) : Bool := !recEgress (s.qrec qid) || !recEnabled (s.qrec qid)

/-- An inject refused: code 0x05, counted among the refusals (R580). -/
def State.injectRefused (s : State) (e : Nat) (x : Xfer) : State := s.failXfer e x 5

/-- A transfer that its unit has withdrawn runs to its end; its data is discarded (R586). -/
def State.withdrawn (s : State) (e : Nat) (x : Xfer) : State :=
  (s.bump 0x2003 3).setXfer e { x with wdrn := true, ended := true, moved := if x.desc.op = 2 then x.desc.length else x.moved }

/-- An ingress-mode inject frame (R114, R116). -/
def injectFrame (e : Nat) (d : List Byte) : Frame :=
  { lineFrame (beAt d 2 1) 0 (bytesAt d 32 (beAt d 8 2)) 0 none with
    dom := 0x84 + e, tc := beAt d 10 1, inject := some (bytesAt d 16 16)
    token := if bit (beAt d 3 1) 0 then some (beAt d 12 4) else none }

/-- DMA_INJECT (R114 to R116, R306, R590): the data of the host buffer. Egress mode enqueues it on the queue named,
ingress mode sends it towards the ingress spreader; either waits while the egress partition has no cells for it. -/
def State.dmaInject (s : State) (e : Nat) (data : List Byte) : State :=
  match s.serving e 2 with
  | none => s
  | some x =>
    let d := bytesAt data 0 x.desc.length
    let s := s.readBuffer x
    let done (s : State) (m : Nat) : State :=
      s.setXfer e { x with moved := x.desc.length, begun := true, ended := true, mark := m }
    if x.desc.length < 32 then s.injectRefused e x
    else if injectBad d then (s.bump 0x4001 8).injectRefused e x
    else if x.desc.length ≠ 32 + beAt d 8 2 then s.injectRefused e x
    else if beAt d 1 1 = 1 then
      let qid := beAt d 4 4
      if x.begun ∧ s.noInject qid then s.withdrawn e x
      else
        let token := if bit (beAt d 3 1) 0 then some (beAt d 12 4) else none
        match s.admitInject qid (bytesAt d 32 (beAt d 8 2)) (bytesAt d 16 16) (beAt d 10 1) token with
        | (true, s') => if s.noInject qid then s'.injectRefused e x else done s' qid
        | (false, s') => s'.setXfer e { x with begun := true, mark := qid }
    else
      let f := injectFrame e d
      match if s.allocBusy 1 then (none, s) else s.allocCells 1 (cellsOf f.data.length) 5 with
      | (none, s) => s.setXfer e { x with begun := true, mark := 2 ^ 20 }
      | (some l, s) => done { s with flow := { s.flow with injectIn := s.flow.injectIn ++ [(f, l)] } } (2 ^ 20)

/-- DMA_TIMESTAMP (R591): the records that wait, as many as fit. -/
def State.dmaTimestamp (s : State) (e : Nat) : State :=
  match s.serving e 3 with
  | none => s
  | some x =>
    let n := min s.lines.stamps.length ((x.desc.length - x.moved) / 32)
    if n = 0 then s
    else
      let d := (s.lines.stamps.take n).flatten
      let s := { s with lines := { s.lines with stamps := s.lines.stamps.drop n } }
      (s.hostWrite (x.desc.addr + x.moved) d).setXfer e
        { x with moved := x.moved + 32 * n, begun := true, ended := x.moved + 32 * n == x.desc.length
                 firstAt := some (x.firstAt.getD s.clock.now) }

/-- TIMESTAMP_DESCRIPTOR_FLUSH (R591): 100 µs after the first record of a descriptor. -/
def State.timestampFlush (s : State) (e : Nat) : State :=
  match s.serving e 3 with
  | none => s
  | some x =>
    match x.firstAt with
    | some t0 => if t0 + 100 * Config.us ≤ s.clock.now then s.setXfer e { x with ended := true } else s
    | none => s

/-- The address of a descriptor in its ring. -/
def State.descAddr (s : State) (x : Xfer) : Nat := (s.chan x.ch).base + 32 * x.idx

/-- One record of a table-write descriptor, from the bytes that are left (R220, R221): one that they do not hold whole
has a wrong Length, unless its kind or flags are bad before that. -/
def State.dmaRecord (s : State) (e : Nat) (rest : List Byte) : State × TxAns × Nat :=
  let n := 16 + beAt rest 2 2
  if rest.length < n then
    let (s, a) := s.refuse (beAt rest 4 4) (0x09010000 + (txHeadFault rest).getD 2)
    (s, a, rest.length)
  else
    let (s, a) := s.txRecord (engineId e) (rest.take n)
    (s, a, n)

/-- The records of a table-write descriptor in order (R221, R229): up to the first refused, or the first that waits. -/
def State.dmaRecords (s : State) (e : Nat) : Nat → List Byte → Xfer → State
  | 0, _, x => s.setXfer e x
  | fuel + 1, rest, x =>
    if rest.isEmpty then s.setXfer e { x with ended := true, moved := x.desc.length }
    else
      let (s', a, n) := s.dmaRecord e rest
      match a with
      | .done => s'.dmaRecords e fuel (rest.drop n) { x with moved := x.moved + n }
      | .wait => s.setXfer e x
      | .abort c => (s'.out (.host (s.descAddr x + 16) (leBytes 4 c) false)).setXfer e
          { x with err := 4, ended := true, moved := x.desc.length }

/-- DMA_TABLE_RECORDS (R219 to R222): the data of the host buffer; what has been taken already is not taken again. -/
def State.dmaTableRecords (s : State) (e : Nat) (data : List Byte) : State :=
  match s.serving e 0x10 with
  | none => s
  | some x =>
    (s.readBuffer x).dmaRecords e (x.desc.length / 16 + 2) ((bytesAt data 0 x.desc.length).drop x.moved) { x with begun := true }

/-- DMA_TABLE_READ (R241, R579): entries of the current commit, each as a WRITE payload; a poisoned line is an
uncorrectable error in the data read. -/
def State.dmaTableRead (s : State) (e : Nat) : State :=
  match s.serving e 0x11 with
  | none => s
  | some x =>
    let table := x.desc.arg % 65536
    let first := x.desc.arg / 65536 % 2 ^ 32
    let w := entryBytes table
    let l := (List.range (x.desc.length / w)).map (first + ·)
    if l.any (fun i => s.tables.poisoned table (s.tables.lineOf table i)) then s.failXfer e x 7
    else s.moveOut e x (l.flatMap (fun i => beBytes w (verAt s.tables.vers table i s.tx.commit)))

/-- DMA_BUCKET_READ (R199, R579). -/
def State.dmaBucketRead (s : State) (e : Nat) : State :=
  match s.serving e 0x12 with
  | none => s
  | some x => s.moveOut e x ((List.range (x.desc.length / 256)).flatMap (fun i => s.bucketBytes (x.desc.arg + i)))

/-- DMA_BUCKET_WRITE (R200, R580, R708): only under the engine's lock, but for a bucket of no table, where the write is
discarded without error. -/
def State.dmaBucketWrite (s : State) (e : Fin 4) (data : List Byte) : State :=
  match s.serving e.val 0x13 with
  | none => s
  | some x =>
    if (s.bucketTable x.desc.arg).isNone ∨ s.tables.holds (bucketTarget x.desc.arg) (engineHolder e) then
      ((s.readBuffer x).bucketWrite x.desc.arg (bytesAt data 0 256)).setXfer e.val { x with moved := 256, begun := true, ended := true }
    else (s.noLock (engineHolder e)).failXfer e.val x 6

/-- DMA_COUNTER_READ (R199, R579). -/
def State.dmaCounterRead (s : State) (e : Nat) : State :=
  match s.serving e 0x14 with
  | none => s
  | some x => s.moveOut e x (s.pairBytes (8 * x.desc.arg) (x.desc.length / 16))

/-- DMA_COUNTER_WRITE (R200, R202, R580): only under the engine's lock. -/
def State.dmaCounterWrite (s : State) (e : Fin 4) (data : List Byte) : State :=
  match s.serving e.val 0x15 with
  | none => s
  | some x =>
    if s.tables.holds (blockTarget x.desc.arg) (engineHolder e) then
      ((s.readBuffer x).blockWrite x.desc.arg (bytesAt data 0 128)).setXfer e.val { x with moved := 128, begun := true, ended := true }
    else (s.noLock (engineHolder e)).failXfer e.val x 6

/-- DMA_STATS_COUNTERS (R600). -/
def State.dmaStatsCounters (s : State) (e : Nat) : State :=
  match s.serving e 0x20 with
  | none => s
  | some x => (s.bumpN 0xA100 4 (x.desc.length / 16)).moveOut e x (s.pairBytes x.desc.arg (x.desc.length / 16))

/-- DMA_STATS_SAMPLES (R337, R600). -/
def State.dmaStatsSamples (s : State) (e : Nat) : State :=
  match s.serving e 0x21 with
  | none => s
  | some x =>
    let k := x.desc.arg / 2 ^ 60
    let n := x.desc.length / 16
    let d := (List.range n).flatMap (fun i =>
      leBytes 16 (nget s.sched.samples (k * 8388608 + (x.desc.arg + i) % 8388608) 0))
    (s.bumpN 0xA100 5 n).moveOut e { x with mark := s.obj (0x5310 + k) 5 } d

/-- The unit that a transfer serves has withdrawn its request (R586): a punt whose channel's EN is cleared, an inject whose
queue is disabled or ingress-side before its frame has been taken, a sample read whose sampler has written within the range. -/
def State.withdraws (s : State) (x : Xfer) : Bool :=
  match x.desc.op with
  | 1 => !(s.chan x.ch).en
  | 2 => !x.ended && decide (x.mark < 2 ^ 20) && s.noInject x.mark
  | 0x21 =>
    let k := x.desc.arg / 2 ^ 60
    (List.range (min 8388608 (s.obj (0x5310 + k) 5 - x.mark))).any (fun j =>
      decide ((x.mark + j + 8388608 - x.desc.arg % 8388608) % 8388608 < x.desc.length / 16))
  | _ => false

/-- TRANSFER_WITHDRAWN (R586). -/
def State.transferWithdrawn (s : State) (e : Nat) : State :=
  match (s.engine e).xfer with
  | none => s
  | some x => if x.begun ∧ ¬ x.wdrn ∧ s.withdraws x then s.withdrawn e x else s

/-! ### Completion (R578, R580, R582, R583, R585) -/

/-- The code of an error that the PCIe side reports (R580). -/
def hostErrCode : HostErr → Nat
  | .none => 0
  | .completion => 1
  | .poisoned => 1
  | .timeout => 2
  | .dataRead => 7

/-- The codes that stop a channel (R580). -/
def errStops (c : Nat) : Bool := c == 1 || c == 2 || c == 3 || c == 7

/-- What AER counts of an error on an access (R565, R602; log entry 170): a poisoned completion and a completion timeout are
non-fatal errors; a completion of status UR or CA is its sender's. -/
def State.countAer (s : State) (err : HostErr) : State :=
  match err with
  | .poisoned => s.bump 0x2000 8
  | .timeout => s.bump 0x2000 8
  | _ => s

/-- An error counted (R580, R601). -/
def State.countErr (s : State) (e code : Nat) : State :=
  match code with
  | 1 => s.hostMis 0x2003 5 (engineId e)
  | 2 => s.hostMis 0x2003 5 (engineId e)
  | 3 => s.hostMis 0x2003 4 (engineId e)
  | 5 => s.bump 0x2003 4
  | 7 => s.bump 0x2003 5
  | _ => s

/-- The status word of a descriptor returned (R578): OWN 0. -/
def Xfer.status (x : Xfer) (done : Nat) : Nat :=
  x.err * 65536 + flag x.trunc * 512 + flag x.wdrn * 256 + done % 256

/-- The lock released after the last data access (R587). -/
def State.relLock (s : State) (e : Fin 4) (x : Xfer) : State :=
  match x.desc.target with
  | some t => if x.desc.rel ∧ x.err ≠ 3 ∧ s.tables.holds t (engineHolder e) then s.setTables (s.tables.unlock t) else s
  | none => s

/-- DESCRIPTOR_COMPLETE (R582, R583, R585): result word, then status word; DONE, the stop of R580, the vector; a punt's
cells are released (R258). -/
def State.descriptorComplete (s : State) (e : Fin 4) (err : HostErr) : State :=
  match (s.engine e.val).xfer with
  | none => s
  | some x =>
    if ¬ x.ended ∧ err = .none then s
    else
      let x := { x with err := if x.err = 0 then hostErrCode err else x.err }
      let s := s.relLock e x
      let c := s.chan x.ch
      let a := s.descAddr x
      let s := if x.desc.fence ∧ toHost x.desc.op ∧ 0 < x.moved then
          s.out (.hostFence (x.desc.addr + x.moved - 1)) else s
      let s := (s.out (.host (a + 24) (leBytes 4 (x.desc.length - x.moved)) false)).out
        (.host (a + 28) (leBytes 4 (x.status c.done)) false)
      let s := s.mapChan x.ch (fun c =>
        let c := { c with done := (c.done + 1) % 2 ^ 32 }
        if errStops x.err then { c with stopped := true, stopErr := x.err, stopIdx := x.idx } else c)
      let s := s.mapEngine e.val (fun _ => ⟨none, x.ch⟩)
      let s := if x.cells.isEmpty then s else s.freeCells 0 (x.cells.map (fun n => (n, 5)))
      let s := (s.countErr e.val x.err).countAer err
      if x.desc.irq ∧ 4 ≤ c.vector then s.msix c.vector else s

/-! ### Rings without descriptors (R589, R591), resets (R588) -/

/-- A punt that finds no channel or no owned descriptor (R589). -/
def State.puntLost (s : State) (p : Punt) : Bool :=
  match s.puntChan (s.puntRing p) with
  | none => true
  | some k =>
    let waiting := (s.engine (k / 16)).xfer.any (fun x => x.ch == k && x.desc.op == 1 && !x.ended)
    !(s.chan k).posted && !waiting

/-- Punts that find no descriptor are dropped and counted (R589). -/
def State.puntPurge (s : State) : State :=
  let gone := s.flow.punts.filter s.puntLost
  if gone.isEmpty then s
  else
    ({ s with flow := { s.flow with punts := s.flow.punts.filter (fun p => !s.puntLost p) } }.bumpN 0x2003 1
      gone.length).freeCells 0 (gone.flatMap (fun (p : Punt) => p.cells.map (fun n => (n, 5))))

/-- Timestamp records that find no owned descriptor are dropped and counted (R591). -/
def State.stampPurge (s : State) : State :=
  let room : Bool := match s.stampChan with
    | none => false
    | some k => (s.chan k).posted || (s.engine (k / 16)).xfer.any (fun x => x.ch == k && x.desc.op == 3 && !x.ended)
  if room ∨ s.lines.stamps.isEmpty then s
  else { s with lines := { s.lines with stamps := [] } }.bumpN 0x2003 2 s.lines.stamps.length

/-- What a warm reset, a hot reset or a link-down does to channels and engines (R588): EN 0, HEAD 0; what was in service
is not completed, and a punt's cells are released. -/
def State.channelsOff (s : State) : State :=
  let cells := s.pcie.engines.flatMap (fun g => match g.xfer with
    | some x => x.cells
    | none => [])
  let s := { s with pcie := { s.pcie with
    chans := s.pcie.chans.map (fun c => { c with en := false, head := 0, starved := false })
    engines := s.pcie.engines.map (fun g => { g with xfer := none }) } }
  if cells.isEmpty then s else s.freeCells 0 (cells.map (fun n => (n, 5)))

/-- PCIE_HOT_RESET (R588): the channels of a hot reset; a link-down takes the link's state too. -/
def State.hotReset (s : State) (linkDown : Bool) : State :=
  let s := s.channelsOff
  let s := { s with pcie := { s.pcie with memory := false, bars := [0, 0, 0] }, msi := Msi.blank }
  let s := (s.setObj 0x2000 5 128).setObj 0x2000 6 512
  let s := s.setObj 0x2000 0xE 0
  if linkDown then (s.setObj 0x2000 3 0).setObj 0x2000 4 0 else s

/-- A register of the configuration space (R565, R566): a type 0 header of one function, class code 0x028000, three 32-bit
non-prefetchable memory BARs, no INTx pin, no expansion ROM. Status says that there is a capability list; the identifiers of
the subsystem and what lies in and behind that list are free (log entry 171). -/
def State.configReg (s : State) (n : Nat) : Nat :=
  match n with
  | 0 => 0x5120 * 65536 + Config.pciVendor % 65536
  | 1 => 2 ^ 20 + 2 * flag s.pcie.memory
  | 2 => 0x028000 * 256 + Config.pciRevision % 256
  | 3 => 0
  | 4 | 5 | 6 => s.pcie.bars.getD (n - 4) 0
  | 7 | 8 | 9 | 10 | 12 | 14 | 15 => 0
  | _ => Config.pciConfig n % 2 ^ 32

/-- PCIE_CONFIG_REQUEST (R565, R566, R642): a retry status until step 5; then what the request reads or sets. -/
def State.configRequest (s : State) (r : CfgReq) : State :=
  if s.dev.st = .boot then s.out (.pcieStatus 2)
  else match r with
  | .read n => s.out (.readData (s.configReg n.val) 4)
  | .setMemory on => { s with pcie := { s.pcie with memory := on } }
  | .bar n v => { s with pcie := { s.pcie with bars := s.pcie.bars.set n.val (v % 2 ^ 32 / barSize n.val * barSize n.val) } }
  | .msix on mask => ({ s with msi := { s.msi with on := on, mask := mask } } : State).msixFlush
  | .link speed width => (s.setObj 0x2000 3 (speed.val + 1)).setObj 0x2000 4 (2 ^ width.val)
  | .payload mps mrrs relaxed =>
    ((s.setObj 0x2000 5 (128 * 2 ^ mps.val)).setObj 0x2000 6 (128 * 2 ^ mrrs.val)).setObj 0x2000 0xE (flag relaxed)

end Sys2Proof.Machine
end

