-- ==== Sys2Proof/Machine/Perf.lean ====
section
/-! DEFINITION. Performance counters, the central gatherer, the user window (R594 to R599). -/

namespace Sys2Proof.Machine

/-- Cycles of a block's domain until an instant, and the ticks the domain's period takes as a fraction (R19, R594):
`n` cycles take `num / den` ticks each. -/
def domainPeriod (b : Nat) : Nat × Nat :=
  if b < 46 then (Config.core, 1)
  else if b < 48 then (Config.tmc, 1)
  else if b < 56 then (Config.core, 1)
  else if b < 80 then (Config.tmc, 1)
  else if b < 84 then (27000000, 1171875)
  else if b < 88 then (Config.ns, 1)
  else if b < 95 then (135, 4)
  else (Config.tmc, 1)

/-- Cycles of a block's domain completed by an instant. -/
def cyclesAt (b : Nat) (t : Tick) : Nat := t * (domainPeriod b).2 / (domainPeriod b).1

/-- The events above 0x07 that a block offers (R595). -/
def blockEvents (b : Nat) : Nat :=
  if 36 ≤ b ∧ b < 48 then 4 else if 80 ≤ b ∧ b < 84 then 4 else if 88 ≤ b then 4 else 5

/-- An event that the table names (R595). -/
def eventNamed (b e : Nat) : Bool := decide (e ≤ 2) || (decide (8 ≤ e) && decide (e < 8 + blockEvents b))

/-- The control byte of counter n of block b (0xA000:02). -/
def State.perfCtl (s : State) (b n : Nat) : Nat := s.objI 0xA000 2 b / 256 ^ n % 256

/-- The counter of a block: 48 bits, and the overflow flag in bit 63 (R596, R598). -/
def State.perfVal (s : State) (k : Nat) : Nat := nget s.pcie.perf k 0

/-- A count added: the counter wraps modulo 2^48 and sets its flag at the wrap (R596). -/
def perfAdd (v n : Nat) : Nat :=
  let c := v % 2 ^ 48 + n
  c % 2 ^ 48 + flag (bit v 63 || decide (2 ^ 48 ≤ c)) * 2 ^ 63

/-- How often a counter of the dictionary has counted over a range of indexes. -/
def State.counted (s : State) (lo n sub : Nat) : Nat := sumOf (fun i => s.obj (lo + i) sub) (List.range n)

/-- How often an event of a block has happened, where the part itself keeps the count, since a cold reset (R595): frames
entered and held cycles of a pipeline, frames dealt by a spreader, notifications dropped, uncorrectable flits, the frames of
the ports of a line MAC block, descriptors done, events raised. -/
def State.eventTotal (s : State) (b e : Nat) : Option Nat :=
  if b < 32 then (if e = 8 then some (s.obj (0x4010 + b) 4) else if e = 0xB then some (s.obj (0x4010 + b) 5) else none)
  else if b = 32 ∨ b = 34 then (if e = 8 then some (s.counted (if b = 32 then 0x4010 else 0x4020) 16 4) else none)
  else if b = 35 then (if e = 0xC then some (s.obj 0x4600 1) else none)
  else if b = 45 ∨ b = 47 then (if e = 0xA then some (s.obj 0xA100 (if b = 45 then 3 else 2)) else none)
  else if 48 ≤ b ∧ b < 56 then
    let ports (sub : Nat) : Nat := s.counted (0x3000 + 16 * (b - 48)) 16 sub
    match e with
    | 8 => some (ports 0x20)
    | 9 => some (ports 0x25)
    | 0xA => some (ports 0x22)
    | 0xB => some (ports 0x29)
    | _ => none
  else if 84 ≤ b ∧ b < 88 then (if e = 8 then some (sumOf (fun c => (s.chan (16 * (b - 84) + c)).done) (List.range 16)) else none)
  else if b = 89 then (if e = 0xA then some s.faults.newest else none)
  else none

/-- The same of an event that several blocks of a unit share, in all of them: their buffer manager, the scheduler, the fabric
(R594, R595). Which of the blocks counts which is not said. -/
def State.sharedTotal (s : State) (b e : Nat) : Option Nat :=
  if 36 ≤ b ∧ b < 44 then (if e = 0xA then some (s.obj 0x4400 5) else none)
  else if 56 ≤ b ∧ b < 64 then
    match e with
    | 9 => some (s.obj 0x5001 3)
    | 0xA => some (s.obj 0x5001 0xA)
    | 0xB => some (s.obj 0x5001 0xB)
    | 0xC => some (s.obj 0x5001 4)
    | _ => none
  else if 64 ≤ b ∧ b < 72 then (if e = 0xC then some (s.obj 0x5101 5) else none)
  else if 72 ≤ b ∧ b < 80 then
    match e with
    | 8 => if b < 76 then some (s.obj 0x6001 1 + s.obj 0x6001 2) else none
    | 9 => if b < 76 then none else some (s.obj 0x6001 3 + s.obj 0x6001 4)
    | _ => none
  else none

/-- The total that a block's event has come to. -/
def State.eventSeen (s : State) (b e : Nat) : Option Nat := (s.eventTotal b e).or (s.sharedTotal b e)

/-- What a total has grown by since it was marked; a total that has begun anew counts from zero. -/
def grownBy (old now : Nat) : Nat := if now < old then now else now - old

/-- What a counter has counted in a span of cycles (R595, R596): every cycle for event 0x00 in level mode; nothing for an
event without name, and for event 0x00 in edge mode, which never ceases; as often as the event has happened where the model
knows that, each in a cycle of its own; a free number within the span for the rest (log entry 172). -/
def State.perfCount (s : State) (b ctl cycles : Nat) : Nat × State :=
  let e := ctl % 64
  let top := if bit ctl 6 then (cycles + 1) / 2 else cycles
  if ¬ bit ctl 7 ∨ ¬ eventNamed b e then (0, s)
  else if e = 0 then (if bit ctl 6 then 0 else cycles, s)
  else match s.eventTotal b e, s.sharedTotal b e with
  | some n, _ => (min top (grownBy (nget s.pcie.perfMarks (b * 64 + e) 0) n), s)
  | none, some n =>
    let d := grownBy (nget s.pcie.perfMarks (b * 64 + e) 0) n
    (min top (Config.perfShare b e d % (d + 1)), s)
  | none, none =>
    let (v, s) := s.fresh
    (v % (top + 1), s)

/-- One counter brought to the present instant. -/
def State.perfOne (s : State) (k : Nat) : State :=
  let b := k / 8
  let ctl := s.perfCtl b (k % 8)
  if ctl < 128 then s
  else
    let (n, s) := s.perfCount b ctl (cyclesAt b s.clock.now - cyclesAt b s.pcie.perfAt)
    { s with pcie := { s.pcie with perf := nset s.pcie.perf k (perfAdd (s.perfVal k) n) 0 } }

/-- What the totals of the enabled counters' events stand at. -/
def State.perfMark (s : State) : NMap :=
  (List.range 768).foldl (fun m k =>
    let ctl := s.perfCtl (k / 8) (k % 8)
    if ctl < 128 then m
    else match s.eventSeen (k / 8) (ctl % 64) with
    | some n => nset m (k / 8 * 64 + ctl % 64) n 0
    | none => m) []

/-- Every enabled counter brought to the present instant. -/
def State.perfSync (s : State) : State :=
  let s := (List.range 768).foldl State.perfOne s
  { s with pcie := { s.pcie with perfAt := s.clock.now, perfMarks := s.perfMark } }

/-- CLEAR (R596, 0xA000:03): the selected block's counters and flags. -/
def State.perfClear (s : State) : State :=
  let s := s.perfSync
  let b := s.obj 0xA000 1
  { s with pcie := { s.pcie with perf := s.pcie.perf.filter (fun e => decide (e.1 / 8 ≠ b)) } }

/-- TIME in ns stands at a multiple of the gatherer's interval (R597). -/
def State.latchDue (s : State) : Bool := timeToNs s.time80 % (s.obj 0xA000 7 * 1000) == 0

/-- The gatherer enabled or disabled (0xA000:06): snapshots are numbered from 1 after each enable (R598). -/
def State.gatherEnable (s : State) (on : Bool) : State :=
  if on then { s with pcie := { s.pcie with snap := 0, snapAt := 0, snapEnd := s.clock.now } } else s

/-- The bytes of a snapshot from offset 8 on (R598). -/
def State.snapshotBody (s : State) : List Byte :=
  timeLe s.time80 ++ [0, 0] ++ leBytes 4 (s.obj 0xA000 7) ++ zeros 40 ++
    (List.range 768).flatMap (fun k => leBytes 8 (s.perfVal k))

/-- COUNTER_SNAPSHOT (R597, R598): the latch at a multiple of the interval; its slot written, the number last, within a
time that the manual does not bound. A latch that falls in the write of the one before is skipped and counted. -/
def State.counterSnapshot (s : State) : State :=
  let k := timeToNs s.time80 + 1
  if s.obj 0xA000 6 = 0 ∨ ¬ s.latchDue ∨ s.pcie.snapAt = k then s
  else
    let s := { s with pcie := { s.pcie with snapAt := k } }
    if s.clock.now < s.pcie.snapEnd then s.bump 0xA000 0xC
    else
      let s := s.perfSync
      let n := s.pcie.snap + 1
      let a := s.obj 0xA000 8 + (n - 1) % s.obj 0xA000 9 * 6208
      let s := (s.out (.host (a + 8) s.snapshotBody false)).out (.host a (leBytes 8 n) false)
      let (d, s) := s.fresh
      let s := { s with pcie := { s.pcie with snap := n, snapEnd := s.clock.now + d } }
      let s := s.bump 0xA000 0xB
      if s.obj 0xA000 0xA ≠ 0 ∧ n % s.obj 0xA000 0xA = 0 then s.msix 3 else s

/-- USER_WINDOW_READ (R599, R642): one live counter of a group that the mask admits; any other read is zero and counted. -/
def State.userWindowRead (s : State) (o len : Nat) : State :=
  if ¬ s.memOk 0x2022 then s.turnedAway
  else if ¬ inBar 2 o len then s.noBar
  else
    let b := o / 64
    if len = 8 ∧ o % 8 = 0 ∧ b < 96 ∧ bit (s.obj 0xA000 4) (b / 8) then
      let s := s.perfSync
      s.out (.readData (s.perfVal (o / 8)) 8)
    else (s.out (.readData 0 len)).hostMis 0xA000 5 0x2022

end Sys2Proof.Machine
end

