-- ==== Sys2Proof/Machine/Settle.lean ====
section
/-! DEFINITION. What follows from every command before the next one is looked at: containments, marks and device state,
punts and timestamp records without descriptors, claim cells that a change calls for, the end of a resynchronisation, the
words of the sideband, the deficits of children that have stopped being eligible. -/

namespace Sys2Proof.Machine

/-- The state after a command, settled (R14, R318, R393, R473, R495, R552, R589, R591, R655). -/
def State.settle (s : State) : State :=
  (s.deficitSync.react.laneWatch.react.puntPurge.stampPurge.syncCheck.claimSync).devSync

/-- The data path of a die runs: the die is not halted (R551). -/
def State.runs (s : State) (d : Die) : Bool := match d with
  | .fe => !s.faults.haltFe
  | .tm => !s.faults.haltTm

/-- A command at an instant: the clock comes first, what follows from the command last. -/
def State.at_ (s : State) (t : Tick) (f : State → State) : State := (f (s.tick t)).settle

/-- A command of the data path of a die: without effect while that die is halted (R551). -/
def State.on (s : State) (t : Tick) (d : Die) (f : State → State) : State :=
  s.at_ t (fun s => if s.runs d then f s else s)

end Sys2Proof.Machine
end

