-- ==== Sys2Proof/Machine/Startup.lean ====
section
/-! DEFINITION. Reset, the boot stages, the choice of the device record, state commands (chapter 18). -/

namespace Sys2Proof.Machine

/-! ### Work that a reset waits for (R701) -/

/-- Flash or fuse work is in progress. -/
def State.workOwed (s : State) : Bool := s.record.dirty || !s.dict.deferred.isEmpty || s.dev.finishing

/-- The writes whose values are in effect entered in the change record; their rewrite is owed, their answers are not
sent. -/
def State.settleDeferred (s : State) : State :=
  let l := s.dict.deferred
  let s := { s with dict := { s.dict with deferred := [] } }
  let s := l.foldl State.logDeferred s
  if l.isEmpty then s else s.owe

/-! ### What a reset clears (R36, R37, R254, R653) -/

/-- What a cold reset leaves: flash and fuses; every other object at its Default. -/
def State.coldClear (s : State) : State :=
  let b := State.reset
  { b with
    clock := { b.clock with now := s.clock.now }
    dev := s.dev
    fuses := s.fuses
    record := { s.record with divWrites := [] }
    update := { s.update with sess := Session.blank }
    sched := { b.sched with mapUnit := s.fuses.unit }
    tables := { b.tables with lfsrBase := s.clock.now }
    outbox := s.outbox
    freeCtr := s.freeCtr
    pending := s.pending }

/-- The volatile objects that a warm reset keeps (R37): those marked so, and counters. -/
def keptOverWarm (key : Nat) : Bool :=
  if key / 2 ^ 24 = 0x690003 ∨ key / 2 ^ 24 = 0x690004 then false
  else match objClass (key / 2 ^ 32) (key / 2 ^ 24 % 256) with
  | .kept => true
  | .counter => true
  | _ => false

/-- The collector after a warm reset: every standing event ended (R559); failed paths wait for their acknowledgement still
(R542), and a threshold that has been crossed is armed again only by its 3 °C (R553). -/
def Faults.warm (f : Faults) : Faults :=
  { Faults.blank with
    paths := f.paths
    armed := f.armed
    hotFe := f.hotFe
    hotTm := f.hotTm
    hotHbm := f.hotHbm
    queue := f.queue.map (fun e => if f.isStanding e.num then { e with flags := setBit e.flags 4 true } else e)
    newest := f.newest
    marks := f.marks
    bankLost := f.bankLost }

/-- The table memories after a warm reset: locks released with their credits, re-laying ended (R653). -/
def Tables.warm (t : Tables) (now : Tick) : Tables :=
  let t := t.locks.foldl Tables.settleCredits t
  { t with locks := [], relaying := [], swept := [], lfsrBase := now }

/-- The pair after a warm reset: ISOLATED when it was paired, the incomplete mark kept (R479). -/
def Pair.warm (p : Pair) (now : Tick) : Pair :=
  if p.st = .unpaired then { Pair.blank with incomplete := p.incomplete }
  else { Pair.blank with st := .isolated, rank := 1, lostAt := now, incomplete := p.incomplete }

/-- What a warm reset leaves (R653); the fields of a channel whose map gives a Reset value take it (R10, R571, R572). -/
def State.warmClear (s : State) : State :=
  let s := s.txWarm.sessionWarm.channelsOff.interruptOps
  let chan (c : Chan) : Chan := { c with cfg := 0, stopped := false, stopErr := 0, stopIdx := 0 }
  { s with
    objs := s.objs.filter (fun e => keptOverWarm e.1)
    dict := { Dict.blank with slots := s.dict.slots, nextHandle := s.dict.nextHandle }
    faults := s.faults.warm
    sbFe := ⟨false, 0, false, s.clock.now, false⟩
    sbTm := ⟨false, 0, false, s.clock.now, false⟩
    flow := Flow.blank
    tables := s.tables.warm s.clock.now
    gates := { s.gates with holds := [] }
    pair := s.pair.warm s.clock.now
    streams := []
    buf := Buf.blank
    sched := { Sched.blank with recs := s.sched.recs, mapUnit := s.sched.mapUnit }
    fabric := Fabric.blank
    lanes := ((List.range 162).filter (fun n => s.testMode n != 0)).map (fun n => { FLane.fresh n with st := 3 })
    lines := State.reset.lines
    survey := { s.survey with avsFe := ⟨0, 0, false, none⟩, avsTm := ⟨0, 0, false, none⟩, given := [], waitFrom := none }
    pcie := { s.pcie with memory := false, bars := [0, 0, 0], chans := s.pcie.chans.map chan }
    msi := Msi.blank }

/-- A reset takes hold (R637, R638, R655, R701): state BOOT; flash and fuse work goes on to its end. -/
def State.beginReset (s : State) (warm : Bool) (cause : Nat) : State :=
  let burn := (burning s.dict.deferred).or s.dev.burn
  let s := s.settleDeferred
  let owed := s.workOwed
  let s := if warm then s.warmClear.bump 0x1100 7 else s.coldClear
  { s with dev := { s.dev with
      st := .boot, phase := .held, cause := cause, entered := s.time80, duration := 0, cmd := none, warm := warm
      coreBase := s.clock.now, feAlive := false, finishing := owed, burn := if owed then burn else none, tmStopped := false, feStopped := false } }

/-! ### The device record at a start (R535, R645 to R650, R700) -/

/-- A unit has spent at least so many spares of a code. -/
def Spares.atLeast (p : Spares) (code unit n : Nat) : Spares :=
  let key := code * 65536 + unit
  if nget p.spent key 0 < n then { p with spent := nset p.spent key n 0 } else p

/-- The spares that one entry of the retirement fuse array names (R535); a stage entry that names SX itself is an SX spent
under R518. -/
def Spares.withEntry (p : Spares) (e : Nat) : Spares :=
  let u := e % 2 ^ 24
  let add (l : List Nat) (x : Nat) : List Nat := if l.contains x then l else l ++ [x]
  match bits e 30 24 with
  | 0x01 =>
    if u % 17 = 16 then p.atLeast 1 (u / 17) 1
    else { p with pipeSubst := if nget p.pipeSubst (u / 17) 0 = 0 then nset p.pipeSubst (u / 17) (u % 17 + 1) 0 else p.pipeSubst }
  | 0x08 => { p with banksRelaid := add p.banksRelaid u }
  | 0x0A => { p with wires := add p.wires (u / 2 ^ 23 * 65536 + u % 65536) }
  | 0x10 => { p with pipeRetired := add p.pipeRetired u }
  | 0x11 => { p with spent := nset p.spent (groupKey u) 1 0 }
  | 0x12 => { p with channels := add p.channels u }
  | 0x13 => { p with laneRetired := add p.laneRetired u }
  | _ => p

/-- The spares that the substitutions, re-laid banks and mapped wires of the array have taken (R528). -/
def Spares.fromFuses (p : Spares) (f : Fuses) : Spares :=
  let p := f.retirements.foldl Spares.withEntry p
  let p := (List.range 32).foldl (fun p pl => if nget p.pipeSubst pl 0 = 0 then p else p.atLeast 1 pl 1) p
  let p := if p.banksRelaid.isEmpty then p else p.atLeast 8 0 (min 2 p.banksRelaid.length)
  let p := if p.laneRetired.isEmpty then p else p.atLeast 9 0 (min 8 p.laneRetired.length)
  let p := [0, 1].foldl (fun p d =>
    let n := (p.wires.filter (fun w => w / 65536 == d)).length
    if n = 0 then p else p.atLeast 10 d n) p
  f.repairs.dedup.foldl (fun p x => p.atLeast x.1 x.2 (f.repairs.filter (· == x)).length) p

/-- Every valid fuse applied, whatever the record holds (R535). -/
def State.applyFuses (s : State) : State := s.mapSpares (fun p => p.fromFuses s.fuses)

/-- The event that names a structure of R651, or the device record (log entry 27). -/
def State.lostStructure (s : State) (i : Nat) : State :=
  s.raise { cls := 2, level := 1, die := 0, object := 0xFF000000 + i }

/-- The record chosen from flash (R645, R648, R650). -/
def State.chooseRecord (s : State) : State :=
  match chooseCopy s.record.copies with
  | some (c, div) =>
    let s := { s with record := { s.record with mem := c.body, gen := c.gen, divergent := div, divWrites := [] } }
    if div then s.lostStructure 0 else s
  | none =>
    let s := { s with record := { s.record with mem := Rec.blank, gen := 0, divergent := false, divWrites := [], dirty := true } }
    s.lostStructure 0

/-- A copy is damaged or differs from the record chosen (R647): the rewrite is owed and counted. -/
def State.repairCopies (s : State) : State :=
  if s.record.divergent ∨ s.record.dirty ∨ (List.range 3).all (fun n => s.record.copyStatus n == 0) then s
  else s.owe.bump 0x1300 8

/-- The writes that stand for a clear while the record is divergent (R700): the mark withdrawn, and every persistent object
that a copy or the record in memory holds at its Default, which R649 writes at the end of the divergence. -/
def RecState.clearWrites (r : RecState) : List (Nat × Nat) :=
  (objKey 0x1300 9 0, 0) :: (((r.mem.objs ++ r.copies.flatMap (fun c => c.body.objs)).map (·.1)).dedup.map (fun k =>
    (k, objDfltI (k / 2 ^ 32) (k / 2 ^ 24 % 256) (k % 2 ^ 24))))

/-- The clear mark acts at the start after it was set (R700). -/
def State.applyClear (s : State) : State :=
  if s.record.mem.clearMark then
    let s := if s.record.divergent then
        { s with record := { s.record with divWrites := s.record.divWrites ++ s.record.clearWrites } } else s
    let s := s.mapRec (fun r => { r with objs := [], clearMark := false })
    (s.logOwn 0x1300 9 1 0).owe
  else s

/-- A retention structure whose check fails at a warm start (R651, R652): as a cold reset clears it. -/
def State.loseStructure (s : State) (i : Nat) : State :=
  let s := match i with
    | 0 => { s with record := { s.record with divWrites := [] } }
    | 1 => { s with tx := { Tx.blank with progs := s.tx.progs.map (fun (p : Prog) => { p with commit := 0 }) }
                    tables := { s.tables with vers := (newestVers s.tables.vers).map (fun (v : Ver) => { v with commit := 0 })
                                              back := s.tables.back.map (fun (v : Ver) => { v with commit := 0 }) } }
    | 2 => { s with dict := { s.dict with slots := Dict.blank.slots } }
    | 3 => { s with faults := { s.faults with queue := [], newest := 0 } }
    | 4 => { s with update := { s.update with sess := Session.blank } }
    | _ => { s with pair := { s.pair with incomplete := false } }
  s.lostStructure i

/-- A line whose intact copies differ, with the epoch stamps that they carry (R209, R248): the copy whose stamp is no
higher than the digest's number for the table stays, the higher of two such, and the other is overwritten; where neither
matches or the digest has no record of the table the on-die copy wins and FC-02 is raised. Of two copies with one stamp
that matches, the on-die copy stays (log entry 126). -/
def State.copyMismatch (s : State) (table line die back : Nat) : State :=
  let d := nget s.tx.digest (digestSub table) 0
  let saved := s.setTables (s.tables.saveLine table line)
  if d = 0 ∨ (d < die ∧ d < back) then
    saved.raise { cls := 2, level := 1, die := 1, object := memObject table line, value := line }
  else if d < die ∨ (back ≤ d ∧ die < back) then s.setTables (s.tables.restoreLine table line)
  else saved

/-- The choice of the record at a start (R646, R652): in memory at a warm start, from flash otherwise. -/
def State.startRecord (s : State) (found : Found) : State :=
  if ¬ s.dev.warm then s.chooseRecord
  else
    let s := ((List.range 6).filter (fun i => bit found.lost.val i)).foldl State.loseStructure s
    if bit found.lost.val 0 then s.chooseRecord else s

/-- The pair is that of 0x6800:01 (R470). -/
def State.followPairing (s : State) : State := if s.obj 0x6800 1 = 1 then s.setPairing true else s.setPairing false

/-- Steps 1 to 4 of a start (R606, R637, R645, R668, R676): the straps of a pin's rise, the record, the fuses, the clear
mark, the pair, the bank. -/
def State.boot (s : State) (found : Found) (strap : Bool) : State :=
  let d := s.dev
  let s := { s with dev := { d with
    phase := .booting, rise := s.clock.now, bootsel := if strap then found.bootsel.val else d.bootsel } }
  let s := (((s.startRecord found).repairCopies.applyClear).applyFuses).poolSync 2
  let s : State := if s.dev.warm then found.differ.foldl (fun (s : State) x => s.copyMismatch x.1 x.2.1 x.2.2.1 x.2.2.2) s else s
  let s := s.followPairing
  if found.flashOk then s.bootBank else { s with update := { s.update with loadable := false } }

/-- The start of R637, which waits for the work of R701. -/
def State.startBoot (s : State) (found : Found) (strap : Bool) : State :=
  if s.dev.finishing then
    { s with dev := { s.dev with phase := .finishing, bootsel := if strap then found.bootsel.val else s.dev.bootsel } }
  else s.boot found strap

/-! ### Reset inputs (R634 to R640) -/

/-- A pin's state. -/
def State.setPins (s : State) (rst wrst pwrgd : Bool) : State :=
  { s with dev := { s.dev with rstN := rst, wrstN := wrst, pwrgd := pwrgd } }

/-- RST_N_LOW (R635, R678): a low of less than 1 µs is ignored. -/
def State.rstLow (s : State) (held : Nat) : State :=
  if held < Config.us ∨ ¬ s.dev.rstN then s
  else
    let s := s.setPins false s.dev.wrstN s.dev.pwrgd
    if s.dev.pwrgd then s.beginReset false 2 else s

/-- WRST_N is ignored: RST_N or PWRGD is low, a cold reset runs, or the part has tripped (R636, R640). -/
def State.wrstIgnored (s : State) : Bool :=
  !s.dev.rstN || !s.dev.pwrgd || s.faults.tripped || (!s.dev.warm && (s.dev.phase == .held || s.dev.phase == .finishing))

/-- WRST_N_LOW (R635, R636, R640). -/
def State.wrstLow (s : State) (held : Nat) : State :=
  if held < Config.us ∨ ¬ s.dev.wrstN ∨ s.wrstIgnored then s
  else (s.setPins s.dev.rstN false s.dev.pwrgd).beginReset true 4

/-- RESET_PIN_RISE (R637). -/
def State.pinRise (s : State) (pin : ResetPin) (found : Found) : State :=
  match pin with
  | .rst =>
    if s.dev.rstN then s
    else
      let s := s.setPins true s.dev.wrstN s.dev.pwrgd
      if s.dev.pwrgd ∧ s.dev.phase = .held then s.startBoot found true else s
  | .wrst =>
    if s.dev.wrstN then s
    else
      let s := s.setPins s.dev.rstN true s.dev.pwrgd
      if s.dev.pwrgd ∧ s.dev.rstN ∧ s.dev.phase = .held then s.startBoot found true else s

/-- A counted write whose valid fuse power has cut (R72): the slot is spent, the value the former one. A rise of the
floor burns a slot for each 1 of it; which of them power cuts is free, those before it stand and those after it are not
spent (log entry 2). -/
def State.unburn (s : State) (d : Deferred) : State :=
  let f := s.fuses
  let v := leNat d.oldVal
  let n := f.floor - v
  let k := Config.freeNat s.freeCtr % max 1 n
  let s := { s with freeCtr := s.freeCtr + 1 }
  let f := match d.idx with
    | 0x1200 => if n = 0 then f else { f with floor := v + k, floorSpent := f.floorSpent - n + k + 1 }
    | 0x1201 => { f with key0 := v }
    | 0x1202 => { f with key1 := v }
    | 0x1203 => { f with unit := v }
    | 0x1205 => { f with debugLock := false }
    | _ => f
  { s with fuses := f }

/-- PWRGD_FALL (R72, R634, R645, R701): work is cut, of the fuse burns the newest; every stack in self-refresh; then as a cold reset. -/
def State.powerFall (s : State) (done : Nat) (cut burnCut : Bool) : State :=
  let s := if burnCut then
      match (burning s.dict.deferred).or s.dev.burn with
      | some d => s.unburn d
      | none => s
    else s
  let s := s.cutBanks
  let s := if s.workOwed then s.settleDeferred.cutRewrite done cut else s
  let s := { s with record := { s.record with dirty := false }, dict := { s.dict with deferred := [] }
                    dev := { s.dev with finishing := false, burn := none } }
  let s := s.beginReset false 3
  let s := s.setPins s.dev.rstN s.dev.wrstN false
  { s with faults := { s.faults with selfRefresh := true } }

/-- PWRGD_RISE (R637): with RST_N high, a cold start 1 ms after it, cause 0x03; with RST_N low, a power-up. -/
def State.powerRise (s : State) (found : Found) : State :=
  if s.dev.pwrgd then s
  else
    let s := s.setPins s.dev.rstN s.dev.wrstN true
    if s.dev.rstN then
      let s := { s with dev := { s.dev with cause := 3, phase := .held } }.startBoot found false
      { s with dev := { s.dev with rise := s.clock.now + Config.ms } }
    else { s with dev := { s.dev with cause := 1 } }

/-- RESET_WORK_COMPLETE (R701): the rewrite is done; a start that waited for it begins. -/
def State.resetWorkDone (s : State) (found : Found) : State :=
  if ¬ s.dev.finishing then s
  else
    let s := s.rewriteRecord
    let s := { s with dev := { s.dev with finishing := false } }
    if s.dev.phase = .finishing then s.boot found false else s

/-- A reset asked for by command or by I3C, and its start (R639, R701, R705). -/
def State.commandedReset (s : State) (warm : Bool) (found : Found) : State :=
  (s.beginReset warm (if warm then 6 else 5)).startBoot found false

/-- COMMANDED_RESET_BEGIN (R639): 1 ms after the answer. -/
def State.commandedBegin (s : State) (found : Found) : State :=
  match s.dev.cmd with
  | none => s
  | some (k, t0) =>
    if s.clock.now < t0 then s
    else if k = 5 ∧ s.faults.tripped then { s with dev := { s.dev with cmd := none } }
    else s.commandedReset (k == 5) found

/-! ### From BOOT to READY (R525, R607, R641, R647, R655, R659) -/

/-- SERVICE_CORE_START: state INIT, once a bank is loaded and the start has begun. -/
def State.coreStart (s : State) : State :=
  if s.dev.st ≠ .boot ∨ s.dev.phase ≠ .booting ∨ ¬ s.update.loadable ∨ s.clock.now < s.dev.rise then s
  else { s.enter .init with dev := { (s.enter .init).dev with phase := .bringUp } }

/-- Every subordinate controller is loaded and in service (R18). -/
def State.ctlsLoaded (s : State) : Bool := s.faults.ctls.all (fun c => c.loaded && !c.out)

/-- START (R655): RUN or DEGRADED, or STANDBY with pairing enabled. -/
def State.startRun (s : State) : State := s.enter (s.pairDev s.degraded)

/-- INIT_COMPLETE: the record written (R647, R650, R700), state READY, line ports brought up, auto start applied. -/
def State.initComplete (s : State) (fe tm : Option Nat) : State :=
  if s.dev.st ≠ .init ∨ ¬ s.ctlsLoaded then s
  else
    let s := (s.requestRail 1 fe).requestRail 0 tm
    let s := if s.record.dirty then s.rewriteRecord else s
    let s := s.enter .ready
    let s := { s with dev := { s.dev with phase := .done, duration := (s.clock.now - s.dev.rise) / Config.ms } }
    let s := s.bringUpAll.sessionLate
    if s.obj 0x1100 3 = 1 then s.startRun else s

/-- STOP (R655): READY, the pair ISOLATED. -/
def State.stopRun (s : State) : State :=
  let s := s.enter .ready
  if s.pair.st = .unpaired then s
  else if s.pair.st = .sync then s.syncFail
  else
    let s := s.dropMirrored
    s.setPair { s.pair with st := .isolated, rank := 1, request := false }

/-- A state command is within its row of R655 (R44, R640). -/
def State.stateCmdOk (s : State) (c : Nat) : Bool :=
  match c with
  | 1 => s.dev.st == .ready
  | 2 => s.dev.st.inService
  | 3 => s.dev.st == .ready
  | 4 => s.dev.st == .maint
  | 5 => !s.faults.tripped
  | _ => true

/-- A state command carried out (R639, R655); a cold reset asked for prevails over a warm one (R636). -/
def State.stateCmd (s : State) (c : Nat) : State :=
  match c with
  | 1 => s.startRun
  | 2 => s.stopRun
  | 3 => s.enter .maint
  | 4 => s.enter .ready
  | _ =>
    let asks := match s.dev.cmd with
      | some (k, _) => c == 6 && k == 5
      | none => true
    if asks then { s with dev := { s.dev with cmd := some (c, s.clock.now + Config.ms) } } else s

/-- DEVICE_RECORD_REWRITE (R644): the rewrite that is owed. -/
def State.recordRewrite (s : State) : State :=
  if s.dev.st = .boot ∨ ¬ s.record.dirty then s else s.rewriteRecord

/-! ### Choosing a source, clearing the record (R533, R649, R700) -/

/-- The larger of two maps' values, key by key. -/
def maxMap (a b : NMap) : NMap := b.foldl (fun m e => if nget m e.1 0 < e.2 then nset m e.1 e.2 0 else m) a

/-- The higher of two maps' trims, key by key, as 8-bit two's complement. -/
def maxTrims (a b : NMap) : NMap :=
  b.foldl (fun m e => if toInt 8 (nget m e.1 0) < toInt 8 e.2 then nset m e.1 e.2 0 else m) a

/-- The union of two lists. -/
def unionOf (a b : List Nat) : List Nat := a ++ b.filter (fun x => !a.contains x)

/-- The more advanced of two margin plans, unit by unit (R533). -/
def Margin.merge (a b : Margin) : Margin :=
  { railFe := max a.railFe b.railFe, railTm := max a.railTm b.railTm, raises := max a.raises b.raises
    stageTrims := maxMap a.stageTrims b.stageTrims, sramAssist := maxMap a.sramAssist b.sramAssist
    laneSteps := maxMap a.laneSteps b.laneSteps, hbmRead := maxTrims a.hbmRead b.hbmRead
    hbmWrite := maxTrims a.hbmWrite b.hbmWrite, refresh := maxMap a.refresh b.refresh }

/-- The more advanced of two spare accountings; of two substituted stages of one pipeline that of `m`, the record in
memory, stays (R533). -/
def Spares.merge (m c : Spares) : Spares :=
  { spent := maxMap m.spent c.spent
    pipeRetired := unionOf m.pipeRetired c.pipeRetired
    pipeSubst := c.pipeSubst.foldl (fun x e => if nget x e.1 0 = 0 then nset x e.1 e.2 0 else x) m.pipeSubst
    laneRetired := unionOf m.laneRetired c.laneRetired
    banksRelaid := unionOf m.banksRelaid c.banksRelaid
    channels := unionOf m.channels c.channels
    wires := unionOf m.wires c.wires
    fuseOver := m.fuseOver || c.fuseOver }

/-- An entry of a flash copy carried over under a new number with flag [3] (R649). -/
def carriedEntry (e : List Byte) (n : Nat) : List Byte :=
  let b := putBytes (putBytes (e.take 60) 0 (leBytes 4 n)) 28 [e.getD 28 0 ||| 8]
  b ++ leBytes 4 (crc32 b)

/-- The change record of the rewritten record (R649): that of memory, and the entries of the copy that it lacks, oldest
first. -/
def Rec.carry (m : Rec) (c : Rec) : Rec :=
  (c.changes.filter (fun e => !m.changes.contains e)).reverse.foldl (fun r e => r.addEntry (carriedEntry e)) m

/-- CHOOSE_SOURCE (R649): the source, the writes answered while divergent over it, R533, the rewrite at the highest
generation found plus 1; the pair and the HBM pool follow what the record now holds (R282, R470). -/
def State.chooseSource (s : State) (v : Nat) : State :=
  let mem := s.record.mem
  let src := match s.record.copies[v]? with
    | some c => c.body
    | none => mem
  let objs := s.record.divWrites.foldl
    (fun m w => nset m w.1 w.2 (objDfltI (w.1 / 2 ^ 32) (w.1 / 2 ^ 24 % 256) (w.1 % 2 ^ 24))) src.objs
  let m : Rec := { mem with
    objs := objs
    clearMark := if s.record.divWrites.any (fun w => w.1 == objKey 0x1300 9 0) then mem.clearMark else src.clearMark
    survey := if mem.survey.taken < src.survey.taken then src.survey else mem.survey
    margin := mem.margin.merge src.margin
    spares := mem.spares.merge src.spares }
  let m := if v < 3 then m.carry src else m
  let g := maxOf (fun c => if c.damaged then 0 else c.gen) s.record.copies
  let s := { s with record := { s.record with mem := m, gen := max g s.record.gen, divergent := false, divWrites := [] } }
  (s.rewriteRecord.followPairing).poolSync 2

end Sys2Proof.Machine
end

