-- ==== Sys2Proof/Machine/Read.lean ====
section
/-! DEFINITION. What a READ of each object returns: the values of counted objects, and the values that the part derives
from its state (R28, R63, R123, R158, R213, R251, R301, R339 to R341, R360, R395, R396, R429, R467 to R469, R504, R537 to
R539, R564, R602, R603, R630, R660). -/

namespace Sys2Proof.Machine

/-! ### Selectors -/

/-- The node key that 0x5200:01 and :02 select. -/
def State.selNode (s : State) : Nat := nodeKey (s.obj 0x5200 1) (s.obj 0x5200 2)

/-- The instance of an object that the selector of its index selects (R461, R395, R339, R340, R504, R603); 0 where the
index has none. -/
def State.inst (s : State) (idx sub : Nat) : Nat :=
  match idx with
  | 0x3201 => if 2 ≤ sub then s.obj 0x3201 1 else 0
  | 0x5100 => if 2 ≤ sub then s.obj 0x5100 1 else 0
  | 0x5102 => if sub = 2 then s.obj 0x5102 1 else 0
  | 0x5103 => if sub = 2 then s.obj 0x5103 1 else 0
  | 0x5200 => if 3 ≤ sub then s.selNode else 0
  | 0x5201 => if 2 ≤ sub then s.obj 0x5201 1 else 0
  | 0x6010 => if sub = 2 then s.obj 0x6010 1 else 0
  | 0x6900 => if 2 ≤ sub then s.obj 0x6900 1 else 0
  | 0xA000 => if sub = 2 then s.obj 0xA000 1 else 0
  | _ => 0

/-! ### Counted objects (chapter 2) -/

/-- The value of a counted object. -/
def State.countedValue (s : State) (idx : Nat) : Nat :=
  match idx with
  | 0x1200 => s.fuses.floor
  | 0x1201 => s.fuses.key0
  | 0x1202 => s.fuses.key1
  | 0x1203 => s.fuses.unit
  | 0x1205 => flag s.fuses.debugLock
  | _ => 0

/-- The fuse slots of a counted object that are not yet spent (R72). -/
def State.slotsLeft (s : State) (idx : Nat) : Nat :=
  match idx with
  | 0x1200 => 128 - s.fuses.floorSpent
  | 0x1201 => 6 - s.fuses.key0Spent
  | 0x1202 => 6 - s.fuses.key1Spent
  | 0x1203 => 8 - s.fuses.unitSpent
  | 0x1204 => 4 - s.fuses.retakeSpent
  | 0x1205 => 1 - s.fuses.debugSpent
  | _ => 0

/-! ### Identity, state, record (R28, R77, R660) -/

/-- The selected change record entry (0x1310:03). -/
def State.selEntry (s : State) : Nat :=
  leNat ((s.record.mem.changes.find? (fun e => leAt e 0 4 == s.obj 0x1310 2 && s.obj 0x1310 2 != 0)).getD [])

/-- Derived objects of 0x1000 to 0x1FFF. -/
def State.derived1 (s : State) (idx sub : Nat) : Nat :=
  match idx, sub with
  | 0x1000, _ => Config.unitSerial % 2 ^ 128
  | 0x1100, 1 => s.dev.st.code
  | 0x1100, 4 => s.dev.cause
  | 0x1100, 5 => s.dev.entered
  | 0x1100, _ => s.dev.duration
  | 0x1300, 1 => flag s.record.divergent
  | 0x1300, 2 => s.record.gen
  | 0x1300, 3 => s.record.copyStatus 0 + 4 * s.record.copyStatus 1 + 16 * s.record.copyStatus 2
  | 0x1300, n => s.record.copyGen (n - 4)
  | 0x1310, 1 => s.record.mem.lastEntry
  | 0x1310, _ => s.selEntry
  | i, _ => s.slotsLeft i

/-! ### Host interfaces, TIME (chapter 2, R469, R602) -/

/-- Derived objects of 0x2000 to 0x2FFF. -/
def State.derived2 (s : State) (idx sub : Nat) : Nat :=
  match idx, sub with
  | 0x2000, _ => Config.pciVendor % 2 ^ 16
  | 0x2010, 2 => s.dict.i3c.dyn
  | 0x2010, _ => Config.mipiManufacturer % 2 ^ 16
  | 0x2020, _ => (s.dict.pop.sess.filter (·.isSome)).length
  | 0x2100, 1 => s.time80
  | 0x2100, 5 => ofInt 32 s.phaseLeft
  | 0x2100, 7 => s.clock.capture
  | _, _ => s.clock.edges

/-! ### Line ports and lanes (R467, R468) -/

/-- The PFC state of a port (0x3000 + p:0D). -/
def State.pfcState (s : State) (p : Nat) : Nat :=
  let x := s.port p
  sumOf (fun n => (if x.pausedNow s.clock.now n then 2 ^ n else 0) + (if x.storming s.clock.now n then 2 ^ (8 + n) else 0))
    (List.range 8)

/-- A lane sees a signal: a framed lane's detector, or a line lane that is locked (0x3201:12). -/
def State.signalDetect (s : State) (code : Nat) : Bool :=
  match framedLane code with
  | some n => (s.lane n).detect
  | none => (s.serdes code).locked

/-- The eye height of a lane in 0.1 mV: the present reading of its benchmark (0x3201:0F). -/
def State.eyeHeight (s : State) (code : Nat) : Nat := (s.benchRead (0x6000 + code)).toNat % 2 ^ 16

/-- The eye width of a lane, which no statement gives a value: free once a reading has been taken (0x3201:10; log
entry 2). -/
def State.eyeWidth (s : State) (code : Nat) : Nat :=
  if nget s.survey.readAt (0x6000 + code) 0 = 0 then 0 else Config.freeNat s.freeCtr % 2 ^ 16

/-- The adaptation bounds of a lane (0x3201:11, R527): the step of its margin plan, the maxima and the tap limits that the
factory table gives at that step, zeros in the reserved bytes 3 and 12 to 15. -/
def State.bounds (s : State) (code : Nat) : Nat :=
  let step := nget s.record.mem.margin.laneSteps code 0
  let at_ (o : Nat) : Byte := byteOf (Config.laneBounds code step o)
  leNat ([byteOf step, at_ 1, at_ 2, 0] ++ (List.range 8).map (fun i => at_ (4 + i)) ++ zeros 4)

/-- Derived objects of 0x3000 to 0x3FFF. -/
def State.derived3 (s : State) (idx sub : Nat) : Nat :=
  if idx = 0x3201 then
    let c := s.obj 0x3201 1
    match sub with
    | 8 => flag (s.serdes c).checkLock
    | 0xE => s.serdesState c
    | 0xF => s.eyeHeight c
    | 0x10 => s.eyeWidth c
    | 0x11 => s.bounds c
    | _ => flag (s.signalDetect c)
  else
    let p := idx - 0x3000
    match sub with
    | 4 => (s.port p).link
    | 0xD => s.pfcState p
    | _ => s.portRate p

/-! ### Pipelines, parser, classification (R123, R158) -/

/-- The identifier of the newest committed program of a direction, 0 when there is none (0x4000:06, :07). -/
def State.newestProg (s : State) (dir : Nat) : Nat := ((s.tx.progAt dir s.tx.commit).map progId).getD 0

/-- The valid rules of the newest epoch with their tables and slots. -/
def State.rulesNow (s : State) : List (Nat × Nat × Nat) :=
  (s.effective 4 []).filter (fun (_, _, d) => bit (ruleField d 0 1) 7)

/-- Derived objects of 0x4000 to 0x43FF. -/
def State.derived4a (s : State) (idx sub : Nat) : Nat :=
  if idx = 0x4000 then
    match sub with
    | 4 => s.retiredMap
    | 5 => s.substMap
    | n => s.newestProg (n - 6)
  else if idx < 0x4030 then
    match sub with
    | 1 => s.pipeState (idx - 0x4010)
    | 2 => s.pipeSubst (idx - 0x4010)
    | _ => s.flow.ctxCount (idx - 0x4010)
  else if idx = 0x4030 then s.tagHeld (sub - 1)
  else if idx < 0x4180 then flag (s.profileInUse (idx - 0x4110))
  else if idx < 0x4200 then flag (s.templateInUse (idx - 0x4180))
  else if sub = 2 then s.rulesNow.length
  else
    let live := s.rulesNow.map (fun (t, k, _) => (t, k))
    (((s.tables.places.filter (fun p => live.contains (p.table, p.slot))).map (fun p => (p.table, p.bucket))).dedup).length

/-! ### Tables and transactions (R213, R251) -/

/-- The valid entries of a versioned table in the newest epoch. -/
def State.entriesNow (s : State) (table valid : Nat) : Nat :=
  ((s.effective (tableKind table) []).filter (fun (t, _, d) => t == table && bit d valid)).length

/-- The valid entries of a learned table. -/
def State.learnedNow (s : State) (t : Nat) : Nat :=
  (s.tables.learned.filter (fun e => s.bucketTable (e.1 / 8) == some t && entryValid e.2)).length

/-- The entries of a table in use (0x4400 + n:03); counter pairs have no valid mark. -/
def State.inUse (s : State) (n : Nat) : Nat :=
  match tableKind n with
  | 3 => s.learnedNow (n - 0x50)
  | 4 => (s.rulesNow.filter (fun (t, _, _) => t == n)).length
  | 5 => 0
  | _ => s.entriesNow n (8 * entryBytes n - 1)

/-- The capacity of a table (0x4400 + n:02). -/
def State.capacity (s : State) (n : Nat) : Nat :=
  if tableKind n = 3 then s.obj (0x4610 + (n - 0x50)) 1 * 65536 else tableEntries n

/-- The selected journal record (0x4510:02). -/
def State.selJournal (s : State) : Nat :=
  match s.tx.rec_ (s.obj 0x4510 1) with
  | some r => leNat (r.bytes s.oldestLive)
  | none => 0

/-- Derived objects of 0x4400 to 0x4FFF. -/
def State.derived4b (s : State) (idx sub : Nat) : Nat :=
  match idx, sub with
  | 0x4400, 2 => routeUnits (s.effective 1 [])
  | 0x4400, 3 => s.entriesNow 0x41 15
  | 0x4400, 4 => s.entriesNow 0x42 31
  | 0x4400, _ => 2 - s.reserveUsed
  | 0x4500, 1 => s.tx.commit
  | 0x4500, 2 => s.oldestLive
  | 0x4500, 3 => s.liveCommits.length
  | 0x4500, 4 => s.tx.work.length
  | 0x4500, 5 => s.shadowFree
  | 0x4500, _ => s.tx.longest
  | 0x4502, n => tagCommit s.tx.commit (n - 1)
  | 0x4510, 2 => s.selJournal
  | 0x4510, _ => s.tx.journal.length
  | 0x4511, n => nget s.tx.digest n 0
  | i, 1 => tableKind (i - 0x4400)
  | i, 2 => s.capacity (i - 0x4400)
  | i, 3 => s.inUse (i - 0x4400)
  | i, 6 => centralReads (i - 0x4400)
  | i, _ => stageLocal (i - 0x4400)

/-! ### Buffers, queues, graticules (R301, R339 to R341, R360) -/

/-- Derived objects of 0x5000 to 0x50FF. -/
def State.derived50 (s : State) (idx sub : Nat) : Nat :=
  if idx = 0x5000 then
    match sub with
    | 9 => s.reservedTotal 0
    | 0xA => s.reservedTotal 1
    | 0xB => s.reserveLimit 0
    | _ => s.reserveLimit 1
  else if idx = 0x5002 then s.inspect
  else if idx < 0x5020 then (if sub = 1 then s.poolUse (idx - 0x5010) else s.poolLevel (idx - 0x5010))
  else if idx < 0x5080 then s.profileQueues false (idx - 0x5020) + s.profileQueues true (idx - 0x5020)
  else s.buf.headroomUsed (idx - 0x5080)

/-- Derived objects of 0x5100 to 0x53FF. -/
def State.derived51 (s : State) (idx sub : Nat) : Nat :=
  let q := s.obj 0x5100 1
  match idx, sub with
  | 0x5100, 2 => s.qrec q
  | 0x5100, 3 => s.queueState q
  | 0x5100, 4 => s.depth q
  | 0x5100, 5 => (s.buf.blocks.filter (fun b => b.qid == q)).length
  | 0x5100, 6 => s.headSojourn q
  | 0x5100, 7 => ofInt 32 (if recEgress (s.qrec q) then ((s.que q).out : Int) else (s.que q).bal)
  | 0x5100, 8 => allCells (s.que q).locals
  | 0x5100, _ => (s.que q).srcs.length
  | 0x5200, 3 => s.nodeRec s.selNode
  | 0x5200, 4 => ofInt 32 (s.tokens s.selNode / tokUnit)
  | 0x5200, _ => flag (s.nodeEligible s.selNode)
  | 0x5201, _ => s.portState (s.obj 0x5201 1)
  | _, _ => s.sampleRate

/-- An entry of a graticule as the eight octets of R347, in network order. -/
def gratEntryBytes (e : Nat × Nat) : List Byte := [byteOf e.1, 0, 0, 0] ++ beBytes 4 e.2

/-- The entry in force on a port (R344), 0 when no graticule is in force. -/
def State.gratNow (s : State) (g : Grat) : Nat := ((g.at_ (timeToNs s.time80)).map (·.1)).getD 0

/-- Derived objects of 0x5400 to 0x54FF. -/
def State.derived54 (s : State) (idx sub : Nat) : Nat :=
  if idx = 0x5400 then s.gates.inForce.length
  else
    let p := idx - 0x5410
    if 0x10 ≤ sub then s.gates.span p (sub - 0x10)
    else if sub = 0xA then ((s.gates.change p).map (fun c => nsToTime c.x)).getD 0
    else match s.gates.of p with
    | none => 0
    | some g =>
      match sub with
      | 1 => 1
      | 2 => g.gated
      | 3 => g.entries.length
      | 4 => g.cycle
      | 5 => g.base
      | 6 => g.allow
      | 7 => s.gratNow g
      | 9 => ((g.entries[s.obj idx 8]?).map (fun e => leNat (gratEntryBytes e))).getD 0
      | _ => g.commit

/-! ### Fabric, links, redundancy (R395, R396, R429, R504) -/

/-- Derived objects of 0x6000 to 0x60FF. -/
def State.derived60 (s : State) (idx sub : Nat) : Nat :=
  if idx = 0x6000 then
    match sub with
    | 1 => s.lanesUsable
    | 2 => s.record.mem.spares.laneRetired.length
    | 3 => spareTotal 9 - s.record.mem.spares.usedAll 9
    | 5 => s.lineRate
    | 6 => if s.lineRate = 0 then 0xFFFF else s.lanesLeft * 20000 / s.lineRate
    | _ => s.record.mem.spares.laneRetired.foldl (fun m n => mapSet m n true) 0
  else if sub = 1 then s.laneState (idx - 0x6020)
  else (s.lane (idx - 0x6020)).reach

/-- Derived objects of 0x6100 to 0x61FF. -/
def State.derived61 (s : State) (idx sub : Nat) : Nat :=
  let l := s.lane (if idx < 0x61C0 then idx - 0x6120 else idx - 0x61C0 + 160)
  match sub with
  | 1 => l.st
  | 2 => l.defects
  | 4 => leNat l.trace
  | _ => flag l.unavail

/-- The receive stream that 0x6201 selects. -/
def State.selRx (s : State) : RxStream := s.fabric.rx (s.obj 0x6201 1) (s.obj 0x6201 2)

/-- Derived objects of 0x6200 to 0x69FF. -/
def State.derived62 (s : State) (idx sub : Nat) : Nat :=
  let n := s.stream (s.obj 0x6900 1)
  match idx, sub with
  | 0x6200, _ => sumOf (fun r => r.held.length) s.fabric.rxs
  | 0x6201, 3 => if s.pinned (s.obj 0x6201 1) then 2 else flag s.selRx.active
  | 0x6201, 4 => s.selRx.r
  | 0x6201, _ => s.selRx.held.length
  | 0x6800, 6 => s.pair.st.code
  | 0x6800, 7 => s.claimNo
  | 0x6800, 8 => if s.partnerLost then 0 else s.pair.pClaim
  | 0x6800, 9 => s.pair.partnerSt.code
  | 0x6800, 0xA => flag s.permission
  | 0x6800, 0xC => s.pair.pCommit
  | 0x6800, _ => flag s.pair.incomplete
  | _, 3 => n.next
  | _, _ => n.rcv

/-! ### Survey, margin plan, spares (R537 to R539) -/

/-- Derived objects of 0x7000 to 0x7FFF. -/
def State.derived7 (s : State) (idx sub : Nat) : Nat :=
  let b := s.obj 0x7001 1
  let m := s.record.mem.margin
  let p := s.record.mem.spares
  let code := s.obj 0x7200 4
  match idx, sub with
  | 0x7000, 1 => s.surveyState
  | 0x7000, 2 => s.record.mem.survey.baseTime
  | 0x7000, 3 => s.record.mem.survey.taken
  | 0x7000, 6 => s.nextPass
  | 0x7000, 0xC => match (s.passSlot baselineArg).or (s.passSlot dailyArg) with
    | some i => (s.slot i).handle
    | none => 0
  | 0x7000, n => s.benchesAt (n - 8)
  | 0x7001, 2 => nget s.record.mem.survey.base b 0
  | 0x7001, 3 => nget s.survey.readings b 0
  | 0x7001, 4 => s.benchLevel b
  | 0x7001, _ => nget s.survey.readAt b 0
  | 0x7100, 1 => m.railFe
  | 0x7100, 2 => m.railTm
  | 0x7100, 5 => m.raises
  | 0x7100, 7 => s.stageTrim (s.obj 0x7100 6)
  | 0x7100, 8 => m.assistBits
  | 0x7100, 9 => m.refreshBits
  | 0x7100, _ => m.trimBits (s.obj 0x7100 0xA)
  | 0x7200, 3 => p.blocksOut
  | 0x7200, 5 => spareTotal code
  | 0x7200, 6 => p.usedAll code
  | _, _ => p.exhausted code

/-! ### Faults, updates, journal (R564, R630, chapter 2) -/

/-- The selected event of the history queue (0x8100:04). -/
def State.selEvent (s : State) : Nat :=
  ((s.faults.queue.find? (fun e => e.num == s.obj 0x8100 3)).map (fun e => leNat e.bytes)).getD 0

/-- The lowest event number held (0x8100:02), 0 when the queue is empty. -/
def State.oldestEvent (s : State) : Nat := (s.faults.queue.map (·.num)).min?.getD 0

/-- Derived objects of 0x8000 to 0x8FFF. -/
def State.derived8 (s : State) (idx sub : Nat) : Nat :=
  match idx, sub with
  | 0x8000, 1 => s.faults.topLevel
  | 0x8000, 2 => flag s.degraded
  | 0x8000, 6 => (s.faults.paths.filter (fun p => !p.recovered)).length
  | 0x8000, 8 => flag s.faults.haltTm + 2 * flag s.faults.haltFe
  | 0x8000, 9 => s.faults.hotFe
  | 0x8000, 0xA => s.faults.hotTm
  | 0x8000, _ => s.faults.hotHbm
  | 0x8100, 1 => s.faults.newest
  | 0x8100, 2 => s.oldestEvent
  | 0x8100, 4 => s.selEvent
  | 0x8100, _ => (s.faults.queue.filter (fun e => s.faults.isStanding e.num)).length
  | 0x8200, _ => flag s.aliveT + 2 * flag s.aliveF
  | i, _ => s.faults.levelOf (i - 0x800F)

/-- The objects of an image bank (0x9110 + b). -/
def State.bankValue (s : State) (b sub : Nat) : Nat :=
  let x := s.bank b
  let c := x.img.cart
  match sub with
  | 1 => x.st
  | 2 => beAt c 12 4
  | 3 => beAt c 16 1
  | 4 => x.img.keySlot
  | 5 => if x.img = .none then 0 else leNat (cartDigest c)
  | 6 => s.update.gen % 2 ^ 32
  | _ => leNat (bytesAt c 64 32)

/-- Derived objects of 0x9000 to 0x9FFF. -/
def State.derived9 (s : State) (idx sub : Nat) : Nat :=
  match idx, sub with
  | 0x9000, 9 => leNat s.update.sess.bytes
  | 0x9000, _ => s.update.sess.holder
  | 0x9100, 1 => s.update.loaded
  | 0x9100, 2 => s.dev.bootsel
  | 0x9100, _ => flag s.fuses.factoryKey
  | i, n => s.bankValue (i - 0x9110) n

/-- Derived objects of 0xC000 and 0xC001. -/
def State.derivedC (s : State) (idx sub : Nat) : Nat :=
  if idx = 0xC000 then (s.dict.slots.filter (fun j => j.handle != 0)).length else leNat (s.slot (sub - 1)).bytes

/-! ### All objects -/

/-- The value of a derived object. -/
def State.derived (s : State) (idx sub : Nat) : Nat :=
  match idx / 0x1000 with
  | 1 => s.derived1 idx sub
  | 2 => s.derived2 idx sub
  | 3 => s.derived3 idx sub
  | 4 => if idx < 0x4400 then s.derived4a idx sub else s.derived4b idx sub
  | 5 => if idx < 0x5100 then s.derived50 idx sub else if idx < 0x5400 then s.derived51 idx sub else s.derived54 idx sub
  | 6 => if idx < 0x6100 then s.derived60 idx sub else if idx < 0x6200 then s.derived61 idx sub else s.derived62 idx sub
  | 7 => s.derived7 idx sub
  | 8 => s.derived8 idx sub
  | 9 => s.derived9 idx sub
  | _ => s.derivedC idx sub

/-- The value of an object as a READ finds it (R30, R36, R37). The generator of a fabric or pairing lane reads that lane's
test mode (R465); 0x1300:09 reads the clear mark. -/
def State.value (s : State) (idx sub : Nat) : Nat :=
  match objClass idx sub with
  | .derived => s.derived idx sub
  | .counted => s.countedValue idx
  | .const => objDflt idx sub
  | _ =>
    if idx = 0x1300 ∧ sub = 9 then flag s.record.mem.clearMark
    else if idx = 0x3201 ∧ sub = 6 then
      match framedLane (s.obj 0x3201 1) with
      | some n => s.testMode n
      | none => s.objI 0x3201 6 (s.obj 0x3201 1)
    else s.objI idx sub (s.inst idx sub)

/-- The octets of a value. -/
def State.valueBytes (s : State) (idx sub : Nat) : List Byte := objBytes idx sub (s.value idx sub)

end Sys2Proof.Machine
end

