-- ==== Sys2Proof/Machine/Checks.lean ====
section
/-! DEFINITION. The checks that a WRITE passes before it takes effect: those that look at the value alone and those that
look at the state (R3, R32, R44, R45, R702, and the refusals that the objects' own statements name). -/

namespace Sys2Proof.Machine

/-! ### The value alone (step 4 of R702) -/

/-- What the type and the legal values of an object's row refuse. -/
def legalFault (d : ObjDesc) (v : Nat) : Option Nat :=
  match d.legal with
  | .any => none
  | .bool => refuseIf (decide (1 < v)) cIllegal
  | .time => refuseIf (decide (1000000000 ≤ timeNs v)) cIllegal
  | .range lo hi => refuseIf (decide (v < lo ∨ hi < v)) cIllegal
  | .srange lo hi => refuseIf (decide (toInt (8 * d.len) v < lo ∨ hi < toInt (8 * d.len) v)) cIllegal
  | .mask m => refuseIf (v &&& m != v) cReserved
  | .oneOf l => refuseIf (!l.contains v) cIllegal
  | .laneOrOff => refuseIf (decide (127 < v ∧ v ≠ 0xFFFF)) cIllegal
  | .partition => refuseIf (decide (v < 262144 ∨ 655360 < v ∨ v % 8192 ≠ 0)) cIllegal
  | .snapshot => refuseIf (decide (v ≠ 0 ∧ (v < 64 ∨ 16383 < v))) cIllegal
  | .aligned64 => refuseIf (v % 64 != 0) cIllegal

/-- A multicast group record (R309): reserved bits, and the range of a valid one. -/
def groupFault (v : Nat) : Option Nat :=
  firstFault [refuseIf (bits v 62 44 != 0 || bits v 31 20 != 0) cReserved,
    refuseIf (bit v 63 && decide (bits v 43 32 = 0 ∨ 1048576 < bits v 19 0 + bits v 43 32)) cIllegal]

/-- An outlet of an unknown kind or with a number out of range (R307, R308). -/
def outletBad (v : Nat) : Bool :=
  match v / 256 with
  | 0 => false
  | 1 => decide (127 < v % 256)
  | 2 => v % 256 != 0
  | 3 => decide (1 < v % 256)
  | _ => true

/-- A counted key's value is not an uncompressed point of the curve (R613). -/
def keyBad (b : List Byte) : Bool := b.getD 0 0 != 4 || !onP384 (beAt b 1 48) (beAt b 49 48)

/-- What an object's own statements refuse of the value alone; the row's own legal values come before it, except for the
tie-break (R470). -/
def State.ownFault (s : State) (idx sub v : Nat) (b : List Byte) : Option Nat :=
  match idx, sub with
  | 0x2100, 6 => refuseIf (timeNs v != 0) cIllegal
  | 0x3201, 1 => refuseIf (!isLaneCode v) cIllegal
  | 0x3201, 2 => refuseIf (bytesAt b 5 3 != zeros 3) cReserved
  | 0x3201, 5 => refuseIf (decide (3 < v)) cIllegal
  | 0x5100, 2 => refuseIf (recBad 5 v) (abortCode 3 0x22 0)
  | 0x5102, 2 => groupFault v
  | 0x5103, 2 => refuseIf (bits v 30 19 != 0) cReserved
  | 0x5200, 3 => refuseIf (recBad (s.obj 0x5200 1) v) (abortCode 3 0x22 0)
  | 0x5201, 2 => refuseIf (outletBad v) (abortCode 3 0x23 0)
  | 0x6010, 2 => refuseIf (bit v 31 && bits v 24 16 == bits v 8 0) (abortCode 3 0x26 0)
  | 0x6900, 2 => refuseIf (streamRecBad v) (abortCode 3 0x29 0)
  | 0x7001, 1 => refuseIf (!isBench v) cIllegal
  | 0x7200, 4 => refuseIf (decide (v < 1 ∨ 11 < v)) cIllegal
  | 0x9000, 2 => match chunkBad b with
    | some (.abort c) => some c
    | _ => none
  | 0x9000, n => if n = 3 ∨ n = 5 ∨ n = 6 ∨ n = 7 then refuseIf (v != 1) cIllegal else none
  | i, n =>
    if 0x3000 ≤ i ∧ i ≤ 0x307F ∧ n = 1 then
      firstFault [refuseIf (decide (4 < v)) cIllegal,
        refuseIf (v != 0 && (i - 0x3000) % laneCount v != 0) (abortCode 3 0x27 (i - 0x3000))]
    else if 0x4110 ≤ i ∧ i ≤ 0x4117 ∧ n = 4 then (mapFault b).map (abortCode 3 0x19)
    else if 0x4180 ≤ i ∧ i ≤ 0x41BF ∧ n = 1 then
      (if b.all (· == 0) then none else (tplFault b).map (abortCode 3 0x1A))
    else none

/-- Step 4 of R702: length (R32), legal values, the object's own checks of the value. -/
def State.valueFault (s : State) (d : ObjDesc) (idx sub : Nat) (b : List Byte) : Option Nat :=
  if b.length ≠ d.len then some (abortCode 3 1 d.len)
  else if idx = 0x6800 ∧ sub = 3 then refuseIf (decide (leNat b < 1 ∨ 15 < leNat b)) (abortCode 3 0x28 0)
  else (legalFault d (leNat b)).or (s.ownFault idx sub (leNat b) b)

/-! ### The state (step 5 of R702) -/

/-- A classification table holds a rule in a live epoch or pending, or is bound by a live program (R706). -/
def State.widthHeld (s : State) (n : Nat) : Bool :=
  s.livePrograms.any (fun p => (progTables p).contains n) ||
    s.tx.work.any (fun w => w.writes.any (fun x => x.table == n)) ||
    s.liveCommits.any (fun c => (verKeys s.tables.vers n).any (fun k => bit (ruleField (verAt s.tables.vers n k c) 0 1) 7))

/-- Another port node names the same line port or pairing lane (R308). -/
def State.outletTaken (s : State) (node v : Nat) : Bool :=
  (v / 256 == 1 || v / 256 == 3) && (List.range 256).any (fun m => m != node && s.outlet m == v)

/-- A member of a valid pair record stands in another valid pair (chapter 10). -/
def State.pairTaken (s : State) (n v : Nat) : Bool :=
  bit v 31 && (List.range 256).any (fun m =>
    let w := s.objI 0x6010 2 m
    m != n && bit w 31 && ([bits w 24 16, bits w 8 0].any (fun u => u == bits v 24 16 || u == bits v 8 0)))

/-- A queue holds content or a local list (R313). -/
def State.queueHolds (s : State) (q : Nat) : Bool := s.depth q != 0 || (s.que q).locals != []

/-- A fabric lane is retired, by its code of R461. -/
def State.codeRetired (s : State) (code : Nat) : Bool :=
  match framedLane code with
  | some n => s.laneOut n
  | none => false

/-- The thresholds of a pool stand in order below its size, after one of them becomes `v` (chapter 7). -/
def State.thresholdsOk (s : State) (k sub v : Nat) : Bool :=
  let w (n : Nat) : Nat := if n = sub then v else s.obj (0x5010 + k) n
  decide (w 3 < w 4 ∧ w 4 < w 5 ∧ w 5 ≤ s.poolSize k)

/-- The samples per second would pass the ceiling of R338. -/
def State.samplesOver (s : State) : Bool := decide (256000000 * s.sampleFrac.2 < s.sampleFrac.1)

/-- Sub-objects of 0x3201 that a retired lane refuses. -/
def laneActSub (n : Nat) : Bool := decide (2 ≤ n ∧ n ≤ 0xD)

/-- What an object's own statements refuse by the state, before what the write itself would make of R271. `who` is the
requester. -/
def State.stateFault (s : State) (idx sub v : Nat) : Option Nat :=
  let bad := abortCode 4 1 s.dev.st.code
  match idx, sub with
  | 0x1100, 2 => refuseIf (!s.stateCmdOk v) bad
  | 0x1300, 7 => firstFault [refuseIf (!s.record.divergent) (abortCode 4 0x20 0),
      refuseIf (decide (v < 3) && (s.record.copies.getD v ⟨true, 0, 0, Rec.blank⟩).damaged) cIllegal]
  | 0x1300, 9 => refuseIf (s.dev.st != .maint) bad
  | 0x3201, n => refuseIf (laneActSub n && (s.codeRetired (s.obj 0x3201 1) ||
      (n == 6 && (framedLane (s.obj 0x3201 1)).isSome))) (abortCode 4 0x18 0)
  | 0x5000, 2 => refuseIf ((s.buf.cells.any (fun c => c.pool == 0))) (abortCode 4 0x14 0)
  | 0x5000, 6 => refuseIf (decide (v ≤ s.obj 0x5000 5)) (abortCode 3 0x21 0)
  | 0x5100, 2 =>
    let q := s.obj 0x5100 1
    refuseIf (recEgress v != recEgress (s.qrec q) && s.queueHolds q) (abortCode 4 0x15 q)
  | 0x5101, 1 => refuseIf (s.dev.st != .ready && s.dev.st != .maint) bad
  | 0x5200, 2 => refuseIf (decide (levelCount (s.obj 0x5200 1) ≤ v)) cIllegal
  | 0x5200, 3 => refuseIf (decide (levelCount (s.obj 0x5200 1) ≤ s.obj 0x5200 2)) cIllegal
  | 0x5201, 2 => refuseIf (s.outletTaken (s.obj 0x5201 1) v) (abortCode 3 0x23 0)
  | 0x6010, 2 => refuseIf (s.pairTaken (s.obj 0x6010 1) v) (abortCode 3 0x26 0)
  | 0x6800, 2 => refuseIf (v == s.unit) (abortCode 3 0x28 0)
  | 0x6800, 0xB => refuseIf (!s.pairCmdOk v) (abortCode 4 0x1A s.pair.st.code)
  | 0x6900, 2 => refuseIf (s.streamBound (s.obj 0x6900 1) v) (abortCode 3 0x29 0)
  | 0x7100, 3 => refuseIf (decide (v < s.railPlan 1)) (abortCode 3 0x2A 0)
  | 0x7100, 4 => refuseIf (decide (v < s.railPlan 0)) (abortCode 3 0x2A 0)
  | 0x8000, 3 => refuseIf (!s.faults.queue.any (fun e => e.num == v)) (abortCode 1 0x12 v)
  | 0x8000, 0xC => refuseIf (decide (s.obj 0x8000 0xD ≤ v)) (abortCode 3 0x2B 0)
  | 0x8000, 0xD => refuseIf (decide (v ≤ s.obj 0x8000 0xC)) (abortCode 3 0x2B 0)
  | 0xA000, 8 => refuseIf (s.obj 0xA000 6 != 0) (abortCode 4 0x1C 0)
  | 0xA000, 9 => refuseIf (s.obj 0xA000 6 != 0) (abortCode 4 0x1C 0)
  | i, n =>
    if 0x3000 ≤ i ∧ i ≤ 0x307F ∧ n = 1 then
      refuseIf (s.modeRefused (i - 0x3000) v) (abortCode 3 0x27 (i - 0x3000))
    else if 0x4110 ≤ i ∧ i ≤ 0x4117 then refuseIf (s.profileInUse (i - 0x4110)) (abortCode 4 0x10 (i - 0x4110))
    else if 0x4180 ≤ i ∧ i ≤ 0x41BF then refuseIf (s.templateInUse (i - 0x4180)) (abortCode 4 0x11 (i - 0x4180))
    else if 0x4400 < i ∧ i < 0x4500 ∧ n = 9 then refuseIf (s.widthHeld (i - 0x4400)) (abortCode 4 0x21 (i - 0x4400))
    else if 0x4610 ≤ i ∧ i ≤ 0x4617 ∧ n = 1 then
      refuseIf (decide (32 < sumOf (fun t => if t = i - 0x4610 then v else s.obj (0x4610 + t) 1) (List.range 8)))
        (abortCode 3 0x1E 0)
    else if 0x5010 ≤ i ∧ i ≤ 0x5013 ∧ 3 ≤ n ∧ n ≤ 5 then
      refuseIf (!s.thresholdsOk (i - 0x5010) n v) (abortCode 3 0x20 0)
    else if 0x5080 ≤ i ∧ i ≤ 0x50FF ∧ n = 4 then refuseIf (decide (v ≤ s.obj i 5)) (abortCode 3 0x20 0)
    else if 0x5080 ≤ i ∧ i ≤ 0x50FF ∧ n = 5 then refuseIf (decide (s.obj i 4 ≤ v)) (abortCode 3 0x20 0)
    else if 0x5310 ≤ i ∧ i ≤ 0x531F ∧ (n = 3 ∨ n = 4) then
      refuseIf (decide (524288 < v + s.obj i (7 - n))) cIllegal
    else if 0x6020 ≤ i ∧ i < 0x60C0 ∧ n = 6 then
      refuseIf (v == 1 && s.laneOut (i - 0x6020)) (abortCode 4 0x16 (i - 0x6020))
    else if 0x6120 ≤ i ∧ i < 0x61C0 ∧ n = 3 then refuseIf (s.laneOut (i - 0x6120)) (abortCode 4 0x17 (i - 0x6120))
    else none

/-- A request that state HALT does not allow (R45): everything but the state command. Transaction records have their own
order (R222). -/
def State.haltRefuses (s : State) (idx sub : Nat) : Bool :=
  s.dev.st == .halt && !(idx == 0x1100 && sub == 2) && !(idx == 0x4501)

/-- The device state of R44 and R45, before the object's own checks of the state. -/
def State.devFault (s : State) (d : ObjDesc) (idx sub : Nat) : Option Nat :=
  refuseIf (s.haltRefuses idx sub || (d.states != [] && !d.states.contains s.dev.st.code)) (abortCode 4 1 s.dev.st.code)

end Sys2Proof.Machine
end

