-- ==== Sys2Proof/Machine/Writes.lean ====
section
/-! DEFINITION. What a WRITE does once its checks have passed: the effect of each object's value, the writes that wait for
flash, counted writes, and the writes that answer by themselves (chapter 2, R38, R65 to R77, R699). -/

namespace Sys2Proof.Machine

/-! ### Effects of single objects -/

/-- The learned tables whose first bucket differs between two states, and the table written (R214, R708). -/
def movedTables (s s' : State) (t : Nat) : List Nat :=
  (List.range 8).filter (fun k => k == t || s.firstBucket k != s'.firstBucket k)

/-- The entries of some learned tables cleared, by the buckets they had in `s`. -/
def State.clearLearned (s s' : State) (ts : List Nat) : State :=
  s'.setTables { s'.tables with learned := s'.tables.learned.filter (fun e =>
    match s.bucketTable (e.1 / 8) with
    | some k => !ts.contains k
    | none => true) }

/-- A learned table's size, key width or seeds written (R214). -/
def State.setLearned (s : State) (t sub v : Nat) : State :=
  let s' := s.setObj (0x4610 + t) sub v
  if s.obj (0x4610 + t) sub = v then s
  else s.clearLearned s' (if sub = 1 then movedTables s s' t else [t])

/-- LEARNED_TABLE_TICK (R192): the present tick period has run; the next one is that of 0x4610 + t:03. -/
def State.learnedTick (s : State) (t : Nat) : State :=
  let due := nget s.tables.tickAt t 0 + (if nget s.tables.tickAt t 0 = 0 then s.dev.coreBase else 0) +
    nget s.tables.tickPeriod t 1000 * Config.ms
  if s.clock.now < due then s
  else s.setTables { s.tables with
    tickCount := nset s.tables.tickCount t ((s.tables.tickNow t + 1) % 65536) 0
    tickAt := nset s.tables.tickAt t due 0
    tickPeriod := nset s.tables.tickPeriod t (s.obj (0x4610 + t) 3) 1000 }

/-- The sequence state of a stream reset by a write of its record (R498). -/
def State.resetStream (s : State) (n : Nat) : State :=
  { s with streams := s.streams.filter (fun y => y.num != n) }

/-- The retire command of a lane (R391, R392). -/
def State.retireCommand (s : State) (n v : Nat) : State := if v = 1 then s.retireLane n 0xFFFF else s

/-- Objects of one SerDes lane written (R463 to R466, R468). -/
def State.writeLane (s : State) (sub v : Nat) : State :=
  if sub = 1 then s.setObj 0x3201 1 v
  else
    let code := s.obj 0x3201 1
    let old := s.objI 0x3201 sub code
    (s.setObjI 0x3201 sub code v).laneWritten code sub old v

/-- Objects of a line port written: its mode by R432; what else is written acts from then on. -/
def State.writePort (s : State) (p sub v : Nat) : State :=
  if sub = 1 then s.setMode p v else s.setObj (0x3000 + p) sub v

/-- Objects of chapter 7 written: a peak returns to the present use, levels and pauses follow their thresholds. -/
def State.writePool (s : State) (idx sub v : Nat) : State :=
  let old := s.obj idx sub
  let s := s.setObj idx sub v
  if idx = 0x5000 then (if sub = 2 ∧ old ≠ v then ((s.poolMarks 0).poolMarks 1) else s)
  else if idx < 0x5020 then
    (if sub = 2 then s.setObj idx 2 (s.poolUse (idx - 0x5010)) else s.poolSync (idx - 0x5010))
  else if 0x5080 ≤ idx then s.pfcSync (idx - 0x5080)
  else s

/-- Objects of the performance counters written (R596 to R598). -/
def State.writePerf (s : State) (sub v : Nat) : State :=
  let old := s.obj 0xA000 sub
  let s := s.perfSync
  let s := s.setObjI 0xA000 sub (s.inst 0xA000 sub) v
  let s := if sub = 2 then { s with pcie := { s.pcie with perfMarks := s.perfMark } } else s
  if sub = 3 ∧ v = 1 then s.perfClear
  else if sub = 6 ∧ v = 1 ∧ old = 0 then s.gatherEnable true
  else s

/-- Objects of the pair written (R470, R479). -/
def State.writePair (s : State) (sub v : Nat) : State :=
  let s := s.setObj 0x6800 sub v
  if sub = 1 then s.setPairing (v == 1) else if sub = 0xB then s.pairCmd v else s

/-- Objects of the fault collector written (R558, R561). -/
def State.writeFault (s : State) (who idx sub v : Nat) : State :=
  let s := s.setObj idx sub v
  if idx = 0x8000 ∧ sub = 3 then s.ackEvent v who
  else if idx = 0x8000 ∧ sub = 4 then s.ackClass v who
  else if idx = 0x8200 ∧ sub = 2 then s.fltSync
  else s

/-- The effect of a value written to an object, once every check has passed. -/
def State.applyWrite (s : State) (who idx sub v : Nat) : State :=
  match idx with
  | 0x1100 => if sub = 2 then (s.setObj idx sub v).stateCmd v else s.setObj idx sub v
  | 0x1300 =>
    if sub = 9 then s.mapRec (fun r => { r with clearMark := v == 1 }) else (s.setObj idx sub v).chooseSource v
  | 0x2100 =>
    let s := s.setObj idx sub v
    if sub = 3 then s.setPhase (toInt 32 v) else if sub = 6 then s.setStep v else s
  | 0x3201 => s.writeLane sub v
  | 0x5100 => if sub = 2 then s.setNodeRec (nodeKey 5 (s.obj 0x5100 1)) v else s.setObj idx sub v
  | 0x5101 => if sub = 1 ∧ v = 1 then (s.setObj idx sub v).defaultMap else s.setObj idx sub v
  | 0x5200 => if sub = 3 then s.setNodeRec s.selNode v else s.setObj idx sub v
  | 0x6000 => if sub = 4 then (s.setObj idx sub v).floorSync else if sub = 8 then s.pinMap v else s.setObj idx sub v
  | 0x6800 => s.writePair sub v
  | 0x6900 =>
    let s := s.setObjI idx sub (s.inst idx sub) v
    if sub = 2 then s.resetStream (s.obj 0x6900 1) else s
  | 0x7200 => if sub = 1 then (s.setObj idx sub v).floorWritten v else s.setObj idx sub v
  | 0x8000 => s.writeFault who idx sub v
  | 0x8200 => s.writeFault who idx sub v
  | 0xA000 => s.writePerf sub v
  | i =>
    if 0x3000 ≤ i ∧ i ≤ 0x307F then s.writePort (i - 0x3000) sub v
    else if i = 0x4300 then s.accrueAll.setObj i sub v
    else if 0x4300 < i ∧ i ≤ 0x433F then (s.accrue (i - 0x4300)).setObj i sub v
    else if 0x4610 ≤ i ∧ i ≤ 0x4617 ∧ (sub = 1 ∨ sub = 5 ∨ sub = 0xC) then s.setLearned (i - 0x4610) sub v
    else if 0x5000 ≤ i ∧ i ≤ 0x50FF then s.writePool i sub v
    else if 0x6020 ≤ i ∧ i < 0x60C0 ∧ sub = 6 then (s.setObj i sub v).retireCommand (i - 0x6020) v
    else if 0x6120 ≤ i ∧ i < 0x61C0 ∧ sub = 3 then s.setTestMode (i - 0x6120) v
    else if 0x61C0 ≤ i ∧ i ≤ 0x61C1 ∧ sub = 3 then s.setTestMode (i - 0x61C0 + 160) v
    else s.setObjI i sub (s.inst i sub) v

/-! ### Writes that wait for flash (R38, R648) -/

/-- The class of an object by which its writes wait for flash: the clear mark is part of the record. -/
def waitsForFlash (idx sub : Nat) : Bool := objClass idx sub == .persistent

/-- A POP session of a role closes: a change of the role's key has been answered (R60). -/
def State.closeRole (s : State) (role : Nat) : State :=
  (List.range 4).foldl (fun s i =>
    match s.dict.pop.sess.getD i none with
    | some x => if x.role = role then s.closePop i else s
    | none => s) s

/-- What the answer to a write of a pre-shared key does (R60): `old` and `new` are its octets. -/
def State.keyAnswered (s : State) (idx sub : Nat) (old new : List Byte) : State :=
  if idx = 0x2021 ∧ 1 ≤ sub ∧ sub ≤ 3 ∧ old ≠ new then s.closeRole sub else s

/-- A write whose value is in effect and whose answer waits for flash. -/
def State.defer (s : State) (r : Req) (old new : List Byte) (counted : Bool) (answer : List Byte) : State :=
  { s with dict := { s.dict with deferred := s.dict.deferred ++
    [⟨r, r.idx, r.sub, old, new, counted, answer, s.time80⟩] } }

/-- A write answered while the record is divergent (R648, R649): its change record entry is made at once, and the write
is kept for the choice of the source. -/
def State.divergentWrite (s : State) (r : Req) (old new : List Byte) (inst : Nat) : State :=
  let s := s.logChange s.time80 r.requester r.role r.label r.idx r.sub false old new
  { s with record := { s.record with divWrites := s.record.divWrites ++ [(objKey r.idx r.sub inst, leNat new)] } }

/-- The writes that R271 and R338 look at: what the write would make of the state is refused. -/
def State.afterFault (s : State) (idx sub : Nat) : Option Nat :=
  if idx = 0x5000 ∨ (0x5020 ≤ idx ∧ idx ≤ 0x50FF) ∨ idx = 0x5100 ∨ idx = 0x5101 then
    refuseIf (!s.reserveOk) (abortCode 5 0x15 0)
  else if 0x5310 ≤ idx ∧ idx ≤ 0x531F ∧ sub ≤ 4 then refuseIf s.samplesOver (abortCode 5 0x16 0)
  else none

/-- A write of a plain object that has passed its value checks. -/
def State.plainWrite (s : State) (d : ObjDesc) (r : Req) : State × Ans :=
  let v := leNat r.val
  match (s.devFault d r.idx r.sub).or (s.stateFault r.idx r.sub v) with
  | some c => (s, .abort c)
  | none =>
    let old := s.valueBytes r.idx r.sub
    let inst := s.inst r.idx r.sub
    let s' := s.applyWrite r.requester r.idx r.sub v
    match s'.afterFault r.idx r.sub with
    | some c => (s, .abort c)
    | none =>
      if ¬ waitsForFlash r.idx r.sub then (s', .done [])
      else if s.record.divergent then ((s'.divergentWrite r old r.val inst).rateAnswered r.idx r.sub, .done [])
      else (s'.defer r old r.val false [0], .later)

/-! ### Counted writes (R72 to R76, R515, R611, R613, R614, R699) -/

/-- A key slot verifies a bank that is STAGED, TRIAL or ACTIVE (R613). -/
def State.slotVerifies (s : State) (slot : Nat) : Bool :=
  (List.range 2).any (fun b => ((s.bank b).st == 2 || (s.bank b).st == 3 || (s.bank b).st == 4) &&
    (s.bank b).img.keySlot == slot && (s.bank b).img != .none)

/-- The value checks of a counted object's own statements, in order (R613, R614, 0x1200:01). -/
def State.countedValueFault (s : State) (idx v : Nat) (b : List Byte) : Option Nat :=
  match idx with
  | 0x1200 =>
    let sv := beAt ((s.activeBank.map (fun b => (s.bank b).img)).getD .none).cart 16 1
    firstFault [refuseIf (decide (v < s.fuses.floor)) (abortCode 3 4 s.fuses.floor),
      refuseIf (decide (sv < v)) (abortCode 4 0x1E sv)]
  | 0x1201 => firstFault [refuseIf (keyBad b || v == s.fuses.key1) (abortCode 3 0x2F 0),
      refuseIf (s.slotVerifies 0) (abortCode 4 0x1D 0)]
  | 0x1202 => firstFault [refuseIf (keyBad b || v == s.fuses.key0) (abortCode 3 0x2F 0),
      refuseIf (s.slotVerifies 1) (abortCode 4 0x1D 1)]
  | _ => none

/-- A counted write equal to the present value is done and spends nothing (R73); a write of 0 to the re-take asks for
none. -/
def State.countedEqual (s : State) (idx v : Nat) : Bool := if idx = 0x1204 then v == 0 else s.countedValue idx == v

/-- The checks of the state, the record and the budget (R515, R65, R74, R76, the floor's rise), in the order of R699. -/
def State.countedFault (s : State) (idx v : Nat) : Option Nat :=
  let st := s.dev.st.code
  firstFault [
    refuseIf (s.dev.st == .halt || (idx == 0x1203 && s.dev.st != .ready && s.dev.st != .maint)) (abortCode 4 1 st),
    refuseIf (idx == 0x1204 && s.passRuns) (abortCode 4 0x1B 0),
    refuseIf s.record.divergent (abortCode 4 2 st),
    refuseIf (idx == 0x1204 && (s.freeSlot false).isNone) (abortCode 5 1 0),
    refuseIf (s.slotsLeft idx == 0 || (idx == 0x1205 && v == 0)) (abortCode 6 1 0),
    refuseIf (idx == 0x1200 && decide (s.slotsLeft idx < v - s.fuses.floor)) (abortCode 6 2 (s.slotsLeft idx))]

/-- The fuses after a counted write: the value burned, its slots spent (R72). -/
def Fuses.burn (f : Fuses) (idx v : Nat) : Fuses :=
  match idx with
  | 0x1200 => { f with floor := v, floorSpent := f.floorSpent + (v - f.floor) }
  | 0x1201 => { f with key0 := v, key0Spent := f.key0Spent + 1 }
  | 0x1202 => { f with key1 := v, key1Spent := f.key1Spent + 1 }
  | 0x1203 => { f with unit := v, unitSpent := f.unitSpent + 1 }
  | 0x1204 => { f with retakeSpent := f.retakeSpent + 1 }
  | 0x1205 => { f with debugLock := true, debugSpent := f.debugSpent + 1 }
  | _ => f

/-- A counted write that spends nothing (R73): done, with its entry in the change record (R77); while the record is
divergent its entry is made at once. -/
def State.countedKept (s : State) (r : Req) : State × Ans :=
  let old := s.valueBytes r.idx r.sub
  if s.record.divergent then
    (s.logChange s.time80 r.requester r.role r.label r.idx r.sub true old r.val, .done [])
  else (s.defer r old r.val true [0], .later)

/-- A counted write that has passed the checks of its row (R699): the fuses are burned and the answer waits for the change
record; a re-take starts its stepped operation (R514). -/
def State.countedWrite (s : State) (r : Req) : State × Ans :=
  let v := leNat r.val
  match s.countedValueFault r.idx v r.val with
  | some c => (s, .abort c)
  | none =>
    if s.countedEqual r.idx v then s.countedKept r
    else match s.countedFault r.idx v with
    | some c => (s, .abort c)
    | none =>
      let old := s.valueBytes r.idx r.sub
      let s := { s with fuses := s.fuses.burn r.idx v }
      if r.idx = 0x1204 then
        let (h, s) := s.startOp false 0x1204 1 r.requester 294 baselineArg
        (s.defer r old r.val true ([2] ++ leBytes 2 (h.getD 0)), .later)
      else (s.defer r old r.val true [0], .later)

/-! ### Stepped operations: cancel and acknowledge (R66, R68) -/

/-- An open operation that is not cancellable: re-laying a bank (R211) and a resynchronisation (R494). -/
def JSlot.fixed (j : JSlot) : Bool := (j.idx == relayIdx && j.sub == relaySub) || (j.idx == 0x6800 && j.sub == 0xB)

/-- CANCEL (R68): a cancel waits for the next step boundary. -/
def State.cancel (s : State) (h : Nat) : State × Ans :=
  match s.slotOf h with
  | none => (s, .abort (abortCode 0xA 2 h))
  | some i =>
    let j := s.slot i
    if ¬ j.isOpen then (s.setObj 0xC000 2 h, .done [])
    else if j.fixed then (s, .abort (abortCode 0xA 3 h))
    else ((s.setObj 0xC000 2 h).setSlot i { j with cancel := true }, .done [])

/-- ACKNOWLEDGE (R66): a host slot in a final state is freed. -/
def State.acknowledge (s : State) (h : Nat) : State × Ans :=
  match s.slotOf h with
  | none => (s, .abort (abortCode 0xA 2 h))
  | some i =>
    if (s.slot i).isOpen ∨ 8 ≤ i then (s, .abort (abortCode 0xA 4 h))
    else ((s.setObj 0xC000 3 h).setSlot i JSlot.free, .done [])

/-! ### Transaction records and the update session -/

/-- A record written to 0x4501:01 (R219 to R224, R229). -/
def State.recordWrite (s : State) (r : Req) : State × Ans :=
  let (s, a) := s.txRecord r.requester r.val
  match a with
  | .done => (s, .done [])
  | .abort c => (s, .abort c)
  | .wait => ({ s with tx := { s.tx with waits := s.tx.waits ++ [⟨some r, r.requester, r.val⟩] } }, .later)

/-- The value checks of the update session's objects (R612, R619, R702). -/
def sessionValueFault (sub : Nat) (b : List Byte) : Option Ans :=
  match sub with
  | 1 => (cartValueFault b).map Ans.abort
  | 2 => chunkBad b
  | 4 => none
  | _ => if leNat b = 1 then none else some badValue

/-- A write of the update session (R615 to R626), its value checks passed; what is written to :01 and :03 to :07 reads back once it is done. -/
def State.sessionWrite (s : State) (r : Req) : State × Ans :=
  let v := leNat r.val
  let who := r.requester
  let (s', a) := match r.sub with
    | 1 => s.openSession who r.val
    | 2 => s.chunk who r.val
    | 3 => s.verify who
    | 4 => s.schedule_ who v
    | 5 => s.closeSession who
    | 6 => s.confirm who
    | _ => s.revert
  match a with
  | .abort _ => (s', a)
  | _ => (if r.sub = 2 then s' else s'.setObj 0x9000 r.sub v, a)

/-- A WRITE that has passed steps 1 to 4 of R702. -/
def State.serveWrite (s : State) (d : ObjDesc) (r : Req) : State × Ans :=
  if d.acc = 5 then s.countedWrite r
  else if r.idx = 0x4501 then s.recordWrite r
  else if r.idx = 0x9000 ∧ r.sub ≤ 7 then
    (match sessionValueFault r.sub r.val with
     | some a => (s, a)
     | none => if s.dev.st = .halt then (s, s.badState) else s.sessionWrite r)
  else if r.idx = 0x9000 ∧ r.sub = 8 then
    (match s.sessionHeld r.requester with
     | some a => (s, a)
     | none => s.plainWrite d r)
  else if r.idx = 0xC000 then
    (if s.dev.st = .halt then (s, s.badState)
     else if r.sub = 2 then s.cancel (leNat r.val) else s.acknowledge (leNat r.val))
  else s.plainWrite d r

end Sys2Proof.Machine
end

