-- ==== Sys2Proof/Machine/Paths.lean ====
section
/-! DEFINITION. The dictionary service: how a request is served and answered on its path, and the queues of the three
paths (chapter 2, R33 to R50, R58, R59, R702). -/

namespace Sys2Proof.Machine

/-! ### Serving one request (R39, R702) -/

/-- The service core works: not in BOOT, not restarting, its die's clock running (R45, R555). -/
def State.serves (s : State) : Bool := s.dev.st != .boot && !s.faults.restarting && !s.dev.tmStopped

/-- A path takes requests at all: it does not in BOOT, nor while the clock of the service core's die has stopped. -/
def State.pathsLive (s : State) : Bool := s.dev.st != .boot && !s.dev.tmStopped

/-- Step 3 of R702: access code and role (R33). OPERATOR cancels only what it started, which its requester identifier tells:
a later session in the same POP slot counts as the starter (log entry 154). -/
def State.accessFault (s : State) (d : ObjDesc) (r : Req) : Option Nat :=
  if r.op = 1 then refuseIf (d.acc == 3) (abortCode 2 2 0)
  else if d.acc = 1 then some (abortCode 2 1 0)
  else
    let own := ((s.slotOf (leNat r.val)).map (fun i => (s.slot i).requester == r.requester)).getD false
    firstFault [refuseIf (decide (r.role < d.role)) (abortCode 2 3 d.role),
      refuseIf (r.idx == 0xC000 && r.sub == 2 && decide (r.role < 2) && !own) (abortCode 2 3 2)]

/-- The eight octets that DESCRIBE answers (chapter 2). -/
def describe (d : ObjDesc) : List Byte :=
  [byteOf d.ty, byteOf d.acc, byteOf (flag (d.cls == .persistent) + 2 * flag (d.cls == .counted)),
    byteOf (if d.acc = 1 then 0 else d.role)] ++ leBytes 4 d.len

/-- Step 2 of R702 (R4): the object's row, or the abort of an undefined index or sub-index. -/
def findObject (idx sub : Nat) : ObjDesc ⊕ Nat :=
  if (objTop idx).isNone then .inr (abortCode 1 1 idx)
  else match objDesc idx sub with
  | none => .inr (abortCode 1 2 sub)
  | some d => .inl d

/-- A request on a defined object (R702, steps 3 to 6). -/
def State.serveObject (s : State) (d : ObjDesc) (r : Req) : State × Ans :=
  if r.op = 3 then (s, .done (describe d))
  else match s.accessFault d r with
  | some c => (s, .abort c)
  | none =>
    if r.op = 1 then (s, .done (s.valueBytes r.idx r.sub))
    else match s.valueFault d r.idx r.sub r.val with
    | some c => (s, .abort c)
    | none => s.serveWrite d r

/-- The holder of the update session's lock has sent a request to 0x9000 (R617). -/
def State.noteHolder (s : State) (r : Req) : State :=
  if r.idx = 0x9000 ∧ s.update.sess.holder ≠ 0 ∧ s.update.sess.holder = r.requester then
    s.mapSess (fun x => { x with lastReq := s.clock.now })
  else s

/-- A request served (R39, R617, R702): steps 1 and 2 come for every request; a NOP then ends as done with no effect. -/
def State.serveReq (s : State) (r : Req) : State × Ans :=
  let s := s.lockExpiry
  match r.refuse with
  | some c => (s, .abort c)
  | none =>
    match r.bad with
    | some o => (s.hostMis 0x2030 6 r.requester, .abort (abortCode 9 1 o))
    | none =>
      let s := s.noteHolder r
      match findObject r.idx r.sub with
      | .inr c => (s, .abort c)
      | .inl d => if r.op = 4 then (s, .done []) else s.serveObject d r

/-! ### Responses (R46, R47, R50, R58) -/

/-- A response record (chapter 2). -/
def Req.response (r : Req) (status : Nat) (val : List Byte) : List Byte :=
  [byteOf (r.op % 128 + 128), byteOf status] ++ leBytes 2 r.tag ++ leBytes 2 r.idx ++ [byteOf r.sub, 0] ++
    leBytes 2 val.length ++ [0, 0] ++ val

/-- A POP datagram: header in network order, body, check (R51). -/
def popDgram (ty sid seq : Nat) (body key : List Byte) : List Byte :=
  let h := [0x50, 0x4F, 1, byteOf ty] ++ beBytes 4 sid ++ beBytes 4 seq ++ body
  h ++ hmac256 key h

/-- The bytes of records that one RESPONSE datagram takes (R52, R58). -/
def popRoom : Nat := 1428

/-- Records placed end to end in as few bodies as their order allows, each record whole (R58). -/
def packRecs : List (List Byte) → List Byte → List (List Byte)
  | [], cur => if cur = [] then [] else [cur]
  | x :: xs, cur =>
    if cur = [] then packRecs xs x
    else if cur.length + x.length ≤ popRoom then packRecs xs (cur ++ x)
    else cur :: packRecs xs x

/-- A POP session slot's session. -/
def State.popSess (s : State) (slot : Nat) : Option PopSess := s.dict.pop.sess.getD slot none

/-- A session set. -/
def State.setSess (s : State) (slot : Nat) (x : PopSess) : State :=
  { s with dict := { s.dict with pop := { s.dict.pop with sess := s.dict.pop.sess.set slot (some x) } } }

/-- Records sent in RESPONSE datagrams, kept for a repeat of the REQUEST they answer (R57, R58). -/
def State.popSend (s : State) (slot seq : Nat) (recs : List (List Byte)) : State :=
  (packRecs recs []).foldl (fun s body =>
    match s.popSess slot with
    | none => s
    | some x =>
      let dg := popDgram 0x11 x.sid (x.txSeq + 1) body x.key
      let held := x.held.map (fun e => if e.1 = seq then (e.1, e.2 ++ [dg]) else e)
      (s.setSess slot { x with txSeq := (x.txSeq + 1) % 2 ^ 32, held := held }).out (.datagram x.peer dg)) s

/-- The responses that have been collected for a REQUEST are sent once none of its records waits for service (R58). -/
def State.popFlush (s : State) (slot seq : Nat) : State :=
  match s.popSess slot with
  | none => s
  | some x =>
    if x.queue.any (fun q => q.seq == seq) then s
    else
      let own (e : Nat × List Byte) : Bool := e.1 == seq
      (s.setSess slot { x with acc := x.acc.filter (fun e => !own e) }).popSend slot seq
        ((x.acc.filter own).map (·.2))

/-- A response delivered on its path; `late` marks one that completes after the others of its datagram. -/
def State.respond (s : State) (r : Req) (status : Nat) (val : List Byte) (late : Bool) : State :=
  let b := r.response status val
  match r.path with
  | .i3c => ({ s with dict := { s.dict with i3c := { s.dict.i3c with resp := s.dict.i3c.resp ++ [b] } } }).ibi 0x41
  | .mailbox =>
    let m := s.dict.mbx
    ({ s with dict := { s.dict with mbx := { m with
      respBuf := b ++ m.respBuf.drop b.length, done := true, busy := false } } }).msix 0
  | .pop slot =>
    if late then s.popSend slot.val r.seq [b]
    else match s.popSess slot.val with
    | none => s
    | some x => (s.setSess slot.val { x with acc := x.acc ++ [(r.seq, b)] }).popFlush slot.val r.seq

/-- An abort answered and counted (R41, R61). -/
def State.respondAbort (s : State) (r : Req) (code : Nat) (late : Bool) : State :=
  (s.bump 0x2030 0xD).respond r 1 (leBytes 4 code) late

/-- A request that is answered later: the others of its datagram go without it (R58). -/
def State.leaveLate (s : State) (r : Req) : State :=
  match r.path with
  | .pop slot => s.popFlush slot.val r.seq
  | _ => s

/-- A request served and, unless it must wait, answered; a change of a pre-shared key acts once it is answered (R60). -/
def State.serve (s : State) (r : Req) : State :=
  let old := s.valueBytes r.idx r.sub
  let (s, a) := s.serveReq r
  match a with
  | .done v => (s.respond r 0 v false).keyAnswered (if r.op = 2 then r.idx else 0) r.sub old r.val
  | .abort c => s.respondAbort r c false
  | .started h => s.respond r 2 (leBytes 2 h) false
  | .later => s.leaveLate r

/-! ### Queues of the paths (R42, R43, R48, R49, R59) -/

/-- The role of a path (R34). -/
def State.roleOf (s : State) : Path → Nat
  | .pop slot => ((s.popSess slot.val).map (·.role)).getD 0
  | _ => maintainer

/-- The key label of a path. -/
def State.labelOf (s : State) : Path → Nat
  | .pop slot => ((s.popSess slot.val).map (·.label)).getD 0
  | _ => 0

/-- A request as a path brings it. -/
def State.mkReq (s : State) (p : Path) (seq op tag idx sub : Nat) (val : List Byte) (bad refuse : Option Nat) : Req :=
  { path := p, role := s.roleOf p, requester := s.requesterOf p, label := s.labelOf p, seq := seq, op := op % 256
    tag := tag % 65536, idx := idx % 65536, sub := sub % 256, val := val, bad := bad, refuse := refuse }

/-- A request waits: its object has a write in progress, a transaction record of the dictionary waits for shadow slots
(R43), or it is a chunk and a device record write is pending (R621, log entry 130). A NOP neither reads nor writes the object it names, and
does not wait (log entry 135). -/
def State.blocked (s : State) (r : Req) : Bool :=
  r.bad.isNone && r.refuse.isNone && r.op != 4 &&
    (s.dict.deferred.any (fun d => d.idx == r.idx && d.sub == r.sub) ||
      (r.op == 2 && r.idx == 0x9000 && r.sub == 2 && (!s.dict.deferred.isEmpty || s.record.dirty)) ||
      (r.idx == 0x4501 && r.sub == 1 && s.tx.waits.any (fun w => w.req.isSome)))

/-- The requests of a path that wait for service. -/
def State.pathQueue (s : State) : Path → List Req
  | .i3c => s.dict.i3c.queue
  | .mailbox => match s.dict.mbx.req with
    | some r => [r]
    | none => []
  | .pop slot => ((s.popSess slot.val).map (·.queue)).getD []

/-- The requests of a path that wait for service set. -/
def State.setQueue (s : State) (p : Path) (l : List Req) : State :=
  match p with
  | .i3c => { s with dict := { s.dict with i3c := { s.dict.i3c with queue := l } } }
  | .mailbox => { s with dict := { s.dict with mbx := { s.dict.mbx with req := l.head? } } }
  | .pop slot => match s.popSess slot.val with
    | some x => s.setSess slot.val { x with queue := l }
    | none => s

/-- The unanswered requests of a path (R48, R59). -/
def State.unanswered (s : State) (p : Path) : Nat :=
  (s.pathQueue p).length + (s.dict.deferred.filter (fun d => d.req.path == p && d.answer != [])).length +
    (s.tx.waits.filter (fun w => (w.req.map (fun r => decide (r.path = p))).getD false)).length

/-- A path is open: an I3C address is assigned, a POP session stands in the slot. -/
def State.pathOpen (s : State) : Path → Bool
  | .i3c => s.dict.i3c.dyn != 0
  | .mailbox => true
  | .pop slot => (s.popSess slot.val).isSome

/-- A path is being ignored (R552). -/
def State.pathIgnored (s : State) (p : Path) : Bool :=
  s.ignores (ignoreKey (s.requesterOf p)) ||
    (match p with
     | .pop slot => ((s.popSess slot.val).map (fun x => s.ignores x.peer.ip)).getD false
     | _ => false)

/-- The refusal of a path whose queue is full: the counted kind and the abort (R48, R59). -/
def State.pathFull (s : State) (p : Path) : Option (Nat × Nat) :=
  match p with
  | .i3c => if 4 ≤ s.unanswered p then some (3, abortCode 8 2 4) else none
  | .mailbox => none
  | .pop _ => if 16 ≤ s.unanswered p then some (0xC, abortCode 8 2 16) else none

/-- A request arrives on a path: refused when the path is full, served at once when the path has nothing before it and
the service core works, else queued. -/
def State.arrive (s : State) (r : Req) : State :=
  match s.pathFull r.path with
  | some (k, c) => (s.hostMis 0x2030 k r.requester).respondAbort r c false
  | none => s.setQueue r.path (s.pathQueue r.path ++ [r])

/-- The head of a path's queue served, when it need not wait. -/
def State.serveHead (s : State) (p : Path) : State :=
  match s.pathQueue p with
  | [] => s
  | r :: rest => if s.blocked r then s else (s.setQueue p rest).serve r

/-- The mailbox takes a request, or counts the GO that finds it busy (R49). -/
def State.mailboxTake (s : State) (r : Req) : State :=
  if s.dict.mbx.busy ∨ s.dev.st = .boot then
    ({ s with dict := { s.dict with mbx := { s.dict.mbx with ovr := true } } }).hostMis 0x2030 4 0x2000
  else { s with dict := { s.dict with mbx := { s.dict.mbx with busy := true, req := some r } } }

/-- The head of a path may be served now. -/
def State.headReady (s : State) (p : Path) : Bool :=
  match s.pathQueue p with
  | [] => false
  | r :: _ => !s.blocked r

/-! ### Steps of stepped operations (R68, R70) -/

/-- A cancelled operation ends at its step boundary (R68); a verification takes its session with it (R622). -/
def State.endCancelled (s : State) (i : Nat) : State :=
  let j := s.slot i
  let s := s.endOp i 4 0
  if j.idx = 0x9000 ∧ j.sub = 3 then s.verifyCancel else s

/-- One step of an operation in the slot: a pass of the Survey, a re-laying, a verification, a resynchronisation. -/
def State.runStep (s : State) (i : Nat) (r : StepResult) : State :=
  let j := s.slot i
  if j.idx = 0x9000 then s.verifyStep i (match r with
    | .failed a => some a
    | _ => none)
  else if j.idx = 0x6800 then s.resyncStep i
  else if j.idx = relayIdx ∧ j.sub = relaySub then s.relayStep i
  else s.passStepRun i r

/-- A direction, or none, by a free value. -/
def freeDir (n : Nat) : Option Bool := if n % 3 = 0 then none else some (n % 3 == 1)

/-- What the step of an operation finds when no command tells it: the readings of a pass, and what its plan review meets, are
free (log entry 2). -/
def State.freeResult (s : State) (i : Nat) : StepResult × State :=
  let j := s.slot i
  if j.idx = 0x9000 ∨ j.idx = 0x6800 ∨ (j.idx = relayIdx ∧ j.sub = relaySub) then (.ok, s)
  else if j.steps < 293 then
    let l := passStep j.steps
    (.readings (l.mapIdx (fun n b => ⟨b, toInt 32 (Config.freeNat (s.freeCtr + 2 * n) % 2 ^ 32),
        toInt 32 (Config.freeNat (s.freeCtr + 2 * n + 1) % 2 ^ 32)⟩)),
      { s with freeCtr := s.freeCtr + 2 * l.length })
  else
    let free (n : Nat) : Nat := Config.freeNat (s.freeCtr + n)
    (.review ⟨some (free 256), some (free 257), (List.range 128).map (fun c => (c, ⟨freeDir (free (2 * c)), freeDir (free (2 * c + 1))⟩))⟩,
      { s with freeCtr := s.freeCtr + 258 })

/-- An operation's next step, or its end when it is to be cancelled. -/
def State.stepOnce (s : State) (i : Nat) (r : Option StepResult) : State :=
  if (s.slot i).cancel then s.endCancelled i
  else match r with
  | some r => s.runStep i r
  | none =>
    let (r, s) := s.freeResult i
    s.runStep i r

/-- An open operation has a step to take: a resynchronisation once an item has come (R494). -/
def State.stepReady (s : State) (i : Nat) : Bool :=
  (s.slot i).isOpen && ((s.slot i).cancel || (s.slot i).idx != 0x6800 || s.pair.syncMoved)

/-! ### The rotation (R42) -/

/-- What the service core takes next: the head of a path, or a step of the operation in a slot. -/
inductive Turn where
  | path (p : Path)
  | step (i : Nat)
  deriving DecidableEq, Repr

/-- The POP slot whose turn it is (R42). -/
def State.popTurn (s : State) : Option (Fin 4) :=
  ([0, 1, 2, 3].map (fun i => Fin.ofNat 4 (s.dict.rotPop + i))).find? (fun i => s.headReady (.pop i))

/-- The operation whose turn it is (R42). -/
def State.stepTurn (s : State) : Option Nat :=
  ((List.range 12).map (fun i => (s.dict.rotStep + i) % 12)).find? s.stepReady

/-- What a group takes next: 0 I3C, 1 mailbox, 2 POP, 3 the stepped operations. -/
def State.groupTurn (s : State) (g : Nat) : Option Turn :=
  match g with
  | 0 => if s.headReady .i3c then some (.path .i3c) else none
  | 1 => if s.headReady .mailbox then some (.path .mailbox) else none
  | 2 => (s.popTurn).map (fun i => .path (.pop i))
  | _ => (s.stepTurn).map .step

/-- The next group that has something to serve, from the one whose turn it is (R42). -/
def State.nextTurn (s : State) : Option (Nat × Turn) :=
  if ¬ s.serves then none
  else ([0, 1, 2, 3].map (fun i => (s.dict.rot + i) % 4)).findSome? (fun g => (s.groupTurn g).map (fun x => (g, x)))

/-- A turn taken: the rotation moves past its group, and past its member within the group. `r` is what a step finds. -/
def State.takeTurn (s : State) (g : Nat) (x : Turn) (r : Option StepResult) : State :=
  let d := { s.dict with rot := (g + 1) % 4 }
  match x with
  | .path (.pop i) => { s with dict := { d with rotPop := (i.val + 1) % 4 } }.serveHead (.pop i)
  | .path p => { s with dict := d }.serveHead p
  | .step i => { s with dict := { d with rotStep := (i + 1) % 12 } }.stepOnce i r

/-- REQUEST_SERVICE (R42): one request or step of the next group that has one. -/
def State.requestService (s : State) : State :=
  match s.nextTurn with
  | none => s
  | some (g, x) => s.takeTurn g x none

/-- The rotation carried on until the head of a path has been served; 16 turns bring every path its turn. -/
def State.carryTo (s : State) (p : Path) : Nat → State
  | 0 => s
  | fuel + 1 =>
    match s.nextTurn with
    | none => s
    | some (g, x) =>
      if ¬ s.headReady p then s
      else if x = .path p then s.takeTurn g x none
      else (s.takeTurn g x none).carryTo p fuel

/-- The rotation carried on until the operation in a slot has taken a step, with what that step finds; 48 turns bring
every operation its turn. -/
def State.carryStep (s : State) (i : Nat) (r : StepResult) : Nat → State
  | 0 => s
  | fuel + 1 =>
    match s.nextTurn with
    | none => s
    | some (g, x) =>
      if ¬ s.stepReady i then s
      else if x = .step i then s.takeTurn g x (some r)
      else (s.takeTurn g x none).carryStep i r fuel

/-- STEPPED_OPERATION_STEP (R42, R68, R70): the step of the operation that a handle names, in its turn. -/
def State.steppedStep (s : State) (h : Nat) (r : StepResult) : State :=
  match s.slotOf h with
  | none => s
  | some i => s.carryStep i r 48

/-- A request of one of the rows READ to NOP and of the rows that write one object: it arrives on its path, and when
nothing is before it on that path the rotation of R42 is carried on to it. -/
def State.request (s : State) (p : Path) (op tag idx sub : Nat) (val : List Byte) : State :=
  let r := s.mkReq p 0 op tag idx sub val none none
  if p = .mailbox ∧ ¬ s.memOk 0x2000 then s.turnedAway
  else if s.dev.tmStopped ∨ s.pathIgnored p ∨ ¬ s.pathOpen p then s
  else
    let first := (s.pathQueue p).isEmpty && s.serves
    let s' := if p = .mailbox then s.mailboxTake r else if s.dev.st = .boot then s else s.arrive r
    if first then s'.carryTo p 16 else s'

/-! ### Answers that waited -/

/-- PERSISTENT_WRITE_COMMIT (R38, R75, R77): the oldest write in effect is entered in the change record, the device record
is rewritten, and the write is answered. -/
def State.commitWrite (s : State) : State :=
  if ¬ s.serves then s
  else match s.dict.deferred with
  | [] => s
  | d :: rest =>
    let s := { s with dict := { s.dict with deferred := rest } }
    let s := (s.logDeferred d).rewriteRecord
    let s := match d.answer with
      | [] => s
      | st :: v => s.respond d.req st.toNat v true
    (s.keyAnswered d.idx d.sub d.oldVal d.newVal).rateAnswered d.idx d.sub

/-- TXN_WRITE_RESUME (R229): the first record held off for shadow slots, tried again and answered. -/
def State.txnResume (s : State) : State :=
  if ¬ s.serves then s
  else match s.resumeWait with
  | (s, none) => s
  | (s, some (w, a)) =>
    match w.req, a with
    | some r, .done => s.respond r 0 [] true
    | some r, .abort c => s.respondAbort r c true
    | _, _ => s

end Sys2Proof.Machine
end

