-- ==== Sys2Proof/Machine/Management.lean ====
section
/-! DEFINITION. The three paths as the outside drives them: I3C transfers and CCCs, the mailbox registers, POP datagrams
and the neighbour protocols of the management port (chapter 2, R46 to R62, R704, R705). -/

namespace Sys2Proof.Machine

/-! ### Records off a path (R39) -/

/-- The first bad byte of a record whose bytes are `b`, all of which are its own (R39). -/
def recordBad (b : List Byte) : Option Nat :=
  let op := beAt b 0 1
  let len := leAt b 8 2
  firstFault [refuseIf (decide (op < 1 ∨ 4 < op)) 0, refuseIf (b.getD 1 0 != 0) 1, refuseIf (b.getD 7 0 != 0) 7,
    refuseIf ((op != 2 && len != 0) || b.length != 12 + len) 8, refuseIf (b.getD 10 0 != 0) 10,
    refuseIf (b.getD 11 0 != 0) 11]

/-- A record as a request of a path. -/
def State.reqOfRecord (s : State) (p : Path) (seq : Nat) (b : List Byte) (refuse : Option Nat) : Req :=
  s.mkReq p seq (beAt b 0 1) (leAt b 2 2) (leAt b 4 2) (beAt b 6 1) (b.drop 12) (recordBad b) refuse

/-! ### I3C (R46 to R48, R704, R705) -/

/-- The I3C target changed. -/
def State.mapI3c (s : State) (f : I3c → I3c) : State := { s with dict := { s.dict with i3c := f s.dict.i3c } }

/-- The I3C target answers: it has an address and the part is not in BOOT (R45, R46). -/
def State.i3cLive (s : State) : Bool := s.pathsLive && s.dict.i3c.dyn != 0

/-- A response to a discarded private write (R61). -/
def State.i3cDiscard (s : State) (kind code : Nat) : State :=
  let r := s.mkReq .i3c 0 0 0xFFFF 0 0 [] none none
  (s.hostMis 0x2030 kind r.requester).respondAbort r code false

/-- I3C_PRIVATE_WRITE (R46, R48, R61). -/
def State.i3cWrite (s : State) (b : List Byte) (parityOk : Bool) : State :=
  if ¬ s.i3cLive then s.out .nack
  else if s.pathIgnored .i3c then s
  else if ¬ parityOk then (s.mapI3c (fun x => { x with perr := true })).i3cDiscard 1 (abortCode 9 2 0)
  else if s.dict.i3c.mwl < b.length then s.i3cDiscard 2 (abortCode 9 3 s.dict.i3c.mwl)
  else s.arrive (s.reqOfRecord .i3c 0 b none)

/-- I3C_PRIVATE_READ (R46, R47): the oldest response, from its first byte not yet read, up to the maximum read length. -/
def State.i3cRead (s : State) : State :=
  if ¬ s.i3cLive then s.out .nack
  else match s.dict.i3c.resp with
  | [] => s.out .nack
  | r :: rest =>
    let x := s.dict.i3c
    let part := (r.drop x.off).take x.mrl
    let s := s.out (.i3c part)
    if r.length ≤ x.off + part.length then s.mapI3c (fun x => { x with resp := rest, off := 0 })
    else s.mapI3c (fun x => { x with off := x.off + part.length })

/-- ENTDAA: a target without a dynamic address takes the one assigned. -/
def State.entdaa (s : State) (addr : Nat) : State :=
  if s.pathsLive ∧ s.dict.i3c.dyn = 0 then s.mapI3c (fun x => { x with dyn := addr }) else s

/-- SETDASA: the address assigned to the static address of 0x2010:01. -/
def State.setdasa (s : State) (static addr : Nat) : State :=
  if s.pathsLive ∧ s.dict.i3c.dyn = 0 ∧ static = s.obj 0x2010 1 then s.mapI3c (fun x => { x with dyn := addr }) else s

/-- A broadcast CCC that the part takes. -/
def State.i3cCcc (s : State) (f : I3c → I3c) : State := if s.pathsLive then s.mapI3c f else s

/-- A direct CCC that reads from the part. -/
def State.i3cGet (s : State) (b : List Byte) : State := if s.i3cLive then s.out (.i3c b) else s.out .nack

/-- The provisional ID (chapter 2), most significant octet first. -/
def pid : List Byte := beBytes 6 (Config.mipiManufacturer % 2 ^ 15 * 2 ^ 33 + 0x5120 * 2 ^ 16 + 0x0A1)

/-- GETSTATUS (R704). -/
def State.getStatus (s : State) : State :=
  let x := s.dict.i3c
  let w := min 15 x.resp.length + 32 * flag x.perr
  if s.i3cLive then (s.i3cGet (beBytes 2 w)).mapI3c (fun x => { x with perr := false }) else s.out .nack

/-- RSTACT (R705): an action defined, or the last one read back. -/
def State.rstact (s : State) (a : Option Nat) : State :=
  match a with
  | some a => s.i3cCcc (fun x => { x with action := a })
  | none => s.i3cGet [byteOf s.dict.i3c.action]

/-- The I3C front end reset (R705): requests not answered and responses not read are discarded. -/
def State.i3cReset (s : State) : State :=
  let own (r : Req) : Bool := r.path == .i3c
  let s := s.mapI3c (fun x => { x with queue := [], resp := [], off := 0 })
  let s := { s with tx := { s.tx with waits := s.tx.waits.filter (fun w => !(w.req.map own).getD false) } }
  { s with dict := { s.dict with
    deferred := s.dict.deferred.map (fun d => if own d.req then { d with answer := [] } else d) } }

/-- TARGET_RESET_PATTERN (R705). -/
def State.targetReset (s : State) (found : Found) : State :=
  if ¬ s.pathsLive then s
  else match s.dict.i3c.action with
  | 1 => s.i3cReset
  | 2 => if s.faults.tripped then s else s.commandedReset true found
  | _ => s

/-! ### The mailbox (R49, R50, R61) -/

/-- MBX_GO: the record in the request buffer is taken. -/
def State.mbxGo (s : State) (buffer : List Byte) : State :=
  let b := bytesAt buffer 0 4096
  let len := leAt b 8 2
  let long := decide (4096 < 12 + len)
  let r := s.reqOfRecord .mailbox 0 (b.take (12 + len)) (if long then some (abortCode 9 3 4084) else none)
  if ¬ s.memOk 0x2000 then s.turnedAway
  else if s.dev.tmStopped ∨ s.pathIgnored .mailbox then s
  else
    let fresh := !s.dict.mbx.busy && s.dev.st != .boot
    let s := { s with dict := { s.dict with mbx := { s.dict.mbx with reqBuf := b } } }
    let s := s.mailboxTake r
    if long ∧ fresh then s.hostMis 0x2030 5 0x2000 else s

/-- MBX_STAT_CLEAR. -/
def State.mbxClear (s : State) (done ovr : Bool) : State :=
  if ¬ s.memOk 0x2000 then s.turnedAway
  else
    let m := s.dict.mbx
    { s with dict := { s.dict with mbx := { m with done := m.done && !done, ovr := m.ovr && !ovr } } }

/-- The mailbox as BAR0 maps it: the two buffers, MBX_CTRL, which reads zero, and MBX_STAT. -/
def State.mbxBytes (s : State) : List Byte :=
  let m := s.dict.mbx
  bytesAt m.reqBuf 0 4096 ++ bytesAt m.respBuf 0 4096 ++ zeros 4 ++
    leBytes 4 (flag (m.busy || s.dev.st == .boot) + 2 * flag m.done + 4 * flag m.ovr)

/-- An access of the mailbox region of BAR0, of any size: a read; a write into the request buffer, or of a register as the rows
MBX_GO and MBX_STAT_CLEAR have it (R48 to R50). What lies behind the registers reads as zero. -/
def State.mailboxAccess (s : State) (o size : Nat) (data : Option (List Byte)) : State :=
  match data with
  | none => s.out (.readData (leNat (bytesAt s.mbxBytes o size)) size)
  | some d =>
    if o < 0x1000 then
      { s with dict := { s.dict with mbx := { s.dict.mbx with reqBuf := (putBytes (bytesAt s.dict.mbx.reqBuf 0 4096) o d).take 4096 } } }
    else if o = 0x2000 ∧ bit (leNat d) 0 then s.mbxGo s.dict.mbx.reqBuf
    else if o = 0x2004 then s.mbxClear (bit (leNat d) 1) (bit (leNat d) 2)
    else s

/-- REGISTER_ACCESS_INVALID (R566 to R568): an access of BAR0 that no other row makes: of the mailbox, of the MSI-X structures,
of a register. -/
def State.bar0Access (s : State) (o size : Nat) (data : Option (List Byte)) : State :=
  if ¬ s.memOk 0x2020 then s.turnedAway
  else if ¬ inBar 0 o size then s.noBar
  else if 0x10000 ≤ o ∧ o + size ≤ 0x13000 then s.mailboxAccess (o - 0x10000) size data
  else if inMsi o size then s.msiAccess o size data
  else s.registerAccess o size data

/-! ### POP (R51 to R62) -/

/-- The POP state changed. -/
def State.mapPop (s : State) (f : Pop → Pop) : State := { s with dict := { s.dict with pop := f s.dict.pop } }

/-- The requester named for a datagram of no session. -/
def popNobody : Nat := 0x3FFF

/-- IP is enabled for the family of a source address (0x2020:02, :04). -/
def State.popAddr (s : State) (ip : Nat) : Bool :=
  if ip < 2 ^ 32 then s.obj 0x2020 2 != 0 else s.obj 0x2020 4 != 0

/-- A datagram counted against the ceiling (R61): whether it lies above it. -/
def State.popRate (s : State) : Bool × State :=
  let p := s.dict.pop
  let n := (if p.rateSec = s.clock.sec + 1 then p.rateCount else 0) + 1
  (decide (s.obj 0x2020 9 < n), s.mapPop (fun p => { p with rateSec := s.clock.sec + 1, rateCount := n }))

/-- A datagram whose check does not match (R61, R62). -/
def State.popMismatch (s : State) (ip who : Nat) : State :=
  let s := s.hostMis 0x2030 7 who
  let l := (s.dict.pop.mism.filter (fun e => decide (s.clock.now < e.2 + Config.sec))) ++ [(ip, s.clock.now)]
  if 16 ≤ (l.filter (fun e => e.1 == ip)).length then
    ((s.mapPop (fun p => { p with mism := l.filter (fun e => e.1 != ip) })).ignore ip).raise
      { cls := 13, level := 1, object := who, ctrIdx := 0x2030, ctrSub := 7 }
  else s.mapPop (fun p => { p with mism := l })

/-- A role's pre-shared key. -/
def State.popKey (s : State) (role : Nat) : List Byte := leBytes 32 (s.obj 0x2021 role)

/-- A REJECT (R53). -/
def State.popReject (s : State) (dst : Peer) (sid code : Nat) : State :=
  s.out (.datagram dst ([0x50, 0x4F, 1, 0x21] ++ beBytes 4 sid ++ zeros 4 ++ beBytes 4 code ++ zeros 32))

/-- What stands against a session of a role (R35, R53), in an order that the manual leaves open; a role code outside 1 to
3 has no key (log entry 137). -/
def State.popRefusal (s : State) (role : Nat) : Option Nat :=
  firstFault [refuseIf (s.dict.pop.sess.all (·.isSome)) (abortCode 5 2 0),
    refuseIf (decide (role < 1 ∨ 3 < role)) (abortCode 7 1 0), refuseIf (s.obj 0x2021 role == 0) (abortCode 7 1 0),
    refuseIf (role == 3 && s.fuses.debugLock) (abortCode 7 2 0)]

/-- HELLO (R53, R54): a CHALLENGE with a session ID and a nonce drawn by the part. The reserved bytes of the body are not
checked (DESIGN CHOICE, log entry 174). -/
def State.popHello (s : State) (src : Peer) (body : List Byte) : State :=
  let role := beAt body 0 1
  match s.popRefusal role with
  | some c => s.popReject src 0 c
  | none =>
    let (n, s) := s.fresh
    let (nonce, s) := s.freshBytes 16
    let sid := n % 2 ^ 32
    let l := s.dict.pop.hs
    let l := if 4 ≤ l.length then l.drop 1 else l
    let s := s.mapPop (fun p => { p with hs := l ++ [⟨sid, role, bytesAt body 4 16, nonce, src, s.clock.now⟩] })
    s.out (.datagram src ([0x50, 0x4F, 1, 2] ++ beBytes 4 sid ++ zeros 4 ++ nonce ++ zeros 32))

/-- The session key (chapter 2). -/
def sessionKey (psk peer part : List Byte) (sid : Nat) : List Byte :=
  hmac256 psk ([0x50, 0x4F, 0x50, 0x2D, 0x53, 0x4B] ++ peer ++ part ++ beBytes 4 sid)

/-- PROOF: the handshake's session opens in the lowest free slot and is accepted. -/
def State.popOpen (s : State) (src : Peer) (h : PopHs) : State :=
  let s := s.mapPop (fun p => { p with hs := p.hs.filter (fun x => x.sid != h.sid) })
  match s.popRefusal h.role, (List.range 4).find? (fun i => (s.popSess i).isNone) with
  | none, some i =>
    let key := sessionKey (s.popKey h.role) h.peerNonce h.partNonce h.sid
    let s := s.setSess i { sid := h.sid, role := h.role, key := key, label := s.obj 0x2021 (3 + h.role), peer := src
                           high := 0, seen := [], held := [], queue := [], acc := [], txSeq := 0, last := s.clock.now }
    s.out (.datagram src (popDgram 4 h.sid 0 [] key))
  | some c, _ => s.popReject src h.sid c
  | none, none => s

/-- The records of a REQUEST datagram, in order; a malformed one ends it (R39, R61). `fuel` bounds them. -/
def State.popRecords (s : State) (slot : Fin 4) (seq : Nat) : Nat → List Byte → State
  | 0, _ => s
  | fuel + 1, b =>
    if b = [] then s
    else
      let n := 12 + leAt b 8 2
      let r := s.reqOfRecord (.pop slot) seq (b.take n) none
      let s := s.arrive r
      if r.bad.isSome then s else popRecords s slot seq fuel (b.drop n)

/-- A REQUEST whose sequence number is new: served in order, its responses kept (R56, R57). -/
def State.popAccept (s : State) (slot : Fin 4) (x : PopSess) (seq : Nat) (body : List Byte) : State :=
  let high := max x.high seq
  let held := x.held ++ [(seq, [])]
  let x := { x with
    high := high
    seen := (x.seen ++ [seq]).filter (fun q => decide (high < q + 65))
    held := held.drop (held.length - 16) }
  (s.setSess slot.val x).popRecords slot seq (body.length + 1) body

/-- REQUEST (R55 to R57) of an authenticated datagram. Number 0 lies below the first number a side gives, and is out of
window; a repeat of one whose responses are not held, those not yet sent among them, is discarded and counted (log
entry 136). -/
def State.popRequest (s : State) (slot : Fin 4) (x : PopSess) (seq : Nat) (body : List Byte) : State :=
  if seq = 0xFFFFFFFF then s.closePop slot.val
  else if seq ≠ 0 ∧ (x.high < seq ∨ (x.high ≤ seq + 64 ∧ seq < x.high ∧ ¬ x.seen.contains seq)) then
    s.popAccept slot x seq body
  else match x.held.find? (fun e => e.1 == seq) with
  | some (_, dg :: dgs) => (dg :: dgs).foldl (fun s dg => s.out (.datagram x.peer dg)) s
  | _ => s.hostMis 0x2030 9 (0x3000 + slot.val)

/-- An authenticated datagram of an open session: the peer's address and the idle time are its own. -/
def State.popInSession (s : State) (src : Peer) (slot : Fin 4) (x : PopSess) (ty seq : Nat) (body : List Byte) : State :=
  let x := { x with peer := src, last := s.clock.now }
  let s := s.setSess slot.val x
  if ty = 0x20 then (s.out (.datagram src (popDgram 0x20 x.sid (x.txSeq + 1) [] x.key))).closePop slot.val
  else s.popRequest slot x seq body

/-- The slot of a session ID. -/
def State.popSlotOf (s : State) (sid : Nat) : Option (Fin 4) :=
  ([0, 1, 2, 3] : List (Fin 4)).find? (fun i => ((s.popSess i.val).map (·.sid)) == some sid)

/-- A PROOF whose handshake is pending (R54). -/
def State.popProof (s : State) (src : Peer) (h : PopHs) (signed body check : List Byte) : State :=
  if check = hmac256 (s.popKey h.role) signed ∧ body = h.peerNonce ++ h.partNonce then s.popOpen src h
  else s.popMismatch src.ip popNobody

/-- A datagram whose form is good, by its type. -/
def State.popByType (s : State) (src : Peer) (b : List Byte) : State :=
  let n := b.length
  let ty := beAt b 3 1
  let sid := beAt b 4 4
  let signed := b.take (n - 32)
  let check := b.drop (n - 32)
  let body := signed.drop 12
  let unknown := s.hostMis 0x2030 8 popNobody
  match ty with
  | 1 =>
    if sid ≠ 0 ∨ body.length ≠ 20 then unknown
    else if check ≠ zeros 32 then s.popMismatch src.ip popNobody
    else s.popHello src body
  | 3 =>
    match s.dict.pop.hs.find? (fun h => h.sid == sid && decide (s.clock.now < h.at_ + 2 * Config.sec)) with
    | some h => s.popProof src h signed body check
    | none => unknown
  | _ =>
    if ty ≠ 0x10 ∧ ty ≠ 0x20 then unknown
    else match s.popSlotOf sid with
    | none => unknown
    | some i =>
      match s.popSess i.val with
      | none => unknown
      | some x =>
        if check ≠ hmac256 x.key signed then s.popMismatch src.ip (0x3000 + i.val)
        else s.popInSession src i x ty (beAt b 8 4) body

/-- A POP datagram arrives (R51, R52, R61, R62). One from a source that is being ignored is no datagram for the part and does
not count against the ceiling (DESIGN CHOICE, log entry 173). -/
def State.popReceive (s : State) (src : Peer) (fragmented : Bool) (b : List Byte) : State :=
  if ¬ s.pathsLive ∨ ¬ s.popAddr src.ip ∨ s.ignores src.ip then s
  else
    let (high, s) := s.popRate
    if high then s.hostMis 0x2030 0xA popNobody
    else if fragmented ∨ 1472 < b.length then s.hostMis 0x2030 0xB popNobody
    else if b.length < 44 ∨ b.take 3 ≠ [0x50, 0x4F, 1] then s.hostMis 0x2030 8 popNobody
    else s.popByType src b

/-- POP_HANDSHAKE_TIMEOUT (R54). -/
def State.popHsTimeout (s : State) (sid : Nat) : State :=
  s.mapPop (fun p => { p with hs := p.hs.filter (fun h => h.sid != sid || decide (s.clock.now < h.at_ + 2 * Config.sec)) })

/-- POP_IDLE_TIMEOUT (R55). -/
def State.popIdle (s : State) (slot : Nat) : State :=
  match s.popSess slot with
  | some x => if x.last + s.obj 0x2020 7 * Config.sec ≤ s.clock.now then s.closePop slot else s
  | none => s

/-- POP_SOURCE_IGNORE_END (R62). -/
def State.popIgnoreEnd (s : State) (ip : Nat) : State :=
  s.mapPop (fun p => { p with ignored := p.ignored.filter (fun e => e.1 != ip || decide (s.clock.now < e.2)) })

/-- The management port's own address for a protocol: IPv4 or IPv6, 0 when it has none (R51). -/
def State.ownAddress (s : State) (kind : NeighbourMsg) : Nat :=
  match kind with
  | .arp => s.obj 0x2020 2
  | .icmpEcho => s.obj 0x2020 2
  | .icmpv6Echo => beNat (leBytes 16 (s.obj 0x2020 4))
  | .neighbourSolicitation => beNat (leBytes 16 (s.obj 0x2020 4))

/-- A protocol of IPv6. -/
def isV6 : NeighbourMsg → Bool
  | .arp | .icmpEcho => false
  | .icmpv6Echo | .neighbourSolicitation => true

/-- MGMT_NEIGHBOUR_PROTOCOL (R51): an answer for the part's own address. -/
def State.neighbour (s : State) (kind : NeighbourMsg) (v6 : Bool) (target : Nat) (src : Peer) : State :=
  if s.pathsLive ∧ v6 = isV6 kind ∧ target ≠ 0 ∧ target = s.ownAddress kind then s.out (.neighbour kind src) else s

/-! ### The test access port (R669) -/

/-- An instruction that the port still executes once the debug lock is set. -/
def tapKept : TapInstr → Bool
  | .other _ => false
  | _ => true

/-- TEST_ACCESS_INSTRUCTION (R669): the instruction the port executes. -/
def State.tapLoad (s : State) (i : TapInstr) : State :=
  let i := if s.fuses.debugLock && !tapKept i then .bypass else i
  let s := { s with dev := { s.dev with tap := i } }
  if i = .idcode then s.out (.readData 0x1512063D 4) else s

end Sys2Proof.Machine
end

