-- ==== Sys2Proof/Machine/Upkeep.lean ====
section
/-! DEFINITION. Upkeep of table memory (R204 to R210), and what the meanings of the rows use to read their operands. -/

namespace Sys2Proof.Machine

/-- An error in a backing copy (R210): repaired from the on-die line, counted, FC-02 at level F0. -/
def State.backingError (s : State) (table line : Nat) : State :=
  ((s.setTables (s.tables.saveLine table line)).bump 0x4400 6).raise
    { cls := 2, level := 0, die := 1, object := memObject table line, value := line, ctrIdx := 0x4400, ctrSub := 6 }

/-- A scrub visit has found an error in a line of the central store: it enters the history of its row (R529). -/
def State.scrubError (s : State) (table line : Nat) (e : MemErr) : State :=
  match e with
  | .none => s
  | .corrected => s.noteError 2 (s.lineRow table line) false
  | .uncorrectable => s.noteError 2 (s.lineRow table line) true

/-- The scrubber's visit to a line of a versioned table: its on-die copy, its backing copy, their comparison. -/
def State.scrubLine (s : State) (table line : Nat) (onDie backing : MemErr) (differ : Option (Nat × Nat)) :
    State :=
  match onDie with
  | .uncorrectable => s.poison table line
  | _ =>
    let s := if onDie = .corrected then s.corrected table line else s
    match backing with
    | .uncorrectable => s.backingError table line
    | _ =>
      let s := if backing = .corrected then s.corrected table line else s
      match differ with
      | some (die, back) => s.copyMismatch table line die back
      | none => s

/-- SCRUB_VISIT (R204, R206, R207, R209, R210): learned buckets have no backing copy. -/
def State.scrub (s : State) (place : MemLine) (onDie backing : MemErr) (differ : Option (Nat × Nat)) :
    State :=
  match place with
  | .versioned table line =>
    if isVersioned table then (s.scrubLine table line onDie backing differ).scrubError table line onDie else s
  | .bucket b =>
    let table := 0x50 + (s.bucketTable b.val).getD 0
    match onDie with
    | .none => s
    | .corrected => (s.corrected table b.val).scrubError table b.val .corrected
    | .uncorrectable => (s.loseBucket b.val).scrubError table b.val .uncorrectable

/-- BACKING_REPAIR (R206, R208): a poisoned line is rewritten from its backing copy and counted, or stays poisoned when
that is bad as well. -/
def State.backingRepair (s : State) (table line : Nat) (backingBad : Bool) : State :=
  match s.tables.lineAt table line with
  | some l =>
    if ¬ l.poisoned ∨ l.backingBad then s
    else if backingBad then
      (s.setTables (s.tables.setLine table line true true)).raise
        { cls := 2, level := 2, die := 1, object := memObject table line, value := line, own := true }
    else (s.setTables (s.tables.restoreLine table line)).bump 0x4400 6
  | none => s

/-- A slot given with a command; none asks for the next one that the part has received. -/
def given (slot : List Byte) : Option (List Byte) := if slot = [] then none else some slot

/-- A transaction record as 0x4501:01 takes it (R220): 192 octets, those beyond its Length zero. -/
def txnRecord (kind : Nat) (keystone : Bool) (txn : Nat) (target payload : List Byte) : List Byte :=
  bytesAt ([byteOf kind, byteOf (flag keystone)] ++ beBytes 2 payload.length ++ beBytes 4 txn ++ bytesAt target 0 8 ++
    payload) 0 192

end Sys2Proof.Machine
end

