-- ==== Sys2Proof/Machine/ExecBuffers.lean ====
section
/-! DEFINITION. The meanings of the rows of chapters 7 to 9: pools, admission, eviction, queues, credits, the scheduler,
samplers, graticules. -/

namespace Sys2Proof.Machine

/-- ADMISSION (R272). -/
def execAdmission (t : Nat) (s : State) : Out :=
  .next (s.on t .tm (fun s => s.admission))

/-- CELL_FREE (R261, R262). -/
def execCellFree (t : Nat) (pool : Pool) (frees : List (Nat × Nat)) (s : State) : Out :=
  .next (s.at_ t (fun s => s.freeCells (poolCode pool) frees))

/-- HANDOVER_OF_CELLS (R260). -/
def execHandoverOfCells (t : Nat) (pool : Pool) (cells : List Nat) (fromCode : Fin 8) (toCode : Fin 8) (count : Nat)
    (s : State) : Out :=
  .next (s.at_ t (fun s => s.handover (poolCode pool) cells fromCode.val toCode.val count))

/-- POOL_ACCOUNT_MISMATCH (R265). -/
def execPoolAccountMismatch (t : Nat) (pool : Pool) (s : State) : Out :=
  .next (s.at_ t (fun s => s.poolMismatch (poolCode pool)))

/-- EVICTION_RUN (R275 to R277). -/
def execEvictionRun (t : Nat) (qid : Fin 524288) (s : State) : Out :=
  .next (s.on t .tm (fun s => s.evict qid.val))

/-- PREFETCH (R279 to R281). -/
def execPrefetch (t : Nat) (qid : Fin 524288) (readError : Bool) (s : State) : Out :=
  .next (s.on t .tm (fun s => s.prefetch qid.val readError))

/-- PFC_REFRESH (R290). -/
def execPfcRefresh (t : Nat) (port : Fin 128) (prio : Fin 8) (s : State) : Out :=
  .next (s.on t .fe (fun s => s.pfcRefresh port.val prio.val (s.portRate port.val)))

/-- PARTITION_BOUNDARY_WRITE (R253). -/
def execPartitionBoundaryWrite (t : Nat) (p : Path) (tag : Nat) (val : List Byte) (s : State) : Out :=
  .next (s.at_ t (fun s => s.request p 2 tag 0x5000 2 val))

/-- BAD_TAIL (R298). -/
def execBadTail (t : Nat) (qid : Fin 524288) (s : State) : Out :=
  .next (s.on t .tm (fun s => s.badTail qid.val))

/-- DEFAULT_MAP_APPLY (R305). -/
def execDefaultMapApply (t : Nat) (p : Path) (tag : Nat) (val : List Byte) (s : State) : Out :=
  .next (s.at_ t (fun s => s.request p 2 tag 0x5101 1 val))

/-- NODE_RECORD_WRITE (R311 to R313): the record of the selected queue or node. -/
def execNodeRecordWrite (t : Nat) (p : Path) (tag : Nat) (queue : Bool) (val : List Byte) (s : State) : Out :=
  .next (s.at_ t (fun s => s.request p 2 tag (if queue then 0x5100 else 0x5200) (if queue then 2 else 3) val))

/-- OUTLET_WRITE (R308). -/
def execOutletWrite (t : Nat) (p : Path) (tag : Nat) (val : List Byte) (s : State) : Out :=
  .next (s.at_ t (fun s => s.request p 2 tag 0x5201 2 val))

/-- SCHEDULER_DECISION (R317 to R321). -/
def execSchedulerDecision (t : Nat) (node : Fin 256) (s : State) : Out :=
  .next (s.on t .tm (fun s => s.schedule node.val))

/-- SOJOURN_SWEEP (R333). -/
def execSojournSweep (t : Nat) (qid : Fin 524288) (localList : Bool) (s : State) : Out :=
  .next (s.on t .tm (fun s => s.sweepQueue qid.val localList))

/-- REQUEST_REFRESH (R325). -/
def execRequestRefresh (t : Nat) (qid : Fin 524288) (s : State) : Out :=
  .next (s.on t .tm (fun s => s.requestRefresh qid.val))

/-- FABRIC_TRANSMIT (R326, R361 to R374). -/
def execFabricTransmit (t : Nat) (s : State) : Out :=
  .next (s.on t .tm (fun s => s.fabricTransmit))

/-- GRANT_ISSUE (R328, R329). -/
def execGrantIssue (t : Nat) (qid : Fin 524288) (s : State) : Out :=
  .next (s.on t .tm (fun s => s.grantIssue qid.val))

/-- CREDIT_TIMEOUT (R330). -/
def execCreditTimeout (t : Nat) (qid : Fin 524288) (s : State) : Out :=
  .next (s.on t .tm (fun s => s.creditTimeout qid.val))

/-- HOLD_TIMER_EXPIRE (R334). -/
def execHoldTimerExpire (t : Nat) (node : Fin 256) (s : State) : Out :=
  .next (s.on t .tm (fun s => s.holdExpire node.val))

/-- SAMPLER_ROUND (R336). -/
def execSamplerRound (t : Nat) (sampler : Fin 16) (s : State) : Out :=
  .next (s.on t .tm (fun s => s.samplerRound sampler.val))

/-- GRATICULE_CHANGE_EFFECT (R355). -/
def execGraticuleChangeEffect (t : Nat) (port : Fin 128) (s : State) : Out :=
  .next (s.on t .tm (fun s => s.gratEffect port.val))

end Sys2Proof.Machine
end

