-- ==== Sys2Proof/Machine/ExecDict.lean ====
section
/-! DEFINITION. The meanings of the rows of chapter 2: dictionary requests, their paths, stepped operations, counted
writes, the test access port. -/

namespace Sys2Proof.Machine

/-- READ (R33, R40, R41, R702). -/
def execRead (t : Nat) (p : Path) (tag : Nat) (idx : Nat) (sub : Nat) (s : State) : Out :=
  .next (s.at_ t (fun s => s.request p 1 tag idx sub []))

/-- WRITE (R32, R33, R38, R40, R41, R702). -/
def execWrite (t : Nat) (p : Path) (tag : Nat) (idx : Nat) (sub : Nat) (val : List Byte) (s : State) : Out :=
  .next (s.at_ t (fun s => s.request p 2 tag idx sub val))

/-- DESCRIBE (chapter 2). -/
def execDescribe (t : Nat) (p : Path) (tag : Nat) (idx : Nat) (sub : Nat) (s : State) : Out :=
  .next (s.at_ t (fun s => s.request p 3 tag idx sub []))

/-- NOP (chapter 2). -/
def execNop (t : Nat) (p : Path) (tag : Nat) (idx : Nat) (sub : Nat) (s : State) : Out :=
  .next (s.at_ t (fun s => s.request p 4 tag idx sub []))

/-- REQUEST_SERVICE (R42). -/
def execRequestService (t : Nat) (s : State) : Out :=
  .next (s.at_ t (fun s => s.requestService))

/-- PERSISTENT_WRITE_COMMIT (R38). -/
def execPersistentWriteCommit (t : Nat) (s : State) : Out :=
  .next (s.at_ t (fun s => s.commitWrite))

/-- I3C_PRIVATE_WRITE (R46, R48). -/
def execI3cPrivateWrite (t : Nat) (bytes : List Byte) (parityOk : Bool) (s : State) : Out :=
  .next (s.at_ t (fun s => s.i3cWrite bytes parityOk))

/-- I3C_PRIVATE_READ (R46, R47). -/
def execI3cPrivateRead (t : Nat) (s : State) : Out :=
  .next (s.at_ t (fun s => s.i3cRead))

/-- ENTDAA (R46). -/
def execEntdaa (t : Nat) (addr : Fin 128) (s : State) : Out :=
  .next (s.at_ t (fun s => s.entdaa addr.val))

/-- SETDASA (R46). -/
def execSetdasa (t : Nat) (static : Fin 128) (addr : Fin 128) (s : State) : Out :=
  .next (s.at_ t (fun s => s.setdasa static.val addr.val))

/-- RSTDAA (R46). -/
def execRstdaa (t : Nat) (s : State) : Out :=
  .next (s.at_ t (fun s => s.i3cCcc (fun x => { x with dyn := 0 })))

/-- ENEC (R47). -/
def execEnec (t : Nat) (s : State) : Out :=
  .next (s.at_ t (fun s => s.i3cCcc (fun x => { x with ibi := true })))

/-- DISEC (R47). -/
def execDisec (t : Nat) (s : State) : Out :=
  .next (s.at_ t (fun s => s.i3cCcc (fun x => { x with ibi := false })))

/-- GETPID (R46). -/
def execGetpid (t : Nat) (s : State) : Out :=
  .next (s.at_ t (fun s => s.i3cGet pid))

/-- GETBCR (R46). -/
def execGetbcr (t : Nat) (s : State) : Out :=
  .next (s.at_ t (fun s => s.i3cGet [0x06]))

/-- GETDCR (R46). -/
def execGetdcr (t : Nat) (s : State) : Out :=
  .next (s.at_ t (fun s => s.i3cGet [0x00]))

/-- GETSTATUS (R704). -/
def execGetstatus (t : Nat) (s : State) : Out :=
  .next (s.at_ t (fun s => s.getStatus))

/-- GETMWL (R46). -/
def execGetmwl (t : Nat) (s : State) : Out :=
  .next (s.at_ t (fun s => s.i3cGet (beBytes 2 s.dict.i3c.mwl)))

/-- GETMRL (R46). -/
def execGetmrl (t : Nat) (s : State) : Out :=
  .next (s.at_ t (fun s => s.i3cGet (beBytes 2 s.dict.i3c.mrl)))

/-- SETMWL (R46): held to 1,036. -/
def execSetmwl (t : Nat) (n : Nat) (s : State) : Out :=
  .next (s.at_ t (fun s => s.i3cCcc (fun x => { x with mwl := min 1036 n })))

/-- SETMRL (R46): held to 1,036. -/
def execSetmrl (t : Nat) (n : Nat) (s : State) : Out :=
  .next (s.at_ t (fun s => s.i3cCcc (fun x => { x with mrl := min 1036 n })))

/-- RSTACT (R705). -/
def execRstact (t : Nat) (action : Option (Fin 256)) (s : State) : Out :=
  .next (s.at_ t (fun s => s.rstact (action.map (·.val))))

/-- UNSUPPORTED_CCC (R46): a direct one is NACKed, a broadcast one ignored. -/
def execUnsupportedCcc (t : Nat) (_code : Fin 256) (direct : Bool) (s : State) : Out :=
  .next (s.at_ t (fun s => if direct then s.out .nack else s))

/-- TARGET_RESET_PATTERN (R705). -/
def execTargetResetPattern (t : Nat) (found : Found) (s : State) : Out :=
  .next (s.at_ t (fun s => s.targetReset found))

/-- MBX_GO (R49, R61). -/
def execMbxGo (t : Nat) (buffer : List Byte) (s : State) : Out :=
  .next (s.at_ t (fun s => s.mbxGo buffer))

/-- MBX_STAT_CLEAR (R50). -/
def execMbxStatClear (t : Nat) (done : Bool) (ovr : Bool) (s : State) : Out :=
  .next (s.at_ t (fun s => s.mbxClear done ovr))

/-- POP_HELLO (R51 to R62): a datagram of the management port; its type octet says what it is. -/
def execPopHello (t : Nat) (src : Peer) (dgram : List Byte) (s : State) : Out :=
  .next (s.at_ t (fun s => s.popReceive src false dgram))

/-- POP_PROOF (R51 to R62): a datagram of the management port; its type octet says what it is. -/
def execPopProof (t : Nat) (src : Peer) (dgram : List Byte) (s : State) : Out :=
  .next (s.at_ t (fun s => s.popReceive src false dgram))

/-- POP_REQUEST (R51 to R62): a datagram of the management port; its type octet says what it is. -/
def execPopRequest (t : Nat) (src : Peer) (dgram : List Byte) (s : State) : Out :=
  .next (s.at_ t (fun s => s.popReceive src false dgram))

/-- POP_CLOSE (R51 to R62): a datagram of the management port; its type octet says what it is. -/
def execPopClose (t : Nat) (src : Peer) (dgram : List Byte) (s : State) : Out :=
  .next (s.at_ t (fun s => s.popReceive src false dgram))

/-- POP_DATAGRAM_DISCARD (R52, R57, R61, R62): a datagram that a check of R61 discards; one that no check discards is
taken. -/
def execPopDatagramDiscard (t : Nat) (src : Peer) (fragmented : Bool) (dgram : List Byte) (s : State) : Out :=
  .next (s.at_ t (fun s => s.popReceive src fragmented dgram))

/-- POP_HANDSHAKE_TIMEOUT (R54). -/
def execPopHandshakeTimeout (t : Nat) (session : Nat) (s : State) : Out :=
  .next (s.at_ t (fun s => s.popHsTimeout session))

/-- POP_IDLE_TIMEOUT (R55). -/
def execPopIdleTimeout (t : Nat) (slot : Fin 4) (s : State) : Out :=
  .next (s.at_ t (fun s => s.popIdle slot.val))

/-- POP_SOURCE_IGNORE_END (R62). -/
def execPopSourceIgnoreEnd (t : Nat) (ip : Nat) (s : State) : Out :=
  .next (s.at_ t (fun s => s.popIgnoreEnd ip))

/-- POP_KEY_WRITE (R60): a write of a pre-shared key. -/
def execPopKeyWrite (t : Nat) (p : Path) (tag : Nat) (role : Fin 3) (val : List Byte) (s : State) : Out :=
  .next (s.at_ t (fun s => s.request p 2 tag 0x2021 (role.val + 1) val))

/-- MGMT_NEIGHBOUR_PROTOCOL (R51). -/
def execMgmtNeighbourProtocol (t : Nat) (kind : NeighbourMsg) (v6 : Bool) (target : Nat) (src : Peer) (s : State) :
    Out :=
  .next (s.at_ t (fun s => s.neighbour kind v6 target src))

/-- STEPPED_OPERATION_START (R64, R65): a write to an object that starts a stepped operation. -/
def execSteppedOperationStart (t : Nat) (p : Path) (tag : Nat) (idx : Nat) (sub : Nat) (val : List Byte) (s : State)
    : Out :=
  .next (s.at_ t (fun s => s.request p 2 tag idx sub val))

/-- STEPPED_OPERATION_STEP (R68, R70). -/
def execSteppedOperationStep (t : Nat) (handle : Nat) (step : StepResult) (s : State) : Out :=
  .next (s.at_ t (fun s => s.steppedStep handle step))

/-- CANCEL (R68). -/
def execCancel (t : Nat) (p : Path) (tag : Nat) (val : List Byte) (s : State) : Out :=
  .next (s.at_ t (fun s => s.request p 2 tag 0xC000 2 val))

/-- ACKNOWLEDGE (R66). -/
def execAcknowledge (t : Nat) (p : Path) (tag : Nat) (val : List Byte) (s : State) : Out :=
  .next (s.at_ t (fun s => s.request p 2 tag 0xC000 3 val))

/-- JOURNAL_SLOT_EXPIRE (R66). -/
def execJournalSlotExpire (t : Nat) (slot : Fin 12) (s : State) : Out :=
  .next (s.at_ t (fun s => s.slotExpire slot.val))

/-- ANTI_ROLLBACK_FLOOR_WRITE (R72, R614, R699). -/
def execAntiRollbackFloorWrite (t : Nat) (p : Path) (tag : Nat) (val : List Byte) (s : State) : Out :=
  .next (s.at_ t (fun s => s.request p 2 tag 0x1200 1 val))

/-- IMAGE_KEY_WRITE (R72, R613, R699). -/
def execImageKeyWrite (t : Nat) (p : Path) (tag : Nat) (slot : Fin 2) (val : List Byte) (s : State) : Out :=
  .next (s.at_ t (fun s => s.request p 2 tag (0x1201 + slot.val) 1 val))

/-- UNIT_NUMBER_WRITE (R72, R699). -/
def execUnitNumberWrite (t : Nat) (p : Path) (tag : Nat) (val : List Byte) (s : State) : Out :=
  .next (s.at_ t (fun s => s.request p 2 tag 0x1203 1 val))

/-- SURVEY_BASELINE_RETAKE (R514, R515, R699). -/
def execSurveyBaselineRetake (t : Nat) (p : Path) (tag : Nat) (val : List Byte) (s : State) : Out :=
  .next (s.at_ t (fun s => s.request p 2 tag 0x1204 1 val))

/-- DEBUG_LOCK_WRITE (R72, R699). -/
def execDebugLockWrite (t : Nat) (p : Path) (tag : Nat) (val : List Byte) (s : State) : Out :=
  .next (s.at_ t (fun s => s.request p 2 tag 0x1205 1 val))

/-- TEST_ACCESS_INSTRUCTION (R669). -/
def execTestAccessInstruction (t : Nat) (instr : TapInstr) (s : State) : Out :=
  .next (s.at_ t (fun s => s.tapLoad instr))

end Sys2Proof.Machine
end

