-- ==== Sys2Proof/Machine/ExecFabric.lean ====
section
/-! DEFINITION. The meanings of the rows of chapters 10 and 11: fabric cells, lanes, link frames, defects, performance.
-/

namespace Sys2Proof.Machine

/-- FABRIC_CELL_RECEIVE (R364, R381, R389). -/
def execFabricCellReceive (t : Nat) (lane : Fin 161) (slot : List Byte) (s : State) : Out :=
  .next (s.on t .tm (fun s => s.fabricReceive lane.val (given slot)))

/-- REACHABILITY_EXPIRE (R372). -/
def execReachabilityExpire (t : Nat) (lane : Fin 160) (s : State) : Out :=
  .next (s.on t .tm (fun s => s.reachExpire lane.val))

/-- RESEQUENCING_TIMEOUT (R382). -/
def execResequencingTimeout (t : Nat) (src : Fin 512) (stream : Fin 9) (s : State) : Out :=
  .next (s.on t .tm (fun s => s.reseqTimeout src.val stream.val))

/-- STREAM_IDLE (R383). -/
def execStreamIdle (t : Nat) (src : Fin 512) (stream : Fin 9) (s : State) : Out :=
  .next (s.on t .tm (fun s => s.streamIdle src.val stream.val))

/-- PIN_HOLD_END (R390). -/
def execPinHoldEnd (t : Nat) (unit : Fin 512) (s : State) : Out :=
  .next (s.on t .tm (fun s => s.pinHoldEnd unit.val))

/-- LANE_RETIRE (R391). -/
def execLaneRetire (t : Nat) (lane : Fin 160) (bySurvey : Bool) (s : State) : Out :=
  .next (s.at_ t (fun s => s.laneRetire lane.val bySurvey))

/-- RETIRE (R391, R392): the retire command of a lane. -/
def execRetireCmd (t : Nat) (p : Path) (tag : Nat) (lane : Fin 160) (val : List Byte) (s : State) : Out :=
  .next (s.at_ t (fun s => s.request p 2 tag (0x6020 + lane.val) 6 val))

/-- LANE_POWER_DOWN (R392). -/
def execLanePowerDown (t : Nat) (lane : Fin 160) (s : State) : Out :=
  .next (s.at_ t (fun s => s.lanePowerDown lane.val))

/-- LANE_RETURN_HOLD_END (R393). -/
def execLaneReturnHoldEnd (t : Nat) (lane : Fin 160) (s : State) : Out :=
  .next (s.at_ t (fun s => s.returnHoldEnd lane.val))

/-- LANE_SHORTFALL_TIMEOUT (R394). -/
def execLaneShortfallTimeout (t : Nat) (s : State) : Out :=
  .next (s.at_ t (fun s => s.shortfall))

/-- LINK_FRAME_SEND (R397 to R403, R415). -/
def execLinkFrameSend (t : Nat) (lane : Fin 162) (s : State) : Out :=
  .next (s.at_ t (fun s => s.linkSend lane.val))

/-- LINK_FRAME_RECEIVE (R404 to R406). -/
def execLinkFrameReceive (t : Nat) (lane : Fin 162) (rx : List Bool) (s : State) : Out :=
  .next (s.at_ t (fun s => s.ballsReceive lane.val rx))

/-- SLIP_BUFFER_DELIVER (R408, R409). -/
def execSlipBufferDeliver (t : Nat) (lane : Fin 162) (s : State) : Out :=
  .next (s.at_ t (fun s => s.slipDeliver lane.val))

/-- LOS_DECLARE (R411). -/
def execLosDeclare (t : Nat) (lane : Fin 162) (s : State) : Out :=
  .next (s.at_ t (fun s => s.losDeclare lane.val))

/-- LOS_CLEAR (R411). -/
def execLosClear (t : Nat) (lane : Fin 162) (s : State) : Out :=
  .next (s.at_ t (fun s => s.losClear lane.val))

/-- LOF_DECLARE (R411). -/
def execLofDeclare (t : Nat) (lane : Fin 162) (s : State) : Out :=
  .next (s.at_ t (fun s => s.lofDeclare lane.val))

/-- LOF_CLEAR (R411). -/
def execLofClear (t : Nat) (lane : Fin 162) (s : State) : Out :=
  .next (s.at_ t (fun s => s.lofClear lane.val))

/-- PERFORMANCE_SECOND (R421, R422). -/
def execPerformanceSecond (t : Nat) (lane : Fin 162) (s : State) : Out :=
  .next (s.at_ t (fun s => s.perfSecond lane.val))

/-- PERFORMANCE_POST (R423). -/
def execPerformancePost (t : Nat) (lane : Fin 162) (s : State) : Out :=
  .next (s.at_ t (fun s => s.perfPost lane.val))

/-- TEST_MODE (R427): the test mode of a fabric or pairing lane. -/
def execTestMode (t : Nat) (p : Path) (tag : Nat) (lane : Fin 162) (val : List Byte) (s : State) : Out :=
  .next (s.at_ t (fun s => s.request p 2 tag (laneObj lane.val) 3 val))

/-- PAIR_CLAIM_EXPIRE (R484). -/
def execPairClaimExpire (t : Nat) (unit : Fin 512) (s : State) : Out :=
  .next (s.on t .tm (fun s => s.claimExpire unit.val))

end Sys2Proof.Machine
end

