-- ==== Sys2Proof/Machine/ExecFaults.lean ====
section
/-! DEFINITION. The meanings of the rows of chapter 15: faults, the sideband, watchdogs, the pins of the collector. -/

namespace Sys2Proof.Machine

/-- BOND_FLIT_UNCORRECTABLE (R13). -/
def execBondFlitUncorrectable (t : Nat) (toTm : Bool) (lost : List Nat) (s : State) : Out :=
  .next (s.at_ t (fun s => s.flitLost toTm lost))

/-- SIDEBAND_SAFE_VALUE (R14). -/
def execSidebandSafeValue (t : Nat) (die : Die) (s : State) : Out :=
  .next (s.at_ t (fun s => s.sidebandSafe die))

/-- SIDEBAND_SAFE_TIMEOUT (R548). -/
def execSidebandSafeTimeout (t : Nat) (die : Die) (s : State) : Out :=
  .next (s.at_ t (fun s => s.sidebandTimeout die))

/-- SIDEBAND_SAFE_VALUE_CLEAR (R14). -/
def execSidebandSafeValueClear (t : Nat) (die : Die) (s : State) : Out :=
  .next (s.at_ t (fun s => s.sidebandClear die))

/-- CROSSING_POINTER_MISMATCH (R21). -/
def execCrossingPointerMismatch (t : Nat) (crossing : Nat) (s : State) : Out :=
  .next (s.at_ t (fun s => s.crossing crossing))

/-- FAULT_PATH_FAILURE (R541). -/
def execFaultPathFailure (t : Nat) (path : Fin 2304) (src : FaultSource) (s : State) : Out :=
  .next (s.at_ t (fun s => s.pathFailure path.val src))

/-- FAULT_PATH_ASSERT (R540, R544). -/
def execFaultPathAssert (t : Nat) (path : Option (Fin 2304)) (src : FaultSource) (s : State) : Out :=
  .next (s.at_ t (fun s => s.pathAssert (path.map (·.val)) src))

/-- FAULT_PATH_RECOVER (R542). -/
def execFaultPathRecover (t : Nat) (path : Fin 2304) (s : State) : Out :=
  .next (s.at_ t (fun s => s.pathRecover path.val))

/-- REACTION_TIMER_EXPIRE (R545). -/
def execReactionTimerExpire (t : Nat) (event : Nat) (s : State) : Out :=
  .next (s.at_ t (fun s => s.rise event))

/-- ACKNOWLEDGE_EVENT (R558). -/
def execAcknowledgeEvent (t : Nat) (p : Path) (tag : Nat) (val : List Byte) (s : State) : Out :=
  .next (s.at_ t (fun s => s.request p 2 tag 0x8000 3 val))

/-- ACKNOWLEDGE_CLASS (R558). -/
def execAcknowledgeClass (t : Nat) (p : Path) (tag : Nat) (val : List Byte) (s : State) : Out :=
  .next (s.at_ t (fun s => s.request p 2 tag 0x8000 4 val))

/-- SERVICE_CORE_WATCHDOG (R555, R626). -/
def execServiceCoreWatchdog (t : Nat) (s : State) : Out :=
  .next (s.at_ t (fun s => s.coreWatchdog))

/-- SERVICE_CORE_RESTART_COMPLETE (R548, R555). -/
def execServiceCoreRestartComplete (t : Nat) (loadOk : Bool) (s : State) : Out :=
  .next (s.at_ t (fun s => s.coreRestarted loadOk))

/-- CONTROLLER_WATCHDOG (R703). -/
def execControllerWatchdog (t : Nat) (ctl : Fin 24) (s : State) : Out :=
  .next (s.at_ t (fun s => s.ctlWatchdog ctl.val))

/-- CONTROLLER_LOAD_CHECK (R18, R627). -/
def execControllerLoadCheck (t : Nat) (ctl : Fin 24) (ok : Bool) (s : State) : Out :=
  .next (s.at_ t (fun s => s.ctlCheck ctl.val ok))

/-- FLT_N_PULSE_END (R561). -/
def execFltNPulseEnd (t : Nat) (s : State) : Out :=
  .next (s.at_ t (fun s => s.fltPulseEnd))

/-- FLT_N_HOLD (R561). -/
def execFltNHold (t : Nat) (p : Path) (tag : Nat) (val : List Byte) (s : State) : Out :=
  .next (s.at_ t (fun s => s.request p 2 tag 0x8200 2 val))

/-- DIE_CLOCK_STOP (R560). -/
def execDieClockStop (t : Nat) (die : Die) (s : State) : Out :=
  .next (s.at_ t (fun s => s.dieClockStop die))

end Sys2Proof.Machine
end

