-- ==== Sys2Proof/Machine/ExecFlow.lean ====
section
/-! DEFINITION. The meanings of the rows of chapters 3 to 5 but for the stage operations: frames through spreaders,
stages and the reorder unit, pipelines, table upkeep, locks, the table window. -/

namespace Sys2Proof.Machine

/-- LINE_FRAME_RECEIVE (R440). -/
def execLineFrameReceive (t : Nat) (port : Fin 128) (frame : List Byte) (codeError : Bool) (s : State) : Out :=
  .next (s.on t .fe (fun s => s.lineArrives port.val frame codeError))

/-- FRAME_DEAL (R83). -/
def execFrameDeal (t : Nat) (dir : Dir) (s : State) : Out :=
  .next (s.on t .fe (fun s => s.deal dir))

/-- STAGE_MATCH (R91, R92). -/
def execStageMatch (t : Nat) (ctx : Nat) (stage : Fin 16) (errs : List MemErr) (s : State) : Out :=
  .next (s.on t .fe (fun s => s.stageMatch ctx stage.val errs))

/-- BACKING_REPAIR (R206, R208). -/
def execBackingRepair (t : Nat) (table : Nat) (line : Nat) (backingBad : Bool) (s : State) : Out :=
  .next (s.on t .fe (fun s => s.backingRepair table line backingBad))

/-- SCRUB_VISIT (R204, R206, R207, R209, R210). -/
def execScrubVisit (t : Nat) (place : MemLine) (onDie : MemErr) (backing : MemErr) (differ : Option (Nat × Nat))
    (s : State) : Out
    :=
  .next (s.on t .fe (fun s => s.scrub place onDie backing differ))

/-- FRAME_DISPOSITION (R99, R100). -/
def execFrameDisposition (t : Nat) (ctx : Nat) (s : State) : Out :=
  .next (s.on t .fe (fun s => s.dispose ctx))

/-- REORDER_RELEASE (R101). -/
def execReorderRelease (t : Nat) (domain : Nat) (s : State) : Out :=
  .next (s.on t .fe (fun s => s.releaseDomain domain))

/-- REORDER_TIMEOUT (R104). -/
def execReorderTimeout (t : Nat) (domain : Nat) (s : State) : Out :=
  .next (s.on t .fe (fun s => s.reorderTimeout domain))

/-- STALE_EPOCH_DROP (R109). -/
def execStaleEpochDrop (t : Nat) (dir : Dir) (s : State) : Out :=
  .next (s.on t .fe (fun s => s.dropStale dir))

/-- PIPELINE_FAILURE (R106). -/
def execPipelineFailure (t : Nat) (pl : Fin 32) (s : State) : Out :=
  .next (s.on t .fe (fun s => s.pipeFailure pl.val))

/-- STAGE_SUBSTITUTE (R121). -/
def execStageSubstitute (t : Nat) (pl : Fin 32) (stage : Fin 16) (s : State) : Out :=
  .next (s.on t .fe (fun s => s.stageSubstitute pl.val stage.val))

/-- PIPELINE_DRAIN_COMPLETE (R120). -/
def execPipelineDrainComplete (t : Nat) (pl : Fin 32) (s : State) : Out :=
  .next (s.on t .fe (fun s => s.drainComplete pl.val))

/-- PIPELINE_RETIRE (R121, R518). -/
def execPipelineRetire (t : Nat) (pl : Fin 32) (s : State) : Out :=
  .next (s.on t .fe (fun s => s.pipeRetire pl.val))

/-- LEARN_NOTIFICATION (R186, R187). -/
def execLearnNotification (t : Nat) (dir : Dir) (s : State) : Out :=
  .next (s.on t .fe (fun s => s.learnNext dir))

/-- AGEING_SWEEP_VISIT (R193). -/
def execAgeingSweepVisit (t : Nat) (bucket : Fin 262144) (s : State) : Out :=
  .next (s.on t .fe (fun s => s.sweepBucket bucket.val))

/-- LEARNED_TABLE_TICK (R192). -/
def execLearnedTableTick (t : Nat) (tbl : Fin 8) (s : State) : Out :=
  .next (s.on t .fe (fun s => s.learnedTick tbl.val))

/-- LOCK_ACQUIRE (R197, R198). -/
def execLockAcquire (t : Nat) (target : LockTarget) (who : Holder) (s : State) : Out :=
  .next (s.at_ t (fun s => s.setTables (s.tables.writeLock target who s.clock.now false true)))

/-- LOCK_RELEASE (R197, R202). -/
def execLockRelease (t : Nat) (target : LockTarget) (who : Holder) (s : State) : Out :=
  .next (s.at_ t (fun s => s.setTables (s.tables.writeLock target who s.clock.now true false)))

/-- LOCK_EXPIRE (R203). -/
def execLockExpire (t : Nat) (target : LockTarget) (s : State) : Out :=
  .next (s.at_ t (fun s => s.lockExpire target))

/-- TABLE_WINDOW_READ (R199, R593). -/
def execTableWindowRead (t : Nat) (offset : Nat) (len : Nat) (s : State) : Out :=
  .next (s.at_ t (fun s => s.tableWindowRead offset len))

/-- TABLE_WINDOW_WRITE (R200, R202, R593). -/
def execTableWindowWrite (t : Nat) (offset : Nat) (data : List Byte) (s : State) : Out :=
  .next (s.at_ t (fun s => s.tableWindowWrite offset data))

/-- BANK_RELAY (R211). -/
def execBankRelay (t : Nat) (bank : Fin 128) (s : State) : Out :=
  .next (s.on t .fe (fun s => s.bankRelay bank.val))

/-- LEARNED_TABLE_SIZE_WRITE (R214): a write of size, key width or seeds. -/
def execLearnedTableSizeWrite (t : Nat) (p : Path) (tag : Nat) (tbl : Fin 8) (sub : Nat) (val : List Byte) (s :
    State) : Out :=
  .next (s.at_ t (fun s => s.request p 2 tag (0x4610 + tbl.val) sub val))

/-- PARSER_PROFILE_WRITE (R141, R143). -/
def execParserProfileWrite (t : Nat) (p : Path) (tag : Nat) (profile : Fin 8) (sub : Nat) (val : List Byte) (s :
    State) : Out :=
  .next (s.at_ t (fun s => s.request p 2 tag (0x4110 + profile.val) sub val))

/-- KEY_TEMPLATE_WRITE (R141, R145). -/
def execKeyTemplateWrite (t : Nat) (p : Path) (tag : Nat) (template : Fin 64) (val : List Byte) (s : State) : Out :=
  .next (s.at_ t (fun s => s.request p 2 tag (0x4180 + template.val) 1 val))

/-- CLASSIFICATION_WIDTH_WRITE (R706). -/
def execClassificationWidthWrite (t : Nat) (p : Path) (tag : Nat) (tbl : Fin 32) (val : List Byte) (s : State) : Out
    :=
  .next (s.at_ t (fun s => s.request p 2 tag (0x4460 + tbl.val) 9 val))

end Sys2Proof.Machine
end

