-- ==== Sys2Proof/Machine/ExecHost.lean ====
section
/-! DEFINITION. The meanings of the rows of chapter 16: channel registers, DMA engines, PCIe, performance counters. -/

namespace Sys2Proof.Machine

/-- TAIL (R573). -/
def execTailWrite (t : Nat) (ch : Fin 64) (v : Nat) (s : State) : Out :=
  .next (s.at_ t (fun s => s.writeTail ch.val v))

/-- EN (R572). -/
def execEnWrite (t : Nat) (ch : Fin 64) (on : Bool) (s : State) : Out :=
  .next (s.at_ t (fun s => s.writeEn ch.val on))

/-- RESUME (R572). -/
def execResume (t : Nat) (ch : Fin 64) (s : State) : Out :=
  .next (s.at_ t (fun s => s.resumeChan ch.val))

/-- CH_CFG (R570, R571). -/
def execChCfg (t : Nat) (ch : Fin 64) (reg : ChReg) (v : Nat) (s : State) : Out :=
  .next (s.at_ t (fun s => s.writeCfg ch.val reg v))

/-- REGISTER_ACCESS_INVALID (R566 to R568, R601). -/
def execRegisterAccessInvalid (t : Nat) (offset : Nat) (size : Nat) (data : Option (List Byte)) (s : State) : Out :=
  .next (s.at_ t (fun s => s.bar0Access offset size data))

/-- DESCRIPTOR_FETCH (R574 to R577, R580). -/
def execDescriptorFetch (t : Nat) (engine : Fin 4) (desc : List Byte) (s : State) : Out :=
  .next (s.on t .tm (fun s => s.descriptorFetch engine desc))

/-- DESCRIPTOR_COMPLETE (R578, R580, R582). -/
def execDescriptorComplete (t : Nat) (engine : Fin 4) (err : HostErr) (s : State) : Out :=
  .next (s.on t .tm (fun s => s.descriptorComplete engine err))

/-- DMA_PUNT (R589). -/
def execDmaPunt (t : Nat) (engine : Fin 4) (s : State) : Out :=
  .next (s.on t .tm (fun s => s.dmaPunt engine.val))

/-- DMA_INJECT (R114 to R116, R306, R590). -/
def execDmaInject (t : Nat) (engine : Fin 4) (data : List Byte) (s : State) : Out :=
  .next (s.on t .tm (fun s => s.dmaInject engine.val data))

/-- DMA_TIMESTAMP (R591). -/
def execDmaTimestamp (t : Nat) (engine : Fin 4) (s : State) : Out :=
  .next (s.on t .tm (fun s => s.dmaTimestamp engine.val))

/-- DMA_TABLE_RECORDS (R219 to R221). -/
def execDmaTableRecords (t : Nat) (engine : Fin 4) (data : List Byte) (s : State) : Out :=
  .next (s.on t .tm (fun s => s.dmaTableRecords engine.val data))

/-- DMA_TABLE_READ (R241). -/
def execDmaTableRead (t : Nat) (engine : Fin 4) (s : State) : Out :=
  .next (s.on t .tm (fun s => s.dmaTableRead engine.val))

/-- DMA_BUCKET_READ (R199). -/
def execDmaBucketRead (t : Nat) (engine : Fin 4) (s : State) : Out :=
  .next (s.on t .tm (fun s => s.dmaBucketRead engine.val))

/-- DMA_BUCKET_WRITE (R200). -/
def execDmaBucketWrite (t : Nat) (engine : Fin 4) (data : List Byte) (s : State) : Out :=
  .next (s.on t .tm (fun s => s.dmaBucketWrite engine data))

/-- DMA_COUNTER_READ (R199). -/
def execDmaCounterRead (t : Nat) (engine : Fin 4) (s : State) : Out :=
  .next (s.on t .tm (fun s => s.dmaCounterRead engine.val))

/-- DMA_COUNTER_WRITE (R200, R202). -/
def execDmaCounterWrite (t : Nat) (engine : Fin 4) (data : List Byte) (s : State) : Out :=
  .next (s.on t .tm (fun s => s.dmaCounterWrite engine data))

/-- DMA_STATS_COUNTERS (R600). -/
def execDmaStatsCounters (t : Nat) (engine : Fin 4) (s : State) : Out :=
  .next (s.on t .tm (fun s => s.dmaStatsCounters engine.val))

/-- DMA_STATS_SAMPLES (R337, R600). -/
def execDmaStatsSamples (t : Nat) (engine : Fin 4) (s : State) : Out :=
  .next (s.on t .tm (fun s => s.dmaStatsSamples engine.val))

/-- DMA_LOCK_RETRY (R198, R587). -/
def execDmaLockRetry (t : Nat) (engine : Fin 4) (s : State) : Out :=
  .next (s.on t .tm (fun s => s.lockRetry engine))

/-- TRANSFER_WITHDRAWN (R586). -/
def execTransferWithdrawn (t : Nat) (engine : Fin 4) (s : State) : Out :=
  .next (s.on t .tm (fun s => s.transferWithdrawn engine.val))

/-- TIMESTAMP_DESCRIPTOR_FLUSH (R591). -/
def execTimestampDescriptorFlush (t : Nat) (engine : Fin 4) (s : State) : Out :=
  .next (s.on t .tm (fun s => s.timestampFlush engine.val))

/-- PCIE_HOT_RESET (R588). -/
def execPcieHotReset (t : Nat) (linkDown : Bool) (s : State) : Out :=
  .next (s.at_ t (fun s => s.hotReset linkDown))

/-- PCIE_CONFIG_REQUEST (R642). -/
def execPcieConfigRequest (t : Nat) (req : CfgReq) (s : State) : Out :=
  .next (s.at_ t (fun s => s.configRequest req))

/-- USER_WINDOW_READ (R599). -/
def execUserWindowRead (t : Nat) (offset : Nat) (len : Nat) (s : State) : Out :=
  .next (s.at_ t (fun s => s.userWindowRead offset len))

/-- COUNTER_SNAPSHOT (R597, R598). -/
def execCounterSnapshot (t : Nat) (s : State) : Out :=
  .next (s.at_ t (fun s => s.counterSnapshot))

/-- CLEAR (R596). -/
def execClearCounters (t : Nat) (p : Path) (tag : Nat) (val : List Byte) (s : State) : Out :=
  .next (s.at_ t (fun s => s.request p 2 tag 0xA000 3 val))

end Sys2Proof.Machine
end

