-- ==== Sys2Proof/Machine/ExecLine.lean ====
section
/-! DEFINITION. The meanings of the rows of chapter 12: line ports, PFC, TIME, SerDes lanes. -/

namespace Sys2Proof.Machine

/-- PORT_MODE_WRITE (R431, R432). -/
def execPortModeWrite (t : Nat) (p : Path) (tag : Nat) (port : Fin 128) (val : List Byte) (s : State) : Out :=
  .next (s.at_ t (fun s => s.request p 2 tag (0x3000 + port.val) 1 val))

/-- LINK_TRAINING_FAILURE (R434). -/
def execLinkTrainingFailure (t : Nat) (port : Fin 128) (s : State) : Out :=
  .next (s.at_ t (fun s => s.trainingFailure port.val))

/-- PORT_UP (R435). -/
def execPortUp (t : Nat) (port : Fin 128) (s : State) : Out :=
  .next (s.at_ t (fun s => s.portUp port.val))

/-- PORT_DOWN (R435). -/
def execPortDown (t : Nat) (port : Fin 128) (s : State) : Out :=
  .next (s.at_ t (fun s => s.portDown port.val))

/-- REMOTE_FAULT_RECEIVE (R436). -/
def execRemoteFaultReceive (t : Nat) (port : Fin 128) (s : State) : Out :=
  .next (s.on t .fe (fun s => s.remoteFault port.val))

/-- FLAP_HOLD_END (R437). -/
def execFlapHoldEnd (t : Nat) (port : Fin 128) (s : State) : Out :=
  .next (s.at_ t (fun s => s.flapHoldEnd port.val))

/-- LANE_LOCK_LOSS (R439). -/
def execLaneLockLoss (t : Nat) (lane : Fin 128) (s : State) : Out :=
  .next (s.at_ t (fun s => s.laneLockLoss lane.val))

/-- LRX_CLOCK_STOP (R23). -/
def execLrxClockStop (t : Nat) (group : Fin 32) (port : Fin 128) (partial_ : List Byte) (s : State) : Out :=
  .next (s.on t .fe (fun s => s.clockStop group.val port.val partial_))

/-- PFC_FRAME_RECEIVE (R442, R445): a frame off the line, with its FCS, as LINE_FRAME_RECEIVE takes it. -/
def execPfcFrameReceive (t : Nat) (port : Fin 128) (frame : List Byte) (s : State) : Out :=
  .next (s.on t .fe (fun s => s.lineArrives port.val frame false))

/-- PFC_PAUSE_EXPIRE (R442). -/
def execPfcPauseExpire (t : Nat) (port : Fin 128) (prio : Fin 8) (s : State) : Out :=
  .next (s.on t .fe (fun s => s.pauseExpire port.val prio.val))

/-- PFC_STORM (R444). -/
def execPfcStorm (t : Nat) (port : Fin 128) (prio : Fin 8) (s : State) : Out :=
  .next (s.on t .fe (fun s => s.stormDeclare port.val prio.val))

/-- STORM_RECOVERY_END (R444). -/
def execStormRecoveryEnd (t : Nat) (port : Fin 128) (prio : Fin 8) (s : State) : Out :=
  .next (s.on t .fe (fun s => s.stormEnd port.val prio.val))

/-- MAC_CONTROL_FRAME_RECEIVE (R445): a frame off the line, with its FCS, as LINE_FRAME_RECEIVE takes it. -/
def execMacControlFrameReceive (t : Nat) (port : Fin 128) (frame : List Byte) (s : State) : Out :=
  .next (s.on t .fe (fun s => s.lineArrives port.val frame false))

/-- LINE_FRAME_TRANSMIT (R447). -/
def execLineFrameTransmit (t : Nat) (port : Fin 128) (s : State) : Out :=
  .next (s.on t .fe (fun s => s.lineTransmit port.val))

/-- TRANSMIT_PERMISSION_CHANGE (R448). -/
def execTransmitPermissionChange (t : Nat) (s : State) : Out :=
  .next (s.at_ t (fun s => s.permissionChange))

/-- PHASE_ADJUSTMENT (R450). -/
def execPhaseAdjustment (t : Nat) (p : Path) (tag : Nat) (val : List Byte) (s : State) : Out :=
  .next (s.at_ t (fun s => s.request p 2 tag 0x2100 3 val))

/-- SLEW_COMPLETE (R450): the clock has applied the last of the phase adjustment by the instant of the command. -/
def execSlewComplete (t : Nat) (s : State) : Out :=
  .next (s.at_ t (fun s => s))

/-- STEP (R451). -/
def execTimeStep (t : Nat) (p : Path) (tag : Nat) (val : List Byte) (s : State) : Out :=
  .next (s.at_ t (fun s => s.request p 2 tag 0x2100 6 val))

/-- TIME_STEP_APPLY (R359, R451). -/
def execTimeStepApply (t : Nat) (s : State) : Out :=
  .next (s.at_ t (fun s => s.stepApply))

/-- TIME_SECOND_CARRY (R7): the seconds field carries as the clock reaches the instant of the command. -/
def execTimeSecondCarry (t : Nat) (s : State) : Out :=
  .next (s.at_ t (fun s => s))

/-- PPS_IN_EDGE (R452). -/
def execPpsInEdge (t : Nat) (s : State) : Out :=
  .next (s.at_ t (fun s => s.ppsIn))

/-- PPS_OUT_PULSE (R452). -/
def execPpsOutPulse (t : Nat) (s : State) : Out :=
  .next (s.at_ t (fun s => s.ppsOut))

/-- PPS_OUT_PULSE_END (R452). -/
def execPpsOutPulseEnd (t : Nat) (s : State) : Out :=
  .next (s.at_ t (fun s => s.ppsEnd))

/-- LOOP (R463). -/
def execLoopSet (t : Nat) (p : Path) (tag : Nat) (val : List Byte) (s : State) : Out :=
  .next (s.at_ t (fun s => s.request p 2 tag 0x3201 5 val))

/-- GENERATOR (R464, R465). -/
def execGenerator (t : Nat) (p : Path) (tag : Nat) (val : List Byte) (s : State) : Out :=
  .next (s.at_ t (fun s => s.request p 2 tag 0x3201 6 val))

/-- CHECKER (R464). -/
def execChecker (t : Nat) (p : Path) (tag : Nat) (val : List Byte) (s : State) : Out :=
  .next (s.at_ t (fun s => s.request p 2 tag 0x3201 7 val))

/-- CLEAR_CHECKER (R464). -/
def execClearChecker (t : Nat) (p : Path) (tag : Nat) (val : List Byte) (s : State) : Out :=
  .next (s.at_ t (fun s => s.request p 2 tag 0x3201 0xB val))

/-- CHECKER_LOCK (R464). -/
def execCheckerLock (t : Nat) (lane : Lane) (bitsChecked : Nat) (errors : Nat) (s : State) : Out :=
  .next (s.at_ t (fun s => s.checkerLock (laneCodeOf lane) bitsChecked errors))

/-- TRANSMIT_SLEEP (R466). -/
def execTransmitSleep (t : Nat) (p : Path) (tag : Nat) (val : List Byte) (s : State) : Out :=
  .next (s.at_ t (fun s => s.request p 2 tag 0x3201 0xC val))

/-- RECEIVE_SLEEP (R466). -/
def execReceiveSleep (t : Nat) (p : Path) (tag : Nat) (val : List Byte) (s : State) : Out :=
  .next (s.at_ t (fun s => s.request p 2 tag 0x3201 0xD val))

/-- LANE_WAKE_COMPLETE (R466). -/
def execLaneWakeComplete (t : Nat) (lane : Lane) (receive : Bool) (s : State) : Out :=
  .next (s.at_ t (fun s => s.laneWake (laneCodeOf lane) receive))

/-- LANE_LOCK (R434, R435). -/
def execLaneLock (t : Nat) (lane : Lane) (s : State) : Out :=
  .next (s.at_ t (fun s => s.laneLock (laneCodeOf lane)))

end Sys2Proof.Machine
end

