-- ==== Sys2Proof/Machine/ExecPair.lean ====
section
/-! DEFINITION. The meanings of the rows of chapter 13: the pair and the streams. -/

namespace Sys2Proof.Machine

/-- PAIRING_ENABLE_WRITE (R470). -/
def execPairingEnableWrite (t : Nat) (p : Path) (tag : Nat) (val : List Byte) (s : State) : Out :=
  .next (s.at_ t (fun s => s.request p 2 tag 0x6800 1 val))

/-- CLAIM_CELL_SEND (R473). -/
def execClaimCellSend (t : Nat) (s : State) : Out :=
  .next (s.at_ t (fun s => s.claimTick))

/-- CLAIM_CELL_RECEIVE (R475, R479). -/
def execClaimCellReceive (t : Nat) (lane : Fin 2) (slot : List Byte) (s : State) : Out :=
  .next (s.at_ t (fun s => s.claimReceive lane.val (given slot)))

/-- CLAIM_LOSS (R476, R479). -/
def execClaimLoss (t : Nat) (s : State) : Out :=
  .next (s.at_ t (fun s => s.claimLoss))

/-- LONE_START_TIMEOUT (R479). -/
def execLoneStartTimeout (t : Nat) (s : State) : Out :=
  .next (s.at_ t (fun s => s.loneStart))

/-- TAKE_OVER (R479, R482). -/
def execTakeOverCmd (t : Nat) (p : Path) (tag : Nat) (s : State) : Out :=
  .next (s.at_ t (fun s => s.request p 2 tag 0x6800 0xB [1]))

/-- HANDOVER (R479). -/
def execHandoverCmd (t : Nat) (p : Path) (tag : Nat) (s : State) : Out :=
  .next (s.at_ t (fun s => s.request p 2 tag 0x6800 0xB [2]))

/-- RESYNC (R479, R494). -/
def execResyncCmd (t : Nat) (p : Path) (tag : Nat) (s : State) : Out :=
  .next (s.at_ t (fun s => s.request p 2 tag 0x6800 0xB [3]))

/-- ISOLATE (R479). -/
def execIsolateCmd (t : Nat) (p : Path) (tag : Nat) (s : State) : Out :=
  .next (s.at_ t (fun s => s.request p 2 tag 0x6800 0xB [4]))

/-- HANDOVER_TIMEOUT (R479). -/
def execHandoverTimeout (t : Nat) (s : State) : Out :=
  .next (s.at_ t (fun s => s.handoverTimeout))

/-- RANK_LOWER (R483). -/
def execRankLower (t : Nat) (s : State) : Out :=
  .next (s.at_ t (fun s => s.rankLower))

/-- TRANSFER_ITEM_RECEIVE (R487, R491, R494, R495). -/
def execTransferItemReceive (t : Nat) (lane : Fin 2) (slot : List Byte) (s : State) : Out :=
  .next (s.at_ t (fun s => s.itemReceive lane.val (given slot)))

/-- TRANSFER_RESEND (R492). -/
def execTransferResend (t : Nat) (s : State) : Out :=
  .next (s.at_ t (fun s => s.itemResend))

/-- RESYNCHRONISATION (R494). -/
def execResynchronisation (t : Nat) (s : State) : Out :=
  .next (s.at_ t (fun s => s.resyncStart))

/-- STREAM_RECORD_WRITE (R498). -/
def execStreamRecordWrite (t : Nat) (p : Path) (tag : Nat) (val : List Byte) (s : State) : Out :=
  .next (s.at_ t (fun s => s.request p 2 tag 0x6900 2 val))

/-- STREAM_RESET_TIMEOUT (R503). -/
def execStreamResetTimeout (t : Nat) (stream : Fin 16384) (s : State) : Out :=
  .next (s.on t .tm (fun s => s.streamReset stream.val))

end Sys2Proof.Machine
end

