-- ==== Sys2Proof/Machine/ExecStart.lean ====
section
/-! DEFINITION. The meanings of the rows of chapters 17 and 18: the update session, resets, the start, state commands,
the device record. -/

namespace Sys2Proof.Machine

/-- CARTOUCHE (R612, R615, R616). -/
def execCartouche (t : Nat) (p : Path) (tag : Nat) (val : List Byte) (s : State) : Out :=
  .next (s.at_ t (fun s => s.request p 2 tag 0x9000 1 val))

/-- CHUNK (R619, R620). -/
def execChunk (t : Nat) (p : Path) (tag : Nat) (val : List Byte) (s : State) : Out :=
  .next (s.at_ t (fun s => s.request p 2 tag 0x9000 2 val))

/-- VERIFY (R622). -/
def execVerify (t : Nat) (p : Path) (tag : Nat) (val : List Byte) (s : State) : Out :=
  .next (s.at_ t (fun s => s.request p 2 tag 0x9000 3 val))

/-- ACTIVATION_TIME (R623). -/
def execActivationTime (t : Nat) (p : Path) (tag : Nat) (val : List Byte) (s : State) : Out :=
  .next (s.at_ t (fun s => s.request p 2 tag 0x9000 4 val))

/-- CLOSE (R617, R618). -/
def execCloseSession (t : Nat) (p : Path) (tag : Nat) (val : List Byte) (s : State) : Out :=
  .next (s.at_ t (fun s => s.request p 2 tag 0x9000 5 val))

/-- CONFIRM (R626). -/
def execConfirm (t : Nat) (p : Path) (tag : Nat) (val : List Byte) (s : State) : Out :=
  .next (s.at_ t (fun s => s.request p 2 tag 0x9000 6 val))

/-- REVERT (R626). -/
def execRevert (t : Nat) (p : Path) (tag : Nat) (val : List Byte) (s : State) : Out :=
  .next (s.at_ t (fun s => s.request p 2 tag 0x9000 7 val))

/-- UPDATE_ACTIVATE (R624). -/
def execUpdateActivate (t : Nat) (s : State) : Out :=
  .next (s.at_ t (fun s => s.updateActivate))

/-- ACTIVATION_LOADS_COMPLETE (R624, R626). -/
def execActivationLoadsComplete (t : Nat) (ok : Bool) (s : State) : Out :=
  .next (s.at_ t (fun s => s.loadsComplete ok))

/-- TRIAL_EXPIRE (R626). -/
def execTrialExpire (t : Nat) (s : State) : Out :=
  .next (s.at_ t (fun s => s.trialExpire))

/-- RST_N_LOW (R635, R678). -/
def execRstNLow (t : Nat) (held : Nat) (s : State) : Out :=
  .next (s.at_ t (fun s => s.rstLow held))

/-- WRST_N_LOW (R635, R636, R640). -/
def execWrstNLow (t : Nat) (held : Nat) (s : State) : Out :=
  .next (s.at_ t (fun s => s.wrstLow held))

/-- RESET_PIN_RISE (R637, R645, R652, R668). -/
def execResetPinRise (t : Nat) (pin : ResetPin) (found : Found) (s : State) : Out :=
  .next (s.at_ t (fun s => s.pinRise pin found))

/-- PWRGD_FALL (R634, R645, R701). -/
def execPwrgdFall (t : Nat) (copiesDone : Fin 4) (copyCut : Bool) (burnCut : Bool) (s : State) : Out :=
  .next (s.at_ t (fun s => s.powerFall copiesDone.val copyCut burnCut))

/-- PWRGD_RISE (R637). -/
def execPwrgdRise (t : Nat) (found : Found) (s : State) : Out :=
  .next (s.at_ t (fun s => s.powerRise found))

/-- RESET_WORK_COMPLETE (R701). -/
def execResetWorkComplete (t : Nat) (found : Found) (s : State) : Out :=
  .next (s.at_ t (fun s => s.resetWorkDone found))

/-- SERVICE_CORE_START (R606, R637). -/
def execServiceCoreStart (t : Nat) (s : State) : Out :=
  .next (s.at_ t (fun s => s.coreStart))

/-- INIT_COMPLETE (R525, R641, R655, R659). -/
def execInitComplete (e : InitEnd) (s : State) : Out :=
  .next (s.at_ e.t (fun s => s.initComplete e.fe e.tm))

/-- DEVICE_RECORD_REWRITE (R644). -/
def execDeviceRecordRewrite (t : Nat) (s : State) : Out :=
  .next (s.at_ t (fun s => s.recordRewrite))

/-- START (R655). -/
def execStartCmd (t : Nat) (p : Path) (tag : Nat) (s : State) : Out :=
  .next (s.at_ t (fun s => s.request p 2 tag 0x1100 2 [1]))

/-- STOP (R655). -/
def execStopCmd (t : Nat) (p : Path) (tag : Nat) (s : State) : Out :=
  .next (s.at_ t (fun s => s.request p 2 tag 0x1100 2 [2]))

/-- MAINT (R655). -/
def execMaintCmd (t : Nat) (p : Path) (tag : Nat) (s : State) : Out :=
  .next (s.at_ t (fun s => s.request p 2 tag 0x1100 2 [3]))

/-- LEAVE (R655). -/
def execLeaveCmd (t : Nat) (p : Path) (tag : Nat) (s : State) : Out :=
  .next (s.at_ t (fun s => s.request p 2 tag 0x1100 2 [4]))

/-- WARM_RESET_COMMAND (R639, R655). -/
def execWarmResetCommand (t : Nat) (p : Path) (tag : Nat) (s : State) : Out :=
  .next (s.at_ t (fun s => s.request p 2 tag 0x1100 2 [5]))

/-- COLD_RESET_COMMAND (R639, R655). -/
def execColdResetCommand (t : Nat) (p : Path) (tag : Nat) (s : State) : Out :=
  .next (s.at_ t (fun s => s.request p 2 tag 0x1100 2 [6]))

/-- COMMANDED_RESET_BEGIN (R639). -/
def execCommandedResetBegin (t : Nat) (found : Found) (s : State) : Out :=
  .next (s.at_ t (fun s => s.commandedBegin found))

/-- CHOOSE_SOURCE (R649). -/
def execChooseSource (t : Nat) (p : Path) (tag : Nat) (val : List Byte) (s : State) : Out :=
  .next (s.at_ t (fun s => s.request p 2 tag 0x1300 7 val))

/-- CLEAR_RECORD (R700). -/
def execClearRecord (t : Nat) (p : Path) (tag : Nat) (val : List Byte) (s : State) : Out :=
  .next (s.at_ t (fun s => s.request p 2 tag 0x1300 9 val))

end Sys2Proof.Machine
end

