-- ==== Sys2Proof/Machine/ExecSurvey.lean ====
section
/-! DEFINITION. The meanings of the rows of chapter 14: the Survey, its remedies, spares. -/

namespace Sys2Proof.Machine

/-- BENCHMARK_READING (R508). -/
def execBenchmarkReading (t : Nat) (bench : Nat) (reading : Int) (s : State) : Out :=
  .next (s.at_ t (fun s => s.benchmark bench reading))

/-- DAILY_PASS_START (R510). -/
def execDailyPassStart (t : Nat) (s : State) : Out :=
  .next (s.at_ t (fun s => s.dailyStart))

/-- DAILY_PASS_SKIP (R510). -/
def execDailyPassSkip (t : Nat) (s : State) : Out :=
  .next (s.at_ t (fun s => s.dailySkip))

/-- BASELINE_PASS_START (R512). -/
def execBaselinePassStart (t : Nat) (s : State) : Out :=
  .next (s.at_ t (fun s => s.baselineStart))

/-- SURVEY_REMEDY (R517 to R527). -/
def execSurveyRemedy (t : Nat) (die : Die) (readBack : Option Nat) (trim : HbmTrim) (s : State) : Out :=
  .next (s.at_ t (fun s => s.surveyRemedy (dieCode die) readBack trim))

/-- AVS_RETRY (R524). -/
def execAvsRetry (t : Nat) (die : Die) (readBack : Option Nat) (s : State) : Out :=
  .next (s.at_ t (fun s => s.avsRetry (dieCode die) readBack))

/-- MEMORY_REPAIR (R529, R530). -/
def execMemoryRepair (t : Nat) (code : Nat) (unit : Nat) (uncorrectable : Bool) (s : State) : Out :=
  .next (s.at_ t (fun s => s.memoryRepair code unit uncorrectable))

/-- BOND_WIRE_SUBSTITUTE (R15). -/
def execBondWireSubstitute (t : Nat) (toTm : Bool) (wire : Fin 9216) (s : State) : Out :=
  .next (s.at_ t (fun s => s.wireFails (if toTm then 0 else 1) wire.val))

/-- PIPELINE_FLOOR_WRITE (R521). -/
def execPipelineFloorWrite (t : Nat) (p : Path) (tag : Nat) (val : List Byte) (s : State) : Out :=
  .next (s.at_ t (fun s => s.request p 2 tag 0x7200 1 val))

end Sys2Proof.Machine
end

