-- ==== Sys2Proof/Machine/ExecTxn.lean ====
section
/-! DEFINITION. The meanings of the rows of chapter 6: transaction records by the dictionary, waits, commits. -/

namespace Sys2Proof.Machine

/-- TXN_OPEN (R220, R224). -/
def execTxnOpen (t : Nat) (p : Path) (tag : Nat) (txn : Nat) (s : State) : Out :=
  .next (s.at_ t (fun s => s.request p 2 tag 0x4501 1 (txnRecord 1 false txn (zeros 8) [])))

/-- TXN_WRITE (R220, R222, R227, R228). -/
def execTxnWrite (t : Nat) (p : Path) (tag : Nat) (txn : Nat) (keystone : Bool) (tabref : List Byte) (payload : List
    Byte) (s : State) : Out :=
  .next (s.at_ t (fun s => s.request p 2 tag 0x4501 1 (txnRecord 2 keystone txn tabref payload)))

/-- TXN_PROGRAM (R220, R242). -/
def execTxnProgram (t : Nat) (p : Path) (tag : Nat) (txn : Nat) (keystone : Bool) (dir : Nat) (offset : Nat)
    (payload : List Byte) (s : State) : Out :=
  .next (s.at_ t (fun s =>
    s.request p 2 tag 0x4501 1 (txnRecord 3 keystone txn ([byteOf dir, 0] ++ beBytes 4 offset) payload)))

/-- TXN_GRATICULE (R220, R345, R348). -/
def execTxnGraticule (t : Nat) (p : Path) (tag : Nat) (txn : Nat) (keystone : Bool) (port : Nat) (part : Nat) (first
    : Nat) (payload : List Byte) (s : State) : Out :=
  .next (s.at_ t (fun s =>
    s.request p 2 tag 0x4501 1 (txnRecord 4 keystone txn ([byteOf port, byteOf part] ++ beBytes 2 first) payload)))

/-- TXN_KEYSTONE (R224, R231). -/
def execTxnKeystone (t : Nat) (p : Path) (tag : Nat) (txn : Nat) (s : State) : Out :=
  .next (s.at_ t (fun s => s.request p 2 tag 0x4501 1 (txnRecord 5 false txn (zeros 8) [])))

/-- TXN_ABANDON (R224). -/
def execTxnAbandon (t : Nat) (p : Path) (tag : Nat) (txn : Nat) (s : State) : Out :=
  .next (s.at_ t (fun s => s.request p 2 tag 0x4501 1 (txnRecord 6 false txn (zeros 8) [])))

/-- TXN_WRITE_RESUME (R229). -/
def execTxnWriteResume (t : Nat) (s : State) : Out :=
  .next (s.at_ t (fun s => s.txnResume))

/-- TXN_IDLE_TIMEOUT (R224). -/
def execTxnIdleTimeout (t : Nat) (txn : Nat) (s : State) : Out :=
  .next (s.at_ t (fun s => s.txIdle txn))

/-- COMMIT (R232 to R235). -/
def execCommit (t : Nat) (s : State) : Out :=
  .next (s.on t .tm (fun s => s.commitNext))

end Sys2Proof.Machine
end

