-- ==== Sys2Proof/Machine/Dispatch.lean ====
section
/-! DEFINITION. One arm for each command. -/

namespace Sys2Proof.Machine

/-- The effect of a command on everything but the queue of commands. -/
def exec (i : Instr) (s : State) : Host.Outcome State Fault Refusal :=
  match i with
  | .read t p tag idx sub => Sys2Proof.Machine.execRead t p tag idx sub s
  | .write t p tag idx sub val => Sys2Proof.Machine.execWrite t p tag idx sub val s
  | .describe t p tag idx sub => Sys2Proof.Machine.execDescribe t p tag idx sub s
  | .nop t p tag idx sub => Sys2Proof.Machine.execNop t p tag idx sub s
  | .requestService t => Sys2Proof.Machine.execRequestService t s
  | .persistentWriteCommit t => Sys2Proof.Machine.execPersistentWriteCommit t s
  | .i3cPrivateWrite t bytes parityOk => Sys2Proof.Machine.execI3cPrivateWrite t bytes parityOk s
  | .i3cPrivateRead t => Sys2Proof.Machine.execI3cPrivateRead t s
  | .entdaa t addr => Sys2Proof.Machine.execEntdaa t addr s
  | .setdasa t static addr => Sys2Proof.Machine.execSetdasa t static addr s
  | .rstdaa t => Sys2Proof.Machine.execRstdaa t s
  | .enec t => Sys2Proof.Machine.execEnec t s
  | .disec t => Sys2Proof.Machine.execDisec t s
  | .getpid t => Sys2Proof.Machine.execGetpid t s
  | .getbcr t => Sys2Proof.Machine.execGetbcr t s
  | .getdcr t => Sys2Proof.Machine.execGetdcr t s
  | .getstatus t => Sys2Proof.Machine.execGetstatus t s
  | .getmwl t => Sys2Proof.Machine.execGetmwl t s
  | .getmrl t => Sys2Proof.Machine.execGetmrl t s
  | .setmwl t n => Sys2Proof.Machine.execSetmwl t n s
  | .setmrl t n => Sys2Proof.Machine.execSetmrl t n s
  | .rstact t action => Sys2Proof.Machine.execRstact t action s
  | .unsupportedCcc t code direct => Sys2Proof.Machine.execUnsupportedCcc t code direct s
  | .targetResetPattern t found => Sys2Proof.Machine.execTargetResetPattern t found s
  | .mbxGo t buffer => Sys2Proof.Machine.execMbxGo t buffer s
  | .mbxStatClear t done ovr => Sys2Proof.Machine.execMbxStatClear t done ovr s
  | .popHello t src dgram => Sys2Proof.Machine.execPopHello t src dgram s
  | .popProof t src dgram => Sys2Proof.Machine.execPopProof t src dgram s
  | .popRequest t src dgram => Sys2Proof.Machine.execPopRequest t src dgram s
  | .popClose t src dgram => Sys2Proof.Machine.execPopClose t src dgram s
  | .popDatagramDiscard t src fragmented dgram => Sys2Proof.Machine.execPopDatagramDiscard t src fragmented dgram s
  | .popHandshakeTimeout t session => Sys2Proof.Machine.execPopHandshakeTimeout t session s
  | .popIdleTimeout t slot => Sys2Proof.Machine.execPopIdleTimeout t slot s
  | .popSourceIgnoreEnd t ip => Sys2Proof.Machine.execPopSourceIgnoreEnd t ip s
  | .popKeyWrite t p tag role val => Sys2Proof.Machine.execPopKeyWrite t p tag role val s
  | .mgmtNeighbourProtocol t kind v6 target src => Sys2Proof.Machine.execMgmtNeighbourProtocol t kind v6 target src s
  | .steppedOperationStart t p tag idx sub val => Sys2Proof.Machine.execSteppedOperationStart t p tag idx sub val s
  | .steppedOperationStep t handle step => Sys2Proof.Machine.execSteppedOperationStep t handle step s
  | .cancel t p tag val => Sys2Proof.Machine.execCancel t p tag val s
  | .acknowledge t p tag val => Sys2Proof.Machine.execAcknowledge t p tag val s
  | .journalSlotExpire t slot => Sys2Proof.Machine.execJournalSlotExpire t slot s
  | .antiRollbackFloorWrite t p tag val => Sys2Proof.Machine.execAntiRollbackFloorWrite t p tag val s
  | .imageKeyWrite t p tag slot val => Sys2Proof.Machine.execImageKeyWrite t p tag slot val s
  | .unitNumberWrite t p tag val => Sys2Proof.Machine.execUnitNumberWrite t p tag val s
  | .surveyBaselineRetake t p tag val => Sys2Proof.Machine.execSurveyBaselineRetake t p tag val s
  | .debugLockWrite t p tag val => Sys2Proof.Machine.execDebugLockWrite t p tag val s
  | .lineFrameReceive t port frame codeError => Sys2Proof.Machine.execLineFrameReceive t port frame codeError s
  | .frameDeal t dir => Sys2Proof.Machine.execFrameDeal t dir s
  | .stageMatch t ctx stage errs => Sys2Proof.Machine.execStageMatch t ctx stage errs s
  | .backingRepair t table line backingBad => Sys2Proof.Machine.execBackingRepair t table line backingBad s
  | .scrubVisit t place onDie backing differ => Sys2Proof.Machine.execScrubVisit t place onDie backing differ s
  | .mov o d x => Sys2Proof.Machine.execMov o d x s
  | .set_ o d imm => Sys2Proof.Machine.execSet o d imm s
  | .add o d a b => Sys2Proof.Machine.execAdd o d a b s
  | .sub o d a b => Sys2Proof.Machine.execSub o d a b s
  | .and_ o d a b => Sys2Proof.Machine.execAnd o d a b s
  | .or_ o d a b => Sys2Proof.Machine.execOr o d a b s
  | .xor_ o d a b => Sys2Proof.Machine.execXor o d a b s
  | .shl o d a n => Sys2Proof.Machine.execShl o d a n s
  | .shr o d a n => Sys2Proof.Machine.execShr o d a n s
  | .min_ o d a b => Sys2Proof.Machine.execMin o d a b s
  | .max_ o d a b => Sys2Proof.Machine.execMax o d a b s
  | .ext o d x hi lo => Sys2Proof.Machine.execExt o d x hi lo s
  | .ins o d x hi lo => Sys2Proof.Machine.execIns o d x hi lo s
  | .cmp o c a rel b => Sys2Proof.Machine.execCmp o c a rel b s
  | .hash o d list seed => Sys2Proof.Machine.execHash o d list seed s
  | .valid o n v => Sys2Proof.Machine.execValid o n v s
  | .pushHdr o stack => Sys2Proof.Machine.execPushHdr o stack s
  | .popHdr o stack => Sys2Proof.Machine.execPopHdr o stack s
  | .csum o n => Sys2Proof.Machine.execCsum o n s
  | .count o idx len => Sys2Proof.Machine.execCount o idx len s
  | .meter o idx d => Sys2Proof.Machine.execMeter o idx d s
  | .select o d group h => Sys2Proof.Machine.execSelect o d group h s
  | .learn o tbl key => Sys2Proof.Machine.execLearn o tbl key s
  | .fwd o qid => Sys2Proof.Machine.execFwd o qid s
  | .fwdm o group => Sys2Proof.Machine.execFwdm o group s
  | .dropReq o => Sys2Proof.Machine.execDropReq o s
  | .recirc o => Sys2Proof.Machine.execRecirc o s
  | .punt o cls reason => Sys2Proof.Machine.execPunt o cls reason s
  | .copy o cls reason => Sys2Proof.Machine.execCopy o cls reason s
  | .mirror o session => Sys2Proof.Machine.execMirror o session s
  | .stamp o d => Sys2Proof.Machine.execStamp o d s
  | .br o target => Sys2Proof.Machine.execBr o target s
  | .brc o c target => Sys2Proof.Machine.execBrc o c target s
  | .end_ o => Sys2Proof.Machine.execEnd o s
  | .frameDisposition t ctx => Sys2Proof.Machine.execFrameDisposition t ctx s
  | .reorderRelease t domain => Sys2Proof.Machine.execReorderRelease t domain s
  | .reorderTimeout t domain => Sys2Proof.Machine.execReorderTimeout t domain s
  | .staleEpochDrop t dir => Sys2Proof.Machine.execStaleEpochDrop t dir s
  | .pipelineFailure t pl => Sys2Proof.Machine.execPipelineFailure t pl s
  | .stageSubstitute t pl stage => Sys2Proof.Machine.execStageSubstitute t pl stage s
  | .pipelineDrainComplete t pl => Sys2Proof.Machine.execPipelineDrainComplete t pl s
  | .pipelineRetire t pl => Sys2Proof.Machine.execPipelineRetire t pl s
  | .learnNotification t dir => Sys2Proof.Machine.execLearnNotification t dir s
  | .ageingSweepVisit t bucket => Sys2Proof.Machine.execAgeingSweepVisit t bucket s
  | .lockAcquire t target who => Sys2Proof.Machine.execLockAcquire t target who s
  | .lockRelease t target who => Sys2Proof.Machine.execLockRelease t target who s
  | .lockExpire t target => Sys2Proof.Machine.execLockExpire t target s
  | .tableWindowRead t offset len => Sys2Proof.Machine.execTableWindowRead t offset len s
  | .tableWindowWrite t offset data => Sys2Proof.Machine.execTableWindowWrite t offset data s
  | .bankRelay t bank => Sys2Proof.Machine.execBankRelay t bank s
  | .learnedTableSizeWrite t p tag tbl sub val => Sys2Proof.Machine.execLearnedTableSizeWrite t p tag tbl sub val s
  | .parserProfileWrite t p tag profile sub val => Sys2Proof.Machine.execParserProfileWrite t p tag profile sub val s
  | .keyTemplateWrite t p tag template val => Sys2Proof.Machine.execKeyTemplateWrite t p tag template val s
  | .classificationWidthWrite t p tag tbl val => Sys2Proof.Machine.execClassificationWidthWrite t p tag tbl val s
  | .txnOpen t p tag txn => Sys2Proof.Machine.execTxnOpen t p tag txn s
  | .txnWrite t p tag txn keystone tabref payload => Sys2Proof.Machine.execTxnWrite t p tag txn keystone tabref payload s
  | .txnProgram t p tag txn keystone dir offset payload => Sys2Proof.Machine.execTxnProgram t p tag txn keystone dir offset payload s
  | .txnGraticule t p tag txn keystone port part first payload => Sys2Proof.Machine.execTxnGraticule t p tag txn keystone port part first payload s
  | .txnKeystone t p tag txn => Sys2Proof.Machine.execTxnKeystone t p tag txn s
  | .txnAbandon t p tag txn => Sys2Proof.Machine.execTxnAbandon t p tag txn s
  | .txnWriteResume t => Sys2Proof.Machine.execTxnWriteResume t s
  | .txnIdleTimeout t txn => Sys2Proof.Machine.execTxnIdleTimeout t txn s
  | .commit t => Sys2Proof.Machine.execCommit t s
  | .admission t => Sys2Proof.Machine.execAdmission t s
  | .cellFree t pool frees => Sys2Proof.Machine.execCellFree t pool frees s
  | .handoverOfCells t pool cells fromCode toCode count => Sys2Proof.Machine.execHandoverOfCells t pool cells fromCode toCode count s
  | .poolAccountMismatch t pool => Sys2Proof.Machine.execPoolAccountMismatch t pool s
  | .evictionRun t qid => Sys2Proof.Machine.execEvictionRun t qid s
  | .prefetch t qid readError => Sys2Proof.Machine.execPrefetch t qid readError s
  | .pfcRefresh t port prio => Sys2Proof.Machine.execPfcRefresh t port prio s
  | .partitionBoundaryWrite t p tag val => Sys2Proof.Machine.execPartitionBoundaryWrite t p tag val s
  | .badTail t qid => Sys2Proof.Machine.execBadTail t qid s
  | .defaultMapApply t p tag val => Sys2Proof.Machine.execDefaultMapApply t p tag val s
  | .nodeRecordWrite t p tag queue val => Sys2Proof.Machine.execNodeRecordWrite t p tag queue val s
  | .outletWrite t p tag val => Sys2Proof.Machine.execOutletWrite t p tag val s
  | .schedulerDecision t node => Sys2Proof.Machine.execSchedulerDecision t node s
  | .sojournSweep t qid localList => Sys2Proof.Machine.execSojournSweep t qid localList s
  | .requestRefresh t qid => Sys2Proof.Machine.execRequestRefresh t qid s
  | .fabricTransmit t => Sys2Proof.Machine.execFabricTransmit t s
  | .grantIssue t qid => Sys2Proof.Machine.execGrantIssue t qid s
  | .creditTimeout t qid => Sys2Proof.Machine.execCreditTimeout t qid s
  | .holdTimerExpire t node => Sys2Proof.Machine.execHoldTimerExpire t node s
  | .samplerRound t sampler => Sys2Proof.Machine.execSamplerRound t sampler s
  | .graticuleChangeEffect t port => Sys2Proof.Machine.execGraticuleChangeEffect t port s
  | .fabricCellReceive t lane slot => Sys2Proof.Machine.execFabricCellReceive t lane slot s
  | .reachabilityExpire t lane => Sys2Proof.Machine.execReachabilityExpire t lane s
  | .resequencingTimeout t src stream => Sys2Proof.Machine.execResequencingTimeout t src stream s
  | .streamIdle t src stream => Sys2Proof.Machine.execStreamIdle t src stream s
  | .pinHoldEnd t unit => Sys2Proof.Machine.execPinHoldEnd t unit s
  | .laneRetire t lane bySurvey => Sys2Proof.Machine.execLaneRetire t lane bySurvey s
  | .retireCmd t p tag lane val => Sys2Proof.Machine.execRetireCmd t p tag lane val s
  | .lanePowerDown t lane => Sys2Proof.Machine.execLanePowerDown t lane s
  | .laneReturnHoldEnd t lane => Sys2Proof.Machine.execLaneReturnHoldEnd t lane s
  | .laneShortfallTimeout t => Sys2Proof.Machine.execLaneShortfallTimeout t s
  | .linkFrameSend t lane => Sys2Proof.Machine.execLinkFrameSend t lane s
  | .linkFrameReceive t lane rx => Sys2Proof.Machine.execLinkFrameReceive t lane rx s
  | .slipBufferDeliver t lane => Sys2Proof.Machine.execSlipBufferDeliver t lane s
  | .losDeclare t lane => Sys2Proof.Machine.execLosDeclare t lane s
  | .losClear t lane => Sys2Proof.Machine.execLosClear t lane s
  | .lofDeclare t lane => Sys2Proof.Machine.execLofDeclare t lane s
  | .lofClear t lane => Sys2Proof.Machine.execLofClear t lane s
  | .performanceSecond t lane => Sys2Proof.Machine.execPerformanceSecond t lane s
  | .performancePost t lane => Sys2Proof.Machine.execPerformancePost t lane s
  | .portModeWrite t p tag port val => Sys2Proof.Machine.execPortModeWrite t p tag port val s
  | .linkTrainingFailure t port => Sys2Proof.Machine.execLinkTrainingFailure t port s
  | .portUp t port => Sys2Proof.Machine.execPortUp t port s
  | .portDown t port => Sys2Proof.Machine.execPortDown t port s
  | .remoteFaultReceive t port => Sys2Proof.Machine.execRemoteFaultReceive t port s
  | .flapHoldEnd t port => Sys2Proof.Machine.execFlapHoldEnd t port s
  | .laneLockLoss t lane => Sys2Proof.Machine.execLaneLockLoss t lane s
  | .lrxClockStop t group port partial_ => Sys2Proof.Machine.execLrxClockStop t group port partial_ s
  | .pfcFrameReceive t port frame => Sys2Proof.Machine.execPfcFrameReceive t port frame s
  | .pfcPauseExpire t port prio => Sys2Proof.Machine.execPfcPauseExpire t port prio s
  | .pfcStorm t port prio => Sys2Proof.Machine.execPfcStorm t port prio s
  | .stormRecoveryEnd t port prio => Sys2Proof.Machine.execStormRecoveryEnd t port prio s
  | .macControlFrameReceive t port frame => Sys2Proof.Machine.execMacControlFrameReceive t port frame s
  | .lineFrameTransmit t port => Sys2Proof.Machine.execLineFrameTransmit t port s
  | .transmitPermissionChange t => Sys2Proof.Machine.execTransmitPermissionChange t s
  | .phaseAdjustment t p tag val => Sys2Proof.Machine.execPhaseAdjustment t p tag val s
  | .slewComplete t => Sys2Proof.Machine.execSlewComplete t s
  | .timeStep t p tag val => Sys2Proof.Machine.execTimeStep t p tag val s
  | .timeStepApply t => Sys2Proof.Machine.execTimeStepApply t s
  | .timeSecondCarry t => Sys2Proof.Machine.execTimeSecondCarry t s
  | .ppsInEdge t => Sys2Proof.Machine.execPpsInEdge t s
  | .ppsOutPulse t => Sys2Proof.Machine.execPpsOutPulse t s
  | .loopSet t p tag val => Sys2Proof.Machine.execLoopSet t p tag val s
  | .generator t p tag val => Sys2Proof.Machine.execGenerator t p tag val s
  | .checker t p tag val => Sys2Proof.Machine.execChecker t p tag val s
  | .clearChecker t p tag val => Sys2Proof.Machine.execClearChecker t p tag val s
  | .testMode t p tag lane val => Sys2Proof.Machine.execTestMode t p tag lane val s
  | .transmitSleep t p tag val => Sys2Proof.Machine.execTransmitSleep t p tag val s
  | .receiveSleep t p tag val => Sys2Proof.Machine.execReceiveSleep t p tag val s
  | .laneWakeComplete t lane receive => Sys2Proof.Machine.execLaneWakeComplete t lane receive s
  | .pairingEnableWrite t p tag val => Sys2Proof.Machine.execPairingEnableWrite t p tag val s
  | .claimCellSend t => Sys2Proof.Machine.execClaimCellSend t s
  | .claimCellReceive t lane slot => Sys2Proof.Machine.execClaimCellReceive t lane slot s
  | .claimLoss t => Sys2Proof.Machine.execClaimLoss t s
  | .loneStartTimeout t => Sys2Proof.Machine.execLoneStartTimeout t s
  | .takeOverCmd t p tag => Sys2Proof.Machine.execTakeOverCmd t p tag s
  | .handoverCmd t p tag => Sys2Proof.Machine.execHandoverCmd t p tag s
  | .resyncCmd t p tag => Sys2Proof.Machine.execResyncCmd t p tag s
  | .isolateCmd t p tag => Sys2Proof.Machine.execIsolateCmd t p tag s
  | .handoverTimeout t => Sys2Proof.Machine.execHandoverTimeout t s
  | .rankLower t => Sys2Proof.Machine.execRankLower t s
  | .transferItemReceive t lane slot => Sys2Proof.Machine.execTransferItemReceive t lane slot s
  | .transferResend t => Sys2Proof.Machine.execTransferResend t s
  | .resynchronisation t => Sys2Proof.Machine.execResynchronisation t s
  | .streamRecordWrite t p tag val => Sys2Proof.Machine.execStreamRecordWrite t p tag val s
  | .streamResetTimeout t stream => Sys2Proof.Machine.execStreamResetTimeout t stream s
  | .benchmarkReading t bench reading => Sys2Proof.Machine.execBenchmarkReading t bench reading s
  | .dailyPassStart t => Sys2Proof.Machine.execDailyPassStart t s
  | .dailyPassSkip t => Sys2Proof.Machine.execDailyPassSkip t s
  | .baselinePassStart t => Sys2Proof.Machine.execBaselinePassStart t s
  | .surveyRemedy t die readBack trim => Sys2Proof.Machine.execSurveyRemedy t die readBack trim s
  | .avsRetry t die readBack => Sys2Proof.Machine.execAvsRetry t die readBack s
  | .memoryRepair t code unit uncorrectable => Sys2Proof.Machine.execMemoryRepair t code unit uncorrectable s
  | .bondWireSubstitute t toTm wire => Sys2Proof.Machine.execBondWireSubstitute t toTm wire s
  | .pipelineFloorWrite t p tag val => Sys2Proof.Machine.execPipelineFloorWrite t p tag val s
  | .bondFlitUncorrectable t toTm lost => Sys2Proof.Machine.execBondFlitUncorrectable t toTm lost s
  | .sidebandSafeValue t die => Sys2Proof.Machine.execSidebandSafeValue t die s
  | .sidebandSafeTimeout t die => Sys2Proof.Machine.execSidebandSafeTimeout t die s
  | .crossingPointerMismatch t crossing => Sys2Proof.Machine.execCrossingPointerMismatch t crossing s
  | .faultPathFailure t path src => Sys2Proof.Machine.execFaultPathFailure t path src s
  | .faultPathAssert t path src => Sys2Proof.Machine.execFaultPathAssert t path src s
  | .reactionTimerExpire t event => Sys2Proof.Machine.execReactionTimerExpire t event s
  | .acknowledgeEvent t p tag val => Sys2Proof.Machine.execAcknowledgeEvent t p tag val s
  | .acknowledgeClass t p tag val => Sys2Proof.Machine.execAcknowledgeClass t p tag val s
  | .serviceCoreWatchdog t => Sys2Proof.Machine.execServiceCoreWatchdog t s
  | .serviceCoreRestartComplete t loadOk => Sys2Proof.Machine.execServiceCoreRestartComplete t loadOk s
  | .controllerWatchdog t ctl => Sys2Proof.Machine.execControllerWatchdog t ctl s
  | .controllerLoadCheck t ctl ok => Sys2Proof.Machine.execControllerLoadCheck t ctl ok s
  | .fltNPulseEnd t => Sys2Proof.Machine.execFltNPulseEnd t s
  | .fltNHold t p tag val => Sys2Proof.Machine.execFltNHold t p tag val s
  | .tailWrite t ch v => Sys2Proof.Machine.execTailWrite t ch v s
  | .enWrite t ch on => Sys2Proof.Machine.execEnWrite t ch on s
  | .resume t ch => Sys2Proof.Machine.execResume t ch s
  | .chCfg t ch reg v => Sys2Proof.Machine.execChCfg t ch reg v s
  | .registerAccessInvalid t offset size isWrite => Sys2Proof.Machine.execRegisterAccessInvalid t offset size isWrite s
  | .descriptorFetch t engine desc => Sys2Proof.Machine.execDescriptorFetch t engine desc s
  | .descriptorComplete t engine err => Sys2Proof.Machine.execDescriptorComplete t engine err s
  | .dmaPunt t engine => Sys2Proof.Machine.execDmaPunt t engine s
  | .dmaInject t engine data => Sys2Proof.Machine.execDmaInject t engine data s
  | .dmaTimestamp t engine => Sys2Proof.Machine.execDmaTimestamp t engine s
  | .dmaTableRecords t engine data => Sys2Proof.Machine.execDmaTableRecords t engine data s
  | .dmaTableRead t engine => Sys2Proof.Machine.execDmaTableRead t engine s
  | .dmaBucketRead t engine => Sys2Proof.Machine.execDmaBucketRead t engine s
  | .dmaBucketWrite t engine data => Sys2Proof.Machine.execDmaBucketWrite t engine data s
  | .dmaCounterRead t engine => Sys2Proof.Machine.execDmaCounterRead t engine s
  | .dmaCounterWrite t engine data => Sys2Proof.Machine.execDmaCounterWrite t engine data s
  | .dmaStatsCounters t engine => Sys2Proof.Machine.execDmaStatsCounters t engine s
  | .dmaStatsSamples t engine => Sys2Proof.Machine.execDmaStatsSamples t engine s
  | .dmaLockRetry t engine => Sys2Proof.Machine.execDmaLockRetry t engine s
  | .transferWithdrawn t engine => Sys2Proof.Machine.execTransferWithdrawn t engine s
  | .timestampDescriptorFlush t engine => Sys2Proof.Machine.execTimestampDescriptorFlush t engine s
  | .pcieHotReset t linkDown => Sys2Proof.Machine.execPcieHotReset t linkDown s
  | .pcieConfigRequest t req => Sys2Proof.Machine.execPcieConfigRequest t req s
  | .userWindowRead t offset len => Sys2Proof.Machine.execUserWindowRead t offset len s
  | .counterSnapshot t => Sys2Proof.Machine.execCounterSnapshot t s
  | .clearCounters t p tag val => Sys2Proof.Machine.execClearCounters t p tag val s
  | .cartouche t p tag val => Sys2Proof.Machine.execCartouche t p tag val s
  | .chunk t p tag val => Sys2Proof.Machine.execChunk t p tag val s
  | .verify t p tag val => Sys2Proof.Machine.execVerify t p tag val s
  | .activationTime t p tag val => Sys2Proof.Machine.execActivationTime t p tag val s
  | .closeSession t p tag val => Sys2Proof.Machine.execCloseSession t p tag val s
  | .confirm t p tag val => Sys2Proof.Machine.execConfirm t p tag val s
  | .revert t p tag val => Sys2Proof.Machine.execRevert t p tag val s
  | .updateActivate t => Sys2Proof.Machine.execUpdateActivate t s
  | .activationLoadsComplete t ok => Sys2Proof.Machine.execActivationLoadsComplete t ok s
  | .trialExpire t => Sys2Proof.Machine.execTrialExpire t s
  | .rstNLow t held => Sys2Proof.Machine.execRstNLow t held s
  | .wrstNLow t held => Sys2Proof.Machine.execWrstNLow t held s
  | .resetPinRise t pin found => Sys2Proof.Machine.execResetPinRise t pin found s
  | .pwrgdFall t copiesDone copyCut burnCut => Sys2Proof.Machine.execPwrgdFall t copiesDone copyCut burnCut s
  | .pwrgdRise t found => Sys2Proof.Machine.execPwrgdRise t found s
  | .resetWorkComplete t found => Sys2Proof.Machine.execResetWorkComplete t found s
  | .serviceCoreStart t => Sys2Proof.Machine.execServiceCoreStart t s
  | .initComplete e => Sys2Proof.Machine.execInitComplete e s
  | .deviceRecordRewrite t => Sys2Proof.Machine.execDeviceRecordRewrite t s
  | .startCmd t p tag => Sys2Proof.Machine.execStartCmd t p tag s
  | .stopCmd t p tag => Sys2Proof.Machine.execStopCmd t p tag s
  | .maintCmd t p tag => Sys2Proof.Machine.execMaintCmd t p tag s
  | .leaveCmd t p tag => Sys2Proof.Machine.execLeaveCmd t p tag s
  | .warmResetCommand t p tag => Sys2Proof.Machine.execWarmResetCommand t p tag s
  | .coldResetCommand t p tag => Sys2Proof.Machine.execColdResetCommand t p tag s
  | .commandedResetBegin t found => Sys2Proof.Machine.execCommandedResetBegin t found s
  | .chooseSource t p tag val => Sys2Proof.Machine.execChooseSource t p tag val s
  | .clearRecord t p tag val => Sys2Proof.Machine.execClearRecord t p tag val s
  | .sidebandSafeValueClear t die => Sys2Proof.Machine.execSidebandSafeValueClear t die s
  | .laneLock t lane => Sys2Proof.Machine.execLaneLock t lane s
  | .checkerLock t lane bitsChecked errors => Sys2Proof.Machine.execCheckerLock t lane bitsChecked errors s
  | .faultPathRecover t path => Sys2Proof.Machine.execFaultPathRecover t path s
  | .learnedTableTick t tbl => Sys2Proof.Machine.execLearnedTableTick t tbl s
  | .pairClaimExpire t unit => Sys2Proof.Machine.execPairClaimExpire t unit s
  | .ppsOutPulseEnd t => Sys2Proof.Machine.execPpsOutPulseEnd t s
  | .dieClockStop t die => Sys2Proof.Machine.execDieClockStop t die s
  | .testAccessInstruction t instr => Sys2Proof.Machine.execTestAccessInstruction t instr s

end Sys2Proof.Machine
end

