-- ==== Sys2Proof/Safety.lean ====
section
/-! DEFINITION. What claims about the part speak of: a part in which nothing that an earlier command called for is left to
be done, what every command leaves true, a path whose next request is served at once, and the states that a WRITE leaves
when it is done at once and when its answer waits for flash. -/

namespace Sys2Proof.Machine

/-- Nothing is left that would follow from an earlier command (R473, R495, R542, R552, R561, R589, R591): no containment
waits, no recovered fault path, no held FLT_N, no punt and no timestamp record wait for a ring, the part is unpaired, a
halted part holds no transaction, no fabric lane has left or reached USABLE unseen (R393), and no child holds a deficit that
it would lose (R318). -/
abbrev State.Calm (s : State) : Prop :=
  s.faults.todo = [] ∧ (∀ p ∈ s.faults.paths, (p.recovered && p.acked) = false) ∧ s.faults.laneHolds = [] ∧
    s.faults.fltHeld = false ∧ (∀ n ∈ s.sched.nodes, n.deficit = 0) ∧
    s.flow.punts = [] ∧ s.lines.stamps = [] ∧ s.pair.st = .unpaired ∧ (s.dev.st = .halt → s.tx.work = []) ∧
    (∀ l ∈ s.lanes, l.num < 160 → if (s.lane l.num).up then s.laneState l.num ≠ 1 else s.laneState l.num ≠ 0)

/-- What every command leaves true: the device state in service is the one that the pair state and the degraded mark call
for (R481, R550, R655); while claim cells are sent, the last one sent carries the present claim, pair state and flags (R473);
a member in SYNC has not reached its sync end (R495); timestamp records wait only while a channel takes them (R591). -/
abbrev State.Followed (s : State) : Prop :=
  (s.dev.st.inService = true → s.dev.st = s.pairDev s.degraded) ∧
    (s.claimsRun = true → s.pair.lastCell = s.claimHead) ∧
    (s.pair.st = .sync → s.pair.syncEnd ≠ some s.tx.commit) ∧
    (s.lines.stamps ≠ [] → s.stampChan ≠ none)

/-! ### Dictionary requests -/

/-- The group of a path in the rotation (R42). -/
def turnGroup (p : Path) : Nat :=
  match p with
  | .i3c => 0
  | .mailbox => 1
  | .pop _ => 2

/-- The turn comes to a path once it has a request: the groups before its own have nothing to serve, and neither have the
POP slots before its own (R42). -/
def State.turnTo (s : State) (p : Path) : Bool :=
  (List.range ((turnGroup p + 4 - s.dict.rot % 4) % 4)).all (fun k => (s.groupTurn ((s.dict.rot + k) % 4)).isNone) &&
    (match p with
     | .pop i => (List.range ((i.val + 4 - s.dict.rotPop % 4) % 4)).all
         (fun k => !s.headReady (.pop (Fin.ofNat 4 (s.dict.rotPop + k))))
     | _ => true)

/-- A path takes its next request and serves it at once (R42 to R49, R58, R59, R617): the service core works, the path is
open, not ignored and holds no request, no answer is owed on any path, the turn comes to it, and the update session's lock
does not run out. -/
abbrev State.Ready (s : State) (p : Path) : Prop :=
  s.serves = true ∧ s.pathIgnored p = false ∧ s.pathOpen p = true ∧ s.pathQueue p = [] ∧
    (p = .mailbox → s.memOk 0x2000 = true ∧ s.dict.mbx.busy = false) ∧ s.dict.deferred = [] ∧ s.tx.waits = [] ∧
    s.turnTo p = true ∧
    (s.update.sess.holder = 0 ∨ s.clock.now < s.update.sess.lastReq + 60 * Config.sec)

/-- The state in which a request of a path is served: the turn goes past the path's group and, for POP, past its slot
(R42), and the mailbox reads BUSY from its GO on (R49). -/
def State.begun (s : State) (p : Path) : State :=
  match p with
  | .i3c => { s with dict := { s.dict with rot := 1 } }
  | .mailbox => { s with dict := { s.dict with rot := 2, mbx := { s.dict.mbx with busy := true, req := none } } }
  | .pop i => { s with dict := { s.dict with rot := 3, rotPop := (i.val + 1) % 4 } }

/-- A request as a path brings it, well formed and not refused by its path. -/
def State.reqOn (s : State) (p : Path) (op tag idx sub : Nat) (val : List Byte) : Req :=
  s.mkReq p 0 op tag idx sub val none none

/-- A WRITE done at once (chapter 2): its effect, its response, what follows from them. -/
def State.writeDone (s : State) (t : Tick) (p : Path) (tag idx sub : Nat) (val : List Byte) (f : State → State) : State :=
  ((f ((s.tick t).begun p)).respond ((s.tick t).reqOn p 2 tag idx sub val) 0 [] false).settle

/-- A WRITE in effect whose answer, a status and a value, waits for flash (R38): it stands with the value before and the
value written in the writes that wait. -/
def State.writeLater (s : State) (t : Tick) (p : Path) (tag idx sub : Nat) (val : List Byte) (counted : Bool)
    (answer : List Byte) (f : State → State) : State :=
  let r := (s.tick t).reqOn p 2 tag idx sub val
  (((f ((s.tick t).begun p)).defer r (((s.tick t).begun p).valueBytes idx sub) val counted answer).leaveLate r).settle

/-- A WRITE passes the checks of R702 on an object: its access and role, the value, the device state, the object's own
checks of the state. -/
def State.admits (s : State) (p : Path) (idx sub : Nat) (val : List Byte) : Bool :=
  match objDesc idx sub with
  | none => false
  | some d => decide (d.acc ≠ 1) && decide (d.role ≤ s.roleOf p) && (s.valueFault d idx sub val).isNone &&
      (s.devFault d idx sub).isNone && (s.stateFault idx sub (leNat val)).isNone

/-- What a dictionary row asks of its path: instant, path, tag, operation, index, sub-index, value. -/
structure WireReq where
  t : Tick
  p : Path
  tag : Nat
  op : Nat
  idx : Nat
  sub : Nat
  val : List Byte
  deriving DecidableEq, Repr

/-- The request that a dictionary row makes of its path (chapter 2): READ to NOP, and the rows that write one object. -/
def rowRequest (i : Instr) : Option WireReq :=
  match i with
  | .read t p tag idx sub => some ⟨t, p, tag, 1, idx, sub, []⟩
  | .write t p tag idx sub val => some ⟨t, p, tag, 2, idx, sub, val⟩
  | .describe t p tag idx sub => some ⟨t, p, tag, 3, idx, sub, []⟩
  | .nop t p tag idx sub => some ⟨t, p, tag, 4, idx, sub, []⟩
  | .popKeyWrite t p tag role val => some ⟨t, p, tag, 2, 0x2021, role.val + 1, val⟩
  | .steppedOperationStart t p tag idx sub val => some ⟨t, p, tag, 2, idx, sub, val⟩
  | .cancel t p tag val => some ⟨t, p, tag, 2, 0xC000, 2, val⟩
  | .acknowledge t p tag val => some ⟨t, p, tag, 2, 0xC000, 3, val⟩
  | .antiRollbackFloorWrite t p tag val => some ⟨t, p, tag, 2, 0x1200, 1, val⟩
  | .imageKeyWrite t p tag slot val => some ⟨t, p, tag, 2, 0x1201 + slot.val, 1, val⟩
  | .unitNumberWrite t p tag val => some ⟨t, p, tag, 2, 0x1203, 1, val⟩
  | .surveyBaselineRetake t p tag val => some ⟨t, p, tag, 2, 0x1204, 1, val⟩
  | .debugLockWrite t p tag val => some ⟨t, p, tag, 2, 0x1205, 1, val⟩
  | .learnedTableSizeWrite t p tag tbl sub val => some ⟨t, p, tag, 2, 0x4610 + tbl.val, sub, val⟩
  | .parserProfileWrite t p tag profile sub val => some ⟨t, p, tag, 2, 0x4110 + profile.val, sub, val⟩
  | .keyTemplateWrite t p tag template val => some ⟨t, p, tag, 2, 0x4180 + template.val, 1, val⟩
  | .classificationWidthWrite t p tag tbl val => some ⟨t, p, tag, 2, 0x4460 + tbl.val, 9, val⟩
  | .txnOpen t p tag txn => some ⟨t, p, tag, 2, 0x4501, 1, txnRecord 1 false txn (zeros 8) []⟩
  | .txnWrite t p tag txn keystone tabref payload =>
      some ⟨t, p, tag, 2, 0x4501, 1, txnRecord 2 keystone txn tabref payload⟩
  | .txnProgram t p tag txn keystone dir offset payload =>
      some ⟨t, p, tag, 2, 0x4501, 1, txnRecord 3 keystone txn ([byteOf dir, 0] ++ beBytes 4 offset) payload⟩
  | .txnGraticule t p tag txn keystone port part first payload =>
      some ⟨t, p, tag, 2, 0x4501, 1, txnRecord 4 keystone txn ([byteOf port, byteOf part] ++ beBytes 2 first) payload⟩
  | .txnKeystone t p tag txn => some ⟨t, p, tag, 2, 0x4501, 1, txnRecord 5 false txn (zeros 8) []⟩
  | .txnAbandon t p tag txn => some ⟨t, p, tag, 2, 0x4501, 1, txnRecord 6 false txn (zeros 8) []⟩
  | .partitionBoundaryWrite t p tag val => some ⟨t, p, tag, 2, 0x5000, 2, val⟩
  | .defaultMapApply t p tag val => some ⟨t, p, tag, 2, 0x5101, 1, val⟩
  | .nodeRecordWrite t p tag queue val =>
      some ⟨t, p, tag, 2, (if queue then 0x5100 else 0x5200), (if queue then 2 else 3), val⟩
  | .outletWrite t p tag val => some ⟨t, p, tag, 2, 0x5201, 2, val⟩
  | .retireCmd t p tag lane val => some ⟨t, p, tag, 2, 0x6020 + lane.val, 6, val⟩
  | .portModeWrite t p tag port val => some ⟨t, p, tag, 2, 0x3000 + port.val, 1, val⟩
  | .phaseAdjustment t p tag val => some ⟨t, p, tag, 2, 0x2100, 3, val⟩
  | .timeStep t p tag val => some ⟨t, p, tag, 2, 0x2100, 6, val⟩
  | .loopSet t p tag val => some ⟨t, p, tag, 2, 0x3201, 5, val⟩
  | .generator t p tag val => some ⟨t, p, tag, 2, 0x3201, 6, val⟩
  | .checker t p tag val => some ⟨t, p, tag, 2, 0x3201, 7, val⟩
  | .clearChecker t p tag val => some ⟨t, p, tag, 2, 0x3201, 0xB, val⟩
  | .testMode t p tag lane val => some ⟨t, p, tag, 2, laneObj lane.val, 3, val⟩
  | .transmitSleep t p tag val => some ⟨t, p, tag, 2, 0x3201, 0xC, val⟩
  | .receiveSleep t p tag val => some ⟨t, p, tag, 2, 0x3201, 0xD, val⟩
  | .pairingEnableWrite t p tag val => some ⟨t, p, tag, 2, 0x6800, 1, val⟩
  | .takeOverCmd t p tag => some ⟨t, p, tag, 2, 0x6800, 0xB, [1]⟩
  | .handoverCmd t p tag => some ⟨t, p, tag, 2, 0x6800, 0xB, [2]⟩
  | .resyncCmd t p tag => some ⟨t, p, tag, 2, 0x6800, 0xB, [3]⟩
  | .isolateCmd t p tag => some ⟨t, p, tag, 2, 0x6800, 0xB, [4]⟩
  | .streamRecordWrite t p tag val => some ⟨t, p, tag, 2, 0x6900, 2, val⟩
  | .pipelineFloorWrite t p tag val => some ⟨t, p, tag, 2, 0x7200, 1, val⟩
  | .acknowledgeEvent t p tag val => some ⟨t, p, tag, 2, 0x8000, 3, val⟩
  | .acknowledgeClass t p tag val => some ⟨t, p, tag, 2, 0x8000, 4, val⟩
  | .fltNHold t p tag val => some ⟨t, p, tag, 2, 0x8200, 2, val⟩
  | .clearCounters t p tag val => some ⟨t, p, tag, 2, 0xA000, 3, val⟩
  | .cartouche t p tag val => some ⟨t, p, tag, 2, 0x9000, 1, val⟩
  | .chunk t p tag val => some ⟨t, p, tag, 2, 0x9000, 2, val⟩
  | .verify t p tag val => some ⟨t, p, tag, 2, 0x9000, 3, val⟩
  | .activationTime t p tag val => some ⟨t, p, tag, 2, 0x9000, 4, val⟩
  | .closeSession t p tag val => some ⟨t, p, tag, 2, 0x9000, 5, val⟩
  | .confirm t p tag val => some ⟨t, p, tag, 2, 0x9000, 6, val⟩
  | .revert t p tag val => some ⟨t, p, tag, 2, 0x9000, 7, val⟩
  | .startCmd t p tag => some ⟨t, p, tag, 2, 0x1100, 2, [1]⟩
  | .stopCmd t p tag => some ⟨t, p, tag, 2, 0x1100, 2, [2]⟩
  | .maintCmd t p tag => some ⟨t, p, tag, 2, 0x1100, 2, [3]⟩
  | .leaveCmd t p tag => some ⟨t, p, tag, 2, 0x1100, 2, [4]⟩
  | .warmResetCommand t p tag => some ⟨t, p, tag, 2, 0x1100, 2, [5]⟩
  | .coldResetCommand t p tag => some ⟨t, p, tag, 2, 0x1100, 2, [6]⟩
  | .chooseSource t p tag val => some ⟨t, p, tag, 2, 0x1300, 7, val⟩
  | .clearRecord t p tag val => some ⟨t, p, tag, 2, 0x1300, 9, val⟩
  | _ => none

/-! ### POP datagrams and stage operations -/

/-- The datagram of a source that the management port takes, before its type is looked at: the part serves its paths, the
source's IP family is enabled, it is not ignored, and the ceiling is not passed (R45, R61, R62). -/
abbrev TakesDatagram (s : State) (src : Peer) : Prop :=
  s.pathsLive = true ∧ s.popAddr src.ip = true ∧ s.ignores src.ip = false ∧ s.popRate.1 = false

/-- The form that every POP datagram has, and its type (R51, R52). -/
abbrev PopForm (b : List Byte) (ty : Nat) : Prop :=
  44 ≤ b.length ∧ b.length ≤ 1472 ∧ b.take 3 = [0x50, 0x4F, 1] ∧ beAt b 3 1 = ty

/-- The control fields of a stage operation (R94, R95). -/
def stageCtl (i : Instr) : Option OpCtl :=
  match i with
  | .mov o _ _ => some o
  | .set_ o _ _ => some o
  | .add o _ _ _ => some o
  | .sub o _ _ _ => some o
  | .and_ o _ _ _ => some o
  | .or_ o _ _ _ => some o
  | .xor_ o _ _ _ => some o
  | .shl o _ _ _ => some o
  | .shr o _ _ _ => some o
  | .min_ o _ _ _ => some o
  | .max_ o _ _ _ => some o
  | .ext o _ _ _ _ => some o
  | .ins o _ _ _ _ => some o
  | .cmp o _ _ _ _ => some o
  | .hash o _ _ _ => some o
  | .valid o _ _ => some o
  | .pushHdr o _ => some o
  | .popHdr o _ => some o
  | .csum o _ => some o
  | .count o _ _ => some o
  | .meter o _ _ => some o
  | .select o _ _ _ => some o
  | .learn o _ _ => some o
  | .fwd o _ => some o
  | .fwdm o _ => some o
  | .dropReq o => some o
  | .recirc o => some o
  | .punt o _ _ => some o
  | .copy o _ _ => some o
  | .mirror o _ => some o
  | .stamp o _ => some o
  | .br o _ => some o
  | .brc o _ _ => some o
  | .end_ o => some o
  | _ => none

/-- The FE die works and a stage operation's context is at work in its bundle: `c` is the context as the operation finds it
(R93, R94, R551). -/
abbrev State.OpEnters (s : State) (o : OpCtl) (c : Ctx) : Prop :=
  s.faults.haltFe = false ∧ (s.flow.ctx o.ctx).bind (fun x => x.enterBundle o.bundle.val) = some c

end Sys2Proof.Machine
end

