-- ==== Sys2Proof/Certificates/Slice0/Obligations.lean ====
section
/-! DEFINITION. The statements for the provers, in the order of the manual's chapters. -/

open Sys2Proof Sys2Proof.Machine

/-! ### The machine as a whole -/

/-- A step takes the command at the front of the queue and runs it on the state with the queue's rest; on an empty queue the
block idles (log entry 28). -/
def Obligations.StepRunsTheFrontCommand : Prop :=
  (∀ (c : Instr) (rest : List Instr) (s : State), s.pending = c :: rest → step s = exec c { s with pending := rest }) ∧
    (∀ s : State, s.pending = [] → step s = .next s)

/-- Every step keeps what every command leaves true: the device state that the pair state and the degraded mark call for
(R481, R550, R655), the claim cell last sent (R473), the end of SYNC (R495), the timestamp records (R591). -/
def Obligations.StepKeepsTheFollowedStates : Prop :=
  ∀ s s' : State, s.Followed → step s = .next s' → s'.Followed

/-- The state after reset satisfies the invariant that every step keeps. -/
def Obligations.ResetIsFollowed : Prop :=
  State.reset.Followed

/-- No command of the part stops it: misuse is answered by abort codes, counters and events. -/
def Obligations.NoCommandStopsThePart : Prop :=
  ∀ (i : Instr) (s : State), ∃ s', exec i s = .next s'

/-- After reset the part is in BOOT, TIME is zero, every object that is a setting or a counter reads its Default (R36, R37),
the commit number is 0, no transaction, event, lock, session, cell or port is held, and no command waits. The part after
reset is a new one (log entries 3 and 26). -/
def Obligations.ResetLeavesDefaults : Prop :=
  State.reset.dev.st = .boot ∧ State.reset.time80 = 0 ∧
    (∀ idx sub inst : Nat, State.reset.objI idx sub inst = objDfltI idx sub inst) ∧
    State.reset.tx.commit = 0 ∧ State.reset.tx.journal = [] ∧ State.reset.faults.standing = [] ∧
    State.reset.faults.queue = [] ∧ State.reset.tables.locks = [] ∧ State.reset.buf.cells = [] ∧
    (∀ p : Nat, (State.reset.port p).link = 0) ∧ State.reset.dict.pop.sess = [none, none, none, none] ∧
    State.reset.update.sess.st = 0 ∧ State.reset.pair.st = .unpaired ∧ State.reset.pending = []

/-! ### Time (R7, R450) -/

/-- TIME_SECOND_CARRY and SLEW_COMPLETE: with no adjustment the clock of a calm part carries into the next second when a whole
second has run; a phase adjustment that the slew limit lets run out reads zero afterwards (R7, R450). Says of each of
these that it answers the next state given, under conditions on the state and the operands alone: slewComplete,
timeSecondCarry. -/
def Obligations.TimeCarriesAndSlewEnds : Prop :=
  (∀ (s : State) (t : Tick), s.Calm → s.clock.now < t → s.freqAdj = 0 → s.clock.phase = 0 →
      1000000000 * Config.timeFine ≤ s.clock.sub + (t - s.clock.now) * Config.timeUnit →
      s.clock.sub + (t - s.clock.now) * Config.timeUnit < 2 * (1000000000 * Config.timeFine) →
      ∃ u, exec (.timeSecondCarry t) s = .next u ∧ u.clock.now = t ∧ u.clock.sec = (s.clock.sec + 1) % 2 ^ 48 ∧
        u.clock.sub = s.clock.sub + (t - s.clock.now) * Config.timeUnit - 1000000000 * Config.timeFine ∧
        u.clock.step = s.clock.step ∧ u.objs = s.objs ∧ u.outbox = s.outbox) ∧
    (∀ (s : State) (t : Tick), s.Calm → s.clock.now < t →
      s.clock.phase.natAbs ≤ (t - s.clock.now) * s.obj 0x2100 4 * 1024 →
      ∃ u, exec (.slewComplete t) s = .next u ∧ u.clock.now = t ∧ u.clock.phase = 0 ∧ u.objs = s.objs ∧ u.outbox = s.outbox)

/-! ### Requests on a path (chapter 2) -/

/-- Each of the rows that make one dictionary request is served at once on a path that is ready, with the requester and the
role of the path (R33, R34, R42 to R50, R58, R59); a chunk is when no write of the device record is pending (R621). -/
def Obligations.ReadyPathServesAtOnce : Prop :=
  ∀ (i : Instr) (w : WireReq) (s : State), rowRequest i = some w → (s.tick w.t).Ready w.p →
    (w.op = 2 → w.idx % 65536 = 0x9000 → w.sub % 256 = 2 → s.record.dirty = false) →
    exec i s = .next ((((s.tick w.t).begun w.p).serve ((s.tick w.t).reqOn w.p w.op w.tag w.idx w.sub w.val)).settle)

/-- READ answers a readable object's value, DESCRIBE its row, NOP of a defined object nothing; each is done (chapter 2, R702).
Says of each of these that it answers the next state given, under conditions on the state and the operands alone: read,
describe, nop. -/
def Obligations.ReadDescribeNopAreAnswered : Prop :=
  ∀ (s : State) (t : Tick) (p : Path) (tag idx sub : Nat), idx < 65536 → sub < 256 → (s.tick t).Ready p →
    let u := (s.tick t).begun p
    let r (op : Nat) := (s.tick t).reqOn p op tag idx sub []
    ∀ d, objDesc idx sub = some d → (objTop idx).isSome = true →
      exec (.nop t p tag idx sub) s = .next (((u.noteHolder (r 4)).respond (r 4) 0 [] false).settle) ∧
        exec (.describe t p tag idx sub) s = .next (((u.noteHolder (r 3)).respond (r 3) 0 (describe d) false).settle) ∧
        (d.acc ≠ 3 → exec (.read t p tag idx sub) s =
          .next (((u.noteHolder (r 1)).respond (r 1) 0 ((u.noteHolder (r 1)).valueBytes idx sub) false).settle))

/-- WRITE of an object that is neither counted, persistent, a transaction record, a session record nor a journal command: when
every check of R702 passes it has its object's effect and is done; an object without an effect of its own takes the value
(R32, R702). Says of each of these that it answers the next state given, under conditions on the state and the operands
alone: write. -/
def Obligations.WriteTakesEffectAndIsDone : Prop :=
  ∀ (s : State) (t : Tick) (p : Path) (tag idx sub : Nat) (val : List Byte) (d : ObjDesc),
    idx < 65536 → sub < 256 → (s.tick t).Ready p → objDesc idx sub = some d → (objTop idx).isSome = true → d.acc ≠ 5 →
    d.cls ≠ .persistent → idx ≠ 0x4501 → idx ≠ 0x9000 → idx ≠ 0xC000 →
    ((s.tick t).begun p).admits p idx sub val = true →
    let u := (s.tick t).begun p
    let w := u.applyWrite ((s.tick t).requesterOf p) idx sub (leNat val)
    (w.afterFault idx sub = none → exec (.write t p tag idx sub val) s = .next (s.writeDone t p tag idx sub val (fun _ => w))) ∧
      (0x1310 = idx ∨ 0x4000 ≤ idx ∧ idx < 0x4600 ∨ 0x5310 ≤ idx ∧ idx < 0x6000 ∨ 0x7000 ≤ idx ∧ idx < 0x7200 →
        w = u.setObjI idx sub (u.inst idx sub) (leNat val))

/-- The checks of R702 in their order: an object that is not writable, a role below the object's, a value of another length, a
device state that does not allow the write. The abort is counted and answered, nothing else changes. -/
def Obligations.WriteAbortsInOrder : Prop :=
  ∀ (s : State) (t : Tick) (p : Path) (tag idx sub : Nat) (val : List Byte) (d : ObjDesc),
    idx < 65536 → sub < 256 → (s.tick t).Ready p → objDesc idx sub = some d → (objTop idx).isSome = true → d.acc ≠ 5 →
    idx ≠ 0x4501 → idx ≠ 0x9000 → idx ≠ 0xC000 →
    let u := (s.tick t).begun p
    let aborts (code : Nat) : Prop := exec (.write t p tag idx sub val) s =
      .next (((u.bump 0x2030 0xD).respond ((s.tick t).reqOn p 2 tag idx sub val) 1 (leBytes 4 code) false).settle)
    (d.acc = 1 → aborts (abortCode 2 1 0)) ∧
      (d.acc ≠ 1 → u.roleOf p < d.role → aborts (abortCode 2 3 d.role)) ∧
      (d.acc ≠ 1 → d.role ≤ u.roleOf p → val.length ≠ d.len → aborts (abortCode 3 1 d.len)) ∧
      (d.acc ≠ 1 → d.role ≤ u.roleOf p → u.valueFault d idx sub val = none → u.dev.st = .halt →
        ¬ (idx = 0x1100 ∧ sub = 2) → aborts (abortCode 4 1 9))

/-- A request to an index or a sub-index that the manual does not define is answered with abort class 0x01 and has no other
effect (R4): READ, WRITE, DESCRIBE and NOP. It is counted among the aborts, and one of the lock's holder to 0x9000 still
counts as its request (R617). -/
def Obligations.UndefinedObjectIsAborted : Prop :=
  ∀ (s : State) (t : Tick) (p : Path) (tag idx sub : Nat) (val : List Byte), idx < 65536 → sub < 256 → (s.tick t).Ready p →
    let u := (s.tick t).begun p
    let aborted (op : Nat) (v : List Byte) (code : Nat) : State :=
      (((u.noteHolder ((s.tick t).reqOn p op tag idx sub v)).bump 0x2030 0xD).respond ((s.tick t).reqOn p op tag idx sub v) 1
        (leBytes 4 code) false).settle
    (objTop idx = none → exec (.read t p tag idx sub) s = .next (aborted 1 [] (abortCode 1 1 idx)) ∧
        exec (.write t p tag idx sub val) s = .next (aborted 2 val (abortCode 1 1 idx)) ∧
        exec (.describe t p tag idx sub) s = .next (aborted 3 [] (abortCode 1 1 idx)) ∧
        exec (.nop t p tag idx sub) s = .next (aborted 4 [] (abortCode 1 1 idx))) ∧
      ((objTop idx).isSome = true → objDesc idx sub = none →
        exec (.read t p tag idx sub) s = .next (aborted 1 [] (abortCode 1 2 sub)) ∧
        exec (.write t p tag idx sub val) s = .next (aborted 2 val (abortCode 1 2 sub)) ∧
        exec (.describe t p tag idx sub) s = .next (aborted 3 [] (abortCode 1 2 sub)) ∧
        exec (.nop t p tag idx sub) s = .next (aborted 4 [] (abortCode 1 2 sub)))

/-- REQUEST_SERVICE serves the group whose turn it is, skipping those with nothing to serve, and gives the turn to the next
(R42): a request at the head of the I3C queue, of the mailbox or of a POP session, or a step of a stepped operation;
within POP and among the operations the turn goes on from the last one served. With nothing to serve it does nothing.
PERSISTENT_WRITE_COMMIT: the oldest write in effect is entered in the change record, the device record is rewritten at the
next generation in all three copies, and the answer is sent (R38, R644). Says of each of these that it answers the next
state given, under conditions on the state and the operands alone: requestService, persistentWriteCommit. -/
def Obligations.RequestsAreServedAndWritesCommitted : Prop :=
  (∀ (s : State) (t : Tick), (s.tick t).serves = true →
    (∀ r, (s.tick t).blocked r = false →
      (∀ rest, s.dict.i3c.queue = r :: rest → s.dict.rot % 4 = 0 →
        exec (.requestService t) s = .next (({ s.tick t with
          dict := { s.dict with rot := 1, i3c := { s.dict.i3c with queue := rest } } }.serve r).settle)) ∧
      (s.dict.mbx.req = some r → s.dict.rot % 4 = 1 →
        exec (.requestService t) s = .next (({ s.tick t with
          dict := { s.dict with rot := 2, mbx := { s.dict.mbx with req := none } } }.serve r).settle)) ∧
      (s.dict.mbx.req = some r → s.dict.rot % 4 = 0 → s.dict.i3c.queue = [] →
        exec (.requestService t) s = .next (({ s.tick t with
          dict := { s.dict with rot := 2, mbx := { s.dict.mbx with req := none } } }.serve r).settle)) ∧
      (∀ (i : Fin 4) (x : PopSess) (rest : List Req), s.popSess i = some x → x.queue = r :: rest → s.dict.rot % 4 = 2 →
        s.dict.rotPop % 4 = i → exec (.requestService t) s = .next (((({ s.tick t with
          dict := { s.dict with rot := 3, rotPop := (i.val + 1) % 4 } } : State).setSess i { x with queue := rest }).serve
            r).settle))) ∧
    (∀ i, s.dict.rot % 4 = 3 → s.dict.rotStep % 12 = i → s.stepReady i = true →
      exec (.requestService t) s = .next ((({ s.tick t with
        dict := { s.dict with rot := 0, rotStep := (i + 1) % 12 } } : State).stepOnce i none).settle)) ∧
    ((s.tick t).nextTurn = none → exec (.requestService t) s = .next ((s.tick t).settle))) ∧
  (∀ (s : State) (t : Tick) (d : Deferred) (rest : List Deferred) (st : Byte) (v : List Byte),
    (s.tick t).serves = true → s.dict.deferred = d :: rest → d.answer = st :: v → d.idx ≠ 0x2021 →
    s.record.divergent = false →
    let m := s.record.mem.addEntry (fun n => changeEntry n d.at_ d.req.requester d.req.role d.req.label d.idx d.sub d.counted
      d.oldVal d.newVal)
    let c : RecCopy := ⟨false, s.record.gen + 1, (s.tick t).time80, m⟩
    exec (.persistentWriteCommit t) s = .next (({ s.tick t with
      dict := { s.dict with deferred := rest }
      record := { s.record with mem := m, gen := s.record.gen + 1, dirty := false, copies := [c, c, c] } }.respond
        d.req st.toNat v true).settle))

/-! ### Counted objects (R72 to R76, R613, R614, R699) -/

/-- A counted write that passes its checks burns its value and spends its slots; its answer waits for the change record (R72):
the floor, the image keys, the unit number, the debug lock. SURVEY_BASELINE_RETAKE burns a slot and starts its stepped
operation of 294 steps in the lowest free slot of host software, at the next handle; the answer, which names the handle,
waits for flash (R514, R699). Says of each of these that it answers the next state given, under conditions on the state
and the operands alone: antiRollbackFloorWrite, imageKeyWrite, unitNumberWrite, surveyBaselineRetake, debugLockWrite. -/
def Obligations.CountedWritesBurnOrRetake : Prop :=
  (∀ (s : State) (t : Tick) (p : Path) (tag : Nat) (val : List Byte), (s.tick t).Ready p → s.record.divergent = false →
    s.dev.st ≠ .halt → 2 ≤ (s.tick t).roleOf p →
    (val.length = 1 → leNat val ≤ 128 → s.fuses.floor < leNat val → leNat val - s.fuses.floor ≤ 128 - s.fuses.floorSpent →
      leNat val ≤ beAt ((s.activeBank.map (fun b => (s.bank b).img)).getD .none).cart 16 1 →
      exec (.antiRollbackFloorWrite t p tag val) s = .next (s.writeLater t p tag 0x1200 1 val true [0] (fun u =>
        { u with fuses := { u.fuses with
            floor := leNat val, floorSpent := u.fuses.floorSpent + (leNat val - u.fuses.floor) } }))) ∧
    (val.length = 97 → keyBad val = false → leNat val ≠ s.fuses.key1 → leNat val ≠ s.fuses.key0 → s.slotVerifies 0 = false →
      s.fuses.key0Spent < 6 → exec (.imageKeyWrite t p tag 0 val) s = .next (s.writeLater t p tag 0x1201 1 val true [0]
        (fun u => { u with fuses := { u.fuses with key0 := leNat val, key0Spent := u.fuses.key0Spent + 1 } }))) ∧
    (val.length = 97 → keyBad val = false → leNat val ≠ s.fuses.key0 → leNat val ≠ s.fuses.key1 → s.slotVerifies 1 = false →
      s.fuses.key1Spent < 6 → exec (.imageKeyWrite t p tag 1 val) s = .next (s.writeLater t p tag 0x1202 1 val true [0]
        (fun u => { u with fuses := { u.fuses with key1 := leNat val, key1Spent := u.fuses.key1Spent + 1 } }))) ∧
    (val.length = 2 → leNat val ≤ 511 → leNat val ≠ s.fuses.unit → s.fuses.unitSpent < 8 → s.dev.st = .ready ∨ s.dev.st = .maint →
      exec (.unitNumberWrite t p tag val) s = .next (s.writeLater t p tag 0x1203 1 val true [0] (fun u =>
        { u with fuses := { u.fuses with unit := leNat val, unitSpent := u.fuses.unitSpent + 1 } }))) ∧
    (val = [1] → 3 ≤ (s.tick t).roleOf p → s.fuses.debugLock = false → s.fuses.debugSpent = 0 →
      exec (.debugLockWrite t p tag val) s = .next (s.writeLater t p tag 0x1205 1 val true [0] (fun u =>
        { u with fuses := { u.fuses with debugLock := true, debugSpent := 1 } })))) ∧
  (∀ (s : State) (t : Tick) (p : Path) (tag i : Nat), (s.tick t).Ready p → s.record.divergent = false → s.dev.st ≠ .halt →
    2 ≤ (s.tick t).roleOf p → s.passRuns = false → s.freeSlot false = some i → s.fuses.retakeSpent < 4 →
    exec (.surveyBaselineRetake t p tag [1]) s = .next (s.writeLater t p tag 0x1204 1 [1] true
      ([2] ++ leBytes 2 s.dict.nextHandle) (fun u => { u with
        fuses := { u.fuses with retakeSpent := u.fuses.retakeSpent + 1 }
        dict := { u.dict with
          nextHandle := nextHandle u.dict.nextHandle
          slots := u.dict.slots.set i ⟨u.dict.nextHandle, 0, 0x1204, 1, (s.tick t).requesterOf p, 0, 294, 0, 0, zeros 12, 0, false,
            baselineArg⟩ } })))

/-- Of every counted object, once the value checks of R699 are passed: a write that equals the present value spends nothing
and is answered as done (R73), after it has entered the change record (R77): at once while the device record is divergent,
with the record in flash otherwise; any other, once the state admits it, is refused with abort class 0x04, reason 0x02,
while the device record is divergent (R74), and with no slot left is answered with abort class 0x06, reason 0x01, and
leaves the value unchanged (R76). Says of each of these that it answers the next state given, under conditions on the
state and the operands alone: write. -/
def Obligations.CountedWriteEqualOrRefused : Prop :=
  ∀ (s : State) (t : Tick) (p : Path) (tag idx : Nat) (val : List Byte) (d : ObjDesc), (s.tick t).Ready p →
    0x1200 ≤ idx → idx ≤ 0x1205 → objDesc idx 1 = some d → d.role ≤ (s.tick t).roleOf p →
    ((s.tick t).begun p).valueFault d idx 1 val = none → s.countedValueFault idx (leNat val) val = none →
    let v := leNat val
    let aborts (code : Nat) : Prop := exec (.write t p tag idx 1 val) s =
      .next (((((s.tick t).begun p).bump 0x2030 0xD).respond ((s.tick t).reqOn p 2 tag idx 1 val) 1 (leBytes 4 code) false).settle)
    (s.countedEqual idx v = true →
        (s.record.divergent = false → exec (.write t p tag idx 1 val) s =
          .next (s.writeLater t p tag idx 1 val true [0] (fun u => u))) ∧
        (s.record.divergent = true → exec (.write t p tag idx 1 val) s = .next (s.writeDone t p tag idx 1 val (fun u =>
          u.logChange u.time80 ((s.tick t).requesterOf p) ((s.tick t).roleOf p) ((s.tick t).labelOf p) idx 1 true
            (u.valueBytes idx 1) val)))) ∧
      (s.countedEqual idx v = false → s.dev.st ≠ .halt → (idx = 0x1203 → s.dev.st = .ready ∨ s.dev.st = .maint) →
        (idx = 0x1204 → s.passRuns = false) →
        (s.record.divergent = true → aborts (abortCode 4 2 s.dev.st.code)) ∧
        (s.record.divergent = false → (idx = 0x1204 → (s.freeSlot false).isSome = true) → s.slotsLeft idx = 0 →
          aborts (abortCode 6 1 0)))

/-! ### I3C (R46 to R48, R704, R705) -/

/-- The CCCs that set the I3C target change nothing else: addresses, in-band interrupts, the maximum lengths, the reset
action; ENTDAA and SETDASA reach a part without a dynamic address only (R46, R47, R705). The CCCs that read from the part
answer with their octets; GETSTATUS reports and clears the protocol error; a direct unsupported CCC is NACKed and a
broadcast one ignored (R46, R704, R705). Says of each of these that it answers the next state given, under conditions on
the state and the operands alone: entdaa, setdasa, rstdaa, enec, disec, getpid, getbcr, getdcr, getstatus, getmwl, getmrl,
setmwl, setmrl, rstact, unsupportedCcc. -/
def Obligations.I3cCommandsActAndAnswer : Prop :=
  (∀ (s : State) (t : Tick), s.Calm → s.pathsLive = true →
    let becomes (i : Instr) (x : I3c) : Prop :=
      exec i s = .next ({ s.tick t with dict := { s.dict with i3c := x } }.devSync)
    (∀ a : Fin 128, s.dict.i3c.dyn = 0 → becomes (.entdaa t a) { s.dict.i3c with dyn := a.val }) ∧
      (∀ n a : Fin 128, s.dict.i3c.dyn = 0 → n.val = s.obj 0x2010 1 → becomes (.setdasa t n a) { s.dict.i3c with dyn := a.val }) ∧
      becomes (.rstdaa t) { s.dict.i3c with dyn := 0 } ∧
      becomes (.enec t) { s.dict.i3c with ibi := true } ∧
      becomes (.disec t) { s.dict.i3c with ibi := false } ∧
      (∀ n, becomes (.setmwl t n) { s.dict.i3c with mwl := min 1036 n }) ∧
      (∀ n, becomes (.setmrl t n) { s.dict.i3c with mrl := min 1036 n }) ∧
      (∀ a : Fin 256, becomes (.rstact t (some a)) { s.dict.i3c with action := a.val })) ∧
  (∀ (s : State) (t : Tick), s.Calm → s.pathsLive = true → s.dict.i3c.dyn ≠ 0 →
    let answers (i : Instr) (b : List Byte) : Prop := exec i s = .next (((s.tick t).out (.i3c b)).devSync)
    answers (.getpid t) (beBytes 6 (Config.mipiManufacturer % 2 ^ 15 * 2 ^ 33 + 0x5120 * 2 ^ 16 + 0x0A1)) ∧
      answers (.getbcr t) [0x06] ∧ answers (.getdcr t) [0x00] ∧
      answers (.getmwl t) (beBytes 2 s.dict.i3c.mwl) ∧ answers (.getmrl t) (beBytes 2 s.dict.i3c.mrl) ∧
      answers (.rstact t none) [byteOf s.dict.i3c.action] ∧
      exec (.getstatus t) s = .next (((({ s.tick t with
        dict := { s.dict with i3c := { s.dict.i3c with perr := false } } } : State).out
          (.i3c (beBytes 2 (min 15 s.dict.i3c.resp.length + 32 * flag s.dict.i3c.perr)))).devSync)) ∧
      (∀ c : Fin 256, exec (.unsupportedCcc t c true) s = .next (((s.tick t).out .nack).devSync) ∧
        exec (.unsupportedCcc t c false) s = .next ((s.tick t).devSync)))

/-- A private read returns the oldest response from its first byte not yet read, up to the maximum read length, and goes on to
the next response only after its last byte; with no response it is NACKed (R46, R47). A private write of a record joins
the I3C queue while fewer than four requests are unanswered; a fifth is aborted with class 0x08, reason 0x02, and counted
(R48, R61). The target reset pattern by the action last defined (R705): 0x01 discards the I3C requests and responses and
keeps the address, 0x02 starts a warm reset with cause 0x06 unless the part has tripped, any other action does nothing. GO
on an idle mailbox captures the buffer, sets BUSY and holds the record; GO while BUSY is 1 sets OVR and is counted; a
write of 1 clears DONE and OVR (R49, R50). Says of each of these that it answers the next state given, under conditions on
the state and the operands alone: i3cPrivateWrite, i3cPrivateRead, targetResetPattern, mbxGo, mbxStatClear. -/
def Obligations.I3cTransfersResetsAndTheMailbox : Prop :=
  (∀ (s : State) (t : Tick), s.Calm → s.pathsLive = true → s.dict.i3c.dyn ≠ 0 →
    (s.dict.i3c.resp = [] → exec (.i3cPrivateRead t) s = .next (((s.tick t).out .nack).devSync)) ∧
      (∀ r rest, s.dict.i3c.resp = r :: rest → r.length ≤ s.dict.i3c.off + s.dict.i3c.mrl →
        exec (.i3cPrivateRead t) s = .next ((({ s.tick t with
          dict := { s.dict with i3c := { s.dict.i3c with resp := rest, off := 0 } } } : State).out
            (.i3c (r.drop s.dict.i3c.off))).devSync)) ∧
      (∀ r rest, s.dict.i3c.resp = r :: rest → s.dict.i3c.off + s.dict.i3c.mrl < r.length →
        exec (.i3cPrivateRead t) s = .next ((({ s.tick t with
          dict := { s.dict with i3c := { s.dict.i3c with off := s.dict.i3c.off + s.dict.i3c.mrl } } } : State).out
            (.i3c ((r.drop s.dict.i3c.off).take s.dict.i3c.mrl))).devSync))) ∧
  (∀ (s : State) (t : Tick) (b : List Byte), s.pathsLive = true → s.dict.i3c.dyn ≠ 0 → (s.tick t).pathIgnored .i3c = false →
    b.length ≤ s.dict.i3c.mwl →
    (s.unanswered .i3c < 4 → s.Calm → exec (.i3cPrivateWrite t b true) s = .next ({ s.tick t with
      dict := { s.dict with i3c := { s.dict.i3c with
        queue := s.dict.i3c.queue ++ [(s.tick t).reqOfRecord .i3c 0 b none] } } }.devSync)) ∧
      (4 ≤ s.unanswered .i3c → exec (.i3cPrivateWrite t b true) s =
        .next ((((s.tick t).hostMis 0x2030 3 (0x1000 + s.dict.i3c.dyn)).respondAbort ((s.tick t).reqOfRecord .i3c 0 b none)
          (abortCode 8 2 4) false).settle))) ∧
  (∀ (s : State) (t : Tick) (found : Found), s.pathsLive = true →
    (s.dict.i3c.action = 1 → s.dict.deferred = [] → s.tx.waits = [] → exec (.targetResetPattern t found) s =
      .next ({ s.tick t with dict := { s.dict with i3c := { s.dict.i3c with queue := [], resp := [], off := 0 } } }.settle)) ∧
      (s.dict.i3c.action = 2 → s.faults.tripped = false → exec (.targetResetPattern t found) s =
        .next ((((s.tick t).beginReset true 6).startBoot found false).settle)) ∧
      (s.dict.i3c.action = 2 → s.faults.tripped = true → exec (.targetResetPattern t found) s = .next (s.tick t).settle) ∧
      (s.dict.i3c.action ≠ 1 → s.dict.i3c.action ≠ 2 → exec (.targetResetPattern t found) s = .next (s.tick t).settle)) ∧
  (∀ (s : State) (t : Tick) (b : List Byte), s.memOk 0x2000 = true →
    (s.Calm → s.pathsLive = true → (s.tick t).pathIgnored .mailbox = false → s.dict.mbx.busy = false → b.length = 4096 →
      12 + leAt b 8 2 ≤ 4096 → exec (.mbxGo t b) s = .next ({ s.tick t with dict := { s.dict with mbx := { s.dict.mbx with
        busy := true, reqBuf := b
        req := some ((s.tick t).reqOfRecord .mailbox 0 (b.take (12 + leAt b 8 2)) none) } } }.devSync)) ∧
      (s.pathsLive = true → (s.tick t).pathIgnored .mailbox = false → s.dict.mbx.busy = true → b.length = 4096 →
        exec (.mbxGo t b) s = .next ((({ s.tick t with dict := { s.dict with mbx := { s.dict.mbx with
          reqBuf := b, ovr := true } } } : State).hostMis 0x2030 4 0x2000).settle)) ∧
      (∀ done ovr : Bool, s.Calm → exec (.mbxStatClear t done ovr) s = .next ({ s.tick t with dict := { s.dict with
        mbx := { s.dict.mbx with done := s.dict.mbx.done && !done, ovr := s.dict.mbx.ovr && !ovr } } }.devSync)))

/-! ### POP (R51 to R62) -/

/-- HELLO is answered with a CHALLENGE whose session ID and nonce are the part's own (free values); at most four handshakes
are kept, the oldest giving way (R53, R54). PROOF of a pending handshake, with the right nonces and check, opens the
session in the lowest free slot with the key derived from the role's pre-shared key, and is accepted (R53, R54). Says of
each of these that it answers the next state given, under conditions on the state and the operands alone: popHello,
popProof. -/
def Obligations.PopHandshakeOpensASession : Prop :=
  (∀ (s : State) (t : Tick) (src : Peer) (b : List Byte), TakesDatagram (s.tick t) src → PopForm b 1 → b.length = 64 →
    beAt b 4 4 = 0 → b.drop 32 = zeros 32 →
    let v := (s.tick t).popRate.2
    let body := (b.take 32).drop 12
    let role := beAt body 0 1
    v.popRefusal role = none →
    let sid := Config.freeNat s.freeCtr % 2 ^ 32
    let nonce := leBytes 16 (Config.freeNat (s.freeCtr + 1))
    let kept := if 4 ≤ s.dict.pop.hs.length then s.dict.pop.hs.drop 1 else s.dict.pop.hs
    exec (.popHello t src b) s = .next ((({ v with
      freeCtr := s.freeCtr + 2
      dict := { v.dict with pop := { v.dict.pop with
        hs := kept ++ [⟨sid, role, bytesAt body 4 16, nonce, src, v.clock.now⟩] } } } : State).out
          (.datagram src ([0x50, 0x4F, 1, 2] ++ beBytes 4 sid ++ zeros 4 ++ nonce ++ zeros 32))).settle)) ∧
  (∀ (s : State) (t : Tick) (src : Peer) (b : List Byte) (h : PopHs) (i : Nat), TakesDatagram (s.tick t) src → PopForm b 3 →
    let v := (s.tick t).popRate.2
    let n := b.length - 32
    v.dict.pop.hs.find? (fun h => h.sid == beAt b 4 4 && decide (v.clock.now < h.at_ + 2 * Config.sec)) = some h →
    b.drop n = hmac256 (v.popKey h.role) (b.take n) → (b.take n).drop 12 = h.peerNonce ++ h.partNonce →
    v.popRefusal h.role = none → (List.range 4).find? (fun i => (v.popSess i).isNone) = some i →
    let key := sessionKey (v.popKey h.role) h.peerNonce h.partNonce h.sid
    exec (.popProof t src b) s = .next ((({ v with dict := { v.dict with pop := { v.dict.pop with
      hs := v.dict.pop.hs.filter (fun x => x.sid != h.sid)
      sess := v.dict.pop.sess.set i (some
        { sid := h.sid, role := h.role, key := key, label := v.obj 0x2021 (3 + h.role), peer := src, high := 0, seen := []
          held := [], queue := [], acc := [], txSeq := 0, last := v.clock.now }) } } } : State).out
            (.datagram src (popDgram 4 h.sid 0 [] key))).settle))

/-- An authenticated datagram of an open session: a REQUEST with the next sequence number and one well-formed record joins the
session's queue, a repeated number is answered by sending its held datagrams again, a CLOSE is answered by a CLOSE and
closes the session (R55 to R57). Says of each of these that it answers the next state given, under conditions on the state
and the operands alone: popRequest, popClose. -/
def Obligations.PopSessionTakesItsDatagrams : Prop :=
  ∀ (s : State) (t : Tick) (src : Peer) (b : List Byte) (ty : Nat) (i : Fin 4) (x : PopSess),
    TakesDatagram (s.tick t) src → PopForm b ty →
    let v := (s.tick t).popRate.2
    let n := b.length - 32
    let seq := beAt b 8 4
    let body := (b.take n).drop 12
    v.popSlotOf (beAt b 4 4) = some i → v.popSess i.val = some x → b.drop n = hmac256 x.key (b.take n) →
    let y : PopSess := { x with peer := src, last := v.clock.now }
    (ty = 0x20 → exec (.popClose t src b) s = .next ((((v.setSess i.val y).out
        (.datagram src (popDgram 0x20 x.sid (x.txSeq + 1) [] x.key))).closePop i.val).settle)) ∧
      (∀ held, ty = 0x10 → x.high < 0xFFFFFFFF → seq ≤ x.high → x.seen.contains seq = true →
        x.held.find? (fun e => e.1 == seq) = some (seq, held) → exec (.popRequest t src b) s =
          .next ((held.foldl (fun u dg => u.out (.datagram src dg)) (v.setSess i.val y)).settle)) ∧
      (ty = 0x10 → x.high < seq → seq < 0xFFFFFFFF → x.queue = [] → v.unanswered (.pop i) = 0 →
        body.length = 12 + leAt body 8 2 → exec (.popRequest t src b) s =
          .next ((v.setSess i.val { y with
            high := seq
            seen := (x.seen ++ [seq]).filter (fun q => decide (seq < q + 65))
            held := (x.held ++ [(seq, [])]).drop (x.held.length + 1 - 16)
            queue := [v.reqOfRecord (.pop i) seq body none] }).settle))

/-- A fragment, a datagram above the largest length and one of a bad form are discarded and counted, each as its kind (R52,
R61). A handshake whose PROOF has not arrived 2 s after its CHALLENGE is discarded; a session idle for its timeout closes;
the 10 s for which a source is ignored end; the neighbour protocols answer for the part's own address (R51, R54, R55,
R62). A change of a pre-shared key is in effect at once and is answered after flash; when it is answered every open
session of that role closes (R38, R60). Says of each of these that it answers the next state given, under conditions on
the state and the operands alone: persistentWriteCommit, popDatagramDiscard, popHandshakeTimeout, popIdleTimeout,
popSourceIgnoreEnd, popKeyWrite, mgmtNeighbourProtocol. -/
def Obligations.PopDiscardsTimersAndKeys : Prop :=
  (∀ (s : State) (t : Tick) (src : Peer) (b : List Byte), TakesDatagram (s.tick t) src →
    let v := (s.tick t).popRate.2
    exec (.popDatagramDiscard t src true b) s = .next ((v.hostMis 0x2030 0xB 0x3FFF).settle) ∧
      (1472 < b.length → exec (.popDatagramDiscard t src false b) s = .next ((v.hostMis 0x2030 0xB 0x3FFF).settle)) ∧
      (b.length < 44 → exec (.popDatagramDiscard t src false b) s = .next ((v.hostMis 0x2030 8 0x3FFF).settle)) ∧
      (44 ≤ b.length → b.length ≤ 1472 → b.take 3 ≠ [0x50, 0x4F, 1] →
        exec (.popDatagramDiscard t src false b) s = .next ((v.hostMis 0x2030 8 0x3FFF).settle))) ∧
  (∀ (s : State) (t : Tick), s.Calm →
    (∀ sid, exec (.popHandshakeTimeout t sid) s = .next ({ s.tick t with dict := { s.dict with pop := { s.dict.pop with
      hs := s.dict.pop.hs.filter (fun h => h.sid != sid || decide ((s.tick t).clock.now < h.at_ + 2 * Config.sec)) } } }.devSync)) ∧
    (∀ ip, exec (.popSourceIgnoreEnd t ip) s = .next ({ s.tick t with dict := { s.dict with pop := { s.dict.pop with
      ignored := s.dict.pop.ignored.filter (fun e => e.1 != ip || decide ((s.tick t).clock.now < e.2)) } } }.devSync)) ∧
    (∀ (i : Fin 4) (x : PopSess), s.dict.pop.sess.getD i.val none = some x →
      x.last + s.obj 0x2020 7 * Config.sec ≤ (s.tick t).clock.now → s.dict.deferred = [] → s.tx.waits = [] →
      s.update.sess.holder ≠ 0x3000 + i.val →
      exec (.popIdleTimeout t i) s = .next ({ s.tick t with dict := { s.dict with pop := { s.dict.pop with
        sess := s.dict.pop.sess.set i.val none } } }.devSync)) ∧
    (∀ (k : NeighbourMsg) (a : Nat) (src : Peer), s.pathsLive = true → a ≠ 0 → a = s.ownAddress k →
      exec (.mgmtNeighbourProtocol t k (isV6 k) a src) s = .next (((s.tick t).out (.neighbour k src)).devSync))) ∧
  ((∀ (s : State) (t : Tick) (p : Path) (tag : Nat) (k : Fin 3) (val : List Byte), (s.tick t).Ready p →
    s.record.divergent = false → s.dev.st ≠ .halt → val.length = 32 → (if k = 2 then 3 else 2) ≤ (s.tick t).roleOf p →
    exec (.popKeyWrite t p tag k val) s =
      .next (s.writeLater t p tag 0x2021 (k.val + 1) val false [0] (fun u => u.setObj 0x2021 (k.val + 1) (leNat val)))) ∧
  (∀ (s : State) (t : Tick) (d : Deferred) (rest : List Deferred), (s.tick t).serves = true → s.dict.deferred = d :: rest →
    d.answer = [0] → d.idx = 0x2021 → 1 ≤ d.sub → d.sub ≤ 3 → d.oldVal ≠ d.newVal →
    exec (.persistentWriteCommit t) s = .next ((((({ s.tick t with
      dict := { s.dict with deferred := rest } } : State).logDeferred d).rewriteRecord.respond d.req 0 [] true).closeRole
        d.sub).settle)))

/-! ### Stepped operations (R64 to R71) and the test access port (R669) -/

/-- A verification asked for by the holder of a session that has received its whole payload starts as a stepped operation: its
handle is the response, and the slot names requester, steps and bank (R64, R65, R622). A stepped operation whose turn has
come takes its step and gives the turn on (R42). A step of a verification that is not its last counts the step and marks
its progress; one for which a cancel waits ends the operation CANCELLED with its session ABANDONED, cause 0x05, and its
bank INVALID (R68, R70, R622). Says of each of these that it answers the next state given, under conditions on the state
and the operands alone: steppedOperationStart, steppedOperationStep, verify. -/
def Obligations.SteppedOperationsStartStepAndEnd : Prop :=
  (∀ (s : State) (t : Tick) (p : Path) (tag i : Nat), (s.tick t).Ready p → s.dev.st ≠ .halt → 2 ≤ (s.tick t).roleOf p →
    s.update.sess.st = 1 → s.update.sess.holder = (s.tick t).requesterOf p → s.update.sess.recv = s.update.sess.len →
    s.freeSlot false = some i →
    let u := (s.tick t).begun p
    let after : State := ({ u with
      dict := { u.dict with
        nextHandle := nextHandle u.dict.nextHandle
        slots := u.dict.slots.set i ⟨u.dict.nextHandle, 0, 0x9000, 3, (s.tick t).requesterOf p, 0,
          (s.update.sess.len + 65535) / 65536 + 1, 0, 0, zeros 12, 0, false, s.update.sess.bank⟩ }
      update := { u.update with sess := { u.update.sess with st := 2, lastReq := u.clock.now } } }).setObj 0x9000 3 1
    let answered : State := (after.respond ((s.tick t).reqOn p 2 tag 0x9000 3 [1]) 2 (leBytes 2 s.dict.nextHandle) false).settle
    exec (.verify t p tag [1]) s = .next answered ∧ exec (.steppedOperationStart t p tag 0x9000 3 [1]) s = .next answered) ∧
  (∀ (s : State) (t : Tick) (h i : Nat), (s.tick t).serves = true → s.slotOf h = some i → (s.slot i).isOpen = true →
    (s.slot i).idx = 0x9000 → (s.slot i).sub = 3 → s.update.sess.st = 2 → (s.tick t).nextTurn = some (3, .step i) →
    let j := s.slot i
    let v : State := { s.tick t with dict := { s.dict with rot := 0, rotStep := (i + 1) % 12 } }
    (j.cancel = false → j.steps + 1 < j.planned → exec (.steppedOperationStep t h .ok) s =
      .next ((v.setSlot i { j with
        state := 1, steps := j.steps + 1, started := if j.steps = 0 then (s.tick t).time80 else j.started
        mark := leBytes 4 (min ((j.planned - 1) * 65536) ((j.steps + 1) * 65536)) ++ zeros 8 }).settle)) ∧
      (∀ r, j.cancel = true → exec (.steppedOperationStep t h r) s =
        .next (({ v.setSlot i { j with state := 4, result := 0, final := (s.tick t).clock.now, cancel := false } with
          update := { ((s.tick t).setBank s.update.sess.bank 6).update with
            sess := { s.update.sess with st := 9, cause := 5, result := 0, holder := 0 } } }).settle)))

/-- CANCEL marks an open operation that its chapter lets be cancelled, is done without effect on one in a final state, and is
refused with reason 0x03 on one that is not cancellable; ACKNOWLEDGE frees a host slot in a final state and refuses any
other with reason 0x04; a handle that no slot holds is refused with reason 0x02 (R66, R68). A slot of the part's own
operation frees itself 60 s after its final state, a slot of host software never does (R66). The test access port takes
the instruction given, or BYPASS for one outside its list once the debug lock is set (R669). Says of each of these that it
answers the next state given, under conditions on the state and the operands alone: cancel, acknowledge,
journalSlotExpire, testAccessInstruction. -/
def Obligations.SlotsAreCancelledAcknowledgedAndFreed : Prop :=
  (∀ (s : State) (t : Tick) (p : Path) (tag : Nat) (val : List Byte), (s.tick t).Ready p → s.dev.st ≠ .halt →
    2 ≤ (s.tick t).roleOf p → val.length = 2 →
    let h := leNat val
    let aborts (sub code : Nat) (i : Instr) : Prop := exec i s =
      .next (((((s.tick t).begun p).bump 0x2030 0xD).respond ((s.tick t).reqOn p 2 tag 0xC000 sub val) 1
        (leBytes 4 code) false).settle)
    (s.slotOf h = none → aborts 2 (abortCode 0xA 2 h) (.cancel t p tag val) ∧
        aborts 3 (abortCode 0xA 2 h) (.acknowledge t p tag val)) ∧
      (∀ i, s.slotOf h = some i →
        ((s.slot i).isOpen = true → (s.slot i).fixed = false → exec (.cancel t p tag val) s =
          .next (s.writeDone t p tag 0xC000 2 val (fun u => (u.setObj 0xC000 2 h).setSlot i { s.slot i with cancel := true }))) ∧
        ((s.slot i).isOpen = true → (s.slot i).fixed = true → aborts 2 (abortCode 0xA 3 h) (.cancel t p tag val)) ∧
        ((s.slot i).isOpen = false → exec (.cancel t p tag val) s =
          .next (s.writeDone t p tag 0xC000 2 val (fun u => u.setObj 0xC000 2 h))) ∧
        ((s.slot i).isOpen = false → i < 8 → exec (.acknowledge t p tag val) s =
          .next (s.writeDone t p tag 0xC000 3 val (fun u => (u.setObj 0xC000 3 h).setSlot i JSlot.free))) ∧
        ((s.slot i).isOpen = true ∨ 8 ≤ i → aborts 3 (abortCode 0xA 4 h) (.acknowledge t p tag val)))) ∧
  (∀ (s : State) (t : Tick), s.Calm →
    (∀ i : Fin 12, 8 ≤ i.val → (s.slot i.val).handle ≠ 0 → 2 ≤ (s.slot i.val).state →
      (s.slot i.val).final + 60 * Config.sec ≤ (s.tick t).clock.now → exec (.journalSlotExpire t i) s =
        .next ({ s.tick t with dict := { s.dict with slots := s.dict.slots.set i.val JSlot.free } }.devSync)) ∧
    (∀ i : Fin 12, i.val < 8 → exec (.journalSlotExpire t i) s = .next ((s.tick t).devSync)) ∧
    exec (.testAccessInstruction t .idcode) s =
      .next ((({ s.tick t with dev := { s.dev with tap := .idcode } } : State).out (.readData 0x1512063D 4)).devSync) ∧
    (∀ i : TapInstr, i ≠ .idcode → (s.fuses.debugLock = false ∨ ∀ c, i ≠ .other c) → exec (.testAccessInstruction t i) s =
      .next ({ s.tick t with dev := { s.dev with tap := i } }.devSync)) ∧
    (∀ c, s.fuses.debugLock = true → exec (.testAccessInstruction t (.other c)) s =
      .next ({ s.tick t with dev := { s.dev with tap := .bypass } }.devSync)))

/-! ### Stage operations (R89 to R96) -/

/-- An operation that writes a place writes to it the value it computes from what the bundle found, and changes nothing but
its context (R93, R95). Says of each of these that it answers the next state given, under conditions on the state and the
operands alone: mov, set_, add, sub, and_, or_, xor_, shl, shr, min_, max_, ext, ins, hash, stamp. -/
def Obligations.StageOpWritesItsPlace : Prop :=
  ∀ (s : State) (o : OpCtl) (c : Ctx) (d : Dest) (a b : Src), s.OpEnters o c → c.condOk o.cond = true →
    let x := c.src a
    let y := c.src b
    let w := destWidth d
    let writes (i : Instr) (v : Nat) : Prop := exec i s = .next (s.setCtx (c.put d v))
    writes (.mov o d a) x ∧ (∀ imm, writes (.set_ o d imm) imm) ∧
      writes (.add o d a b) ((x + y) % 2 ^ w) ∧ writes (.sub o d a b) ((x + (2 ^ w - y % 2 ^ w)) % 2 ^ w) ∧
      writes (.and_ o d a b) (x &&& y) ∧ writes (.or_ o d a b) (x ||| y) ∧ writes (.xor_ o d a b) (x ^^^ y) ∧
      (∀ n, writes (.shl o d a n) (x * 2 ^ n.val % 2 ^ w)) ∧ (∀ n, writes (.shr o d a n) (x / 2 ^ n.val)) ∧
      writes (.min_ o d a b) (if x ≤ y then x else y) ∧ writes (.max_ o d a b) (if x ≤ y then y else x) ∧
      (∀ hi lo, writes (.ext o d a hi lo) (x / 2 ^ lo % 2 ^ (hi + 1 - lo))) ∧
      (∀ hi lo, writes (.ins o d a hi lo) (setBits (placeGet c.hv c.temps d) hi lo x)) ∧
      (∀ l seed, writes (.hash o d l seed) (crc32cSeed seed (l.flatMap c.feed))) ∧
      writes (.stamp o d) s.time80

/-- A place written reads back the value cut to its width, a metadata field without its reserved bits; a field that only the
part sets keeps its value; every octet of the header vector outside the place stays (R89, R90). -/
def Obligations.PlaceKeepsWhatIsWritten : Prop :=
  ∀ (c : Ctx) (v : Nat), c.hv.length = 640 → c.temps.length = 8 →
    let reads (d : Dest) (x : Nat) : Prop := placeGet (c.put d v).hv (c.put d v).temps d = x
    (∀ n, reads (.b n) (v % 2 ^ 8)) ∧ (∀ n, reads (.h n) (v % 2 ^ 16)) ∧ (∀ n, reads (.w n) (v % 2 ^ 32)) ∧
      (∀ n, reads (.temp n) (v % 2 ^ 32)) ∧
      (∀ f, metaWritable f = true → reads (.field f) (v &&& metaMask f)) ∧
      (∀ f, metaWritable f = false → c.put (.field f) v = c) ∧
      (∀ k : Nat, (∀ n, k ≠ n.val → (c.put (.b n) v).hv[k]? = c.hv[k]?) ∧
        (∀ n, k < 64 + 2 * n.val ∨ 66 + 2 * n.val ≤ k → (c.put (.h n) v).hv[k]? = c.hv[k]?) ∧
        (∀ n, k < 192 + 4 * n.val ∨ 196 + 4 * n.val ≤ k → (c.put (.w n) v).hv[k]? = c.hv[k]?))

/-- The operations that compare, mark headers, ask for a disposition, select, count, meter, learn or branch have the effect
that R95 gives each of them, and no other. An operation whose condition does not hold enters its bundle and does nothing
else; one for a context or a bundle that is not at work, and any on a halted FE die, does nothing at all (R93, R94, R551).
Says of each of these that it answers the next state given, under conditions on the state and the operands alone: cmp,
valid, pushHdr, popHdr, csum, count, meter, select, learn, fwd, fwdm, dropReq, recirc, punt, copy, mirror, br, brc, end_. -/
def Obligations.StageOpMarksItsContextOrDoesNothing : Prop :=
  (∀ (s : State) (o : OpCtl) (c : Ctx) (d : Dest) (a b : Src), s.OpEnters o c → c.condOk o.cond = true →
    let acts (i : Instr) (c' : Ctx) : Prop := exec i s = .next (s.setCtx c')
    let pr := s.profileFor c.dir c.frame.tag
    let asks (n : Nat) : Ctx := { c with hv := metaSet c.hv .requests (setBit (metaGet c.hv .requests) n true) }
    (∀ k r, acts (.cmp o k a r b) { c with conds := c.conds.set k.val (relHolds r (c.src a) (c.src b)) }) ∧
      (∀ n v, acts (.valid o n v) { c with hv := metaSet c.hv .validMap (setBit (metaGet c.hv .validMap) n.val v) }) ∧
      (∀ k, acts (.pushHdr o k) (c.pushStack pr k)) ∧ (∀ k, acts (.popHdr o k) (c.popStack pr k)) ∧
      (∀ n, acts (.csum o n) { c with csum := n.val :: c.csum }) ∧
      acts (.select o d a b) (if c.reads < s.readsDeclared c
        then { c with sel := some (d, c.src a % 65536, c.src b), reads := c.reads + 1 } else c) ∧
      acts (.fwd o a) { c with hv := metaSet c.hv .destination (2 ^ 29 + c.src a % 2 ^ 19) } ∧
      acts (.fwdm o a) { c with hv := metaSet c.hv .destination (2 ^ 30 + c.src a % 2 ^ 16) } ∧
      acts (.dropReq o) (asks 0) ∧ acts (.recirc o) (asks 3) ∧
      acts (.punt o a b) (c.puntBy (c.src a) (c.src b) 1) ∧ acts (.copy o a b) (c.puntBy (c.src a) (c.src b) 2) ∧
      acts (.mirror o a) { c with hv := metaSet c.hv .mirrorSession (c.src a) } ∧
      (∀ n, acts (.br o n) (if o.bundle.val < n.val then { c with branch := some n.val } else c)) ∧
      (∀ k n, acts (.brc o k n) (if c.preConds.getD k.val false = true ∧ o.bundle.val < n.val
        then { c with branch := some n.val } else c)) ∧
      acts (.end_ o) { c with branch := some 16 } ∧
      exec (.count o a b) s = .next ((s.setTables (s.tables.credit (c.src a) (c.src b))).setCtx c) ∧
      exec (.meter o a d) s =
        .next ({ s with freeCtr := s.freeCtr + 1 }.setCtx (c.put d (Config.freeNat s.freeCtr % 3))) ∧
      (∀ n key, tableKind n = 3 → (match c.dir with
          | .ingress => s.flow.learnI
          | .egress => s.flow.learnE).length < 4096 →
        let k := c.concat key
        let note : Learn := ⟨n - 0x50, fitKey k.1 k.2 (s.obj (0x4610 + (n - 0x50)) 5), beAt c.pre 576 8⟩
        exec (.learn o n key) s = .next ({ s with flow := match c.dir with
          | .ingress => { s.flow with learnI := s.flow.learnI ++ [note] }
          | .egress => { s.flow with learnE := s.flow.learnE ++ [note] } }.setCtx c))) ∧
  (∀ (s : State) (i : Instr) (o : OpCtl), stageCtl i = some o →
    (∀ c, s.OpEnters o c → c.condOk o.cond = false → exec i s = .next (s.setCtx c)) ∧
      (s.faults.haltFe = true → exec i s = .next s) ∧
      ((s.flow.ctx o.ctx).bind (fun c => c.enterBundle o.bundle.val) = none → exec i s = .next s))

/-! ### Frames through the FE die (R82 to R111, R440) -/

/-- A frame off the line: one with a code error or a wrong FCS, a runt and an oversize frame are dropped and counted, each
with FC-14 on the first in a second; a stomped one, whose FCS is complemented, is counted as such too; a good one without
an R-TAG to remove enters the line input FIFO of its group with its port as order domain, its priority and its timestamp,
and one that the FIFO cannot hold is dropped (R88, R440, R441, R446). FRAME_DEAL: the head of the line input FIFO whose
turn it is goes to the next pipeline of the rotation, before any other source; what is left is shared by recirculation and
inject in the ratio of their weights, a source with nothing waiting yielding; with no pipeline to take a frame nothing is
dealt (R83, R86). On egress the BOND-TF stream comes before recirculation. A pipeline is dealt to while it is in service,
holds a free context and has taken fewer than 2 frames in the present CORE cycle (R83); a first pass takes the tag of the
newest commit and the cycle of dealing, an ingress pass the next number of its order domain (R84, R85, R110). Each of
these completes in every state, whatever its operands: lineFrameReceive, frameDeal. -/
def Obligations.FramesAreTakenAndDealt : Prop :=
  (∀ (s : State) (t : Tick) (p : Fin 128) (frame : List Byte), s.faults.haltFe = false → (s.tick t).linkUp p.val = true →
    (s.tick t).nearLoop p.val = false →
    let u := s.tick t
    let o := 0x3000 + p.val
    let d := frame.take (frame.length - 4)
    let fcs := frame.drop (frame.length - 4)
    let dropped (v : State) (sub : Nat) (code : Bool) : Prop :=
      exec (.lineFrameReceive t p frame code) s = .next (((v.bump o sub).partnerEvent p.val sub).settle)
    (fcs ≠ (fcsOf d).map (fun b => ~~~b) → dropped u 0x22 true ∧ (fcs ≠ fcsOf d → dropped u 0x22 false)) ∧
      (4 ≤ frame.length → fcs = (fcsOf d).map (fun b => ~~~b) → exec (.lineFrameReceive t p frame true) s =
        .next ((((u.bump o 0x22).bump 0x5001 8).stompEvent p).settle)) ∧
      (fcs = fcsOf d → (frame.length < 64 → dropped u 0x23 false) ∧
        (64 ≤ frame.length → u.obj o 3 < frame.length → dropped u 0x24 false) ∧
        (64 ≤ frame.length → frame.length ≤ u.obj o 3 → beAt frame 12 2 ≠ 0x8808 → bit (u.obj 0x6901 1) p.val = false →
          let v := (u.bump o 0x20).bumpN o 0x21 frame.length
          (u.dev.st.inService = false → exec (.lineFrameReceive t p frame false) s = .next ((v.bump 0x1100 8).settle)) ∧
          (u.dev.st.inService = true → 131072 < u.flow.fifoBytes (p.val / 4) + frame.length →
            exec (.lineFrameReceive t p frame false) s = .next ((v.bump 0x4001 1).settle)) ∧
          (u.dev.st.inService = true → u.flow.fifoBytes (p.val / 4) + frame.length ≤ 131072 →
            exec (.lineFrameReceive t p frame false) s = .next ({ v with flow := { v.flow with
              lineIn := v.flow.lineIn ++ [(p.val / 4, lineFrame p.val (v.framePrio p.val d) d (v.stampAt p.val 0xF) none)] } }.settle))))) ∧
  ((∀ (s : State) (t : Tick), s.faults.haltFe = false →
    (let u := (s.tick t).purgeStale .ingress;
      u.bodyEmpty = false →
      (∀ pl, u.pickPipe .ingress = some pl →
        let mixed : State := { u with flow := { u.flow with mix := (u.flow.mix + 1) % (u.obj 0x4000 2 + u.obj 0x4000 3) } }
        let dealt (v : State) : Prop := exec (.frameDeal t .ingress) s = .next ((v.feSettle s.flow).settle)
        let fromRecirc (f : Frame) : State :=
          { mixed with flow := { mixed.flow with recircI := u.flow.recircI.tail } }.dealTo .ingress pl f 0x80
        let fromInject (f : Frame) (l : List Nat) : State :=
          ({ mixed with flow := { mixed.flow with injectIn := u.flow.injectIn.tail } }.dealTo .ingress pl f f.dom).freeCells 1
            (l.map (fun n => (n, 5)))
        (∀ g f, u.lineReady = some (g, f) → dealt ({ u with flow := { u.flow with
          lineIn := dropFirst (fun x => x.1 == g) u.flow.lineIn, rotIn := (g + 1) % 32 } }.dealTo .ingress pl f f.dom)) ∧
        (u.lineReady = none →
          (∀ f, u.recircReady = some f → u.injectReady = none → dealt (fromRecirc f)) ∧
          (∀ f l, u.recircReady = none → u.injectReady = some (f, l) → dealt (fromInject f l)) ∧
          (∀ f h l, u.recircReady = some f → u.injectReady = some (h, l) →
            dealt (if u.flow.mix % (u.obj 0x4000 2 + u.obj 0x4000 3) < u.obj 0x4000 2 then fromRecirc f else fromInject h l)) ∧
          (u.recircReady = none → u.injectReady = none → dealt u))) ∧
      (u.pickPipe .ingress = none → exec (.frameDeal t .ingress) s = .next ((u.feSettle s.flow).settle))) ∧
    (let u := (s.tick t).purgeStale .egress;
      (∀ pl, u.pickPipe .egress = some pl →
        (∀ f r, u.flow.egressIn = f :: r → exec (.frameDeal t .egress) s =
          .next ((({ u with flow := { u.flow with egressIn := r } }.dealTo .egress pl f 0).feSettle s.flow).settle)) ∧
        (∀ f r, u.flow.egressIn = [] → u.flow.recircE = f :: r → exec (.frameDeal t .egress) s =
          .next ((({ u with flow := { u.flow with recircE := r } }.dealTo .egress pl f 0x81).feSettle s.flow).settle))) ∧
      (u.pickPipe .egress = none → exec (.frameDeal t .egress) s = .next ((u.feSettle s.flow).settle)))) ∧
  (∀ (s : State) (dir : Dir) (pl : Nat), s.pickPipe dir = some pl →
    s.pipeState pl = 0 ∧ s.flow.ctxCount pl < 768 ∧ s.dealtNow pl < 2) ∧
  (∀ (s : State) (dir : Dir) (pl dom : Nat) (f : Frame), f.pass = 0 → s.dealtNow pl < 2 →
    let v := s.dealTo dir pl f dom
    v.dealtNow pl = s.dealtNow pl + 1 ∧
    ∃ c, v.flow.ctxs = s.flow.ctxs ++ [c] ∧ c.id = s.flow.nextCtx ∧ c.pipe = pl ∧ c.stage = 0 ∧ c.frame.pass = 1 ∧
      c.frame.tag = s.tx.commit % 8 ∧ c.frame.stamp = s.coreCycle % 2 ^ 32 ∧
      (dir = .ingress → c.frame.dom = dom ∧ c.frame.seq = nget s.flow.nextSeq dom 0 ∧
        v.flow.nextSeq = nset s.flow.nextSeq dom ((nget s.flow.nextSeq dom 0 + 1) % 65536) 0 ∧
        v.flow.ro = s.flow.ro ++ [⟨dom, nget s.flow.nextSeq dom 0, .waiting, 0⟩]))) ∧
  (∀ (s : State) (t : Nat) (port : Fin 128) (frame : List Byte) (codeError : Bool),
    ∃ s2, exec (.lineFrameReceive t port frame codeError) s = .next s2) ∧
  (∀ (s : State) (t : Nat) (dir : Dir), ∃ s2, exec (.frameDeal t dir) s = .next s2)

/-- A stage without a section, or with a section of no bundle, passes the packet through with its temporaries, conditions and
results cleared; a stage with one looks up its ports: the lowest port that hits names the first bundle by its action
entry, and when none hits the section's miss bundle runs first (R91 to R96). A lookup that reads a poisoned line drops the
frame and is counted at the table (R206). FRAME_DISPOSITION of an ingress frame with no request: one for a queue or a
multicast group settles its number forwarded, one without a destination settles it gone, and a DROP comes before both, as
does a poisoned line read; an egress frame goes to the outlet of its port, once no older context of its die is left (R16).
The deferred counters are credited with the final length unless the frame is dropped (R90, R99, R100, R206, R307). Each of
these completes in every state, whatever its operands: stageMatch, frameDisposition. -/
def Obligations.StagesMatchAndFramesAreSettled : Prop :=
  (∀ (s : State) (t : Tick) (id : Nat) (k : Fin 16) (errs : List MemErr) (c : Ctx), s.faults.haltFe = false →
    s.flow.ctx id = some c → c.skip = false → c.stage = k → c.sel = none →
    let u := s.tick t
    let c0 : Ctx := { c with
      stage := k.val + 1, temps := List.replicate 8 0, conds := List.replicate 4 false, lks := List.replicate 4 LkRes.miss
      bundle := none, started := false, branch := none, ended := false, bundles := 0 }
    let sec := (u.ctxProg c).bind (fun p => sectionOf p k)
    let begins (x : Section) (first : Nat) (c : Ctx) : Ctx :=
      { c with bundle := some first, bundles := x.bundles, pre := c.hv, preTemps := c.temps, preConds := c.conds }
    (sec = none → exec (.stageMatch t id k errs) s = .next ((u.setCtx { c0 with ended := true }).settle)) ∧
      (∀ x, sec = some x → x.bundles = 0 →
        exec (.stageMatch t id k errs) s = .next ((u.setCtx { c0 with ended := true }).settle)) ∧
      (∀ x, sec = some x → x.bundles ≠ 0 → x.ports = [(0, 0, 0), (0, 0, 0), (0, 0, 0), (0, 0, 0)] →
        exec (.stageMatch t id k errs) s = .next ((u.setCtx (begins x x.miss c0)).settle)) ∧
      (∀ x a, sec = some x → x.bundles ≠ 0 → x.ports = [a, (0, 0, 0), (0, 0, 0), (0, 0, 0)] → portUsed a = true →
        tableKind a.1 ≠ 3 → tableKind a.1 ≠ 4 → missingInst (u.template a.2.1) (metaGet c.hv .validMap) = none →
        let key := u.portKey a.1 (tplKey (u.template a.2.1) c.hv)
        let q := u.lookup a.1 key (tagCommit u.tx.commit c.frame.tag)
        let c1 : Ctx := { c0 with reads := c.reads + centralReads a.1 }
        (u.tables.poisoned a.1 q.2 = false →
          (q.1.hit = true → exec (.stageMatch t id k []) s = .next ((u.setCtx (begins x (Config.hitBundle x.bytes 0)
            { c1 with lks := [q.1, LkRes.miss, LkRes.miss, LkRes.miss] })).settle)) ∧
          (q.1.hit = false → exec (.stageMatch t id k []) s = .next ((u.setCtx (begins x x.miss
            { c1 with lks := [q.1, LkRes.miss, LkRes.miss, LkRes.miss] })).settle))) ∧
        (u.tables.poisoned a.1 q.2 = true → exec (.stageMatch t id k []) s =
          .next (((u.bump (0x4400 + a.1) 8).setCtx (begins x x.miss { c1.request 0 with poisoned := true })).settle)))) ∧
  (∀ (s : State) (t : Tick) (id : Nat) (c : Ctx), s.faults.haltFe = false → s.flow.ctx id = some c → c.trailer = 0 →
    c.sel = none → (s.tick t).stagesDone c = true →
    let u : State := { s.tick t with flow := { s.flow with ctxs := dropFirst (fun x => x.id == id) s.flow.ctxs } }
    let old : Flow := { u.flow with ctxs := u.flow.ctxs ++ [c] }
    let out := c.deparse ((s.tick t).profileFor c.dir c.frame.tag)
    let dest := metaGet c.hv .destination
    let paid := u.setTables ((u.tables.credit (metaGet c.hv .deferred0) (out.length + 4)).credit (metaGet c.hv .deferred1)
      (out.length + 4))
    let ends (v : State) : Prop := exec (.frameDisposition t id) s = .next ((v.feSettle old).settle)
    let f := c.outFrame out
    ((s.tick t).mustWait c = true → exec (.frameDisposition t id) s = .next ((s.tick t).settle)) ∧
      ((s.tick t).mustWait c = false →
        (c.dir = .ingress → metaGet c.hv .requests = 0 → c.poisoned = false →
          (dest / 2 ^ 29 = 1 → ends (paid.settleSeq c.frame.dom c.frame.seq
            (.forward f 1 (dest % 2 ^ 19) (metaGet c.hv .mirrorSession)))) ∧
          (dest / 2 ^ 29 = 2 → ends (paid.settleSeq c.frame.dom c.frame.seq
            (.forward f 2 (dest % 2 ^ 16) (metaGet c.hv .mirrorSession)))) ∧
          (dest / 2 ^ 29 = 0 → metaGet c.hv .mirrorSession = 0 → ends (paid.settleSeq c.frame.dom c.frame.seq .gone))) ∧
        (c.dir = .ingress → metaGet c.hv .mirrorSession = 0 →
          metaGet c.hv .requests = 1 ∨ metaGet c.hv .requests = 0 ∧ c.poisoned = true →
          ends (u.settleSeq c.frame.dom c.frame.seq .gone)) ∧
        (c.dir = .egress → metaGet c.hv .mirrorSession = 0 →
          metaGet c.hv .requests = 1 ∨ metaGet c.hv .requests = 0 ∧ c.poisoned = true → ends u) ∧
        (c.dir = .egress → metaGet c.hv .requests = 0 → c.poisoned = false → metaGet c.hv .mirrorSession = 0 →
          dest / 2 ^ 29 = 1 → ∀ line : Fin 128, u.objI 0x5201 2 c.frame.port = 0x100 + line.val →
            ends { paid with flow := { paid.flow with toLine := paid.flow.toLine ++ [(line.val, f)] } }))) ∧
  (∀ (s : State) (t : Nat) (ctx : Nat) (stage : Fin 16) (errs : List MemErr),
    ∃ s2, exec (.stageMatch t ctx stage errs) s = .next s2) ∧
  (∀ (s : State) (t : Nat) (ctx : Nat), ∃ s2, exec (.frameDisposition t ctx) s = .next s2)

/-- The reorder unit releases the oldest number of a domain once it is settled, and waits for it otherwise (R101); a number
that a completed frame has waited behind for the reorder timeout is declared lost, counted, and raised as FC-03 at level
F1 (R104); frames of the recirculation queue whose epoch is stale leave it and are counted (R109). The body cells of the
frames that leave are freed (R258). Each of these completes in every state, whatever its operands: reorderRelease,
reorderTimeout, staleEpochDrop. -/
def Obligations.ReorderUnitKeepsOrder : Prop :=
  (∀ (s : State) (t : Tick) (dom : Nat), s.faults.haltFe = false →
    let u := s.tick t
    ((∀ e, s.flow.ro.find? (fun e => e.dom == dom) = some e → e.res = .waiting) →
        exec (.reorderRelease t dom) s = .next (u.settle)) ∧
      (∀ e n, s.flow.ro.find? (fun e => e.dom == dom) = some e → e.res ≠ .waiting → s.flow.ro.length = n + 1 →
        exec (.reorderRelease t dom) s = .next ((((({ u with flow := { u.flow with
          ro := dropFirst (fun e => e.dom == dom) u.flow.ro } } : State).releaseOne e.res).releaseLeading dom n).feSettle
            u.flow).settle)) ∧
      (∀ a b res at_ rest, s.flow.ro = ⟨dom, a, .waiting, 0⟩ :: ⟨dom, b, res, at_⟩ :: rest → res.hasFrame = true →
        at_ + u.obj 0x4000 1 * Config.ns ≤ u.clock.now → (∀ e ∈ rest, e.dom = dom → e.res ≠ .waiting) →
        exec (.reorderTimeout t dom) s = .next (((({ u with flow := { u.flow with
          ro := ⟨dom, a, .lost, 0⟩ :: ⟨dom, b, res, at_⟩ :: rest } } : State).bumpN 0x4001 2 1).raise
            { cls := 3, level := 1, die := 1, object := 0xFFFFFFFF, value := dom, ctrIdx := 0x4001, ctrSub := 2 }).settle)) ∧
      ((∀ e ∈ s.flow.ro, e.dom = dom → e.res.hasFrame = false) → exec (.reorderTimeout t dom) s = .next (u.settle)) ∧
      (∀ dir, exec (.staleEpochDrop t dir) s = .next (((({ u with
        flow := u.flow.setRecirc dir ((u.flow.recirc dir).filter (fun f => !u.stale f)) } : State).bumpN 0x4001 4
          ((u.flow.recirc dir).filter u.stale).length).feSettle u.flow).settle))) ∧
  (∀ (s : State) (t : Nat) (domain : Nat), ∃ s2, exec (.reorderRelease t domain) s = .next s2) ∧
  (∀ (s : State) (t : Nat) (domain : Nat), ∃ s2, exec (.reorderTimeout t domain) s = .next s2) ∧
  (∀ (s : State) (t : Nat) (dir : Dir), ∃ s2, exec (.staleEpochDrop t dir) s = .next s2)

/-- A pipeline that fails drops the frames in its contexts, counts them and settles their numbers; one that fails or is out of
spares is retired, once no other of its direction drains: recorded, entered in the change record, burned, raised as FC-03,
and drained while packets are in its contexts; SX takes the place of a failed stage where it is free and fit; a drained
pipeline returns to service or stays retired, and the containments that waited for the drain are called for again (R106,
R119 to R122). Each of these completes in every state, whatever its operands: pipelineFailure, stageSubstitute,
pipelineDrainComplete, pipelineRetire. -/
def Obligations.PipelinesAreSubstitutedDrainedAndRetired : Prop :=
  (∀ (s : State) (t : Tick) (pl : Fin 32), s.faults.haltFe = false →
    let u := s.tick t
    let retired (u : State) (path : Nat) : State :=
      let v := u.mapSpares (fun x => { x with pipeRetired := x.pipeRetired ++ [pl.val] })
      let w := (((v.logOwn 0x4000 4 u.retiredMap v.retiredMap).burnEntry 0x10 pl).rewriteRecord).unwait
        (fun k => k == waitKey 0xFFFF 0x10 pl || (k / 0x1000 == 1 && k % 0x1000 / 17 == pl))
      (if u.flow.ctxCount pl = 0 then w else w.drainPipe pl 0).stageEvent path 0xFFFF 0x20 0x10 pl 0
    (u.record.mem.spares.pipeRetired.contains pl.val = false →
      (u.pipeSubst pl ≠ 0xFF → s.survey.retires = [] →
        (u.pipeMoving pl = false →
          exec (.pipelineRetire t pl) s = .next ((retired u (stagePath pl (u.pipeSubst pl))).settle)) ∧
        (u.pipeMoving pl = true → exec (.pipelineRetire t pl) s =
          .next ({ u with survey := { u.survey with retires := [pl.val] } }.settle))) ∧
      (u.pipeSubst pl = 0xFF → exec (.pipelineRetire t pl) s = .next (u.settle)) ∧
      (u.flow.ctxCount pl = 0 → nget s.flow.pipeBusy pl 0 = 0 →
        exec (.pipelineFailure t pl) s = .next ((retired u (stagePath pl 0)).settle)) ∧
      (∀ c, u.flow.ctxs.filter (fun c => c.pipe == pl.val) = [c] → c.dir = .ingress → nget s.flow.pipeBusy pl 0 = 0 →
        let w := ((({ u with flow := { u.flow with ctxs := u.flow.ctxs.filter (fun c => c.pipe != pl.val) } } : State).bump
          0x4001 7).settleSeq c.frame.dom c.frame.seq .gone).feSettle u.flow
        exec (.pipelineFailure t pl) s = .next ((retired w (stagePath pl 0)).settle)) ∧
      (∀ k : Fin 16, (u.sxFit pl = true →
          (u.pipeMoving pl = false →
            let v := u.substitute pl k (0x1000 + stagePath pl k) 0
            exec (.stageSubstitute t pl k) s = .next (v.settle) ∧ v.pipeSubst pl = k ∧
              v.pipeState pl = (if u.flow.ctxCount pl = 0 then 2 else 1)) ∧
          (u.pipeMoving pl = true → exec (.stageSubstitute t pl k) s = .next ({ u with faults := { u.faults with
            waiting := u.faults.waiting ++ [(⟨3, stagePath pl k, 0, 0, false⟩ : Contain)] } }.settle))) ∧
        (u.sxFit pl = false → exec (.stageSubstitute t pl k) s = .next (u.settle)))) ∧
      (s.flow.ctxCount pl ≠ 0 → exec (.pipelineDrainComplete t pl) s = .next (u.settle)) ∧
      (nget s.flow.pipeBusy pl 0 ≠ 0 → s.flow.ctxCount pl = 0 → s.survey.retires = [] →
        exec (.pipelineDrainComplete t pl) s =
        .next ({ u with
          flow := { u.flow with
            pipeBusy := nset u.flow.pipeBusy pl 0 0, pipeStage := nset u.flow.pipeStage pl 0 0 }
          faults := { u.faults with todo := u.faults.todo ++ u.faults.waiting, waiting := [] } }.settle))) ∧
  (∀ (s : State) (t : Nat) (pl : Fin 32), ∃ s2, exec (.pipelineFailure t pl) s = .next s2) ∧
  (∀ (s : State) (t : Nat) (pl : Fin 32) (stage : Fin 16), ∃ s2, exec (.stageSubstitute t pl stage) s = .next s2) ∧
  (∀ (s : State) (t : Nat) (pl : Fin 32), ∃ s2, exec (.pipelineDrainComplete t pl) s = .next s2) ∧
  (∀ (s : State) (t : Nat) (pl : Fin 32), ∃ s2, exec (.pipelineRetire t pl) s = .next s2)

/-! ### Tables (chapter 5) -/

/-- A visit of the scrubber to a versioned line: what it corrects is counted and raised as FC-01; an uncorrectable error of
the on-die copy poisons the line, one of the backing copy has that rewritten from the line; of two intact copies that
differ the one whose stamp the digest allows stays and the other is overwritten; an error of the line enters the history
of its row (R204, R206, R208 to R210, R248, R529). A visit to a learned bucket corrects, or loses the bucket's entries
(R207). A poisoned line is rewritten from its backing copy and counted, unless that is bad as well (R206, R208). A bank
beyond repair is re-laid by an operation of the part's own (R211). On a halted FE die none of them does anything (R551).
Each of these completes in every state, whatever its operands: backingRepair, scrubVisit, bankRelay. -/
def Obligations.TableMemoryIsScrubbedAndRepaired : Prop :=
  (∀ (s : State) (t : Tick) (n line : Nat),
    let u := s.tick t
    (s.faults.haltFe = true → (∀ place a b differ, exec (.scrubVisit t place a b differ) s = .next (u.settle)) ∧
      (∀ bad, exec (.backingRepair t n line bad) s = .next (u.settle)) ∧ ∀ b, exec (.bankRelay t b) s = .next (u.settle)) ∧
    (s.faults.haltFe = false →
      let fixed (v : State) (tbl at_ : Nat) : State := (v.bump 0x4400 5).raise
        { cls := 1, level := 0, die := 1, object := memObject tbl at_, value := at_, ctrIdx := 0x4400, ctrSub := 5 }
      let noted (v : State) (tbl at_ : Nat) (e : MemErr) : State :=
        if e = .none then v else v.noteError 2 (v.lineRow tbl at_) (e == .uncorrectable)
      let digest := nget s.tx.digest (digestSub n) 0
      (∀ a b differ,
        let visit (v : State) : Prop := exec (.scrubVisit t (.versioned n line) a b differ) s = .next (v.settle)
        let once := if a = .corrected then fixed u n line else u
        let twice := if b = .corrected then fixed once n line else once
        let saved (v : State) : State := v.setTables (u.tables.saveLine n line)
        let ends (v : State) : Prop := visit (noted v n line a)
        (isVersioned n = false → visit u) ∧
          (isVersioned n = true →
            (a = .uncorrectable → ends ((u.setTables (u.tables.setLine n line true
              ((u.tables.lineAt n line).any (·.backingBad)))).raise
                { cls := 2, level := 1, die := 1, object := memObject n line, value := line })) ∧
            (a ≠ .uncorrectable → b = .uncorrectable → ends (((saved once).bump 0x4400 6).raise
              { cls := 2, level := 0, die := 1, object := memObject n line, value := line, ctrIdx := 0x4400, ctrSub := 6 })) ∧
            (a ≠ .uncorrectable → b ≠ .uncorrectable →
              (differ = none → ends twice) ∧
              (∀ die back, differ = some (die, back) →
                (die ≤ digest → digest < back → digest ≠ 0 → ends (saved twice)) ∧
                (back ≤ digest → digest < die → digest ≠ 0 → ends (twice.setTables (u.tables.restoreLine n line))) ∧
                (die ≤ digest → back ≤ digest → digest ≠ 0 →
                  ends (if die < back then twice.setTables (u.tables.restoreLine n line) else saved twice)) ∧
                (digest = 0 ∨ digest < die ∧ digest < back → ends ((saved twice).raise
                  { cls := 2, level := 1, die := 1, object := memObject n line, value := line })))))) ∧
        (∀ (b : Fin 262144) back differ,
          let tbl := 0x50 + (u.bucketTable b).getD 0
          exec (.scrubVisit t (.bucket b) .none back differ) s = .next (u.settle) ∧
          exec (.scrubVisit t (.bucket b) .corrected back differ) s = .next ((noted (fixed u tbl b) tbl b .corrected).settle) ∧
          exec (.scrubVisit t (.bucket b) .uncorrectable back differ) s =
            .next ((noted ((((u.setTables ((List.range 8).foldl (fun tb i => tb.setSlot b i (setBit (tb.slotAt b i) 255 false))
              u.tables)).bumpN 0x4400 7 ((List.range 8).filter (fun i => entryValid (u.tables.slotAt b i))).length)).raise
                { cls := 2, level := 1, die := 1, object := memObject tbl b, value := b, ctrIdx := 0x4400
                  ctrSub := 7 }) tbl b .uncorrectable).settle)) ∧
        ((∀ l, s.tables.lineAt n line = some l → l.poisoned = false ∨ l.backingBad = true) →
          ∀ bad, exec (.backingRepair t n line bad) s = .next (u.settle)) ∧
        (∀ l : LineState, s.tables.lineAt n line = some l → l.poisoned = true → l.backingBad = false →
          exec (.backingRepair t n line false) s =
            .next (((u.setTables (u.tables.restoreLine n line)).bump 0x4400 6).settle) ∧
          (u.tables.restoreLine n line).poisoned n line = false ∧
          exec (.backingRepair t n line true) s = .next (((u.setTables { s.tables with
            lines := ⟨n, line, true, true, []⟩ :: s.tables.lines.filter (fun l => !(l.table == n && l.line == line)) }).raise
              { cls := 2, level := 2, die := 1, object := memObject n line, value := line, own := true }).settle)) ∧
        (∀ (b : Fin 128) (i : Nat), s.Calm → s.tables.relaying.any (fun x => x.1 == b.val) = true →
          s.openOp relayIdx relaySub b = none → s.reserveUsed < 2 → s.freeSlot true = some i →
          exec (.bankRelay t b) s = .next ({ u with dict := { s.dict with
            nextHandle := nextHandle s.dict.nextHandle
            slots := s.dict.slots.set i ⟨s.dict.nextHandle, 0, relayIdx, relaySub, selfId, 0, 128, 0, 0, zeros 12, 0, false,
              b.val⟩ } }.devSync)))) ∧
  (∀ (s : State) (t : Nat) (table line : Nat) (backingBad : Bool),
    ∃ s2, exec (.backingRepair t table line backingBad) s = .next s2) ∧
  (∀ (s : State) (t : Nat) (place : MemLine) (onDie : MemErr) (backing : MemErr) (differ : Option (Nat × Nat)),
    ∃ s2, exec (.scrubVisit t place onDie backing differ) s = .next s2) ∧
  (∀ (s : State) (t : Nat) (bank : Fin 128), ∃ s2, exec (.bankRelay t bank) s = .next s2)

/-- The learning engine takes a notification whose key stands nowhere into the lowest free slot of its first candidate bucket
that has one, counts a table without buckets and a locked bucket, and stamps a key that it finds, one notification in 8
CORE cycles for each direction (R185 to R187); the sweep clears the valid bit of what has reached the age limit, in a
bucket that is not locked; a learned table's clock ticks once its period has run (R192, R193). Each of these completes in
every state, whatever its operands: learnNotification, ageingSweepVisit, learnedTableTick. -/
def Obligations.LearnedTablesLearnAndAge : Prop :=
  (∀ (s : State) (t : Tick), s.Calm → s.faults.haltFe = false →
    let u := s.tick t
    (u.coreCycle < nget s.flow.learnAt 0 0 → exec (.learnNotification t .ingress) s = .next u.devSync) ∧
    (u.coreCycle < nget s.flow.learnAt 1 0 → exec (.learnNotification t .egress) s = .next u.devSync) ∧
    (∀ n r, s.flow.learnI = n :: r → nget s.flow.learnAt 0 0 ≤ u.coreCycle →
      let v : State := { u with flow := { u.flow with learnI := r, learnAt := nset s.flow.learnAt 0 (u.coreCycle + 8) 0 } }
      let o := 0x4610 + n.tbl
      let w := s.obj o 5
      let ab := s.candidates n.tbl n.key
      let ends (x : State) (c : Nat) : Prop := exec (.learnNotification t .ingress) s = .next ((x.bump o c).devSync)
      (s.bucketCount n.tbl = 0 → ends v 0xA) ∧
        (s.bucketCount n.tbl ≠ 0 → s.tables.locked ab.1 = true → s.tables.locked ab.2 = true → ends v 0xD) ∧
        (s.bucketCount n.tbl ≠ 0 → s.tables.locked ab.1 = false → s.tables.locked ab.2 = false →
          (∀ i, s.tables.findKey w ab.1 n.key = some i →
            bits (s.tables.slotAt ab.1 i) 63 0 = n.result → ends (v.setTables (s.tables.setSlot ab.1 i
              (setBits (s.tables.slotAt ab.1 i) 247 232 (s.tables.tickNow n.tbl)))) 7) ∧
          (s.tables.findKey w ab.1 n.key = none → s.tables.findKey w ab.2 n.key = none →
            (∀ i, s.tables.freeSlot ab.1 = some i →
              ends (v.setTables (s.tables.setSlot ab.1 i (s.tables.newEntry n.tbl w n.key n.result))) 6) ∧
            (∀ i, s.tables.freeSlot ab.1 = none → s.tables.freeSlot ab.2 = some i →
              ends (v.setTables (s.tables.setSlot ab.2 i (s.tables.newEntry n.tbl w n.key n.result))) 6)))) ∧
      (∀ (b : Fin 262144) (tbl : Nat), u.bucketTable b = some tbl →
        (u.tables.locked b = true → exec (.ageingSweepVisit t b) s = .next u.devSync) ∧
        (u.tables.locked b = false → exec (.ageingSweepVisit t b) s = .next (((List.range 8).foldl (fun v i =>
          if v.expired tbl (v.tables.slotAt b i) = true
          then (v.setTables { v.tables.setSlot b i (setBit (v.tables.slotAt b i) 255 false) with
            swept := (b * 8 + i, v.coreCycle) :: v.tables.swept.filter (fun x => x.2 == v.coreCycle) }).bump
              (0x4610 + tbl) 0xB
          else v) u).devSync))) ∧
      (∀ k : Fin 8,
        let due := nget s.tables.tickAt k 0 + (if nget s.tables.tickAt k 0 = 0 then s.dev.coreBase else 0) +
          nget s.tables.tickPeriod k 1000 * Config.ms
        (u.clock.now < due → exec (.learnedTableTick t k) s = .next u.devSync) ∧
        (due ≤ u.clock.now → exec (.learnedTableTick t k) s = .next ({ u with tables := { s.tables with
          tickCount := nset s.tables.tickCount k ((nget s.tables.tickCount k 0 + 1) % 65536) 0
          tickAt := nset s.tables.tickAt k due 0
          tickPeriod := nset s.tables.tickPeriod k (s.obj (0x4610 + k.val) 3) 1000 } }.devSync)))) ∧
  (∀ (s : State) (t : Nat) (dir : Dir), ∃ s2, exec (.learnNotification t dir) s = .next s2) ∧
  (∀ (s : State) (t : Nat) (bucket : Fin 262144), ∃ s2, exec (.ageingSweepVisit t bucket) s = .next s2) ∧
  (∀ (s : State) (t : Nat) (tbl : Fin 8), ∃ s2, exec (.learnedTableTick t tbl) s = .next s2)

/-- A free lock is granted while a slot is free, a lock held stays with its holder, its holder's release adds the collected
credits, a lock held above 100 µs is taken back and counted; a lock word reads as its holder and takes a release and then
an acquire; the table window reads within one bucket or one block and writes within one entry, pair or lock word, stores
no reserved bit and stamps what it writes, ignores a write without the lock and counts what goes beyond; it answers
nothing but an Unsupported Request while memory access is off or beyond BAR1, and nothing at all while the window is
ignored as a source (R197 to R203, R552, R566, R592, R593, R642). Each of these completes in every state, whatever its
operands: lockAcquire, lockRelease, lockExpire, tableWindowRead, tableWindowWrite. -/
def Obligations.LocksGuardTheTableWindow : Prop :=
  (∀ (s : State) (t : Tick),
    let u := s.tick t
    let tb := s.tables
    (∀ (g : LockTarget) (who : Holder), s.Calm →
      (tb.lockOf g = none → tb.locks.length < 64 → exec (.lockAcquire t g who) s =
        .next ({ u with tables := { tb with locks := tb.locks ++ [(⟨g, who, u.clock.now, [], []⟩ : Lock)] } }.devSync)) ∧
      (tb.lockOf g = none → 64 ≤ tb.locks.length → exec (.lockAcquire t g who) s = .next u.devSync) ∧
      (tb.lockOf g = none → exec (.lockRelease t g who) s = .next u.devSync ∧
        exec (.lockExpire t g) s = .next u.devSync ∧ tb.lockWord g = 0) ∧
      (∀ l, tb.lockOf g = some l →
        exec (.lockAcquire t g who) s = .next u.devSync ∧
        tb.lockWord g = 2 ^ 31 + (match l.holder with | .dma e => e.val + 1 | .window => 8) * 2 ^ 24 ∧
        (l.holder ≠ who → exec (.lockRelease t g who) s = .next u.devSync) ∧
        (l.holder = who → exec (.lockRelease t g who) s =
          .next ({ u with tables := { tb.settleCredits l with locks := dropFirst (fun x => x.target == g) tb.locks } }.devSync)) ∧
        (u.clock.now ≤ l.since + 100 * Config.us → exec (.lockExpire t g) s = .next u.devSync) ∧
        (l.since + 100 * Config.us < u.clock.now → exec (.lockExpire t g) s =
          .next (((u.setTables (tb.unlock g)).hostMis 0x4600 3 (holderRequester l.holder)).settle)))) ∧
      (∀ (a len : Nat) (d : List Byte),
        let reads (v : State) : Prop := exec (.tableWindowRead t a len) s = .next v.settle
        let writes (v : State) : Prop := exec (.tableWindowWrite t a d) s = .next v.settle
        (s.pcie.memory = false → reads (u.out (.pcieStatus 1)) ∧ writes (u.out (.pcieStatus 1))) ∧
        (s.pcie.memory = true → u.memOk 0x2021 = false → reads u ∧ writes u) ∧
        (u.memOk 0x2021 = true →
          (2 ^ 29 < a + len → reads (u.out (.pcieStatus 1))) ∧ (2 ^ 29 < a + d.length → writes (u.out (.pcieStatus 1))) ∧
          (0x14900000 ≤ a →
            (a + len ≤ 2 ^ 29 → reads (((u.bump 0x2000 7).out (.pcieStatus 4)).hostMis 0x2000 0xD 0x2021)) ∧
            (a + d.length ≤ 2 ^ 29 → writes (u.hostMis 0x2000 0xD 0x2021))))) ∧
      (u.memOk 0x2021 = true →
        (∀ (b : Fin 262144) (o len : Nat), 0 < len → o + len ≤ 256 → exec (.tableWindowRead t (b.val * 256 + o) len) s =
          .next ((u.out (.readData (leNat (bytesAt (u.bucketBytes b) o len)) len)).settle)) ∧
        (∀ (b : Fin 262144) (i : Fin 8) (o : Fin 32) (d : List Byte), d ≠ [] → d.length ≤ 32 →
          let writes (v : State) : Prop := exec (.tableWindowWrite t (b.val * 256 + i.val * 32 + o.val) d) s = .next v.settle
          (32 < o.val + d.length → writes (u.hostMis 0x2000 0xD 0x2021)) ∧
          (o.val + d.length ≤ 32 → u.bucketTable b = none → writes u) ∧
          (∀ k, o.val + d.length ≤ 32 → u.bucketTable b = some k →
            (tb.holds (bucketTarget b) .window = true → writes (u.setTables (tb.setSlot b i (setBits
              (leNat (putBytes (leBytes 32 (tb.slotAt b i)) o d) &&& learnedMask) 247 232 (tb.tickNow k))))) ∧
            (tb.holds (bucketTarget b) .window = false → writes (u.hostMis 0x4600 2 0x2021)))) ∧
        (∀ (k : Fin 2097152) (o len : Nat), 0 < len → o + len ≤ 128 →
          exec (.tableWindowRead t (0x4000000 + k.val * 128 + o) len) s =
            .next ((u.out (.readData (leNat (bytesAt (u.pairBytes (8 * k.val) 8) o len)) len)).settle)) ∧
        (∀ (i : Fin 16777216) (o : Fin 16) (d : List Byte), d ≠ [] → d.length ≤ 16 →
          let writes (v : State) : Prop := exec (.tableWindowWrite t (0x4000000 + i.val * 16 + o.val) d) s = .next v.settle
          (16 < o.val + d.length → writes (u.hostMis 0x2000 0xD 0x2021)) ∧
          (o.val + d.length ≤ 16 →
            (tb.holds (blockTarget (i.val / 8)) .window = true →
              writes (u.setTables (tb.setPair i (leNat (putBytes (leBytes 16 (tb.pair i)) o d))))) ∧
            (tb.holds (blockTarget (i.val / 8)) .window = false → writes (u.hostMis 0x4600 2 0x2021)))) ∧
        (∀ (b : Fin 262144) (k : Fin 2097152) (o : Fin 4) (len : Nat) (d : List Byte),
          let word (at_ : Nat) (g : LockTarget) : Prop :=
            (0 < len → o.val + len ≤ 4 → exec (.tableWindowRead t (at_ + o.val) len) s =
              .next ((u.out (.readData (leNat (bytesAt (leBytes 4 (tb.lockWord g)) o len)) len)).settle)) ∧
            (d ≠ [] → o.val + d.length ≤ 4 → exec (.tableWindowWrite t (at_ + o.val) d) s =
              let w := if o = 0 then (d.headD 0).toNat else 0
              let freed := if bit w 1 = true ∧ tb.holds g .window = true then tb.unlock g else tb
              .next ((u.setTables (if bit w 0 then freed.lock g .window u.clock.now else freed)).settle))
          word (0x14000000 + 4 * b.val) (.bucket b) ∧ word (0x14100000 + 4 * k.val) (.block k)))) ∧
  (∀ (s : State) (t : Nat) (target : LockTarget) (who : Holder), ∃ s2, exec (.lockAcquire t target who) s = .next s2) ∧
  (∀ (s : State) (t : Nat) (target : LockTarget) (who : Holder), ∃ s2, exec (.lockRelease t target who) s = .next s2) ∧
  (∀ (s : State) (t : Nat) (target : LockTarget), ∃ s2, exec (.lockExpire t target) s = .next s2) ∧
  (∀ (s : State) (t : Nat) (offset len : Nat), ∃ s2, exec (.tableWindowRead t offset len) s = .next s2) ∧
  (∀ (s : State) (t : Nat) (offset : Nat) (data : List Byte), ∃ s2, exec (.tableWindowWrite t offset data) s = .next s2)

/-! ### Transactions (chapter 6) -/

/-- A well-formed transaction record of host software is laid in its transaction: OPEN begins one in the lowest free slot,
WRITE, PROGRAM and GRATICULE add to it and take their shadow slots, the keystone stages it when its checks pass and else
ends it with the abort of the first check that fails, ABANDON ends it and sends its message; a record for a tag that no
journal record has is refused, and no record of an OPEN or STAGED transaction leaves the journal (R220 to R224, R227 to
R231, R242, R247, R345). Each of these completes in every state, whatever its operands: txnOpen, txnWrite, txnProgram,
txnGraticule, txnKeystone, txnAbandon. -/
def Obligations.TransactionRecordsAreLaid : Prop :=
  (∀ (s : State) (t : Tick) (p : Path) (tag txn : Nat), (s.tick t).Ready p → 2 ≤ (s.tick t).roleOf p → txn < 2 ^ 32 →
    let u := (s.tick t).begun p
    u.pairTakesNone = false → u.dev.st.takesRecords = true →
    let who := (s.tick t).requesterOf p
    let now := u.clock.now
    let takes (i : Instr) (bs : List Byte) (f : State → State) : Prop :=
      exec i s = .next (s.writeDone t p tag 0x4501 1 bs f)
    let lays (bs : List Byte) (f : TxWork → TxWork) (g : JRec → JRec) (v : State) : State :=
      { v with tx := ((v.tx.modWork txn (fun x => { f x with last := now, recs := x.recs ++ [bs] })).modRec txn
        (fun r => { g r with records := r.records + 1 })) }
    let stages (v : State) : State :=
      { v with tx := { ((v.tx.modWork txn (fun x => { x with kseq := v.tx.kseq + 1, kat := now })).modRec txn
        (fun r => { r with flags := setBit r.flags 3 true, ktime := u.time80, state := 2 })) with kseq := v.tx.kseq + 1 } }
    let lands (i : Instr) (bs : List Byte) (k : Bool) (f : State → State) : Prop :=
      (k = false → takes i bs f) ∧
        (k = true → (∀ w, (f u).tx.workOf txn = some w → (f u).keystoneFault w = none) → takes i bs (fun v => stages (f v))) ∧
        (∀ w a, k = true → (f u).tx.workOf txn = some w → (f u).keystoneFault w = some a →
          let v : State := { f u with tx := (f u).tx.modRec txn (fun r => { r with
            flags := setBit r.flags 3 true, ktime := u.time80 }) }
          exec i s = .next ((((v.abandon txn 3 a).bump 0x2030 0xD).respond ((s.tick t).reqOn p 2 tag 0x4501 1 bs) 1
            (leBytes 4 a) false).settle))
    let opened := txnRecord 1 false txn (zeros 8) []
    let staged := txnRecord 5 false txn (zeros 8) []
    (∀ r ∈ u.tx.journal, r.state < 3 → ∀ q, r ∈ pushRec q u.tx.journal) ∧
      (u.tx.workOf txn = none → u.tx.work.length < 64 → takes (.txnOpen t p tag txn) opened (fun v => { v with tx := { v.tx with
        journal := pushRec ⟨txn, 1, 0, v.tx.freeSlot, 0, who, 0, 0, 0, 0, 0, 0⟩ v.tx.journal
        work := v.tx.work ++ [⟨txn, [], [], none, none, [], now, 0, 0, [opened]⟩] } })) ∧
      (u.tx.rec_ txn = none → exec (.txnKeystone t p tag txn) s =
        .next (((u.bump 0x2030 0xD).respond ((s.tick t).reqOn p 2 tag 0x4501 1 staged) 1 (leBytes 4 0x01110000) false).settle)) ∧
      (∀ w j, u.tx.workOf txn = some w → u.tx.rec_ txn = some j → j.state = 1 →
        (u.keystoneFault w = none → takes (.txnKeystone t p tag txn) staged (fun v => stages { v with
          tx := v.tx.modWork txn (fun x => { x with last := now, recs := x.recs ++ [staged] }) })) ∧
        ((dropFirst (fun x => x.tag == txn) u.tx.work).all (fun x => x.tag != txn) = true →
          takes (.txnAbandon t p tag txn) (txnRecord 6 false txn (zeros 8) []) (fun v => ({ v with tx := { v.tx with
            journal := modFirst (fun r => r.tag == txn)
              (fun r => { r with state := 4, cause := 1, result := 0, shadow := 0 }) v.tx.journal
            work := dropFirst (fun x => x.tag == txn) v.tx.work } }.bump 0x4500 8).msix 1)) ∧
        (j.records < 65536 → ∀ (k : Bool) (tabref payload : List Byte),
          let bs := txnRecord 2 k txn tabref payload
          let r := txParse bs
          let n := beAt r.target 0 2
          let key := writeKey n r
          let data := beNat r.payload
          u.txFormFault bs = none → u.tx.holder txn (fun x => x.writes.any (fun q => q.table == n && q.key == key)) = none →
          u.entryFault n key data = none → w.slotsFor n key ≤ u.shadowFree →
          lands (.txnWrite t p tag txn k tabref payload) bs k
            (lays bs (fun x => x.lay n key data) (fun r => { r with shadow := r.shadow + w.slotsFor n key }))) ∧
        (j.records < 65536 → ∀ (k : Bool) (dir : Fin 2) (off : Nat) (payload : List Byte),
          let bs := txnRecord 3 k txn ([byteOf dir.val, 0] ++ beBytes 4 off) payload
          let b := (w.prog dir).getD []
          off < 2 ^ 32 → u.txFormFault bs = none → u.tx.holder txn (fun x => (x.prog dir).isSome) = none → off = b.length →
          progComplete b = false →
          lands (.txnProgram t p tag txn k dir off payload) bs k (lays bs
            (fun x => if dir = 0 then { x with progI := some (b ++ (txParse bs).payload) }
              else { x with progE := some (b ++ (txParse bs).payload) })
            (fun r => { r with flags := setBit r.flags dir true }))) ∧
        (j.records < 65536 → ∀ (k : Bool) (port : Fin 128) (part first : Nat) (payload : List Byte),
          let bs := txnRecord 4 k txn ([byteOf port.val, byteOf part] ++ beBytes 2 first) payload
          let r := txParse bs
          part < 256 → first < 65536 → u.txFormFault bs = none → gratFault port part first r.payload = none →
          u.tx.holder txn (fun x => x.grats.any (fun g => g.port == port.val)) = none →
          lands (.txnGraticule t p tag txn k port part first payload) bs k (lays bs
            (fun x => { x with grats := x.grats ++ [⟨port, part, first, r.payload⟩] })
            (fun r => { r with flags := setBit r.flags 2 true }))))) ∧
  (∀ (s : State) (t : Nat) (p : Path) (tag : Nat) (txn : Nat), ∃ s2, exec (.txnOpen t p tag txn) s = .next s2) ∧
  (∀ (s : State) (t : Nat) (p : Path) (tag : Nat) (txn : Nat) (keystone : Bool) (tabref : List Byte) (payload : List Byte),
    ∃ s2, exec (.txnWrite t p tag txn keystone tabref payload) s = .next s2) ∧
  (∀ (s : State) (t : Nat) (p : Path) (tag : Nat) (txn : Nat) (keystone : Bool) (dir : Nat) (offset : Nat) (payload : List Byte),
    ∃ s2, exec (.txnProgram t p tag txn keystone dir offset payload) s = .next s2) ∧
  (∀ (s : State) (t : Nat) (p : Path) (tag : Nat) (txn : Nat) (keystone : Bool) (port part first : Nat) (payload : List Byte),
    ∃ s2, exec (.txnGraticule t p tag txn keystone port part first payload) s = .next s2) ∧
  (∀ (s : State) (t : Nat) (p : Path) (tag : Nat) (txn : Nat), ∃ s2, exec (.txnKeystone t p tag txn) s = .next s2) ∧
  (∀ (s : State) (t : Nat) (p : Path) (tag : Nat) (txn : Nat), ∃ s2, exec (.txnAbandon t p tag txn) s = .next s2)

/-- COMMIT of the first STAGED transaction in keystone order, once nothing holds it back: the commit number rises by one,
every entry that it writes reads as written at the new commit, and every entry reads at every older commit as before;
while a condition is unmet, the safe value of a sideband among them, it is noted and nothing commits, and a mirrored
transaction waits for its marker (R14, R218, R232 to R235, R487). A record that waits for shadow slots is tried again in
its turn and answered once it is done; an OPEN transaction without a record for the idle timeout is abandoned, and not
before (R224, R229). Each of these completes in every state, whatever its operands: txnWriteResume, txnIdleTimeout,
commit. -/
def Obligations.TransactionsCommitResumeAndEnd : Prop :=
  ((∀ (s : State) (t : Tick), s.faults.haltTm = false →
    (∀ w ∈ s.tx.staged.head?, s.pair.mirrored.contains w.tag = true) →
    exec (.commit t) s = .next (s.tick t).settle) ∧
  ∀ (s : State) (t : Tick) (w : TxWork) (rest : List TxWork), s.faults.haltTm = false → s.tx.staged = w :: rest →
    s.pair.mirrored.contains w.tag = false →
    let u := s.tick t
    let v := u.commitWork w
    (u.waitBits w = 0 → exec (.commit t) s = .next v.settle ∧ v.tx.commit = s.tx.commit + 1 ∧
        (∀ n key c, c ≤ s.tx.commit → verAt v.tables.vers n key c = verAt s.tables.vers n key c) ∧
        (∀ q, w.writes.find? (fun x => x.table == q.table && x.key == q.key) = some q →
          verAt v.tables.vers q.table q.key (s.tx.commit + 1) = q.data) ∧
        (∀ n ∈ w.digests, nget v.tx.digest n 0 = s.tx.commit + 1)) ∧
      (u.waitBits w ≠ 0 → exec (.commit t) s = .next ((u.noteWaits w.tag (u.waitBits w)).settle) ∧
        (u.noteWaits w.tag (u.waitBits w)).tx.commit = s.tx.commit)) ∧
  (∀ (s : State) (t : Tick),
    let u := s.tick t
    (∀ x r, u.serves = true → s.tx.waits = x :: r →
      (∀ v q, u.txRecord x.requester x.bytes = (v, .done) → x.req = some q → exec (.txnWriteResume t) s =
        .next ((({ v with tx := { v.tx with waits := r } } : State).respond q 0 [] true).settle)) ∧
      (∀ v, u.txRecord x.requester x.bytes = (v, .wait) → exec (.txnWriteResume t) s = .next u.settle)) ∧
    (∀ txn w, s.tx.workOf txn = some w → w.kseq = 0 →
      (u.clock.now < w.last + u.obj 0x4500 6 * Config.sec → exec (.txnIdleTimeout t txn) s = .next u.settle) ∧
      (w.last + u.obj 0x4500 6 * Config.sec ≤ u.clock.now → exec (.txnIdleTimeout t txn) s =
        .next (((({ u with tx := { u.tx with
          journal := modFirst (fun r => r.tag == txn)
            (fun r => { r with state := 4, cause := 4, result := 0, shadow := 0 }) u.tx.journal
          work := dropFirst (fun x => x.tag == txn) u.tx.work } } : State).bump 0x4500 8).msix 1).settle)))) ∧
  (∀ (s : State) (t : Nat), ∃ s2, exec (.txnWriteResume t) s = .next s2) ∧
  (∀ (s : State) (t : Nat) (txn : Nat), ∃ s2, exec (.txnIdleTimeout t txn) s = .next s2) ∧
  (∀ (s : State) (t : Nat), ∃ s2, exec (.commit t) s = .next s2)

/-! ### Buffer pools, queues, scheduling (chapters 7 to 9) -/

/-- CELL_FREE frees each unit named, in rising order of the holders: a free by the owner takes a unit out of use or lowers its
count; one by another holder or of a free unit is counted and raised as FC-04 at level F1. A handover by the owner names
the new holder; an account that does not match is raised at level F2; a pause still called for is sent again once half of
it has run (R260 to R262, R265, R290). Each of these completes in every state, whatever its operands: cellFree,
handoverOfCells, poolAccountMismatch, pfcRefresh. -/
def Obligations.BufferUnitsAreFreedAndHandedOver : Prop :=
  (∀ (s : State) (t : Tick),
    let u := s.tick t
    let wrong (v : State) (sub pool n : Nat) : State := (v.bump 0x5001 sub).bufFault 1 pool n n 0x5001 sub
    (∀ (pool : Pool) (frees : List (Nat × Nat)), exec (.cellFree t pool frees) s =
      .next (((((sortFrees frees).foldl (fun v x => v.freeUnit (poolCode pool) x.1 x.2) u).poolSync (poolCode pool)).pfcSyncAll
        s.buf.pfcPorts).settle)) ∧
    (∀ (v : State) (pool : Pool) (n code : Nat), pool ≠ .hbm →
      let kind := unitKind (poolCode pool)
      (∀ c, v.buf.cell kind n = some c → c.owner = code →
        (c.count = 1 → v.freeUnit (poolCode pool) n code = { v with buf := { v.buf with
          cells := dropFirst (fun x => x.pool == kind && x.num == n) v.buf.cells
          charges := if kind = 0 then v.buf.charges.filter (fun x => x.last != n) else v.buf.charges } }) ∧
        (1 < c.count → v.freeUnit (poolCode pool) n code = { v with buf := { v.buf with
          cells := modFirst (fun x => x.pool == kind && x.num == n) (fun x => { x with count := x.count - 1 }) v.buf.cells } })) ∧
      (∀ c, v.buf.cell kind n = some c → c.count ≠ 0 → c.owner ≠ code →
        v.freeUnit (poolCode pool) n code = wrong v 2 (v.poolOfCell kind n) n) ∧
      (v.buf.cell kind n = none → v.freeUnit (poolCode pool) n code = wrong v 1 (v.poolOfCell kind n) n)) ∧
    (∀ (v : State) (n code : Nat),
      (∀ b, v.buf.block n = some b →
        (b.owner = code → v.freeUnit 2 n code = { v with buf := { v.buf with
          blocks := dropFirst (fun x => x.num == n) v.buf.blocks } }) ∧
        (b.owner ≠ code → v.freeUnit 2 n code = wrong v 2 2 n)) ∧
      (v.buf.block n = none → v.freeUnit 2 n code = wrong v 1 2 n)) ∧
    (∀ (pool : Pool) (l : List Nat) (count : Nat) (a b : Fin 8),
      (pool = .hbm ∨ b = 0 ∨ b = 7 ∨ count = 0 ∨ 4095 < count →
        exec (.handoverOfCells t pool l a b count) s = .next u.settle) ∧
      (pool ≠ .hbm → b ≠ 0 → b ≠ 7 → 1 ≤ count → count ≤ 4095 →
        let kind := unitKind (poolCode pool)
        exec (.handoverOfCells t pool l a b count) s =
          .next ((l.foldl (fun v n => v.handCell kind n a b count) u).settle) ∧
        (∀ (v : State) (n : Nat),
          (∀ c, v.buf.cell kind n = some c →
            (c.owner = a → v.handCell kind n a b count = { v with buf := { v.buf with
              cells := modFirst (fun x => x.pool == kind && x.num == n)
                (fun x => { x with owner := b, count := count }) v.buf.cells } }) ∧
            (c.owner ≠ a → v.handCell kind n a b count = wrong v 2 (v.poolOfCell kind n) n)) ∧
          (v.buf.cell kind n = none → v.handCell kind n a b count = wrong v 2 (v.poolOfCell kind n) n)))) ∧
    (∀ pool : Pool, exec (.poolAccountMismatch t pool) s = .next ((u.raise
      { cls := 4, level := 2, die := poolDie (poolCode pool), object := poolCode pool * 2 ^ 29 + (2 ^ 29 - 1)
        value := poolCode pool }).settle)) ∧
    (∀ (p : Fin 128) (c : Fin 8),
      (s.faults.haltFe = true ∨ s.buf.xoff.find? (fun x => x.1 == p.val && x.2.1 == c.val) = none →
        exec (.pfcRefresh t p c) s = .next u.settle) ∧
      (∀ at_ : Tick, s.faults.haltFe = false →
        s.buf.xoff.find? (fun x => x.1 == p.val && x.2.1 == c.val) = some (p.val, c.val, at_) →
        (u.portRate p = 0 ∨ (u.clock.now - at_) * 2 * u.portRate p < u.obj (0x5080 + p.val) 7 * 512 * Config.ns →
          exec (.pfcRefresh t p c) s = .next u.settle) ∧
        (u.portRate p ≠ 0 → u.obj (0x5080 + p.val) 7 * 512 * Config.ns ≤ (u.clock.now - at_) * 2 * u.portRate p →
          exec (.pfcRefresh t p c) s = .next ((({ u with buf := { s.buf with xoff := s.buf.xoff.map (fun e =>
            if e.1 = p.val ∧ e.2.1 = c.val then (p.val, c.val, u.clock.now) else e) } } : State).sendPfc p
              [(c.val, u.obj (0x5080 + p.val) 7)]).settle))))) ∧
  (∀ (s : State) (t : Nat) (pool : Pool) (frees : List (Nat × Nat)), ∃ s2, exec (.cellFree t pool frees) s = .next s2) ∧
  (∀ (s : State) (t : Nat) (pool : Pool) (cells : List Nat) (fromCode toCode : Fin 8) (count : Nat),
    ∃ s2, exec (.handoverOfCells t pool cells fromCode toCode count) s = .next s2) ∧
  (∀ (s : State) (t : Nat) (pool : Pool), ∃ s2, exec (.poolAccountMismatch t pool) s = .next s2) ∧
  (∀ (s : State) (t : Nat) (port : Fin 128) (prio : Fin 8), ∃ s2, exec (.pfcRefresh t port prio) s = .next s2)

/-- ADMISSION of the next packet from BOND-FT: with nothing waiting, or with the allocator's cycle used up, nothing happens;
the rest of a packet that is cut through joins it; a punt goes to the punt writer. For one queue that eliminates nothing,
without mirror copy or charge, the packet is dropped and counted when the queue is disabled, counted at its profile when
it is refused, and else takes its cells and its place at the tail, with the bytes of its first cells alone when its source
port is set to cut through and no gate stands over the queue, and credit is asked for (R157, R259, R267, R272, R273, R294,
R296, R303, R325). EVICTION_RUN and PREFETCH on a VOQ: a run behind the head window, or the rest of one that had to wait,
is cut into blocks of eight cells, of which one is moved while HBM's bandwidth and its allocator permit; the run then
waits for the bandwidth and its packets are noted. The next evicted block comes back once the content before it falls
below the head window and HBM's bandwidth permits, into one cell for each place of it that a packet still holds, and one
that cannot be read loses its packets. BAD_TAIL ends the packet in transmission with BAD and its next cell, and drops one
that has not begun (R257, R258, R267, R275 to R281, R297, R298). Each of these completes in every state, whatever its
operands: admission, evictionRun, prefetch, badTail. -/
def Obligations.PacketsAreAdmittedEvictedAndFetched : Prop :=
  (∀ (s : State) (t : Tick), s.faults.haltTm = false →
    (s.flow.toTm = [] → exec (.admission t) s = .next (s.tick t).settle) ∧
    (∀ x r, s.flow.toTm = x :: r →
      let u : State := { s.tick t with flow := { s.flow with toTm := r } }
      let f := x.frame
      let n := (f.data.length + 32 + 255) / 256
      let ends (v : State) : Prop := exec (.admission t) s = .next v.settle
      (∀ id, x.pid = some id → ends (u.bondRest id f.data)) ∧
        (x.pid = none → u.allocBusy (if x.kind = 9 then 1 else 0) = true → ends (s.tick t)) ∧
        (x.pid = none → x.kind = 8 → u.allocBusy 0 = false → ends (u.puntWrite x.dest f.data)) ∧
        (x.pid = none → x.kind = 1 → x.mirror = 0 → u.allocBusy 0 = false →
          128 ≤ f.src ∨ u.pfcOn f.src f.prio = false → u.elimStream x.dest = none →
          (recEnabled (u.qrec x.dest) = false → ends (u.bump 0x5101 6)) ∧
            (recEnabled (u.qrec x.dest) = true →
              (u.verdict 0 x.dest n f.dp 0 none = .refuse →
                ends ((u.bump (0x5020 + recProfile (u.qrec x.dest)) 5).bump 0x5001 4)) ∧
              (∀ cs v, u.verdict 0 x.dest n f.dp 0 none = .accept → u.allocCells 0 n 1 = (some cs, v) →
                let cut := f.inject.isNone && decide (f.src < 128) && u.obj (0x5080 + f.src) 1 == 1 && !u.queueGated x.dest &&
                  decide (u.startBytes < f.data.length)
                let p : Pkt := { u.pktOf f none 0 with qid := x.dest, owner := 1, places := cs.map Place.die }
                let entered (p : Pkt) : State := (v.enqueue 0 p).creditOn x.dest
                (cut = false → ends (entered p)) ∧
                  (cut = true →
                    let w := entered { p with data := f.data.take u.startBytes }
                    ends { w with flow := { w.flow with
                      toTm := { x with frame := { f with data := f.data.drop u.startBytes }, pid := some u.sched.nextPkt } ::
                        w.flow.toTm } })))))) ∧
  (∀ (s : State) (t : Tick) (qid : Fin 524288), s.faults.haltTm = false →
    let u := s.tick t
    let q := u.que qid
    recEgress (u.qrec qid) = false →
    (let rest := if (u.runRest q.pkts).isEmpty then u.runRest q.locals else u.runRest q.pkts;
      (u.evictOk qid = false ∨ rest = [] ∧ u.evictDue 0 q.pkts = false → exec (.evictionRun t qid) s = .next u.settle) ∧
      (u.evictOk qid = true → rest ≠ [] ∨ u.evictDue 0 q.pkts = true →
        let run := if rest.isEmpty then u.runOf (u.obj 0x5000 5) q.pkts 0 false else rest
        let nums := dieCells run
        let ends (v : State) : Prop := exec (.evictionRun t qid) s =
          .next ((((((v.noteRun run).poolSync 0).poolSync 1).poolSync 2).pfcSyncAll u.buf.pfcPorts).settle)
        ((u.hbmFull = true ∨ u.allocBusy 2 = true) → ends u) ∧
          (∀ c cs b l v, eights nums.length nums = c :: cs → u.hbmFull = false → u.allocBusy 2 = false →
            u.grantUnits 1 0 25165824 1 = (some (b :: l), v) →
            let w := ((v.noteGrant 2 1).hbmUse false).makeBlock qid b c
            w.hbmFull = true ∧ ends w) ∧
          (∀ c cs v, eights nums.length nums = c :: cs → u.hbmFull = false → u.allocBusy 2 = false →
            u.grantUnits 1 0 25165824 1 = (none, v) → ends v))) ∧
    (∀ err, u.prefetchDue q.pkts = none → u.prefetchDue q.locals = none → exec (.prefetch t qid err) s = .next u.settle) ∧
    (∀ b, u.prefetchDue q.pkts = some b → u.prefetchDue q.locals = none →
      ((u.ctlOut (19 + b % 128 / 32) = true ∨ u.hbmReadFull = true) → ∀ err, exec (.prefetch t qid err) s = .next u.settle) ∧
      (u.ctlOut (19 + b % 128 / 32) = false → u.hbmReadFull = false →
        exec (.prefetch t qid true) s = .next ((u.blockLost qid b).settle) ∧
        (∀ blk cs v, u.buf.block b = some blk → u.allocBusy 0 = false →
          u.allocCells 0 (u.blockPlaces qid b).length blk.owner = (some cs, v) →
          exec (.prefetch t qid false) s = .next (((((((v.hbmUse true).unpackBlock qid blk (v.blockPlaces qid b) cs).freeBlock b
            blk.owner).relink qid).bump 0x5001 0xB).poolSync 2).settle)))) ∧
    (∀ x, u.txOf qid = some x →
      let mine : TxPkt → Bool := fun p => p.pid == x.pid
      let gone := u.txAll.filter (fun p => !p.started && mine p)
      exec (.badTail t qid) s = .next (((({ u with
        fabric := { u.fabric with txs := u.fabric.txs.map (fun (y : TxStream) => { y with pkts := truncate mine y.pkts }) }
        pair := { u.pair with data := u.pair.data.map (fun (y : Nat × List TxPkt) => (y.1, truncate mine y.2)) } } :
          State).bumpN 0x5001 6 gone.length).release (gone.filterMap (·.held))).settle)) ∧
    (u.txOf qid = none →
      (q.pkts = [] → exec (.badTail t qid) s = .next u.settle) ∧
      (∀ p rest, q.pkts = p :: rest → exec (.badTail t qid) s =
        .next (((((u.setQue { q with pkts := rest }).bump 0x5001 6).release [p]).creditOff qid).settle)))) ∧
  (∀ (s : State) (t : Nat), ∃ s2, exec (.admission t) s = .next s2) ∧
  (∀ (s : State) (t : Nat) (qid : Fin 524288), ∃ s2, exec (.evictionRun t qid) s = .next s2) ∧
  (∀ (s : State) (t : Nat) (qid : Fin 524288) (readError : Bool), ∃ s2, exec (.prefetch t qid readError) s = .next s2) ∧
  (∀ (s : State) (t : Nat) (qid : Fin 524288), ∃ s2, exec (.badTail t qid) s = .next s2)

/-- Credit: a request that stands unanswered for the refresh period is repeated; a quantum is granted to the next requesting
source of the queue whose turn it is, which may grant, while the cycle has grants left; an outstanding count that no cell
follows is cleared and raised as FC-08 at level F0 (R325, R328 to R330). The heads of a queue that have reached its
maximum sojourn are dropped and counted; a port held for its hold time is flushed in a later TMC cycle; a sampler takes
one round at each multiple of its interval in TIME and at no other instant; a committed graticule change takes effect at
its X and not before (R332 to R334, R336, R355, R356). Each of these completes in every state, whatever its operands:
sojournSweep, requestRefresh, grantIssue, creditTimeout, holdTimerExpire, samplerRound, graticuleChangeEffect. -/
def Obligations.CreditSweepsSamplesAndGates : Prop :=
  (∀ (s : State) (t : Tick) (qid : Fin 524288), s.faults.haltTm = false →
    let u := s.tick t
    let q := u.que qid
    (q.on = true → q.bal < (allCells (u.voq qid) : Int) →
      (u.clock.now < q.onAt + u.obj 0x5101 3 * Config.us → exec (.requestRefresh t qid) s = .next u.settle) ∧
      (q.onAt + u.obj 0x5101 3 * Config.us ≤ u.clock.now → exec (.requestRefresh t qid) s =
        .next (((u.setQue { q with onAt := u.clock.now }).sendMsg (u.requestOf qid).1
          (ctlMsg 1 0 (u.requestOf qid).2 qid)).settle))) ∧
    (∀ w src, nextSource q.srcs q.lastSrc = some (w, src) →
      (u.grantNext ≠ some qid.val ∨ 4 ≤ u.grantsNow → exec (.grantIssue t qid) s = .next u.settle) ∧
      (u.grantNext = some qid.val → u.grantOk qid = true ∧ (u.grantsNow < 4 → exec (.grantIssue t qid) s =
        .next (((({ u with sched := { u.sched with
            grantAt := u.tmcCycle, grantCount := u.grantsNow + 1, grantRot := qid.val + 1
            granted := (if u.sched.grantAt = u.tmcCycle then u.sched.granted else []) ++
              [(qid.val, w, src, u.obj 0x5101 2, q.lastSrc)] } } : State).setQue
          { q with out := q.out + u.obj 0x5101 2, outAt := if q.out = 0 then u.clock.now else q.outAt, lastSrc := w }).sendMsg w
            (ctlMsg 3 (u.obj 0x5101 2) qid src)).settle)))) ∧
    (q.srcs = [] → exec (.grantIssue t qid) s = .next u.settle) ∧
    (0 < q.out →
      (u.clock.now < q.outAt + u.obj 0x5101 4 * Config.us → exec (.creditTimeout t qid) s = .next u.settle) ∧
      (q.outAt + u.obj 0x5101 4 * Config.us ≤ u.clock.now → exec (.creditTimeout t qid) s =
        .next ((((u.setQue { q with out := 0 }).bump 0x5101 9).raise
          { cls := 8, level := 0, object := qid, value := q.out, ctrIdx := 0x5101, ctrSub := 9 }).settle)))) ∧
  (∀ (s : State) (t : Tick), s.faults.haltTm = false →
    let u := s.tick t
    (∀ qid : Fin 524288,
      let q := u.que qid
      let dropped (v : State) (l : List Pkt) : State :=
        (((v.bumpI 0x5100 0xB qid l.length).bumpN 0x5101 5 l.length).release l).creditOff qid
      (u.expiredHeads q.pkts = [] → exec (.sojournSweep t qid false) s = .next u.settle) ∧
      (u.expiredHeads q.pkts ≠ [] → exec (.sojournSweep t qid false) s = .next ((dropped (u.setQue { q with
        pkts := q.pkts.drop (u.expiredHeads q.pkts).length }) (u.expiredHeads q.pkts)).settle)) ∧
      (u.expiredHeads q.locals ≠ [] → exec (.sojournSweep t qid true) s = .next ((dropped (u.setQue { q with
        locals := q.locals.drop (u.expiredHeads q.locals).length }) (u.expiredHeads q.locals)).settle))) ∧
    (∀ n : Fin 256, u.portState n = 1 →
      (u.tmcCycle ≤ nget u.sched.portHold n 0 / Config.tmc → exec (.holdTimerExpire t n) s = .next u.settle) ∧
      (nget u.sched.portHold n 0 / Config.tmc < u.tmcCycle → exec (.holdTimerExpire t n) s = .next (((({ u with
        sched := { u.sched with portSt := nset u.sched.portSt n 2 0 } } : State).bumpI 0x5201 7 n 1).flushPort n).settle))) ∧
    (∀ k : Fin 16, s.Calm →
      let o := 0x5310 + k.val
      let round := timeToNs u.time80 + 1
      (u.obj o 1 = 0 ∨ timeToNs u.time80 % u.obj o 2 ≠ 0 ∨ nget s.sched.sampAt k 0 = round → exec (.samplerRound t k) s = .next u.devSync) ∧
      (u.obj o 1 ≠ 0 → timeToNs u.time80 % u.obj o 2 = 0 → nget s.sched.sampAt k 0 ≠ round → u.obj o 4 = 1 → exec (.samplerRound t k) s =
        .next (({ u with sched := { s.sched with
          sampAt := nset s.sched.sampAt k round 0
          samples := nset s.sched.samples (k.val * 8388608 + u.obj o 5 % 8388608) (u.sample (u.obj o 3)) 0 } }.bump o 5).devSync))) ∧
    (∀ (p : Fin 128) (c : GratChange), s.Calm → s.gates.change p = some c →
      (timeToNs u.time80 < c.x → exec (.graticuleChangeEffect t p) s = .next u.devSync) ∧
      (c.x ≤ timeToNs u.time80 → exec (.graticuleChangeEffect t p) s = .next ((({ u with gates := { s.gates with
        pending := s.gates.pending.filter (fun d => d.port != p.val)
        inForce := s.gates.inForce.filter (fun x => x.1 != p.val) ++ (if c.enable then [(p.val, c.grat)] else []) } } : State).bump
          0x5400 5).devSync)))) ∧
  (∀ (s : State) (t : Nat) (qid : Fin 524288) (localList : Bool), ∃ s2, exec (.sojournSweep t qid localList) s = .next s2) ∧
  (∀ (s : State) (t : Nat) (qid : Fin 524288), ∃ s2, exec (.requestRefresh t qid) s = .next s2) ∧
  (∀ (s : State) (t : Nat) (qid : Fin 524288), ∃ s2, exec (.grantIssue t qid) s = .next s2) ∧
  (∀ (s : State) (t : Nat) (qid : Fin 524288), ∃ s2, exec (.creditTimeout t qid) s = .next s2) ∧
  (∀ (s : State) (t : Nat) (node : Fin 256), ∃ s2, exec (.holdTimerExpire t node) s = .next s2) ∧
  (∀ (s : State) (t : Nat) (sampler : Fin 16), ∃ s2, exec (.samplerRound t sampler) s = .next s2) ∧
  (∀ (s : State) (t : Nat) (port : Fin 128), ∃ s2, exec (.graticuleChangeEffect t port) s = .next s2)

/-- A port node decides nothing while a die is halted, before READY, while its outlet is closed, before its spacing has run or
beyond its cycle's dequeues; else its heads are looked at by their gates and the chosen head is dequeued while the egress
pipelines and the reserve admit it, or dropped for its sojourn or a bad tail and the choice made again. FABRIC_TRANSMIT
deals cells and takes packets of ready queues step by step, and does nothing while the part is out of service (R87, R270,
R298, R316 to R321, R326, R332, R353, R354, R373, R415). Each of these completes in every state, whatever its operands:
schedulerDecision, fabricTransmit. -/
def Obligations.SchedulerAndFabricServe : Prop :=
  ((∀ (s : State) (t : Tick) (n : Fin 256), s.faults.haltTm = false →
    let u := s.tick t
    let total := sumOf (fun q => q.pkts.length) u.sched.ques + 1
    let x := u.gateChecks n
    let ends (v : State) : Prop := exec (.schedulerDecision t n) s = .next v.settle
    (s.faults.haltFe = true ∨ s.dev.st = .boot ∨ s.dev.st = .init ∨ u.outletOpen n = false ∨
        u.clock.now < nget s.sched.portNext n 0 ∨ u.tmcOpen n = false → ends u) ∧
    (s.faults.haltFe = false → s.dev.st ≠ .boot → s.dev.st ≠ .init → u.outletOpen n = true →
      nget s.sched.portNext n 0 ≤ u.clock.now → u.tmcOpen n = true →
      let live := (x.leaves n).filter (x.eligible n)
      let v := x.zeroDeficits n live
      let pick := v.choose n 4 (nodeKey 1 n) (live.filter v.servable)
      let taken (l : Leaf) : State := v.setQue { v.que l.qid with pkts := (v.que l.qid).pkts.tail }
      (pick = none → ends v) ∧
      (∀ l len ch, pick = some (l, len, ch) →
        (v.pktExpired l.pkt = false → l.pkt.bad = false →
          (v.outlet n / 256 ≠ 3 → v.coreOpen = false ∨ 32768 < v.reserveHeld + cellsOf l.pkt.len → ends v) ∧
          ((v.outlet n / 256 = 3 ∨ v.coreOpen = true ∧ v.reserveHeld + cellsOf l.pkt.len ≤ 32768) →
            let w := (v.dequeue n l len ch).dropOversize n
            ends (w.zeroDeficits n ((w.leaves n).filter (w.eligible n))))) ∧
        (v.pktExpired l.pkt = true → ends (((taken l).dropExpired l.qid [l.pkt]).decide_ n (total - 1))) ∧
        (v.pktExpired l.pkt = false → l.pkt.bad = true →
          ends ((((taken l).bump 0x5001 6).release [l.pkt]).decide_ n (total - 1)))))) ∧
  (∀ (s : State) (t : Tick), s.faults.haltTm = false →
    let u := s.tick t
    let v := u.pinSyncAll.cutUnits
    let ends (v : State) : Prop := exec (.fabricTransmit t) s = .next v.settle
    (s.dev.st.inService = false → ends u) ∧
    (s.dev.st.inService = true →
      (v.txStep = none → ends v) ∧
      (∀ w, v.txStep = some w → w.txStep = none →
        0 < v.fabric.backlog + sumOf (fun q => sumOf (fun p => p.len / 32 + 3) (q.pkts ++ q.locals)) v.sched.ques →
        ends w))) ∧
  (∀ (s w : State) (q : Nat), s.dealClass 8 = none → s.txPick 7 = some q → s.txStep = some w →
    (∀ p l, s.voq q = p :: l → s.pktExpired p = true → w = (s.popVoq q).dropExpired q [p]) ∧
    (∀ p l, s.voq q = p :: l → s.pktExpired p = false → p.bad = true →
      w = (((s.popVoq q).bump 0x5001 6).release [p]).creditOff q))) ∧
  (∀ (s : State) (t : Nat) (node : Fin 256), ∃ s2, exec (.schedulerDecision t node) s = .next s2) ∧
  (∀ (s : State) (t : Nat), ∃ s2, exec (.fabricTransmit t) s = .next s2)

/-! ### Fabric and lanes (chapters 10 and 11) -/

/-- A cell for another unit is counted and goes no further; an element cell replaces the reachability of its lane; a data cell
in order of an ACTIVE stream is released, one already held is a duplicate, one behind the release point is late; before a
SYNC cell a stream holds what comes; each cell is taken with its arrival word (R363, R364, R372, R381, R383). A lane
without an element cell for 4 ms reaches nothing; a stream without cells for 2 ms is IDLE; the hold of a pin and the claim
of a pair's member end with their time; a held cell that waits its timeout releases the stream: the missing cell is lost,
or the lowest held cell begins it (R372, R382, R383, R390, R484). Each of these completes in every state, whatever its
operands: fabricCellReceive, reachabilityExpire, resequencingTimeout, streamIdle, pinHoldEnd, pairClaimExpire. -/
def Obligations.FabricCellsAndTheirTimers : Prop :=
  (∀ (s : State) (t : Tick) (lane : Fin 161) (slot : List Byte), s.faults.haltTm = false → slot.length = 264 →
    let w := beNat (slot.take 8)
    let kind := bits w 63 62
    let src := bits w 47 39
    let cls := bits w 61 59
    let seq := bits w 22 0
    let u := if lane.val < 160 then (s.tick t).bump (0x6020 + lane) 4 else s.tick t
    let cell : FCell := ⟨slot, (if lane.val = 160 then 0xFE else lane.val) * 2 ^ 56 + u.ns32 % 2 ^ 32 * 2 ^ 24, []⟩
    let took (v : State) : Prop := exec (.fabricCellReceive t lane slot) s = .next v.settle
    (kind = 2 → exec (.fabricCellReceive t lane slot) s = .next ((s.tick t).settle)) ∧
      (kind = 3 → lane.val < 160 → took (u.setLane { u.lane lane with
        reach := leNat ((slot.drop 8).take 64), reachAt := some u.clock.now })) ∧
      (kind < 2 → bits w 56 48 ≠ u.unit → took ((u.bump 0x6001 5).partnerNote 0x364000 src 0x6001 5)) ∧
      (kind = 0 → bits w 56 48 = u.unit → u.pinned src = false →
        let v := (u.bump 0x6001 3).noteClaim src (bits w 38 31)
        let x := { v.fabric.rx src cls with last := v.clock.now }
        let d := (seq + 2 ^ 23 - x.r) % 2 ^ 23
        (x.active = true → d = 0 → x.held = [] → took (((v.setRx x).setRx { x with r := (x.r + 1) % 2 ^ 23 }).releaseCell src cls cell)) ∧
          (x.active = true → bit w 57 = false → 0 < d → d < 65536 → x.held.any (fun h => h.seq == seq) = true →
            took ((v.setRx x).bump 0x6200 4)) ∧
          (x.active = true → bit w 57 = false → 4194304 ≤ d → took ((v.setRx x).bump 0x6200 3)) ∧
          (x.active = false → bit w 57 = false → ∀ l v', (v.setRx x).allocCells 1 1 6 = (some l, v') →
            took (v'.setRx { x with held := x.held ++ [HeldCell.mk seq v.clock.now cell l.head?] })))) ∧
  (∀ (s : State) (t : Tick), s.faults.haltTm = false →
    let u := s.tick t
    (∀ (lane : Fin 160) (a : Tick), (s.lane lane).reachAt = some a →
      (u.clock.now < a + 4 * Config.ms → exec (.reachabilityExpire t lane) s = .next u.settle) ∧
        (a + 4 * Config.ms ≤ u.clock.now → exec (.reachabilityExpire t lane) s =
          .next ((u.setLane { s.lane lane with reach := 0, reachAt := none }).settle))) ∧
    (∀ (src : Fin 512) (stream : Fin 9),
      let x := s.fabric.rx src stream
      let h0 := x.held.headD ⟨0, 0, ⟨[], 0, []⟩, none⟩
      let due := h0.at_ + u.obj 0x6200 1 * Config.ns ≤ u.clock.now
      (x.active = true → x.held = [] → x.last + 2 * Config.ms ≤ u.clock.now → exec (.streamIdle t src stream) s =
          .next ((u.setRx { x with active := false }).settle)) ∧
        (x.held ≠ [] ∨ u.clock.now < x.last + 2 * Config.ms → exec (.streamIdle t src stream) s = .next u.settle) ∧
        (x.held = [] → exec (.resequencingTimeout t src stream) s = .next u.settle) ∧
        (x.held = [h0] → ¬ due → exec (.resequencingTimeout t src stream) s = .next u.settle) ∧
        (x.held = [h0] → due → x.active = false → h0.seq < 2 ^ 23 → exec (.resequencingTimeout t src stream) s =
          .next (((((((u.setRx { x with active := true, r := h0.seq }).bump 0x6200 6).setRx { x with
            active := true, r := (h0.seq + 1) % 2 ^ 23, held := [] }).freeHeld h0).releaseCell src stream h0.cell).releaseRun
              src stream 1).settle))) ∧
    (∀ unit : Fin 512, nget s.fabric.pinHold unit 0 ≠ 0 →
      (u.clock.now < nget s.fabric.pinHold unit 0 → exec (.pinHoldEnd t unit) s = .next u.settle) ∧
        (nget s.fabric.pinHold unit 0 ≤ u.clock.now → exec (.pinHoldEnd t unit) s = .next (({ u with
          fabric := { s.fabric with pinHold := nset s.fabric.pinHold unit 0 0 } } : State).settle))) ∧
    (∀ unit : Fin 512, ∃ v, exec (.pairClaimExpire t unit) s = .next v ∧
      (s.Calm → v.objs = s.objs ∧ v.outbox = s.outbox ∧ v.fabric.rxs = s.fabric.rxs ∧ v.fabric.loop = s.fabric.loop) ∧
      (s.Calm → ∀ e : Nat × Nat × Tick, e ∈ v.fabric.claims ↔
        e ∈ s.fabric.claims ∧ (e.1 = unit.val → u.clock.now < e.2.2 + 4 * Config.ms)))) ∧
  (∀ (s : State) (t : Nat) (lane : Fin 161) (slot : List Byte), ∃ s2, exec (.fabricCellReceive t lane slot) s = .next s2) ∧
  (∀ (s : State) (t : Nat) (lane : Fin 160), ∃ s2, exec (.reachabilityExpire t lane) s = .next s2) ∧
  (∀ (s : State) (t : Nat) (src : Fin 512) (stream : Fin 9), ∃ s2, exec (.resequencingTimeout t src stream) s = .next s2) ∧
  (∀ (s : State) (t : Nat) (src : Fin 512) (stream : Fin 9), ∃ s2, exec (.streamIdle t src stream) s = .next s2) ∧
  (∀ (s : State) (t : Nat) (unit : Fin 512), ∃ s2, exec (.pinHoldEnd t unit) s = .next s2) ∧
  (∀ (s : State) (t : Nat) (unit : Fin 512), ∃ s2, exec (.pairClaimExpire t unit) s = .next s2)

/-- A lane retires by the Survey while the lanes left cover those needed, and waits otherwise; else after 16 events within the
hour. Its retirement stands in the device record and in fuses from then on, takes a spare while one is left, and is raised
as FC-08 at level F1; it is powered down once its transmit path is empty. The return hold ends after its time; a shortfall
of usable lanes that lasts 100 ms is raised at level F1 (R391 to R394, R520). Each of these completes in every state,
whatever its operands: laneRetire, lanePowerDown, laneReturnHoldEnd, laneShortfallTimeout. -/
def Obligations.LanesRetireReturnAndFallShort : Prop :=
  (∀ (s : State) (t : Tick) (lane : Fin 160),
    let u := s.tick t
    let l := s.lane lane
    let bench := 0x6100 + lane.val
    let begun (b : Nat) : State :=
      let old := s.record.mem.spares.laneRetired.length
      let v := u.setLane { l with retiring := true }
      let v := if v.spareLeft 9 0 then v.spend 9 0 (0x100 + lane) b 0 else v
      let v := v.mapSpares (fun p => { p with laneRetired := p.laneRetired ++ [lane.val] })
      let v := (((v.logOwn 0x6000 2 old (old + 1)).burnEntry 0x13 lane).rewriteRecord).unwait (fun k => k == bench)
      (v.raise { cls := 8, level := 1, object := lane, value := lane, rest := v.evidence b 0x20 9 (0x100 + lane) 0 }).floorSync
    (u.laneRetired lane = false →
      (u.laneRetireFits = true → exec (.laneRetire t lane true) s = .next ((begun bench).settle)) ∧
        (u.laneRetireFits = false → u.survey.waiting.contains bench = false →
          exec (.laneRetire t lane true) s = .next ((u.deferRetire 0 bench 9 (0x100 + lane) 0).settle)) ∧
        (u.laneRetireFits = false → u.survey.waiting.contains bench = true →
          exec (.laneRetire t lane true) s = .next u.settle) ∧
        (16 ≤ l.events.length → (∀ e ∈ l.events, u.clock.now < e + 3600 * Config.sec) →
          exec (.laneRetire t lane false) s = .next ((begun 0xFFFF).settle))) ∧
      (u.laneRetired lane = true → ∀ b, exec (.laneRetire t lane b) s = .next u.settle) ∧
      (l.events.length < 16 → exec (.laneRetire t lane false) s = .next u.settle) ∧
      ((l.retiring = false ∨ l.slots ≠ []) → exec (.lanePowerDown t lane) s = .next u.settle) ∧
      (l.retiring = true → l.slots = [] →
        exec (.lanePowerDown t lane) s = .next (((u.setLane { l with retiring := false }).floorSync).settle) ∧
        (u.laneRetired lane = true → (u.setLane { l with retiring := false }).floorSync.laneState lane = 3)) ∧
      (l.holdEnd ≠ 0 →
        (u.clock.now < l.holdEnd → exec (.laneReturnHoldEnd t lane) s = .next u.settle) ∧
          (l.holdEnd ≤ u.clock.now → exec (.laneReturnHoldEnd t lane) s =
            .next (((u.setLane { l with holdEnd := 0 }).floorSync).settle))) ∧
      (let v := u.floorSync
       v.fabric.shortAt ≠ 0 → v.fabric.shortRaised = false →
        (v.clock.now ≤ v.fabric.shortAt - 1 + 100 * Config.ms → exec (.laneShortfallTimeout t) s = .next v.settle) ∧
          (v.fabric.shortAt - 1 + 100 * Config.ms < v.clock.now → exec (.laneShortfallTimeout t) s =
            .next ((({ v with fabric := { v.fabric with shortRaised := true } } : State).raise
              { cls := 8, level := 1, object := 0xFFFFFFFF, value := v.lanesUsable }).settle)))) ∧
  (∀ (s : State) (t : Nat) (lane : Fin 160) (bySurvey : Bool), ∃ s2, exec (.laneRetire t lane bySurvey) s = .next s2) ∧
  (∀ (s : State) (t : Nat) (lane : Fin 160), ∃ s2, exec (.lanePowerDown t lane) s = .next s2) ∧
  (∀ (s : State) (t : Nat) (lane : Fin 160), ∃ s2, exec (.laneReturnHoldEnd t lane) s = .next s2) ∧
  (∀ (s : State) (t : Nat), ∃ s2, exec (.laneShortfallTimeout t) s = .next s2)

/-- A lane sends nothing before INIT or once retired, and the frame period's bits of its pattern in test mode; else a frame
with its number, the cells dealt to it that find a slot, and AIS with filler while the part is not in service; the number
goes on, the slots left for stuffing and the cells sent are counted, and the next cells are dealt. A pairing lane sends
claim cells while the part is out of service, and all its cells in service; cells without a slot wait. A fabric lane sends
PAM4 levels without a precoder (R374, R397, R402, R415, R427, R462, R493). A lane that is powered down takes no bits, nor
does one in a near-end loop; one in test mode gives them to its checker; a lane that hunts keeps the bits in which no
frame alignment word stands, and the period is an errored one without a frame; a lane IN FRAME checks the word at the head
of each period and counts an errored one (R392, R404 to R406, R420, R426, R427, R463). The slip buffer of a fabric lane
delivers its oldest frame to cell extraction; past its band a filler frame is dropped or repeated and counted, and an
empty one is a forced slip; test mode suspends it (R408, R409, R427). Each of these completes in every state, whatever its
operands: linkFrameSend, linkFrameReceive, slipBufferDeliver. -/
def Obligations.LinkFramesAreSentTakenAndDelivered : Prop :=
  (∀ (s : State) (t : Tick) (lane : Fin 162),
    let u := s.tick t
    let l := if (s.lane lane).frameNo = 0 then { s.lane lane with oh0 := u.obj 0x6100 3, oh1 := u.obj 0x6100 4 }
      else s.lane lane
    let v := u.setLane l
    let next := (l.frameNo + 1) % 16
    (s.dev.st = .boot ∨ lane.val < 160 ∧ u.laneState lane = 3 → exec (.linkFrameSend t lane) s = .next u.settle) ∧
      (s.dev.st ≠ .boot → u.testMode lane ≠ 0 → (lane.val < 160 → u.laneState lane ≠ 3) →
        let x := u.serdes (laneCode lane)
        let p := prbsBits (u.testMode lane) periodBits x.gen
        exec (.linkFrameSend t lane) s = .next (((u.setSerdes { x with gen := p.2 }).laneSend lane p.1).settle)) ∧
      (s.dev.st ≠ .boot → u.testMode lane = 0 → lane.val < 160 → u.laneState lane ≠ 3 →
        (v.lanesBlank = true →
          let f := linkFrameBits l.frameNo (v.txOverhead lane true) []
          exec (.linkFrameSend t lane) s = .next ((((((v.setLane { v.lane lane with frameNo := next }).laneBump lane 0xA
            f.2.2).laneSend lane f.1).bumpN (0x6020 + lane) 3 0).fabricTransmit).settle)) ∧
        (v.lanesBlank = false →
          let f := linkFrameBits l.frameNo (v.txOverhead lane false) (l.slots.map (·.bytes))
          let sent := l.slots.length - f.2.1.length
          exec (.linkFrameSend t lane) s = .next ((((((v.setLane { v.lane lane with
            frameNo := next, slots := (v.lane lane).slots.drop sent }).laneBump lane 0xA f.2.2).laneSend lane f.1).bumpN
              (0x6020 + lane) 3 sent).fabricTransmit).settle))) ∧
      (s.dev.st ≠ .boot → u.testMode lane = 0 → 160 ≤ lane.val →
        let halted := s.dev.st == .halt || s.faults.haltTm || s.faults.haltFe
        let x := if halted then ([], v) else v.pairSlots lane
        let f := linkFrameBits l.frameNo (x.2.txOverhead lane (v.lanesBlank && halted)) x.1
        exec (.linkFrameSend t lane) s = .next (((((x.2.setLane { x.2.lane lane with frameNo := next }).laneBump lane 0xA
          f.2.2).laneSend lane f.1).pairRest lane f.2.1).settle)) ∧
      (∀ bs, lane.val < 160 → u.laneLoop (laneCode lane) = 0 → u.laneSend lane bs = u.out (.linkFrame lane (pam4 bs)))) ∧
  (∀ (s : State) (t : Tick) (lane : Fin 162) (rx : List Bool),
    let u := s.tick t
    let l := s.lane lane
    let o := laneObj lane
    let takes (v : State) : Prop := exec (.linkFrameReceive t lane rx) s = .next v.settle
    (u.nearLoop (laneCode lane) = true → takes u) ∧
      (u.laneLoop (laneCode lane) = 0 →
        (u.laneOut lane = true → takes u) ∧
        (u.laneOut lane = false → l.st = 3 → takes (u.checkBits lane rx)) ∧
        (u.laneOut lane = false →
          (l.st = 0 → findFaw (l.buf ++ rx) 0 = none →
            let w := (u.setLane { l with buf := l.buf ++ rx }).missedFrame lane
            takes (w.setLane (w.lane lane).trim) ∧ (w.lane lane).errs = l.errs + 1 ∧
              (w.lane lane).rxNo = (l.rxNo + 1) % 16) ∧
          (l.st = 2 → l.checked = false → l.buf = [] → rx.length = 56 →
            (rx = fawBits →
              let m := { l with buf := rx, checked := true, fawBad := false, fawRun := 0 }
              takes (((u.setLane { l with buf := rx }).setLane m).setLane m)) ∧
            (rx ≠ fawBits → l.fawRun < 3 →
              let m := { l with buf := rx, checked := true, fawBad := true, fawRun := l.fawRun + 1 }
              takes ((((u.setLane { l with buf := rx }).bumpN o 9 1).setLane m).setLane m)))))) ∧
  (∀ (s : State) (t : Tick) (lane : Fin 160) (f : List (Option (List Byte))) (r : List (List (Option (List Byte)))),
    let u := s.tick t
    let l := s.lane lane
    let n : Fin 162 := ⟨lane.val, by omega⟩
    let gives (v : State) (g : List (Option (List Byte))) : Prop :=
      exec (.slipBufferDeliver t n) s =
        .next ((v.setLane { v.lane lane with extracted := (v.lane lane).extracted ++ frameCells g }).settle)
    (∀ m : Fin 162, u.testMode m ≠ 0 → exec (.slipBufferDeliver t m) s = .next u.settle) ∧
      (u.testMode lane = 0 → l.slip = [] → gives (u.forcedSlip lane 0) []) ∧
      (u.testMode lane = 0 → l.slip = f :: r → (fillerFrame f = false ∨ 2 < l.slip.length ∧ l.slip.length < 6 →
          gives (u.setLane { l with slip := r }) f) ∧
        (fillerFrame f = true → 6 ≤ l.slip.length →
          gives ((u.setLane { l with slip := r.tail }).bumpN (0x6120 + lane) 0xB 1) (r.headD [])) ∧
        (fillerFrame f = true → l.slip.length ≤ 2 → gives (u.bumpN (0x6120 + lane) 0xB 1) f))) ∧
  (∀ (s : State) (t : Nat) (lane : Fin 162), ∃ s2, exec (.linkFrameSend t lane) s = .next s2) ∧
  (∀ (s : State) (t : Nat) (lane : Fin 162) (rx : List Bool), ∃ s2, exec (.linkFrameReceive t lane rx) s = .next s2) ∧
  (∀ (s : State) (t : Nat) (lane : Fin 162), ∃ s2, exec (.slipBufferDeliver t lane) s = .next s2)

/-- LOS, LOF are declared and cleared: declared with LOS the framer begins again and the first declaration of a defect in a
second is raised as FC-08 at level F0, that of LOF only without LOS; LOF stands after 1,221 frame periods out of frame,
counted from the last reset at the earliest, and is cleared after as many in frame; test mode suspends it (R406, R411,
R412, R417). A second that has ended is an ES or an SES by its errored frames, and is not counted in test mode; the tenth
SES in a row begins unavailable time, which is raised at level F1; ten seconds later a class is counted (R421 to R423,
R427). Each of these completes in every state, whatever its operands: losDeclare, losClear, lofDeclare, lofClear,
performanceSecond, performancePost. -/
def Obligations.DefectsAndPerformanceSeconds : Prop :=
  (∀ (s : State) (t : Tick) (lane : Fin 162),
    let u := s.tick t
    let l := s.lane lane
    let lost (v : State) : State := (v.defectNote lane).laneSync lane
    let out : FLane := { l with
      detect := false, los := true, buf := [], found := 0, st := 0, mfSeen := 0, fails := 0, mfTrace := [], lastTrace := []
      stAt := if l.st = 2 then u.clock.now else l.stAt }
    (l.st ≠ 3 → l.los = false → exec (.losDeclare t lane) s = .next ((lost (u.setLane out)).settle)) ∧
      (l.st ≠ 3 → l.los = true → exec (.losDeclare t lane) s = .next (((u.setLane out).laneSync lane).settle)) ∧
      (l.st = 3 → exec (.losDeclare t lane) s = .next ((u.setLane { l with detect := false }).settle)) ∧
      (exec (.losClear t lane) s = .next (((u.setLane { l with detect := true, los := false }).laneSync lane).settle)) ∧
      ((l.st = 2 ∨ l.st = 3 ∨ l.lof = true ∨ u.clock.now < max l.stAt u.dev.coreBase + 2700657 → exec (.lofDeclare t lane) s = .next u.settle)) ∧
      ((l.st = 0 ∨ l.st = 1) → l.lof = false → max l.stAt u.dev.coreBase + 2700657 ≤ u.clock.now →
        exec (.lofDeclare t lane) s = .next ((if l.los then (u.setLane { l with lof := true }).laneSync lane
          else lost (u.setLane { l with lof := true })).settle)) ∧
      (l.lof = true → l.st = 2 → l.stAt + 2700657 ≤ u.clock.now →
        exec (.lofClear t lane) s = .next (((u.setLane { l with lof := false }).laneSync lane).settle)) ∧
      ((l.st ≠ 2 ∨ u.clock.now < l.stAt + 2700657) → exec (.lofClear t lane) s = .next u.settle)) ∧
  (∀ (s : State) (t : Tick) (lane : Fin 162),
    let u := s.tick t
    let l := s.lane lane
    let ended (x : FLane) : FLane := { x with errs := 0, forced := 0, forcedRaised := false, tested := u.testMode lane != 0 }
    let cls := if 1831055 ≤ l.errs then 2 else if l.errs ≠ 0 then 1 else 0
    (l.tested = true ∨ u.testMode lane ≠ 0 → l.unavail = false → l.sesRun < 10 → exec (.performanceSecond t lane) s =
        .next ((u.setLane (ended { l with secs := l.secs ++ [(u.clock.sec, 4)] })).settle)) ∧
      (l.tested = false → u.testMode lane = 0 → l.unavail = false →
        (cls ≠ 2 → exec (.performanceSecond t lane) s = .next ((u.setLane (ended { l with
          secs := l.secs ++ [(u.clock.sec, cls)], sesRun := 0, okRun := l.okRun + 1 })).settle)) ∧
        (cls = 2 → l.sesRun < 9 → exec (.performanceSecond t lane) s = .next ((u.setLane (ended { l with
          secs := l.secs ++ [(u.clock.sec, 2)], sesRun := l.sesRun + 1, okRun := 0 })).settle)) ∧
        (cls = 2 → l.sesRun = 9 → exec (.performanceSecond t lane) s = .next (((u.setLane (ended { l with
          secs := markLast 10 (fun c => c % 8 + 8) (l.secs ++ [(u.clock.sec, 2)])
          sesRun := 10, okRun := 0, unavail := true })).laneEvent lane 1 0x12).settle))) ∧
      (l.tested = false → u.testMode lane = 0 → l.unavail = true → cls ≠ 2 → l.okRun = 9 →
        exec (.performanceSecond t lane) s = .next ((u.setLane (ended { l with
          secs := markLast 10 (fun c => c % 8) (l.secs ++ [(u.clock.sec, cls + 8)])
          sesRun := 0, okRun := 10, unavail := false })).settle)) ∧
      (∀ e rest, l.secs = e :: rest →
        (u.clock.sec < e.1 + 10 → exec (.performancePost t lane) s = .next ((u.setLane l).settle)) ∧
          (e.1 + 10 ≤ u.clock.sec → (∀ f ∈ rest, u.clock.sec < f.1 + 10) →
            let v := u.setLane { l with secs := rest }
            (8 ≤ e.2 → exec (.performancePost t lane) s = .next ((v.bumpN (laneObj lane) 0x10 1).settle)) ∧
              (e.2 = 1 → exec (.performancePost t lane) s = .next ((v.bumpN (laneObj lane) 0xE 1).settle)) ∧
              (e.2 = 2 → exec (.performancePost t lane) s = .next ((v.bumpN (laneObj lane) 0xF 1).settle)) ∧
              (e.2 = 0 ∨ e.2 = 4 → exec (.performancePost t lane) s = .next v.settle)))) ∧
  (∀ (s : State) (t : Nat) (lane : Fin 162), ∃ s2, exec (.losDeclare t lane) s = .next s2) ∧
  (∀ (s : State) (t : Nat) (lane : Fin 162), ∃ s2, exec (.losClear t lane) s = .next s2) ∧
  (∀ (s : State) (t : Nat) (lane : Fin 162), ∃ s2, exec (.lofDeclare t lane) s = .next s2) ∧
  (∀ (s : State) (t : Nat) (lane : Fin 162), ∃ s2, exec (.lofClear t lane) s = .next s2) ∧
  (∀ (s : State) (t : Nat) (lane : Fin 162), ∃ s2, exec (.performanceSecond t lane) s = .next s2) ∧
  (∀ (s : State) (t : Nat) (lane : Fin 162), ∃ s2, exec (.performancePost t lane) s = .next s2)

/-! ### Line ports, TIME, SerDes lanes (chapter 12) -/

/-- A port comes up once its conditions have held for the up hold, and goes down once they have failed for the debounce: a
down transition is counted and reported to the queues, and past the flap limit within 10 s the port is held and raised as
FC-14 at level F1 until its flap hold ends, and while a failed fault path names it; a training failure on a trained port
that is not up is counted and begins again on all its lanes (R434 to R437, R542). Remote fault idles its port at once and
is raised on the first in a second; a locked line lane that loses lock adapts again, with FC-07 at level F0 on a lane of
an enabled port, and locks again, with the precoder only where a trained interface agrees it; the frame caught in a clock
crossing is dropped as an error; the return of the transmit permission starts afresh the bring-up of the ports set for it
(R23, R434 to R436, R439, R446, R448, R462). Each of these completes in every state, whatever its operands:
linkTrainingFailure, portUp, portDown, remoteFaultReceive, flapHoldEnd, laneLockLoss, lrxClockStop,
transmitPermissionChange, laneLock. -/
def Obligations.PortsAndTheirLanesChange : Prop :=
  (∀ (s : State) (t : Tick) (p : Fin 128),
    let u := s.tick t
    let x := s.port p
    let o := 0x3000 + p.val
    let downs := (x.downs.filter (fun a => decide (u.clock.now < a + 10 * Config.sec))) ++ [u.clock.now]
    let flapEnd := u.clock.now + u.obj o 0x13 * Config.sec
    let idle := if u.portMode p ≠ 0 ∧ u.obj o 2 = 1 then 2 else 0
    (let y := u.setPort { x with remote := false, aligned := true };
      (x.link ≠ 1 → x.link ≠ 3 → y.portGood p = true → x.okAt + u.obj o 5 * Config.ms ≤ u.clock.now →
        exec (.portUp t p) s = .next (((y.setPort { x with
          remote := false, aligned := true, link := 1, good := true }).reportUp p).settle)) ∧
      (x.link = 3 ∨ x.link ≠ 1 ∧ (y.portGood p = false ∨ u.clock.now < x.okAt + u.obj o 5 * Config.ms) →
        exec (.portUp t p) s = .next u.settle) ∧
      (x.link = 1 → exec (.portUp t p) s = .next y.settle)) ∧
      (u.portMode p ≠ 0 → x.link ≠ 1 → (x.good = true ∨ x.failAt + u.obj o 6 * Config.us ≤ u.clock.now) →
        let low := u.setPort { x with link := if x.link = 3 then 3 else idle }
        exec (.portDown t p) s = .next ((low.setPort { low.port p with
          okAt := u.clock.now, aligned := x.aligned && !x.good, good := false }).settle)) ∧
      (u.portMode p = 0 ∨ x.good = false ∧ u.clock.now < x.failAt + u.obj o 6 * Config.us →
        exec (.portDown t p) s = .next u.settle) ∧
      (u.portMode p ≠ 0 → x.link = 1 → (x.good = true ∨ x.failAt + u.obj o 6 * Config.us ≤ u.clock.now) →
        let low (v : State) : State := v.setPort { v.port p with
          okAt := v.clock.now, aligned := (v.port p).aligned && !x.good, good := false }
        (u.obj o 0x12 = 0 ∨ downs.length ≤ u.obj o 0x12 → exec (.portDown t p) s =
            .next ((low (((u.setPort { x with link := idle, downs := downs }).bump o 0x2D).reportDown p)).settle)) ∧
          (u.obj o 0x12 ≠ 0 → u.obj o 0x12 < downs.length → exec (.portDown t p) s =
            .next ((low (((((u.setPort { x with link := 3, downs := downs, flapEnd := flapEnd }).bump o 0x2D).reportDown
              p).bump o 0x32).portEvent p 1 0 0x32)).settle))) ∧
      (x.link = 3 → (u.clock.now < x.flapEnd → exec (.flapHoldEnd t p) s = .next u.settle) ∧
        (x.flapEnd ≤ u.clock.now →
          (s.faults.paths.any (fun q => sourcePort q.source == some p.val) = false →
            exec (.flapHoldEnd t p) s = .next ((u.setPort { x with link := idle }).settle)) ∧
          (s.faults.paths.any (fun q => sourcePort q.source == some p.val) = true →
            exec (.flapHoldEnd t p) s = .next u.settle))) ∧
      (x.link ≠ 3 → exec (.flapHoldEnd t p) s = .next u.settle) ∧
      (u.portMode p ≠ 0 → u.obj o 2 = 1 → x.link ≠ 1 → exec (.linkTrainingFailure t p) s =
        .next (((((u.setPort { x with link := if x.link = 3 then 3 else 2 }).freshLanes p).portSync p).bump o 0x31).settle)) ∧
      (u.portMode p = 0 ∨ u.obj o 2 ≠ 1 ∨ x.link = 1 → exec (.linkTrainingFailure t p) s = .next u.settle)) ∧
  (∀ (s : State) (t : Tick),
    let u := s.tick t
    (∀ p : Fin 128, s.faults.haltFe = false → exec (.remoteFaultReceive t p) s =
        .next ((((u.setPort { s.port p with remote := true, okAt := u.clock.now }).portSync p).partnerEvent p 0x2D).settle)) ∧
      (∀ l : Fin 128,
        let x := s.serdes l
        let v := u.setSerdes { x with locked := false, adapting := true }
        (x.locked = false → exec (.laneLockLoss t l) s = .next u.settle) ∧
          (x.locked = true → u.portOfLane l = none → exec (.laneLockLoss t l) s = .next v.settle) ∧
          (∀ q, x.locked = true → u.portOfLane l = some q → exec (.laneLockLoss t l) s =
            .next ((((v.raise { cls := 7, level := 0, die := 1, object := l }).portSync q)).settle))) ∧
      (∀ lane : Lane,
        let x := s.serdes (laneCodeOf lane)
        let pre := Config.precoder (laneCodeOf lane) u.clock.now
        (u.adapts (laneCodeOf lane) = false ∨ x.asleep = true → exec (.laneLock t lane) s = .next u.settle) ∧
          (u.adapts (laneCodeOf lane) = true → x.asleep = false → exec (.laneLock t lane) s = .next (((u.setSerdes { x with
            locked := true, adapting := false
            preTx := u.trainedLane (laneCodeOf lane) && pre.1, preRx := u.trainedLane (laneCodeOf lane) && pre.2 }).laneChanged
              (laneCodeOf lane)).settle))) ∧
      (∀ (g : Fin 32) (p : Fin 128) (part : List Byte), s.faults.haltFe = false →
        (p.val / 4 ≠ g.val ∨ u.portMode p = 0 ∨ part = [] → exec (.lrxClockStop t g p part) s = .next u.settle) ∧
          (p.val / 4 = g.val → u.portMode p ≠ 0 → part ≠ [] → exec (.lrxClockStop t g p part) s =
            .next (((u.bump (0x3000 + p) 0x22).partnerEvent p 0x22).settle))) ∧
      ((u.mayTransmit = false ∨ s.lines.perm = true → exec (.transmitPermissionChange t) s =
          .next (({ u with lines := { s.lines with perm := u.mayTransmit } } : State).settle)) ∧
        (u.mayTransmit = true → s.lines.perm = false → (∀ p : Fin 128, u.portMode p = 0 ∨ u.obj (0x3000 + p) 0x11 ≠ 1) →
          exec (.transmitPermissionChange t) s = .next (({ u with lines := { s.lines with perm := true } } : State).settle)))) ∧
  (∀ (s : State) (t : Nat) (port : Fin 128), ∃ s2, exec (.linkTrainingFailure t port) s = .next s2) ∧
  (∀ (s : State) (t : Nat) (port : Fin 128), ∃ s2, exec (.portUp t port) s = .next s2) ∧
  (∀ (s : State) (t : Nat) (port : Fin 128), ∃ s2, exec (.portDown t port) s = .next s2) ∧
  (∀ (s : State) (t : Nat) (port : Fin 128), ∃ s2, exec (.remoteFaultReceive t port) s = .next s2) ∧
  (∀ (s : State) (t : Nat) (port : Fin 128), ∃ s2, exec (.flapHoldEnd t port) s = .next s2) ∧
  (∀ (s : State) (t : Nat) (lane : Fin 128), ∃ s2, exec (.laneLockLoss t lane) s = .next s2) ∧
  (∀ (s : State) (t : Nat) (group : Fin 32) (port : Fin 128) (partial_ : List Byte),
    ∃ s2, exec (.lrxClockStop t group port partial_) s = .next s2) ∧
  (∀ (s : State) (t : Nat), ∃ s2, exec (.transmitPermissionChange t) s = .next s2) ∧
  (∀ (s : State) (t : Nat) (lane : Lane), ∃ s2, exec (.laneLock t lane) s = .next s2)

/-- A MAC control frame off the line is a good frame of 64 octets, counted and consumed: a PFC frame pauses the enabled
priorities for their quanta and resumes those at zero, one of another opcode or destination is counted as such. A pause
ends with its time; a priority paused without a break for the storm time is a storm, counted and raised as FC-14 at level
F1, and is not paused until its recovery ends (R440, R442, R444, R445). The next frame handed to a port's MAC goes out
with its FCS, with the R-TAG of a generated number, padded, counted, with the MAC's changes to a PTP message and a stomped
FCS for a bad or missing tail; in a near-end loop its own receive takes it. It waits while a fault stands through its
debounce; on a port that is down, or without the permission, it is dropped and counted; a gated frame past its allowance
is dropped and raised as FC-13 on the first in a second (R134, R299, R352, R436, R438, R447, R453 to R458, R463, R500).
Each of these completes in every state, whatever its operands: pfcFrameReceive, pfcPauseExpire, pfcStorm,
stormRecoveryEnd, macControlFrameReceive, lineFrameTransmit. -/
def Obligations.MacControlAndLineFrames : Prop :=
  (∀ (s : State) (t : Tick) (p : Fin 128) (prio : Fin 8), s.faults.haltFe = false →
    let u := s.tick t
    let x := s.port p
    let o := 0x3000 + p.val
    let others := x.paused.filter (fun e => e.1 != prio.val)
    (∀ frame : List Byte, exec (.macControlFrameReceive t p frame) s = exec (.pfcFrameReceive t p frame) s) ∧
      (∀ frame : List Byte, u.linkUp p = true → u.nearLoop p = false → 64 ≤ u.obj o 3 → frame.length = 64 →
        frame.drop 60 = fcsOf (frame.take 60) → beAt frame 12 2 = 0x8808 →
        let v := (u.bump o 0x20).bumpN o 0x21 64
        let takes (w : State) : Prop := exec (.pfcFrameReceive t p frame) s = .next w.settle
        let mine := beAt frame 0 6 = 0x0180C2000001
        (mine → beAt frame 14 2 = 0x0101 → beAt frame 16 2 = 2 ^ prio.val →
          (bit (u.obj o 9) prio = false ∨ x.storming u.clock.now prio = true → takes (v.bump o 0x29)) ∧
          (bit (u.obj o 9) prio = true → x.storming u.clock.now prio = false → x.pausedNow u.clock.now prio = false →
            let q := beAt frame (18 + 2 * prio) 2
            takes ((v.bump o 0x29).setPort { x with paused := if q = 0 then others else others ++
              [(prio.val, u.clock.now, u.clock.now + (q * 512 * Config.ns + u.portRate p - 1) / u.portRate p)] }))) ∧
        (mine → beAt frame 14 2 = 0x0001 → takes ((v.bump o 0x28).partnerEvent p 0x28)) ∧
        (¬ mine ∨ beAt frame 14 2 ≠ 0x0001 ∧ beAt frame 14 2 ≠ 0x0101 → takes ((v.bump o 0x2B).partnerEvent p 0x2B))) ∧
      (exec (.pfcPauseExpire t p prio) s = .next ((u.setPort { x with
        paused := x.paused.filter (fun e => !(e.1 == prio.val && decide (e.2.2 ≤ u.clock.now))) }).settle)) ∧
      (x.pausedNow u.clock.now prio = false → exec (.pfcStorm t p prio) s = .next u.settle) ∧
      (∀ e, x.paused.find? (fun e => e.1 == prio.val && decide (u.clock.now < e.2.2)) = some e →
        (u.clock.now < e.2.1 + u.obj o 0xB * Config.ms → exec (.pfcStorm t p prio) s = .next u.settle) ∧
          (e.2.1 + u.obj o 0xB * Config.ms ≤ u.clock.now → exec (.pfcStorm t p prio) s = .next ((((u.setPort { x with
            paused := others
            storm := x.storm.filter (fun e => e.1 != prio.val) ++ [(prio.val, u.clock.now + u.obj o 0xC * Config.ms)] }).bump o
              0x2C).portEvent p 1 prio 0x2C).settle))) ∧
      (exec (.stormRecoveryEnd t p prio) s = .next ((u.setPort { x with
        storm := x.storm.filter (fun e => !(e.1 == prio.val && decide (e.2 ≤ u.clock.now))) }).settle))) ∧
  (∀ (s : State) (t : Tick) (p : Fin 128), s.faults.haltFe = false →
    let u := s.tick t
    let o := 0x3000 + p.val
    (s.flow.macHead p = none → exec (.lineFrameTransmit t p) s = .next u.settle) ∧
      (∀ f, s.flow.macHead p = some f →
        let v : State := { u with flow := { s.flow with toLine := dropFirst (fun x => x.1 == p.val) s.flow.toLine } }
        let ends (w : State) : Prop := exec (.lineFrameTransmit t p) s = .next ((w.feSettle s.flow).settle)
        (u.mayTransmit = true → u.faultStands p = true → exec (.lineFrameTransmit t p) s = .next u.settle) ∧
          ((u.linkUp p = false ∨ u.mayTransmit = false) → ends ((v.bump o 0x27).putStamp f p none)) ∧
          (u.linkUp p = true → u.mayTransmit = true → u.faultStands p = false → u.overrun f p = false →
            let body := match f.rtag with
              | some n => insertRtag f.data n
              | none => f.data
            let d := ptpEdit (u.obj o 0xE) (f.inject.isSome || f.token.isSome) f.rx (u.stampAt p 0x10)
              (body ++ zeros (60 - body.length))
            let w := ((v.bump o 0x25).bumpN o 0x26 (d.length + 4)).putStamp f p (some (u.stampAt p 0x10))
            (u.nearLoop p = false →
              (f.bad = false → f.coming = 0 → ends (w.out (.line p d false))) ∧
              (f.bad = true ∨ f.coming ≠ 0 → ends ((w.bump 0x5001 7).out (.line p d true)))) ∧
            (u.nearLoop p = true → f.bad = false → f.coming = 0 →
              ends ((w.out (.line p d false)).lineReceive p (d ++ fcsOf d) false))) ∧
          (u.linkUp p = true → u.mayTransmit = true → u.faultStands p = false → f.gated = true →
            (∀ g, u.gates.of p = some g → f.stored + g.allow < f.data.length + f.coming →
              let z := (v.bump (0x5410 + p) 0xD).firstInSecond (0x352000 + p)
              ends ((if z.1 then z.2.raise { cls := 13, level := 0, die := 1, object := p, ctrIdx := 0x5410 + p, ctrSub := 0xD }
                else z.2).putStamp f p none))))) ∧
  (∀ (s : State) (t : Nat) (port : Fin 128) (frame : List Byte), ∃ s2, exec (.pfcFrameReceive t port frame) s = .next s2) ∧
  (∀ (s : State) (t : Nat) (port : Fin 128) (prio : Fin 8), ∃ s2, exec (.pfcPauseExpire t port prio) s = .next s2) ∧
  (∀ (s : State) (t : Nat) (port : Fin 128) (prio : Fin 8), ∃ s2, exec (.pfcStorm t port prio) s = .next s2) ∧
  (∀ (s : State) (t : Nat) (port : Fin 128) (prio : Fin 8), ∃ s2, exec (.stormRecoveryEnd t port prio) s = .next s2) ∧
  (∀ (s : State) (t : Nat) (port : Fin 128) (frame : List Byte),
    ∃ s2, exec (.macControlFrameReceive t port frame) s = .next s2) ∧
  (∀ (s : State) (t : Nat) (port : Fin 128), ∃ s2, exec (.lineFrameTransmit t port) s = .next s2)

/-- A step written to 0x2100:06 is loaded at the whole second after the write, counted, and moves the graticule's changes;
PPS_IN captures TIME; PPS_OUT rises where TIME with its offset stands at a whole second, and falls after its width; the
checker counts what it checks; a waking lane is awake at once it opc so (R359, R451, R452, R464, R466). Each of these
completes in every state, whatever its operands: timeStepApply, ppsInEdge, ppsOutPulse, laneWakeComplete, checkerLock,
ppsOutPulseEnd. -/
def Obligations.TimePulsesAndLaneServices : Prop :=
  (∀ (s : State) (t : Tick),
    let u := s.tick t
    (s.clock.step = none → exec (.timeStepApply t) s = .next u.settle) ∧
      (∀ v sec, s.clock.step = some (v, sec) →
        (u.clock.sec ≤ sec → exec (.timeStepApply t) s = .next u.settle) ∧
          (u.clock.sec = sec + 1 → s.gates.pending = [] → exec (.timeStepApply t) s = .next ((({ u with
            clock := { u.clock with sec := timeSec v % 2 ^ 48, step := none } } : State).bump 0x5400 4).settle))) ∧
      (exec (.ppsInEdge t) s = .next (({ u with clock := { u.clock with
        capture := u.time80, edges := (s.clock.edges + 1) % 2 ^ 32 } } : State).settle)) ∧
      (u.ppsDue = false → exec (.ppsOutPulse t) s = .next u.settle) ∧
      (u.ppsDue = true → exec (.ppsOutPulse t) s = .next ((({ u with clock := { u.clock with
        ppsHigh := true, ppsUntil := u.clock.now + u.obj 0x2100 9 * Config.ns } } : State).out (.pin ppsPin true)).settle)) ∧
      (s.clock.ppsHigh = true → s.clock.ppsUntil ≤ u.clock.now → exec (.ppsOutPulseEnd t) s = .next ((({ u with
        clock := { u.clock with ppsHigh := false } } : State).out (.pin ppsPin false)).settle)) ∧
      ((s.clock.ppsHigh = false ∨ u.clock.now < s.clock.ppsUntil) → exec (.ppsOutPulseEnd t) s = .next u.settle) ∧
      (∀ (lane : Lane) (checked errors : Nat),
        let c := laneCodeOf lane
        (u.checkOf c = 0 ∨ u.nearLoop c = true ∧ u.genOf c ≠ u.checkOf c →
            exec (.checkerLock t lane checked errors) s = .next u.settle) ∧
          (u.checkOf c ≠ 0 → u.nearLoop c = false ∨ u.genOf c = u.checkOf c →
            exec (.checkerLock t lane checked errors) s = .next ((((u.setSerdes { s.serdes c with
              checkLock := true }).bumpI 0x3201 9 c checked).bumpI 0x3201 0xA c
                (if u.nearLoop c then 0 else min errors checked)).settle))) ∧
      (∀ lane : Lane,
        let c := laneCodeOf lane
        let x := s.serdes c
        (u.sourceHeld 7 c = true → ∀ b, exec (.laneWakeComplete t lane b) s = .next u.settle) ∧
        (u.sourceHeld 7 c = false → x.rxWaking = true → exec (.laneWakeComplete t lane true) s = .next (((u.setSerdes { x with
            rxWaking := false, locked := true, adapting := false }).laneChanged c).settle)) ∧
          (u.sourceHeld 7 c = false → x.txWaking = true → exec (.laneWakeComplete t lane false) s = .next (((u.setSerdes { x with
            txWaking := false }).laneChanged c).settle)) ∧
          (x.rxWaking = false → exec (.laneWakeComplete t lane true) s = .next u.settle) ∧
          (x.txWaking = false → exec (.laneWakeComplete t lane false) s = .next u.settle))) ∧
  (∀ (s : State) (t : Nat), ∃ s2, exec (.timeStepApply t) s = .next s2) ∧
  (∀ (s : State) (t : Nat), ∃ s2, exec (.ppsInEdge t) s = .next s2) ∧
  (∀ (s : State) (t : Nat), ∃ s2, exec (.ppsOutPulse t) s = .next s2) ∧
  (∀ (s : State) (t : Nat) (lane : Lane) (receive : Bool), ∃ s2, exec (.laneWakeComplete t lane receive) s = .next s2) ∧
  (∀ (s : State) (t : Nat) (lane : Lane) (bitsChecked errors : Nat),
    ∃ s2, exec (.checkerLock t lane bitsChecked errors) s = .next s2) ∧
  (∀ (s : State) (t : Nat), ∃ s2, exec (.ppsOutPulseEnd t) s = .next s2)

/-! ### Rows that write one object -/

/-- The rows that write tables' sizes, profiles, templates, boundaries, node records and outlets have their object's effect
once the checks pass: a learned table of another size, key width or seed loses its entries, and a size those of each table
it moves; another boundary sets the thresholds of both partitions to 3/4, 7/8 and 31/32 of their sizes; the default map
forgets every record; the others take the value (R107, R116, R214, R271, R288, R305, R307). The rows that write lanes and
the clock have their object's effect once the checks pass: a retire command begins the retirement, a test mode stops the
framer, a phase adjustment replaces the remainder, a step waits for the next second, a sleeping direction wakes with its
time, a checker's counts are cleared; a port mode is in effect at once and its answer waits for flash (R391, R406, R427,
R432, R450, R451, R463 to R466). Each of these completes in every state, whatever its operands: learnedTableSizeWrite,
parserProfileWrite, keyTemplateWrite, classificationWidthWrite, partitionBoundaryWrite, defaultMapApply, nodeRecordWrite,
outletWrite, retireCmd, portModeWrite, phaseAdjustment, timeStep, loopSet, generator, checker, clearChecker, testMode,
transmitSleep, receiveSleep. -/
def Obligations.TableQueueLineAndLaneWritesAct : Prop :=
  (∀ (s : State) (t : Tick) (p : Path) (tag : Nat) (val : List Byte), (s.tick t).Ready p →
    let u := (s.tick t).begun p
    let v := leNat val
    let acts (i : Instr) (idx sub : Nat) (f : State) : Prop := u.admits p idx sub val = true →
      f.afterFault idx sub = none → exec i s = .next (s.writeDone t p tag idx sub val (fun _ => f))
    (∀ (k : Fin 8) (sub : Nat), sub = 1 ∨ sub = 5 ∨ sub = 0xC →
      let set := u.setObj (0x4610 + k) sub v
      let keeps (w : State) (gone : Nat → Bool) : State := { w with tables := { w.tables with
        learned := w.tables.learned.filter (fun e => match u.bucketTable (e.1 / 8) with
          | some j => !gone j
          | none => true) } }
      (u.obj (0x4610 + k) sub = v → acts (.learnedTableSizeWrite t p tag k sub val) (0x4610 + k) sub u) ∧
        (u.obj (0x4610 + k) sub ≠ v → sub ≠ 1 → acts (.learnedTableSizeWrite t p tag k sub val) (0x4610 + k) sub
          (keeps set (fun j => decide (j = k.val)))) ∧
        (u.obj (0x4610 + k) sub ≠ v → sub = 1 → acts (.learnedTableSizeWrite t p tag k sub val) (0x4610 + k) sub
          (keeps set (fun j => decide (j < 8 ∧ (j = k.val ∨ u.firstBucket j ≠ set.firstBucket j)))))) ∧
      (∀ (k : Fin 8) (sub : Nat), sub < 256 → acts (.parserProfileWrite t p tag k sub val) (0x4110 + k) sub (u.setObj (0x4110 + k) sub v)) ∧
      (∀ k : Fin 64, acts (.keyTemplateWrite t p tag k val) (0x4180 + k) 1 (u.setObj (0x4180 + k) 1 v)) ∧
      (∀ k : Fin 32, acts (.classificationWidthWrite t p tag k val) (0x4460 + k) 9 (u.setObj (0x4460 + k) 9 v)) ∧
      (let marked (w : State) (i : Nat) : State := (((w.setObj (0x5010 + i) 3 (w.poolSize i * 3 / 4)).setObj (0x5010 + i) 4
          (w.poolSize i * 7 / 8)).setObj (0x5010 + i) 5 (w.poolSize i * 31 / 32)).poolSync i
       (u.obj 0x5000 2 = v → acts (.partitionBoundaryWrite t p tag val) 0x5000 2 (u.setObj 0x5000 2 v)) ∧
        (u.obj 0x5000 2 ≠ v →
          acts (.partitionBoundaryWrite t p tag val) 0x5000 2 (marked (marked (u.setObj 0x5000 2 v) 0) 1))) ∧
      (v = 1 → acts (.defaultMapApply t p tag val) 0x5101 1
        (let w := (u.sched.nodes.map (·.key)).foldl (fun w k => w.settleNode k (defaultRec u.unit k)) (u.setObj 0x5101 1 1)
         { w with sched := { w.sched with recs := [], mapUnit := u.unit } })) ∧
      (acts (.nodeRecordWrite t p tag true val) 0x5100 2 (u.setNodeRec (nodeKey 5 (u.obj 0x5100 1)) v)) ∧
      (acts (.nodeRecordWrite t p tag false val) 0x5200 3 (u.setNodeRec u.selNode v)) ∧
      (acts (.outletWrite t p tag val) 0x5201 2 (u.setObjI 0x5201 2 (u.obj 0x5201 1) v))) ∧
  (∀ (s : State) (t : Tick) (p : Path) (tag : Nat) (val : List Byte), (s.tick t).Ready p →
    let u := (s.tick t).begun p
    let v := leNat val
    let acts (i : Instr) (idx sub : Nat) (f : State) : Prop := u.admits p idx sub val = true →
      exec i s = .next (s.writeDone t p tag idx sub val (fun _ => f))
    let c := u.obj 0x3201 1
    let x := u.serdes c
    let set (sub : Nat) : State := u.setObjI 0x3201 sub c v
    let old (sub : Nat) : Nat := u.objI 0x3201 sub c
    (∀ k : Fin 160, (v = 0 → acts (.retireCmd t p tag k val) (0x6020 + k) 6 (u.setObj (0x6020 + k) 6 0)) ∧
        (v = 1 → acts (.retireCmd t p tag k val) (0x6020 + k) 6 ((u.setObj (0x6020 + k) 6 1).retireLane k 0xFFFF))) ∧
      (∀ (n : Fin 162),
        let l := u.lane n
        let w := (u.setObj (laneObj n) 3 v).startPattern (laneCode n) v
        (v ≠ 0 → acts (.testMode t p tag n val) (laneObj n) 3 ((w.setLane { l with
            buf := [], tested := true, st := 3, mfSeen := 0, fails := 0, mfTrace := [], lastTrace := []
            stAt := if l.st = 2 then u.clock.now else l.stAt }).laneSync n)) ∧
          (v = 0 → l.st = 3 → acts (.testMode t p tag n val) (laneObj n) 3 ((w.setLane { l with
            buf := [], st := 0, mfSeen := 0, fails := 0, mfTrace := [], lastTrace := [] }).laneSync n)) ∧
          (v = 0 → l.st ≠ 3 → acts (.testMode t p tag n val) (laneObj n) 3 ((w.setLane l).laneSync n))) ∧
      (acts (.phaseAdjustment t p tag val) 0x2100 3 { u.setObj 0x2100 3 v with
        clock := { u.clock with phase := toInt 32 v * (Config.timeFine : Int) } }) ∧
      (acts (.timeStep t p tag val) 0x2100 6 { u.setObj 0x2100 6 v with
        clock := { u.clock with step := some (v, u.clock.sec) } }) ∧
      (acts (.loopSet t p tag val) 0x3201 5 ((set 5).laneChanged c)) ∧
      (v ≠ old 6 → acts (.generator t p tag val) 0x3201 6 (((set 6).startPattern c v).laneChanged c)) ∧
      (v = old 6 → acts (.generator t p tag val) 0x3201 6 ((set 6).laneChanged c)) ∧
      (v ≠ old 7 → acts (.checker t p tag val) 0x3201 7
        (((set 7).setSerdes { x with checkLock := false, check := none }).laneChanged c)) ∧
      (v = old 7 → acts (.checker t p tag val) 0x3201 7 ((set 7).laneChanged c)) ∧
      (v = 1 → acts (.clearChecker t p tag val) 0x3201 0xB
        ((((set 0xB).setObjI 0x3201 9 c 0).setObjI 0x3201 0xA c 0).laneChanged c)) ∧
      (v = 0 → acts (.clearChecker t p tag val) 0x3201 0xB ((set 0xB).laneChanged c)) ∧
      (v = old 0xC → acts (.transmitSleep t p tag val) 0x3201 0xC ((set 0xC).laneChanged c)) ∧
      (v = old 0xD → acts (.receiveSleep t p tag val) 0x3201 0xD ((set 0xD).laneChanged c)) ∧
      (v = 1 → old 0xC = 0 → acts (.transmitSleep t p tag val) 0x3201 0xC
        (((set 0xC).setSerdes { x with txWaking := false }).laneChanged c)) ∧
      (v = 0 → old 0xC = 1 → acts (.transmitSleep t p tag val) 0x3201 0xC
        (((set 0xC).setSerdes { x with txWaking := true, txWake := u.clock.now + 2 * Config.us }).laneChanged c)) ∧
      (v = 1 → old 0xD = 0 → acts (.receiveSleep t p tag val) 0x3201 0xD (((set 0xD).setSerdes { x with
        rxWaking := false, locked := false, rxSleepAt := u.clock.now }).laneChanged c)) ∧
      (v = 0 → old 0xD = 1 → x.rxSleepAt + Config.sec < u.clock.now → acts (.receiveSleep t p tag val) 0x3201 0xD
        (((set 0xD).setSerdes { x with rxWaking := true, rxWake := u.clock.now + 100 * Config.ms }).laneChanged c)) ∧
      (v = 0 → old 0xD = 1 → u.clock.now ≤ x.rxSleepAt + Config.sec → acts (.receiveSleep t p tag val) 0x3201 0xD
        (((set 0xD).setSerdes { x with rxWaking := true, rxWake := u.clock.now + 20 * Config.us }).laneChanged c)) ∧
      (∀ n : Fin 128, s.record.divergent = false → u.admits p (0x3000 + n) 1 val = true →
        exec (.portModeWrite t p tag n val) s =
          .next (s.writeLater t p tag (0x3000 + n) 1 val false [0] (fun w => w.setMode n v)))) ∧
  (∀ (s : State) (t : Nat) (p : Path) (tag : Nat) (tbl : Fin 8) (sub : Nat) (val : List Byte),
    ∃ s2, exec (.learnedTableSizeWrite t p tag tbl sub val) s = .next s2) ∧
  (∀ (s : State) (t : Nat) (p : Path) (tag : Nat) (profile : Fin 8) (sub : Nat) (val : List Byte),
    ∃ s2, exec (.parserProfileWrite t p tag profile sub val) s = .next s2) ∧
  (∀ (s : State) (t : Nat) (p : Path) (tag : Nat) (template : Fin 64) (val : List Byte),
    ∃ s2, exec (.keyTemplateWrite t p tag template val) s = .next s2) ∧
  (∀ (s : State) (t : Nat) (p : Path) (tag : Nat) (tbl : Fin 32) (val : List Byte),
    ∃ s2, exec (.classificationWidthWrite t p tag tbl val) s = .next s2) ∧
  (∀ (s : State) (t : Nat) (p : Path) (tag : Nat) (val : List Byte),
    ∃ s2, exec (.partitionBoundaryWrite t p tag val) s = .next s2) ∧
  (∀ (s : State) (t : Nat) (p : Path) (tag : Nat) (val : List Byte), ∃ s2, exec (.defaultMapApply t p tag val) s = .next s2) ∧
  (∀ (s : State) (t : Nat) (p : Path) (tag : Nat) (queue : Bool) (val : List Byte),
    ∃ s2, exec (.nodeRecordWrite t p tag queue val) s = .next s2) ∧
  (∀ (s : State) (t : Nat) (p : Path) (tag : Nat) (val : List Byte), ∃ s2, exec (.outletWrite t p tag val) s = .next s2) ∧
  (∀ (s : State) (t : Nat) (p : Path) (tag : Nat) (lane : Fin 160) (val : List Byte),
    ∃ s2, exec (.retireCmd t p tag lane val) s = .next s2) ∧
  (∀ (s : State) (t : Nat) (p : Path) (tag : Nat) (port : Fin 128) (val : List Byte),
    ∃ s2, exec (.portModeWrite t p tag port val) s = .next s2) ∧
  (∀ (s : State) (t : Nat) (p : Path) (tag : Nat) (val : List Byte), ∃ s2, exec (.phaseAdjustment t p tag val) s = .next s2) ∧
  (∀ (s : State) (t : Nat) (p : Path) (tag : Nat) (val : List Byte), ∃ s2, exec (.timeStep t p tag val) s = .next s2) ∧
  (∀ (s : State) (t : Nat) (p : Path) (tag : Nat) (val : List Byte), ∃ s2, exec (.loopSet t p tag val) s = .next s2) ∧
  (∀ (s : State) (t : Nat) (p : Path) (tag : Nat) (val : List Byte), ∃ s2, exec (.generator t p tag val) s = .next s2) ∧
  (∀ (s : State) (t : Nat) (p : Path) (tag : Nat) (val : List Byte), ∃ s2, exec (.checker t p tag val) s = .next s2) ∧
  (∀ (s : State) (t : Nat) (p : Path) (tag : Nat) (val : List Byte), ∃ s2, exec (.clearChecker t p tag val) s = .next s2) ∧
  (∀ (s : State) (t : Nat) (p : Path) (tag : Nat) (lane : Fin 162) (val : List Byte),
    ∃ s2, exec (.testMode t p tag lane val) s = .next s2) ∧
  (∀ (s : State) (t : Nat) (p : Path) (tag : Nat) (val : List Byte), ∃ s2, exec (.transmitSleep t p tag val) s = .next s2) ∧
  (∀ (s : State) (t : Nat) (p : Path) (tag : Nat) (val : List Byte), ∃ s2, exec (.receiveSleep t p tag val) s = .next s2)

/-- The rows that write the pair, streams, the floor, the fault collector, the performance counters, the device's state and
the record have their effect once the checks pass: an acknowledged event stands no more, a new stream record forgets the
stream's sequence state, START enters the state that the pair calls for, a reset command runs 1 ms later (R470, R479,
R498, R549, R558, R561, R596, R636, R639, R649, R655). Each of these completes in every state, whatever its operands:
pairingEnableWrite, takeOverCmd, handoverCmd, resyncCmd, isolateCmd, streamRecordWrite, pipelineFloorWrite,
acknowledgeEvent, acknowledgeClass, fltNHold, clearCounters, startCmd, stopCmd, maintCmd, leaveCmd, warmResetCommand,
coldResetCommand, chooseSource, clearRecord. -/
def Obligations.PairFaultAndStateWritesAct : Prop :=
  (∀ (s : State) (t : Tick) (p : Path) (tag : Nat) (val : List Byte), (s.tick t).Ready p →
    let u := (s.tick t).begun p
    let v := leNat val
    let who := (s.tick t).requesterOf p
    let actsOn (i : Instr) (idx sub : Nat) (b : List Byte) (f : State) : Prop := u.admits p idx sub b = true →
      exec i s = .next (s.writeDone t p tag idx sub b (fun _ => f))
    let acts (i : Instr) (idx sub : Nat) (f : State) : Prop := actsOn i idx sub val f
    let later (i : Instr) (idx sub : Nat) (f : State) : Prop := s.record.divergent = false →
      u.admits p idx sub val = true → exec i s = .next (s.writeLater t p tag idx sub val false [0] (fun _ => f))
    let cmd (c : Nat) : State := u.setObj 0x1100 2 c
    let runs := (cmd 1).pairDev (cmd 1).degraded
    (v = 0 → later (.pairingEnableWrite t p tag val) 0x6800 1 ((u.setObj 0x6800 1 0).setPairing false)) ∧
      (v = 1 → s.pair.st = .unpaired → later (.pairingEnableWrite t p tag val) 0x6800 1 ((u.setObj 0x6800 1 1).setPair
        { Pair.none_ with st := .isolated, rank := 1, lostAt := u.clock.now, incomplete := s.pair.incomplete,
                          data := s.pair.data, cellOut := s.pair.cellOut })) ∧
      (actsOn (.takeOverCmd t p tag) 0x6800 0xB [1] ((u.setObj 0x6800 0xB 1).takeover)) ∧
      (actsOn (.handoverCmd t p tag) 0x6800 0xB [2] ((u.setObj 0x6800 0xB 2).setPair
        { u.pair with request := true, requestAt := u.clock.now })) ∧
      (actsOn (.resyncCmd t p tag) 0x6800 0xB [3] ((u.setObj 0x6800 0xB 3).enterSync)) ∧
      (actsOn (.isolateCmd t p tag) 0x6800 0xB [4] ((u.setObj 0x6800 0xB 4).isolate)) ∧
      (acts (.streamRecordWrite t p tag val) 0x6900 2 { u.setObjI 0x6900 2 (u.obj 0x6900 1) v with
        streams := u.streams.filter (fun y => y.num != (u.setObjI 0x6900 2 (u.obj 0x6900 1) v).obj 0x6900 1) }) ∧
      (later (.pipelineFloorWrite t p tag val) 0x7200 1 ((u.setObj 0x7200 1 v).floorWritten v)) ∧
      (acts (.acknowledgeEvent t p tag val) 0x8000 3 { u.setObj 0x8000 3 v with faults := { u.faults with
        standing := dropFirst (fun e => e.num == v) u.faults.standing
        paths := u.faults.ackPaths (· == v)
        queue := modFirst (fun e => e.num == v && !bit e.flags 2)
          (fun e => { e with flags := setBit e.flags 2 true, ackBy := who }) u.faults.queue } }) ∧
      (acts (.acknowledgeClass t p tag val) 0x8000 4 { u.setObj 0x8000 4 v with faults := { u.faults with
        standing := u.faults.standing.filter (fun e => e.cls ≠ v)
        paths := u.faults.ackPaths (fun n => u.faults.standing.any (fun e => e.num == n && e.cls == v))
        queue := u.faults.queue.map (fun e =>
          if e.cls = v ∧ u.faults.isStanding e.num then { e with flags := setBit e.flags 2 true, ackBy := who } else e) } }) ∧
      (acts (.fltNHold t p tag val) 0x8200 2 ((u.setObj 0x8200 2 v).fltSync)) ∧
      (v = 0 → acts (.clearCounters t p tag val) 0xA000 3 (u.perfSync.setObj 0xA000 3 0)) ∧
      (v = 1 → acts (.clearCounters t p tag val) 0xA000 3 ((u.perfSync.setObj 0xA000 3 1).perfClear)) ∧
      (actsOn (.startCmd t p tag) 0x1100 2 [1] ((cmd 1).enter runs)) ∧
      (actsOn (.stopCmd t p tag) 0x1100 2 [2] ((cmd 2).stopRun)) ∧
      (actsOn (.maintCmd t p tag) 0x1100 2 [3] ((cmd 3).enter .maint)) ∧
      (actsOn (.leaveCmd t p tag) 0x1100 2 [4] ((cmd 4).enter .ready)) ∧
      (s.dev.cmd = none → actsOn (.warmResetCommand t p tag) 0x1100 2 [5] { cmd 5 with
        dev := { u.dev with cmd := some (5, u.clock.now + Config.ms) } }) ∧
      (s.dev.cmd = none → actsOn (.coldResetCommand t p tag) 0x1100 2 [6] { cmd 6 with
        dev := { u.dev with cmd := some (6, u.clock.now + Config.ms) } }) ∧
      (acts (.chooseSource t p tag val) 0x1300 7 ((u.setObj 0x1300 7 v).chooseSource v)) ∧
      (later (.clearRecord t p tag val) 0x1300 9 { u with record := { u.record with
        mem := { u.record.mem with clearMark := v == 1 } } })) ∧
  (∀ (s : State) (t : Nat) (p : Path) (tag : Nat) (val : List Byte),
    ∃ s2, exec (.pairingEnableWrite t p tag val) s = .next s2) ∧
  (∀ (s : State) (t : Nat) (p : Path) (tag : Nat), ∃ s2, exec (.takeOverCmd t p tag) s = .next s2) ∧
  (∀ (s : State) (t : Nat) (p : Path) (tag : Nat), ∃ s2, exec (.handoverCmd t p tag) s = .next s2) ∧
  (∀ (s : State) (t : Nat) (p : Path) (tag : Nat), ∃ s2, exec (.resyncCmd t p tag) s = .next s2) ∧
  (∀ (s : State) (t : Nat) (p : Path) (tag : Nat), ∃ s2, exec (.isolateCmd t p tag) s = .next s2) ∧
  (∀ (s : State) (t : Nat) (p : Path) (tag : Nat) (val : List Byte),
    ∃ s2, exec (.streamRecordWrite t p tag val) s = .next s2) ∧
  (∀ (s : State) (t : Nat) (p : Path) (tag : Nat) (val : List Byte),
    ∃ s2, exec (.pipelineFloorWrite t p tag val) s = .next s2) ∧
  (∀ (s : State) (t : Nat) (p : Path) (tag : Nat) (val : List Byte),
    ∃ s2, exec (.acknowledgeEvent t p tag val) s = .next s2) ∧
  (∀ (s : State) (t : Nat) (p : Path) (tag : Nat) (val : List Byte),
    ∃ s2, exec (.acknowledgeClass t p tag val) s = .next s2) ∧
  (∀ (s : State) (t : Nat) (p : Path) (tag : Nat) (val : List Byte), ∃ s2, exec (.fltNHold t p tag val) s = .next s2) ∧
  (∀ (s : State) (t : Nat) (p : Path) (tag : Nat) (val : List Byte), ∃ s2, exec (.clearCounters t p tag val) s = .next s2) ∧
  (∀ (s : State) (t : Nat) (p : Path) (tag : Nat), ∃ s2, exec (.startCmd t p tag) s = .next s2) ∧
  (∀ (s : State) (t : Nat) (p : Path) (tag : Nat), ∃ s2, exec (.stopCmd t p tag) s = .next s2) ∧
  (∀ (s : State) (t : Nat) (p : Path) (tag : Nat), ∃ s2, exec (.maintCmd t p tag) s = .next s2) ∧
  (∀ (s : State) (t : Nat) (p : Path) (tag : Nat), ∃ s2, exec (.leaveCmd t p tag) s = .next s2) ∧
  (∀ (s : State) (t : Nat) (p : Path) (tag : Nat), ∃ s2, exec (.warmResetCommand t p tag) s = .next s2) ∧
  (∀ (s : State) (t : Nat) (p : Path) (tag : Nat), ∃ s2, exec (.coldResetCommand t p tag) s = .next s2) ∧
  (∀ (s : State) (t : Nat) (p : Path) (tag : Nat) (val : List Byte), ∃ s2, exec (.chooseSource t p tag val) s = .next s2) ∧
  (∀ (s : State) (t : Nat) (p : Path) (tag : Nat) (val : List Byte), ∃ s2, exec (.clearRecord t p tag val) s = .next s2)

/-! ### The pair and the streams (chapter 13) -/

/-- A claim cell goes out on both pairing lanes at each multiple of 256 CORE cycles while the part sends claims; a valid cell
of the partner is noted and makes the transition of R479, another unit's or a malformed one is counted, one out of
sequence is nothing (R473 to R475, R479, R497). Each of these completes in every state, whatever its operands:
claimCellSend, claimCellReceive. -/
def Obligations.ClaimCellsAreSentAndMovePairs : Prop :=
  ((∀ (s : State) (t : Tick),
    let u := s.tick t
    let n := u.coreCycle / 256
    let q := (s.pair.seq + 1) % 65536
    let c := transferWord 1 0 false false u.partner u.unit u.claimNo 0 0 ++ u.claimPayload q
    ((u.claimsRun = false ∨ u.coreCycle % 256 ≠ 0 ∨ n = s.pair.lastTick) → exec (.claimCellSend t) s = .next u.settle) ∧
      (u.claimsRun = true → u.coreCycle % 256 = 0 → n ≠ s.pair.lastTick → exec (.claimCellSend t) s = .next (({ u with pair := { s.pair with
        seq := q, lastCell := u.claimHead, claimOut := s.pair.claimOut ++ [(0, c), (1, c)], lastTick := n } } : State).settle))) ∧
  (∀ (s : State) (t : Tick) (lane : Fin 2) (slot : List Byte), slot.length = 264 →
    let u := s.tick t
    let b := slot.drop 8
    let d := match s.pair.pSeq with
      | some q => (beAt b 6 2 + 65536 - q) % 65536
      | none => 1
    let v := u.noteClaimCell b
    let own := u.obj 0x6800 3
    let goes (w : State) : Prop := exec (.claimCellReceive t lane slot) s = .next w.settle
    (s.pair.st = .unpaired ∨ cellKind slot ≠ 1 → goes u) ∧
      (s.pair.st ≠ .unpaired → cellKind slot = 1 →
        (beAt b 4 2 % 512 ≠ u.partner → goes (u.pairNote 0 1 0x12)) ∧
        (beAt b 4 2 % 512 = u.partner →
          (claimBad b = true → goes (u.pairNote 1 0 0x12)) ∧
          (claimBad b = false → d = 0 ∨ 32768 ≤ d → goes u) ∧
          (claimBad b = false → 0 < d → d < 32768 →
            let they := v.pair.partnerSt
            (s.pair.st = .isolated → v.pair.pClaim % 16 = own → goes (v.pairNote 2 1 0x12)) ∧
              (s.pair.st = .isolated → v.pair.pClaim % 16 ≠ own → v.dev.st.inService = true → they = .active → goes v.enterSync) ∧
              (s.pair.st = .isolated → v.pair.pClaim % 16 < own → v.dev.st.inService = true → they = .isolated →
                s.pair.incomplete = false → goes (v.setPair { v.pair with st := .active, rank := 2 })) ∧
              (s.pair.st = .standby → they = .active → goes v) ∧
              (s.pair.st = .standby → they ≠ .active → v.pair.released = false → goes v.takeover) ∧
              (s.pair.st = .sync → they ≠ .active → goes v.syncFail) ∧
              (s.pair.st = .active → they = .active → v.claimNo < v.pair.pClaim → goes ((v.pairNote 7 1 0xE).enterSync)) ∧
              (s.pair.st = .active → they ≠ .active → s.pair.request = true → bit v.pair.pFlags 2 = true →
                goes ((v.setPair { v.pair with
                  st := .standby, rank := 1, released := true, request := false, items := [], itemOut := [] }).bump
                    0x6800 0x10))))))) ∧
  (∀ (s : State) (t : Nat), ∃ s2, exec (.claimCellSend t) s = .next s2) ∧
  (∀ (s : State) (t : Nat) (lane : Fin 2) (slot : List Byte), ∃ s2, exec (.claimCellReceive t lane slot) s = .next s2)

/-- A partner without a valid claim for its period is lost: STANDBY takes over or waits by its policy, SYNC fails, ACTIVE
notes it as FC-16 at level F1; a lone member starts after its wait; an unanswered handover request ends; the rank is
lowered once the partner's has been 1; outstanding items are sent again; a member in SYNC starts its resynchronisation; a
stream that has passed nothing for its reset time takes any number (R476, R479, R483, R492, R494, R503). A transfer item
is taken only by a member that is STANDBY or in SYNC, and only in sequence; a mirrored record is laid, and one refused is
divergence, as is a marker without its mirrored transaction or with a number other than the commit number plus 1, while a
mirrored transaction whose marker has come is uncommitted the next marker waits (log entry 162); in SYNC a line of an
image is kept unless a newer one is held, a journal block is taken, the position is noted, and sync end ends the
resynchronisation at the commit number it carries (R70, R487, R489, R491, R494, R495, R497). Each of these completes in
every state, whatever its operands: claimLoss, loneStartTimeout, handoverTimeout, rankLower, transferItemReceive,
transferResend, resynchronisation, streamResetTimeout. -/
def Obligations.PairTimersAndTransferItems : Prop :=
  (∀ (s : State) (t : Tick),
    let u := s.tick t
    let p := s.pair
    let lost := (u.setPair { p with partnerSt := .unpaired, pClaim := 0, pFlags := 0, rankOne := 0, lostAt := u.clock.now }).bump
      0x6800 0xF
    ((p.st = .unpaired ∨ p.partnerSt = .unpaired ∨ u.clock.now < p.pAt + 1184 * Config.core) →
        exec (.claimLoss t) s = .next u.settle) ∧
      (p.st ≠ .unpaired → p.partnerSt ≠ .unpaired → p.pAt + 1184 * Config.core ≤ u.clock.now →
        let goes (w : State) : Prop := exec (.claimLoss t) s = .next w.settle
        (p.st = .standby → u.obj 0x6800 4 = 0 → goes lost.takeover) ∧
          (p.st = .standby → u.obj 0x6800 4 ≠ 0 → goes lost.isolate) ∧
          (p.st = .sync → goes lost.syncFail) ∧
          (p.st = .active → goes ((lost.setPair { lost.pair with lostFlag := true }).pairEvent 0 0xF)) ∧
          (p.st = .isolated → goes lost)) ∧
      (p.st = .isolated → p.partnerSt = .unpaired → u.dev.st.inService = true → u.obj 0x6800 4 = 0 → p.incomplete = false →
        p.lostAt + u.obj 0x6800 5 * Config.ms ≤ u.clock.now → exec (.loneStartTimeout t) s = .next (u.takeover.settle)) ∧
      (p.st ≠ .isolated ∨ p.partnerSt ≠ .unpaired ∨ u.obj 0x6800 4 ≠ 0 ∨ p.incomplete = true ∨
        u.clock.now < p.lostAt + u.obj 0x6800 5 * Config.ms → exec (.loneStartTimeout t) s = .next u.settle) ∧
      (p.request = true → p.requestAt + Config.sec ≤ u.clock.now → exec (.handoverTimeout t) s =
        .next (((u.setPair { p with request := false }).pairEvent 1 0).settle)) ∧
      (p.request = false ∨ u.clock.now < p.requestAt + Config.sec → exec (.handoverTimeout t) s = .next u.settle) ∧
      (p.st = .active → 2 < p.rank → p.partnerSt ≠ .unpaired → p.rankOne ≠ 0 → p.rankOne - 1 + 6 * Config.ms ≤ u.clock.now →
        exec (.rankLower t) s = .next ((u.setPair { p with rank := 2 }).settle)) ∧
      (p.st ≠ .active ∨ p.rank ≤ 2 ∨ p.partnerSt = .unpaired ∨ p.rankOne = 0 ∨
        u.clock.now < p.rankOne - 1 + 6 * Config.ms → exec (.rankLower t) s = .next u.settle) ∧
      (p.items ≠ [] → p.ackAt + 1024 * Config.core ≤ u.clock.now → exec (.transferResend t) s =
        .next ((u.setPair { p with itemOut := p.items.map (·.2), ackAt := u.clock.now }).settle)) ∧
      (p.items = [] ∨ u.clock.now < p.ackAt + 1024 * Config.core → exec (.transferResend t) s = .next u.settle) ∧
      (p.st ≠ .sync ∨ u.resyncSlot.isSome = true → exec (.resynchronisation t) s = .next u.settle) ∧
      (∀ i, p.st = .sync → u.resyncSlot = none → u.freeSlot true = some i → exec (.resynchronisation t) s =
        .next (((({ u with dict := { u.dict with nextHandle := nextHandle u.dict.nextHandle } } : State).setSlot i
          ⟨u.dict.nextHandle, 0, 0x6800, 0xB, selfId, 0, 157, 0, 0, zeros 12, 0, false, resyncArg⟩).setPair
            { p with syncOp := some u.dict.nextHandle }).settle)) ∧
      (∀ n : Fin 16384, s.faults.haltTm = false →
        let r := u.objI 0x6900 2 n
        let x := s.stream n
        (bit r 127 = true → bit r 125 = true → x.takeAny = false → x.last + bits r 76 67 * Config.ms ≤ u.clock.now →
          exec (.streamResetTimeout t n) s = .next (((u.setStream { x with takeAny := true }).bumpI 0x6900 0xA n 1).settle)) ∧
        (bit r 127 = false ∨ bit r 125 = false ∨ x.takeAny = true ∨ u.clock.now < x.last + bits r 76 67 * Config.ms →
          exec (.streamResetTimeout t n) s = .next u.settle))) ∧
  (∀ (s : State) (t : Tick) (lane : Fin 2) (slot : List Byte), slot ≠ [] →
    let u := s.tick t
    let b := slot.drop 8
    let q := beAt b 4 4
    let kind := beAt b 0 1
    let arg := beAt b 8 8
    let data := (b.drop 16).take (min 240 (beAt b 2 2))
    let goes (w : State) : Prop := exec (.transferItemReceive t lane slot) s = .next w.settle
    let got (w : State) : State := w.setPair { w.pair with got := q }
    let mark := leBytes 2 (if kind = 3 then arg / 2 ^ 48 else 0xFFFF) ++ leBytes 6 (arg % 2 ^ 48) ++ leBytes 4 q
    let at_ (w : State) : State := w.setPair { w.pair with got := q, syncMark := mark, syncMoved := true }
    (s.pair.st = .unpaired → goes u) ∧
      (s.pair.st = .active ∨ s.pair.st = .isolated → goes (u.pairNote 3 0 0x12)) ∧
      (s.pair.st = .standby ∨ s.pair.st = .sync → q ≠ (s.pair.got + 1) % 2 ^ 32 → goes u) ∧
      (s.pair.st = .standby → q = (s.pair.got + 1) % 2 ^ 32 →
        (kind = 1 →
          let r := bytesAt data 0 192
          let v := if beAt r 0 1 = 1 then u.setPair { s.pair with mirrored := s.pair.mirrored ++ [arg % 2 ^ 32] } else u
          let x := v.txMirror (arg / 2 ^ 32 % 65536) r
          (x.2 = .done → goes (got x.1)) ∧ (x.2 = .wait → goes u) ∧ (∀ c, x.2 = .abort c → goes (got x.1.diverge))) ∧
          (kind = 2 → u.markerWaits = true → goes u) ∧
          (kind = 2 → u.markerWaits = false → s.pair.mirrored = [] → goes (got u.diverge)) ∧
          (kind = 0 ∨ 3 ≤ kind → goes (got u)) ∧
          (∀ tag rest, kind = 2 → u.markerWaits = false → s.pair.mirrored = tag :: rest →
            arg ≠ s.tx.commit + 1 ∨ u.tx.staged.all (fun w => w.tag != tag) = true → goes (got u.diverge)) ∧
          (∀ tag rest, kind = 2 → u.markerWaits = false → s.pair.mirrored = tag :: rest → arg = s.tx.commit + 1 →
            u.tx.staged.all (fun w => w.tag != tag) = false →
              goes (got ((u.setPair { s.pair with mirrored := rest }).commitNext)))) ∧
      (s.pair.st = .sync → q = (s.pair.got + 1) % 2 ^ 32 → u.syncBroken = false →
        (kind = 3 → s.pair.syncEnd ≠ some u.tx.commit → goes (at_ (u.imagePiece (arg / 2 ^ 48) data))) ∧
          (kind = 4 → s.pair.syncEnd = none → goes (at_ (u.journalPiece data))) ∧
          (kind = 5 → arg ≠ u.tx.commit → goes (at_ (u.setPair { s.pair with syncEnd := some arg }))) ∧
          (kind = 5 → arg = u.tx.commit →
            let ended (w : State) : State := w.setPair { s.pair with
              got := q, st := .standby, incomplete := false, syncEnd := none, syncMark := mark, syncMoved := true
              syncOp := none }
            (u.resyncSlot = none → goes (ended u)) ∧
              (∀ i, u.resyncSlot = some i →
                goes (ended ((u.stepsTo i 157 (leBytes 2 0xFFFF ++ zeros 6 ++ leBytes 4 q)).endOp i 2 0)))))) ∧
  (∀ (s : State) (t : Nat), ∃ s2, exec (.claimLoss t) s = .next s2) ∧
  (∀ (s : State) (t : Nat), ∃ s2, exec (.loneStartTimeout t) s = .next s2) ∧
  (∀ (s : State) (t : Nat), ∃ s2, exec (.handoverTimeout t) s = .next s2) ∧
  (∀ (s : State) (t : Nat), ∃ s2, exec (.rankLower t) s = .next s2) ∧
  (∀ (s : State) (t : Nat) (lane : Fin 2) (slot : List Byte), ∃ s2, exec (.transferItemReceive t lane slot) s = .next s2) ∧
  (∀ (s : State) (t : Nat), ∃ s2, exec (.transferResend t) s = .next s2) ∧
  (∀ (s : State) (t : Nat), ∃ s2, exec (.resynchronisation t) s = .next s2) ∧
  (∀ (s : State) (t : Nat) (stream : Fin 16384), ∃ s2, exec (.streamResetTimeout t stream) s = .next s2)

/-! ### The Survey (chapter 14) -/

/-- A reading that counts sets its benchmark's reading, time and level: of a path the slack that the delay read from its
replica gives, once there is a baseline (R507); a thermal one goes on to the thresholds of its die, and one of a stage
path may spend SX. One that does not count, and one of a kind read in the daily pass only, changes nothing. A daily pass
becomes due at its time, starts in a state that runs, on the first free slot of the part; it waits for one up to 1 h, and
is skipped and counted then or while another pass runs; a part without a baseline starts its baseline pass (R508, R510,
R512, R516, R518, R553; log entry 164). Each of these completes in every state, whatever its operands: benchmarkReading,
dailyPassStart, dailyPassSkip, baselinePassStart. -/
def Obligations.ReadingsAndPasses : Prop :=
  (∀ (s : State) (t : Tick),
    let u := s.tick t
    let starts (v : State) (i arg : Nat) : State :=
      ({ v with dict := { v.dict with nextHandle := nextHandle v.dict.nextHandle } } : State).setSlot i
        ⟨v.dict.nextHandle, 0, 0x7000, 0xC, selfId, 0, 294, 0, 0, zeros 12, 0, false, arg⟩
    (∀ (bench : Nat) (r : Int),
      let kind := bench / 0x1000
      let taken (v : State) (x : Int) : State :=
        let lvl := benchLevelOf kind (v.benchLevel bench) x
        let g := nget v.survey.given bench 0
        { v with survey := { v.survey with
          readings := nset v.survey.readings bench (ofInt 32 x) 0
          readAt := nset v.survey.readAt bench v.time80 0
          levels := nset v.survey.levels bench lvl 0
          given := nset v.survey.given bench (if g = 1 ∨ lvl + 1 < g then 0 else g) 0
          waiting := if lvl < 3 then v.survey.waiting.filter (fun b => b != bench) else v.survey.waiting } }
      let read : State := { u with survey := { u.survey with
        delays := nset u.survey.delays bench (ofInt 32 (u.delayNow bench r)) 0 } }
      let goes (w : State) : Prop := exec (.benchmarkReading t bench r) s = .next w.settle
      (u.readingOk bench = false ∨ kind = 4 ∨ kind = 7 → goes u) ∧
        (u.readingOk bench = true → kind = 3 ∨ kind = 6 → goes (taken u r)) ∧
        (u.readingOk bench = true → kind = 5 → goes ((taken u r).thermal bench)) ∧
        (u.readingOk bench = true → kind = 1 ∨ kind = 2 → s.record.mem.survey.present = false → goes read) ∧
        (u.readingOk bench = true → kind = 2 → s.record.mem.survey.present = true → goes (taken read (read.slack bench))) ∧
        (u.readingOk bench = true → kind = 1 → s.record.mem.survey.present = true →
          goes ((taken read (read.slack bench)).sxLost bench))) ∧
      (let goes (w : State) : Prop := exec (.dailyPassStart t) s = .next w.settle
       let noted := u.passReached
       let dealt (v : State) : State := { v with survey := { v.survey with pend := false, waitFrom := none } }
       let patient : Prop := ∀ a, noted.survey.waitFrom = some a → u.clock.now < a + 3600 * Config.sec
       let runs : Prop := s.dev.st = .run ∨ s.dev.st = .degraded ∨ s.dev.st = .standby
       (u.passDue = false → noted = u) ∧
         (u.passDue = true → s.survey.pend = false → noted = { u with survey := { s.survey with
           day := u.clock.sec / 86400 + 1, pend := true } }) ∧
         (u.passDue = true → s.survey.pend = true → noted = { u.bump 0x7000 8 with survey := { s.survey with
           day := u.clock.sec / 86400 + 1, pend := true, waitFrom := none } }) ∧
         (noted.survey.pend = false → goes noted) ∧
         (noted.survey.pend = true →
           (¬ patient ∨ u.passRuns = true → goes (dealt (noted.bump 0x7000 8))) ∧
           (patient → u.passRuns = false → ¬ runs → goes noted) ∧
           (∀ i, patient → u.passRuns = false → runs → u.freeSlot true = some i → goes (dealt (starts noted i dailyArg))) ∧
           (patient → u.passRuns = false → runs → u.freeSlot true = none → goes { noted with survey := { noted.survey with
             waitFrom := some (noted.survey.waitFrom.getD u.clock.now) } })) ∧
         (s.survey.waitFrom = none → exec (.dailyPassSkip t) s = .next u.settle) ∧
         (∀ a, s.survey.waitFrom = some a →
           (u.clock.now < a + 3600 * Config.sec → exec (.dailyPassSkip t) s = .next u.settle) ∧
           (a + 3600 * Config.sec ≤ u.clock.now → exec (.dailyPassSkip t) s = .next ((dealt (u.bump 0x7000 8)).settle)))) ∧
      (s.record.mem.survey.present = true ∨ u.passRuns = true ∨ s.dev.st = .boot ∨ s.dev.st = .init ∨ s.dev.st = .halt →
        exec (.baselinePassStart t) s = .next u.settle) ∧
      (∀ i, s.record.mem.survey.present = false → u.passRuns = false → s.dev.st ≠ .boot → s.dev.st ≠ .init →
        s.dev.st ≠ .halt → u.freeSlot true = some i → exec (.baselinePassStart t) s =
          .next (({ starts u i baselineArg with survey := { s.survey with sweep := [], sweepDelays := [] } } : State).settle))) ∧
  (∀ (s : State) (t : Nat) (bench : Nat) (reading : Int), ∃ s2, exec (.benchmarkReading t bench reading) s = .next s2) ∧
  (∀ (s : State) (t : Nat), ∃ s2, exec (.dailyPassStart t) s = .next s2) ∧
  (∀ (s : State) (t : Nat), ∃ s2, exec (.dailyPassSkip t) s = .next s2) ∧
  (∀ (s : State) (t : Nat), ∃ s2, exec (.baselinePassStart t) s = .next s2)

/-- What the error history of a die calls for comes first; else the first waiting benchmark of the die gets its next remedy: a
raise of the rail by 5 mV, an adaptation bound step; one that has to wait holds up the rest; a read-back that does not
confirm a raise is retried, and after the third retry the rail stands at its ceiling (R517, R519, R523 to R525, R538; log
entry 163). An error of a row or column enters its history of 24 h, and calls for a repair after a second visit or when it
is uncorrectable; a bond wire is called for after more than 16 flits with corrected bits within 1 s; the repair is made
once its die has no other remedy running. A repair spends a spare of its unit while one is left, burns it into the repair
fuses and rewrites the record. Without one a bank beyond repair waits to be re-laid and is lost when two have been; a
stage is treated as one at its limit; a pool macro is raised at level F3; an HBM row's blocks are withdrawn. A bond wire
is mapped onto a spare of its direction once, and raised as FC-12 at level F3 when none is left (R15, R211, R212, R519,
R529 to R531, R534, R536; log entry 163). Each of these completes in every state, whatever its operands: surveyRemedy,
avsRetry, memoryRepair, bondWireSubstitute. -/
def Obligations.RemediesAndRepairs : Prop :=
  (∀ (s : State) (t : Tick) (die : Die) (rb : Option Nat) (trim : HbmTrim),
    let u := s.tick t
    let d := dieCode die
    let a := s.avs d
    let plan := u.railPlan d
    (s.dev.st = .boot ∨ s.dev.st = .init ∨ a.tries ≠ 0 → exec (.surveyRemedy t die rb trim) s = .next u.settle) ∧
      (s.dev.st ≠ .boot → s.dev.st ≠ .init → a.tries = 0 → s.survey.retires = [] →
        (∀ code row, u.nextRepair d = some (code, row) →
          exec (.surveyRemedy t die rb trim) s = .next ((u.repairRow code row).settle)) ∧
        (u.nextRepair d = none → u.waiters d = [] → exec (.surveyRemedy t die rb trim) s = .next u.settle) ∧
        (∀ b rest, u.nextRepair d = none → u.waiters d = b :: rest →
          (b / 0x1000 = 2 → benchDie b = d → plan + 5 ≤ u.railCeiling d → a.stuck = false →
            (∀ r, a.raised = some r → u.clock.now < r + 100 * Config.ms →
              exec (.surveyRemedy t die rb trim) s = .next u.settle) ∧
            ((∀ r, a.raised = some r → r + 100 * Config.ms ≤ u.clock.now) →
              let n := u.record.mem.margin.raises
              let f (m : Margin) : Margin := if d = 1 then { m with railFe := plan + 5, raises := m.raises + 1 }
                else { m with railTm := plan + 5, raises := m.raises + 1 }
              let v := ((((u.mapMargin f).logOwn 0x7100 (if d = 1 then 1 else 2) plan (plan + 5)).logOwn 0x7100 5 n
                (n + 1)).rewriteRecord).surveyEvent 0 d b 0x02 0 d 0
              exec (.surveyRemedy t die rb trim) s = .next ((((v.out (.avs (1 - d) (plan + 5))).setAvs d { a with
                raised := some u.clock.now, at_ := u.clock.now
                tries := if avsOk (plan + 5) rb then 0 else 1 }).giveMark b 1).settle))) ∧
          (b / 0x1000 = 6 → nget u.record.mem.margin.laneSteps (b % 0x1000) 0 < 7 →
            let n := nget u.record.mem.margin.laneSteps (b % 0x1000) 0
            let v := (u.mapMargin (fun m => { m with
              laneSteps := nset m.laneSteps (b % 0x1000) (n + 1) 0 })).rewriteRecord.surveyEvent 0 (benchDie b) b 0x04 0
                (b % 0x1000) 0
            exec (.surveyRemedy t die rb trim) s = .next ((v.giveMark b 1).settle)))) ∧
      (a.tries = 0 ∨ u.clock.now < a.at_ + Config.ms → exec (.avsRetry t die rb) s = .next u.settle) ∧
      (a.tries ≠ 0 → a.at_ + Config.ms ≤ u.clock.now →
        let asked : State := u.out (.avs (1 - d) plan)
        let goes (w : State) : Prop := exec (.avsRetry t die rb) s = .next w.settle
        (avsOk plan rb = true → goes (asked.setAvs d { a with tries := 0, at_ := u.clock.now })) ∧
          (avsOk plan rb = false → a.tries < 3 → goes (asked.setAvs d { a with tries := a.tries + 1, at_ := u.clock.now })) ∧
          (avsOk plan rb = false → 3 ≤ a.tries → goes ((asked.setAvs d { a with
            tries := 0, stuck := true, at_ := u.clock.now }).surveyEvent 1 d 0xFFFF 0x02 0 d 0)))) ∧
  ((∀ (s : State) (t : Tick) (code row : Nat) (hard : Bool),
    let u := s.tick t
    let now := u.clock.now
    let recent := s.survey.finds.filter (fun f => decide (now < f.at_ + 86400 * Config.sec))
    let mine := (⟨code, row, now, hard⟩ : Find) :: recent.filter (fun f => f.code == code && f.row == row)
    let fails := if code = 10 then decide (16 < (mine.filter (fun f => decide (now < f.at_ + Config.sec))).length)
      else decide (2 ≤ mine.length) || mine.any (·.hard)
    let noted : State := { u with survey := { s.survey with finds := ⟨code, row, now, hard⟩ :: recent } }
    let called : State := { noted with survey := { noted.survey with repairs := s.survey.repairs ++ [(code, row)] } }
    let mapped := code = 10 ∧ s.record.mem.spares.wires.contains row = true
    let goes (w : State) : Prop := exec (.memoryRepair t code row hard) s = .next w.settle
    (isRow code row = false ∨ mapped → goes u) ∧
      (isRow code row = true → ¬ mapped →
        ((code, row) ∉ s.survey.repairs →
          (fails = false → goes noted) ∧
          (fails = true → called.repairReady code row = false → goes called) ∧
          (fails = true → called.repairReady code row = true → goes (called.repairRow code row))) ∧
        ((code, row) ∈ s.survey.repairs →
          (u.repairReady code row = false → goes u) ∧
          (u.repairReady code row = true → goes (u.repairRow code row)))) ∧
      (∀ (toTm : Bool) (wire : Fin 9216), exec (.bondWireSubstitute t toTm wire) s =
        exec (.memoryRepair t 10 ((if toTm then 0 else 1) * 65536 + wire.val) false) s)) ∧
  (∀ (s : State) (code row : Nat), isRow code row = true →
    let unit := spareUnit code row
    let errors := s.errorHistory code row
    let u : State := { s with survey := { s.survey with
      finds := s.survey.finds.filter (fun f => !(f.code == code && f.row == row))
      repairs := s.survey.repairs.filter (fun x => x != (code, row)) } }
    let relaid : List Nat := s.record.mem.spares.banksRelaid
    let lost : State := { u with faults := { u.faults with bankLost := true } }
    let goes (w : State) : Prop := s.repairRow code row = w
    (code ≠ 10 → s.spareLeft code unit = true →
        goes (((u.spend code unit (if code = 11 then row else unit) 0xFFFF errors).burnRepair code unit).rewriteRecord)) ∧
      (code ≠ 10 → s.spareLeft code unit = false →
        (code ≤ 3 → relaid.contains unit = true ∨ (∃ x ∈ s.tables.relaying, x.1 = unit) → goes u) ∧
        (code ≤ 3 → relaid.contains unit = false → (∀ x ∈ s.tables.relaying, x.1 ≠ unit) →
          (relaid.length + s.tables.relaying.length < 2 →
            goes { u with tables := { s.tables with relaying := s.tables.relaying ++ [(unit, errors)] } }) ∧
          (2 ≤ relaid.length + s.tables.relaying.length → goes (lost.surveyEvent 3 1 0xFFFF 0x00 2 unit errors))) ∧
        (code = 4 ∨ code = 5 → goes (u.stageLimit unit 0xFFFF errors)) ∧
        (code = 6 ∨ code = 7 → goes (u.surveyEvent 3 (if unit < 192 then 0 else 1) 0xFFFF 0x00 code unit errors)) ∧
        (code = 11 → goes (u.withdrawGroup row errors))) ∧
      (code = 10 → s.record.mem.spares.wires.contains row = false →
        let wire := row % 65536
        (s.spareLeft 10 unit = true →
          goes ((((u.mapSpares (fun p => { p with wires := p.wires ++ [row] })).spend 10 unit row 0xFFFF errors).burnEntry 0x0A
            (unit * 2 ^ 23 + wire)).rewriteRecord)) ∧
        (s.spareLeft 10 unit = false → goes (u.surveyEvent 3 2 0xFFFF 0x00 10 row errors))))) ∧
  (∀ (s : State) (t : Nat) (die : Die) (readBack : Option Nat) (trim : HbmTrim),
    ∃ s2, exec (.surveyRemedy t die readBack trim) s = .next s2) ∧
  (∀ (s : State) (t : Nat) (die : Die) (readBack : Option Nat), ∃ s2, exec (.avsRetry t die readBack) s = .next s2) ∧
  (∀ (s : State) (t : Nat) (code : Nat) (unit : Nat) (uncorrectable : Bool),
    ∃ s2, exec (.memoryRepair t code unit uncorrectable) s = .next s2) ∧
  (∀ (s : State) (t : Nat) (toTm : Bool) (wire : Fin 9216), ∃ s2, exec (.bondWireSubstitute t toTm wire) s = .next s2)

/-! ### Faults, the sideband, watchdogs (chapter 15) -/

/-- A fault source's event gets the next number and is entered in the history with its level and detail, counted in its class;
below level F1 that is all, at level F1 it stands with its reaction timer and interrupts from the IRQ level on; a path
that is not heard raises nothing. A corrected error of a pool cell is counted, an uncorrectable one makes the tail in the
cell bad and is noted in the history of its row; an uncorrectable error of any other memory is noted so (R266, R529, R540,
R544, R545, R556, R557, R562). Each of these completes in every state, whatever its operands: faultPathAssert. -/
def Obligations.FaultSourcesRaiseEvents : Prop :=
  (∀ (s : State) (t : Tick) (path : Option (Fin 2304)) (x : FaultSource),
    let t0 := s.tick t
    let cls := x.cls.val + 1
    let noted (w : State) : State := match w.repairOf x.object x.value with
      | some (code, row) => w.noteError code row true
      | none => w
    let u := if cls = 2 then noted t0 else t0
    let n := (s.faults.newest + 1) % 2 ^ 32
    let o := 0x800F + cls
    let pool := x.object / 2 ^ 24
    let cell : Prop := pool = 0xF0 ∨ pool = 0xF1 ∨ pool = 0xF3
    let detail := leBytes 4 x.object ++ leBytes 4 x.value ++ zeros 24
    let goes (w : State) : Prop := exec (.faultPathAssert t path x) s = .next w
    let source : Raise :=
      { cls := cls, level := x.level.val, die := x.die.val, path := (path.map (·.val)).getD 0xFFFF
        object := x.object, value := x.value, own := x.ownAction, port := x.die.val == 1 }
    let ev (lvl : Nat) : Event := ⟨n, cls, lvl, lvl, if lvl = 0 then 4 else 0, 0, 0, x.die.val,
      (path.map (·.val)).getD 0xFFFF, u.dev.st.code, u.time80, if lvl = 0 then selfId else 0, detail⟩
    let num (l : List Standing) : State := { u with faults := { u.faults with newest := n, standing := l } }
    let stands := s.faults.standing ++
      [Standing.mk n cls 1 (u.clock.now + u.obj o 1 * Config.us) x.object x.value (x.die.val == 1) detail]
    ((path.map (·.val)).any t0.deafTo = true → goes t0.settle) ∧
      ((path.map (·.val)).any t0.deafTo = false →
        (¬ cell ∨ cls = 3 ∨ 5 ≤ cls →
          (s.Calm → x.level.val = 0 → u.faults.raisedLevel cls 0 = (0, false) →
              goes ((((num s.faults.standing).enterEvent (ev 0)).bump o 3).devSync)) ∧
            (s.Calm → x.level.val = 1 → u.faults.raisedLevel cls 1 = (1, false) →
              let v := ((num stands).enterEvent (ev 1)).bump o 4
              (2 ≤ v.obj 0x8200 3 → goes v.devSync) ∧ (v.obj 0x8200 3 ≤ 1 → goes (((v.msix 2).ibi 0x46).devSync))) ∧
            (cls ≠ 4 ∨ x.level.val = 3 ∨ x.ownAction = false → goes ((u.raise source).settle))) ∧
          (cls = 1 → cell → goes (((u.bump 0x5001 0xF).raise { source with ctrIdx := 0x5001, ctrSub := 0xF }).settle)) ∧
          (cls = 2 → cell → goes (((noted (t0.cellBad (pool - 0xF0) (x.object % 2 ^ 24))).raise source).settle)) ∧
          (cls = 4 → x.level.val = 2 → x.ownAction = true → goes (((u.containCell x.object).raise source).settle)))) ∧
  (∀ (s : State) (t : Nat) (path : Option (Fin 2304)) (src : FaultSource),
    ∃ s2, exec (.faultPathAssert t path src) s = .next s2)

/-- A failed path raises FC-06 and the containment of its source's class, and is not heard again until it has recovered and
its event has been acknowledged; a standing event at level F1 rises to F2 after the TMC cycle in which its reaction timer
runs out; FLT_N falls back after its pulse unless it is held; a stopped die clock is noted (R541, R542, R545, R547, R560,
R561). An uncorrectable flit drops and counts the packets that had bytes in it, on the egress side injects among them with
their cells and the frames of line cut-through whose later bytes are lost, and raises FC-09; the sideband stands at its
safe value, permission withdrawn, until words are received again, and 10 ms of it are level F4, which halts the receiving
die and the part; a pointer mismatch is FC-05 at level F2 with the die on which the crossing lies, by the table of
crossings (R13, R14, R21, R258, R548, R551). Each of these completes in every state, whatever its operands:
bondFlitUncorrectable, sidebandSafeValue, sidebandSafeTimeout, crossingPointerMismatch, faultPathFailure,
reactionTimerExpire, fltNPulseEnd, sidebandSafeValueClear, faultPathRecover, dieClockStop. -/
def Obligations.FaultPathsPinsAndTheBond : Prop :=
  (∀ (s : State) (t : Tick),
    let u := s.tick t
    (∀ (path : Fin 2304) (x : FaultSource),
      (u.deafTo path = true → exec (.faultPathFailure t path x) s = .next u.settle) ∧
        (u.deafTo path = false →
          let n := (s.faults.newest + 1) % 2 ^ 32
          let v := (u.bump 0x8000 7).raise { cls := 6, level := 2, die := x.die.val, path := path, object := path, own := true
                                             failed := true, ctrIdx := 0x8000, ctrSub := 7 }
          exec (.faultPathFailure t path x) s = .next (({ v with faults := { v.faults with
            paths := v.faults.paths ++ [FailedPath.mk path n false false x]
            todo := v.faults.todo ++ [Contain.mk (x.cls.val + 1) x.object x.value n (x.die.val == 1)] } } : State).settle))) ∧
      (∀ path : Fin 2304, (∀ f ∈ s.faults.paths, f.path ≠ path.val) → s.Calm →
        exec (.faultPathRecover t path) s = .next u.devSync) ∧
      (∀ (path : Fin 2304) (f : FailedPath), s.Calm → s.faults.paths = [f] → f.path = path.val →
        let back : List FailedPath := if f.acked = true then [] else [{ f with recovered := true }]
        exec (.faultPathRecover t path) s = .next (({ u with faults := { u.faults with paths := back } } : State).devSync)) ∧
      (∀ num : Nat, (∀ e ∈ s.faults.standing, e.num ≠ num ∨ e.level ≠ 1) →
        exec (.reactionTimerExpire t num) s = .next u.settle) ∧
      (∀ (num : Nat) (e : Standing), s.faults.standing.find? (fun e => e.num == num && e.level == 1) = some e →
        (u.clock.now / Config.tmc ≤ e.deadline / Config.tmc → exec (.reactionTimerExpire t num) s = .next u.settle) ∧
          (e.deadline / Config.tmc < u.clock.now / Config.tmc → exec (.reactionTimerExpire t num) s = .next ((((({ u with faults := { u.faults with
            standing := modFirst (fun x => x.num == num) (fun x => { x with level := 2 }) u.faults.standing
            queue := modFirst (fun x => x.num == num) (fun x => { x with level := 2, flags := setBit x.flags 1 true }) u.faults.queue
            todo := u.faults.todo ++ [Contain.mk e.cls e.object e.value num e.port] } } : State).bump (0x800F + e.cls) 5).bump
              (0x800F + e.cls) 8).signal 2).settle))) ∧
      (s.faults.fltPulsed = true → s.faults.fltUntil ≤ u.clock.now → exec (.fltNPulseEnd t) s = .next (({ u with
        faults := { u.faults with fltPulsed := false, fltHeld := u.holdsFlt } } : State).settle)) ∧
      ((s.faults.fltPulsed = false ∨ u.clock.now < s.faults.fltUntil) → exec (.fltNPulseEnd t) s = .next u.settle) ∧
      (exec (.dieClockStop t .tm) s = .next (({ u with dev := { u.dev with tmStopped := true } } : State).settle)) ∧
      (exec (.dieClockStop t .fe) s = .next (({ u with dev := { u.dev with feStopped := true } } : State).settle))) ∧
  (∀ (s : State) (t : Tick) (die : Die),
    let u := s.tick t
    let x := s.sb die
    let dir := if die = .tm then 0 else 2 ^ 31
    (∀ lost : List Nat,
      let flit (w : State) (sub object : Nat) : State := (w.bump 0xA100 sub).raise
        { cls := 9, level := 1, die := 2, object := object, ctrIdx := 0xA100, ctrSub := 1 }
      (let l := dropPlaces s.flow.toTm lost
       let gone := (s.flow.toTm.zip (List.range s.flow.toTm.length)).filter (fun y => lost.contains y.2)
       let v := { u with flow := { s.flow with toTm := l } }.bumpN 0xA100 1 (s.flow.toTm.length - l.length)
       exec (.bondFlitUncorrectable t true lost) s =
         .next ((flit ((gone.filterMap (·.1.pid)).foldl State.bondLost v) 2 0).settle)) ∧
      (let n := s.flow.egressIn.length
       let late := (lost.filter (fun i => decide (n ≤ i))).map (· - n)
       let e := dropPlaces s.flow.egressIn lost
       let j := dropPlaces s.flow.injectIn late
       let cells := ((s.flow.injectIn.zip (List.range s.flow.injectIn.length)).filter (fun y => late.contains y.2)).flatMap (·.1.2)
       let tails := ((s.flow.arriving.zip (List.range s.flow.arriving.length)).filter
         (fun y => late.contains (s.flow.injectIn.length + y.2))).map (·.1)
       let v := { u with flow := { s.flow with egressIn := e, injectIn := j } }.bumpN 0xA100 1
         (n - e.length + (s.flow.injectIn.length - j.length) + tails.length)
       exec (.bondFlitUncorrectable t false lost) s =
         .next ((flit (tails.foldl State.loseTail (v.freeCells 1 (cells.map (fun c => (c, 5))))) 3 (2 ^ 31)).settle))) ∧
      (x.safe = true → exec (.sidebandSafeValue t die) s = .next u.settle) ∧
      (x.safe = false → exec (.sidebandSafeValue t die) s = .next (((u.setSb die ⟨false, x.commit, true, u.clock.now, false⟩).raise
        { cls := 9, level := 2, die := 2, object := dir, own := true }).settle)) ∧
      (exec (.sidebandSafeValueClear t die) s = .next ((u.setSb die ⟨u.permitSent, s.tx.commit, false, u.clock.now, false⟩).settle)) ∧
      (x.safe = false ∨ x.raised = true ∨ u.clock.now < x.since + 10 * Config.ms →
        exec (.sidebandSafeTimeout t die) s = .next u.settle) ∧
      (x.safe = true → x.raised = false → x.since + 10 * Config.ms ≤ u.clock.now → exec (.sidebandSafeTimeout t die) s =
        .next (((u.setSb die { x with raised := true }).raise
          { cls := 9, level := 4, die := if die = .tm then 0 else 1, object := dir }).settle)) ∧
      (s.Calm → s.dev.st ≠ .boot → x.safe = true → x.raised = false → x.since + 10 * Config.ms ≤ u.clock.now →
        ∃ v, exec (.sidebandSafeTimeout t die) s = .next v ∧ v.dev.st = .halt ∧
          v.faults.haltTm = (s.faults.haltTm || die == .tm) ∧ v.faults.haltFe = (s.faults.haltFe || die == .fe)) ∧
      (∀ c : Nat,
        let on : Nat := if c ∈ [0, 1, 2, 3, 8] then 1 else if c ∈ [4, 7] then 2 else 0
        exec (.crossingPointerMismatch t c) s =
        .next ((u.raise { cls := 5, level := 2, die := on, object := c }).settle))) ∧
  (∀ (s : State) (t : Nat) (toTm : Bool) (lost : List Nat), ∃ s2, exec (.bondFlitUncorrectable t toTm lost) s = .next s2) ∧
  (∀ (s : State) (t : Nat) (die : Die), ∃ s2, exec (.sidebandSafeValue t die) s = .next s2) ∧
  (∀ (s : State) (t : Nat) (die : Die), ∃ s2, exec (.sidebandSafeTimeout t die) s = .next s2) ∧
  (∀ (s : State) (t : Nat) (crossing : Nat), ∃ s2, exec (.crossingPointerMismatch t crossing) s = .next s2) ∧
  (∀ (s : State) (t : Nat) (path : Fin 2304) (src : FaultSource), ∃ s2, exec (.faultPathFailure t path src) s = .next s2) ∧
  (∀ (s : State) (t : Nat) (event : Nat), ∃ s2, exec (.reactionTimerExpire t event) s = .next s2) ∧
  (∀ (s : State) (t : Nat), ∃ s2, exec (.fltNPulseEnd t) s = .next s2) ∧
  (∀ (s : State) (t : Nat) (die : Die), ∃ s2, exec (.sidebandSafeValueClear t die) s = .next s2) ∧
  (∀ (s : State) (t : Nat) (path : Fin 2304), ∃ s2, exec (.faultPathRecover t path) s = .next s2) ∧
  (∀ (s : State) (t : Nat) (die : Die), ∃ s2, exec (.dieClockStop t die) s = .next s2)

/-- A silent service core is counted, raised as FC-15 and restarted, and a trial goes back; its restart ends with its load
check but in an activation, which ends it, or halts the TM die; a silent controller is FC-15 at level F2 and is reloaded;
a controller whose load check passes is in service with the lanes it serves, one that fails twice holds the part in INIT
or stays out of service (R18, R548, R555, R626, R627, R703). Each of these completes in every state, whatever its
operands: serviceCoreWatchdog, serviceCoreRestartComplete, controllerWatchdog, controllerLoadCheck. -/
def Obligations.WatchdogsAndLoadChecks : Prop :=
  (∀ (s : State) (t : Tick),
    let u := s.tick t
    (s.dev.st = .boot ∨ s.faults.restarting = true → exec (.serviceCoreWatchdog t) s = .next u.settle) ∧
      (s.dev.st ≠ .boot → s.faults.restarting = false →
        let v := (u.bump 0x8000 0xF).raise
          { cls := 15, level := 2, object := 0xFF, own := true, ctrIdx := 0x8000, ctrSub := 0xF }
        let restarts (w : State) : State := { w with faults := { w.faults with restarting := true } }
        (s.update.sess.st ≠ 5 → s.update.sess.st ≠ 6 → exec (.serviceCoreWatchdog t) s = .next ((restarts v).settle)) ∧
          (s.update.sess.st = 5 ∨ s.update.sess.st = 6 → exec (.serviceCoreWatchdog t) s =
            .next ((restarts (v.revertTrial 0x13)).settle))) ∧
      (∀ ok, s.faults.restarting = false → exec (.serviceCoreRestartComplete t ok) s = .next u.settle) ∧
      (s.faults.restarting = true →
        (s.update.sess.st ≠ 5 → let v := u.restartEffects false
         exec (.serviceCoreRestartComplete t true) s =
          .next (({ v with faults := { v.faults with restarting := false } } : State).settle)) ∧
        (s.update.sess.st = 5 → exec (.serviceCoreRestartComplete t true) s = .next u.settle) ∧
        exec (.serviceCoreRestartComplete t false) s =
          .next ((u.raise { cls := 15, level := 4, die := 0, object := 0xFF }).settle)) ∧
      (∀ c : Fin 24,
        let x := s.faults.ctls.getD c ⟨false, 0, false⟩
        let die := if c.val < 8 ∨ c.val = 23 then 1 else 0
        let put (v : State) (y : Ctl) : State := { v with faults := { v.faults with ctls := v.faults.ctls.set c y } }
        let setIn (v : State) (y : Ctl) : State :=
          if c.val < 8 then (List.range 16).foldl (fun w i => w.laneChanged (16 * c.val + i)) (put v y)
          else if c.val < 18 then (put v y).floorSync else put v y
        let set (y : Ctl) : State := setIn u y
        (s.dev.st = .boot ∨ u.ctlOut c = true ∨ x.loaded = false → exec (.controllerWatchdog t c) s = .next u.settle) ∧
          (s.dev.st ≠ .boot → u.ctlOut c = false → x.loaded = true → exec (.controllerWatchdog t c) s =
            .next ((setIn (u.raise { cls := 15, level := 2, die := die, object := c, own := true }) ⟨false, 0, true⟩).settle)) ∧
          (∀ ok, x.loaded = true ∨ 2 ≤ x.fails ∨ s.dev.st = .boot → exec (.controllerLoadCheck t c ok) s = .next u.settle) ∧
          (x.loaded = false → x.fails < 2 → s.dev.st ≠ .boot →
            (c.val ≠ 23 → exec (.controllerLoadCheck t c true) s = .next ((set ⟨true, 0, false⟩).settle)) ∧
              (c.val = 23 → exec (.controllerLoadCheck t c true) s = .next (({ set ⟨true, 0, false⟩ with
                dev := { u.dev with feAlive := true } } : State).settle)) ∧
              (x.fails = 0 → exec (.controllerLoadCheck t c false) s = .next ((set { x with fails := 1 }).settle)) ∧
              (x.fails = 1 → s.dev.st = .init → exec (.controllerLoadCheck t c false) s = .next (((set { x with
                fails := 2 }).raise { cls := 15, level := 2, die := die, object := c, own := true }).settle)) ∧
              (x.fails = 1 → s.dev.st ≠ .init → exec (.controllerLoadCheck t c false) s = .next (((set { x with
                fails := 2 }).raise { cls := 15, level := 3, die := die, object := c }).settle))))) ∧
  (∀ (s : State) (t : Nat), ∃ s2, exec (.serviceCoreWatchdog t) s = .next s2) ∧
  (∀ (s : State) (t : Nat) (loadOk : Bool), ∃ s2, exec (.serviceCoreRestartComplete t loadOk) s = .next s2) ∧
  (∀ (s : State) (t : Nat) (ctl : Fin 24), ∃ s2, exec (.controllerWatchdog t ctl) s = .next s2) ∧
  (∀ (s : State) (t : Nat) (ctl : Fin 24) (ok : Bool), ∃ s2, exec (.controllerLoadCheck t ctl ok) s = .next s2)

/-! ### The host interface (chapter 16) -/

/-- The registers of a channel: TAIL within the ring posts descriptors, one beyond it is counted; a rise of EN begins the ring
afresh; RESUME goes on after the descriptor that stopped the channel; CH_CFG is written only while EN is 0; other accesses
to BAR0 reach the mailbox, the MSI-X table and its pending bits in any size, read a register or zero in 4 bytes, or are
counted; what lies outside the BAR, and before memory space is enabled everything, is an Unsupported Request; a source
that is being ignored is not answered (R552, R566 to R568, R570 to R573, R601, R642). A hot reset switches the channels
off and gives the configuration registers their reset values, the BARs and MSI-X among them; configuration requests are
retried in BOOT and read or set what they name after it; a counter of an admitted group is read through the user window,
any other read within BAR2 is zero and counted, and a source that is being ignored is not answered; while the gatherer is
enabled a snapshot is written where TIME is a multiple of the interval, within a time that the model leaves free, with its
interrupt at each group of them, and one that falls into the one before is skipped and counted (R552, R565, R566, R588,
R597 to R599, R642). Each of these completes in every state, whatever its operands: tailWrite, enWrite, resume, chCfg,
registerAccessInvalid, pcieHotReset, pcieConfigRequest, userWindowRead, counterSnapshot. -/
def Obligations.ChannelRegistersResetsAndCounterReads : Prop :=
  (∀ (s : State) (t : Tick) (ch : Fin 64) (v : Nat),
    let u := s.tick t
    let c := u.chan ch
    let put (f : Chan → Chan) : State := { u with pcie := { u.pcie with chans := modAt u.pcie.chans ch f } }
    let no := Host.Outcome.next ((u.out (.pcieStatus 1)).settle)
    (s.pcie.memory = false → exec (.tailWrite t ch v) s = no ∧ (∀ b, exec (.enWrite t ch b) s = no) ∧
        exec (.resume t ch) s = no ∧ (∀ r, exec (.chCfg t ch r v) s = no) ∧
        (∀ o n d, exec (.registerAccessInvalid t o n d) s = no)) ∧
      (s.pcie.memory = true → u.memOk 0x2020 = false → exec (.tailWrite t ch v) s = .next u.settle ∧
        (∀ b, exec (.enWrite t ch b) s = .next u.settle) ∧ exec (.resume t ch) s = .next u.settle ∧
        (∀ r, exec (.chCfg t ch r v) s = .next u.settle) ∧
        (∀ o n d, exec (.registerAccessInvalid t o n d) s = .next u.settle)) ∧
      (u.memOk 0x2020 = true →
        (c.size ≤ v % 65536 → exec (.tailWrite t ch v) s = .next ((u.hostMis 0x2000 0xB 0x2020).settle)) ∧
        (v % 65536 < c.size → exec (.tailWrite t ch v) s =
          .next ((put (fun c => { c with tail := v % 65536, starved := false })).settle)) ∧
        (exec (.enWrite t ch true) s = .next ((put (fun c => if c.en then c else { c with
          en := true, head := 0, tail := 0, done := 0, stopped := false, starved := false })).settle)) ∧
        (exec (.enWrite t ch false) s = .next ((put (fun c => { c with en := false })).settle)) ∧
        (exec (.resume t ch) s = .next ((put (fun c => if c.stopped then { c with
          stopped := false, head := (c.stopIdx + 1) % c.size } else c)).settle)) ∧
        (∀ r, c.en = true → exec (.chCfg t ch r v) s = .next ((u.hostMis 0x2000 0xC 0x2020).settle)) ∧
        (c.en = false → exec (.chCfg t ch .cfg v) s =
          .next ((put (fun c => { c with cfg := v % 2 ^ 32 &&& 0xF0FFFF00 })).settle)) ∧
        (c.en = false → exec (.chCfg t ch .baseLow v) s =
          .next ((put (fun c => { c with base := c.base / 2 ^ 32 * 2 ^ 32 + v % 2 ^ 32 / 32 * 32 })).settle)) ∧
        (c.en = false → exec (.chCfg t ch .baseHigh v) s =
          .next ((put (fun c => { c with base := v % 2 ^ 32 * 2 ^ 32 + c.base % 2 ^ 32 })).settle)) ∧
        (∀ (o n : Nat) (data : Option (List Byte)),
          let goes (w : State) : Prop := exec (.registerAccessInvalid t o n data) s = .next w.settle
          let reads (w : Nat) : Prop := goes (u.out (.readData w n))
          let mbx : Prop := 0x10000 ≤ o ∧ o + n ≤ 0x13000
          let table : Prop := 0x8000 ≤ o ∧ o + n ≤ 0x8400
          let bits_ : Prop := 0x9000 ≤ o ∧ o + n ≤ 0x9008
          (131072 < o + n → goes (u.out (.pcieStatus 1))) ∧
            (mbx → data = none → reads (leNat (bytesAt u.mbxBytes (o - 0x10000) n))) ∧
            (∀ d, mbx → data = some d →
              (o < 0x11000 → goes { u with dict := { u.dict with mbx := { u.dict.mbx with
                reqBuf := (putBytes (bytesAt u.dict.mbx.reqBuf 0 4096) (o - 0x10000) d).take 4096 } } }) ∧
              (o = 0x12004 → u.memOk 0x2000 = true → goes { u with dict := { u.dict with mbx := { u.dict.mbx with
                done := u.dict.mbx.done && !bit (leNat d) 1, ovr := u.dict.mbx.ovr && !bit (leNat d) 2 } } }) ∧
              (o = 0x12000 → bit (leNat d) 0 = true → goes (u.mbxGo u.dict.mbx.reqBuf)) ∧
              (o = 0x12000 → bit (leNat d) 0 = false → goes u) ∧
              (0x11000 ≤ o → o ≠ 0x12000 → o ≠ 0x12004 → goes u)) ∧
            (table → data = none → reads (leNat (bytesAt u.msi.bytes (o - 0x8000) n))) ∧
            (∀ d, table → data = some d → goes (u.msiWrite (o - 0x8000) d)) ∧
            (bits_ → data = none → reads (leNat (bytesAt u.msi.pendingBytes (o - 0x9000) n))) ∧
            (∀ d, bits_ → data = some d → goes u) ∧
            (o + n ≤ 131072 → ¬ mbx → ¬ table → ¬ bits_ →
              (n ≠ 4 → goes (u.hostMis 0x2000 0xA 0x2020)) ∧
                (n = 4 → data = none → o % 4 ≠ 0 ∨ u.register o = none → reads 0) ∧
                (∀ w, n = 4 → data = none → o % 4 = 0 → u.register o = some w → reads w) ∧
                (∀ d, n = 4 → data = some d → o % 4 = 0 → u.register o ≠ none → goes u) ∧
                (∀ d, n = 4 → data = some d → o % 4 ≠ 0 ∨ u.register o = none → goes (u.hostMis 0x2000 0xA 0x2020)))))) ∧
  (∀ (s : State) (t : Tick),
    let u := s.tick t
    let off := u.channelsOff
    let reset := (((({ off with pcie := { off.pcie with memory := false, bars := [0, 0, 0] }, msi := Msi.blank } : State).setObj 0x2000 5 128).setObj 0x2000 6
      512).setObj 0x2000 0xE 0)
    (exec (.pcieHotReset t false) s = .next reset.settle) ∧
      (exec (.pcieHotReset t true) s = .next (((reset.setObj 0x2000 3 0).setObj 0x2000 4 0).settle)) ∧
      ((∀ e : Fin 4, (s.engine e).xfer = none) → s.pcie.engines.length = 4 → off = { u with pcie := { u.pcie with
        chans := s.pcie.chans.map (fun c => { c with en := false, head := 0, starved := false }) } }) ∧
      (s.dev.st = .boot → ∀ r, exec (.pcieConfigRequest t r) s = .next ((u.out (.pcieStatus 2)).settle)) ∧
      (s.dev.st ≠ .boot →
        (∀ r : Fin 1024, exec (.pcieConfigRequest t (.read r)) s = .next ((u.out (.readData (u.configReg r) 4)).settle)) ∧
        u.configReg 0 = 0x5120 * 65536 + Config.pciVendor % 65536 ∧ u.configReg 2 / 256 = 0x028000 ∧
        (∀ n : Fin 3, u.configReg (4 + n) = u.pcie.bars.getD n 0) ∧
        (∀ (n : Fin 3) (v : Nat),
          let size := if n = 0 then 2 ^ 17 else if n = 1 then 2 ^ 29 else 2 ^ 16
          exec (.pcieConfigRequest t (.bar n v)) s =
            .next (({ u with pcie := { u.pcie with bars := u.pcie.bars.set n (v % 2 ^ 32 / size * size) } } : State).settle)) ∧
        (∀ on mask, exec (.pcieConfigRequest t (.msix on mask)) s =
          .next ((({ u with msi := { u.msi with on := on, mask := mask } } : State).msixFlush).settle)) ∧
        (∀ b, exec (.pcieConfigRequest t (.setMemory b)) s = .next (({ u with pcie := { u.pcie with memory := b } } : State).settle)) ∧
        (∀ (a : Fin 5) (w : Fin 4), exec (.pcieConfigRequest t (.link a w)) s =
          .next (((u.setObj 0x2000 3 (a + 1)).setObj 0x2000 4 (2 ^ w.val)).settle)) ∧
        (∀ m r b, exec (.pcieConfigRequest t (.payload m r b)) s =
          .next ((((u.setObj 0x2000 5 (128 * 2 ^ (m : Fin 3).val)).setObj 0x2000 6 (128 * 2 ^ (r : Fin 6).val)).setObj 0x2000 0xE
            (if b then 1 else 0)).settle))) ∧
      (∀ o len : Nat,
        (s.pcie.memory = false → exec (.userWindowRead t o len) s = .next ((u.out (.pcieStatus 1)).settle)) ∧
        (s.pcie.memory = true → u.memOk 0x2022 = false → exec (.userWindowRead t o len) s = .next u.settle) ∧
        (u.memOk 0x2022 = true → 65536 < o + len → exec (.userWindowRead t o len) s = .next ((u.out (.pcieStatus 1)).settle)) ∧
        (u.memOk 0x2022 = true → len = 8 → o % 8 = 0 → o < 6144 → bit (u.obj 0xA000 4) (o / 512) = true →
          exec (.userWindowRead t o len) s = .next ((u.perfSync.out (.readData (u.perfSync.perfVal (o / 8)) 8)).settle)) ∧
        (u.memOk 0x2022 = true → o + len ≤ 65536 → len ≠ 8 ∨ o % 8 ≠ 0 ∨ 6144 ≤ o ∨ bit (u.obj 0xA000 4) (o / 512) = false →
          exec (.userWindowRead t o len) s = .next (((u.out (.readData 0 len)).hostMis 0xA000 5 0x2022).settle))) ∧
      (let ns := timeToNs u.time80
       let interval := u.obj 0xA000 7 * 1000
       let every := u.obj 0xA000 0xA
       let goes (w : State) : Prop := exec (.counterSnapshot t) s = .next w.settle
       (u.obj 0xA000 6 = 0 ∨ ns % interval ≠ 0 ∨ s.pcie.snapAt = ns + 1 → goes u) ∧
         (u.obj 0xA000 6 ≠ 0 → ns % interval = 0 → s.pcie.snapAt ≠ ns + 1 →
           let at_ : State := { u with pcie := { u.pcie with snapAt := ns + 1 } }
           (u.clock.now < s.pcie.snapEnd → goes (at_.bump 0xA000 0xC)) ∧
             (s.pcie.snapEnd ≤ u.clock.now →
               let v := at_.perfSync
               let a := v.obj 0xA000 8 + s.pcie.snap % v.obj 0xA000 9 * 6208
               let w := (v.out (.host (a + 8) v.snapshotBody false)).out (.host a (leBytes 8 (s.pcie.snap + 1)) false)
               let x := ({ w with
                 freeCtr := w.freeCtr + 1
                 pcie := { w.pcie with snap := s.pcie.snap + 1
                                       snapEnd := w.clock.now + Config.freeNat w.freeCtr } } : State).bump 0xA000 0xB
               (every ≠ 0 → (s.pcie.snap + 1) % every = 0 → goes (x.msix 3)) ∧
                 (every = 0 ∨ (s.pcie.snap + 1) % every ≠ 0 → goes x))))) ∧
  (∀ (s : State) (t : Nat) (ch : Fin 64) (v : Nat), ∃ s2, exec (.tailWrite t ch v) s = .next s2) ∧
  (∀ (s : State) (t : Nat) (ch : Fin 64) (on : Bool), ∃ s2, exec (.enWrite t ch on) s = .next s2) ∧
  (∀ (s : State) (t : Nat) (ch : Fin 64), ∃ s2, exec (.resume t ch) s = .next s2) ∧
  (∀ (s : State) (t : Nat) (ch : Fin 64) (reg : ChReg) (v : Nat), ∃ s2, exec (.chCfg t ch reg v) s = .next s2) ∧
  (∀ (s : State) (t : Nat) (offset size : Nat) (data : Option (List Byte)),
    ∃ s2, exec (.registerAccessInvalid t offset size data) s = .next s2) ∧
  (∀ (s : State) (t : Nat) (linkDown : Bool), ∃ s2, exec (.pcieHotReset t linkDown) s = .next s2) ∧
  (∀ (s : State) (t : Nat) (req : CfgReq), ∃ s2, exec (.pcieConfigRequest t req) s = .next s2) ∧
  (∀ (s : State) (t : Nat) (offset len : Nat), ∃ s2, exec (.userWindowRead t offset len) s = .next s2) ∧
  (∀ (s : State) (t : Nat), ∃ s2, exec (.counterSnapshot t) s = .next s2)

/-- An idle engine takes the 32 little-endian bytes of the descriptor of the next ready channel, in its ring's order, but one
that is the source of a failed path; one not owned is not posted yet, a malformed one ends at once with code 0x03, ACQ
asks for the lock at once and again each µs for 100 µs. A descriptor whose data part has ended, or whose transfer meets an
error of the host, gives back the lock that REL names, writes its fence, result and status words, counts, frees its cells,
and interrupts; the codes that stop a channel stop it. The data of a punt whose channel's EN is cleared, of an inject
whose queue is taken away and of samples written over is withdrawn (R573, R574, R578, R580, R582, R583, R585 to R587,
R591). What each op moves: the head punt of the ring, cut with TRUNC to Length; an inject frame into its queue or towards
the ingress spreader, or kept waiting for its cells; the timestamp records that fit; transaction records up to one
refused, whose code goes into the descriptor, or one that waits; table entries of the current commit, buckets, counter
pairs, samples into the host's buffer; a bucket or a counter block out of it only under the engine's lock, else the write
is ignored, counted and ends with code 0x06, but a bucket of no table takes any; a bad inject header is counted and ends
with code 0x05 (R114, R115, R199, R200, R221, R229, R241, R337, R580, R581, R586, R589 to R591, R600, R708). Each of these
completes in every state, whatever its operands: descriptorFetch, descriptorComplete, dmaPunt, dmaInject, dmaTimestamp,
dmaTableRecords, dmaTableRead, dmaBucketRead, dmaBucketWrite, dmaCounterRead, dmaCounterWrite, dmaStatsCounters,
dmaStatsSamples, dmaLockRetry, transferWithdrawn, timestampDescriptorFlush. -/
def Obligations.DescriptorsAndDmaOps : Prop :=
  (∀ (s : State) (t : Tick) (e : Fin 4), s.faults.haltTm = false →
    let u := s.tick t
    let busy := (u.engine e).xfer
    let held := u.sourceHeld 13 (engineId e)
    (∀ bytes : List Byte,
      let d : Desc := ⟨leAt bytes 0 4, leAt bytes 4 4, leAt bytes 8 8, leAt bytes 16 8, leAt bytes 28 4⟩
      let fetch (v : State) : Prop := exec (.descriptorFetch t e bytes) s = .next v.settle
      (busy ≠ none ∨ held = true ∨ u.nextChan e = none → fetch u) ∧
        (∀ k, busy = none → held = false → u.nextChan e = some k →
          let c := u.chan k
          let bad := d.malformed c.kind
          let x : Xfer := { ch := k, idx := c.head, desc := d, moved := 0, err := if bad then 3 else 0, trunc := false
                            wdrn := false, ended := bad, begun := false, lockFrom := none, lockTry := 0, firstAt := none
                            cells := [], mark := 0 }
          (d.own = false → fetch (u.mapChan k (fun c => { c with starved := true }))) ∧
            (d.own = true → (d.acq = false ∨ bad = true) →
              fetch ((u.mapChan k (fun c => { c with head := (c.head + 1) % c.size })).setXfer e x)) ∧
            (d.own = true → d.acq = true → bad = false →
              let v := (u.mapChan k (fun c => { c with head := (c.head + 1) % c.size })).setXfer e x
              (∀ l, d.target = some l → (u.tables.lock l (.dma e) u.clock.now).holds l (.dma e) = true →
                fetch { v with tables := u.tables.lock l (.dma e) u.clock.now }) ∧
              (∀ l, d.target = some l → (u.tables.lock l (.dma e) u.clock.now).holds l (.dma e) = false →
                fetch (v.setXfer e { x with lockFrom := some u.clock.now, lockTry := u.clock.now })) ∧
              (d.target = none → fetch v)))) ∧
      (busy = none → ∀ err, exec (.descriptorComplete t e err) s = .next u.settle ∧
        exec (.dmaLockRetry t e) s = .next u.settle ∧ exec (.transferWithdrawn t e) s = .next u.settle) ∧
      (∀ x, busy = some x →
        (x.ended = false → exec (.descriptorComplete t e .none) s = .next u.settle) ∧
        (∀ err : HostErr, x.ended = true ∨ err ≠ .none →
          let code := if x.err ≠ 0 then x.err else match err with
            | .none => 0
            | .completion => 1
            | .poisoned => 1
            | .timeout => 2
            | .dataRead => 7
          let c := u.chan x.ch
          let a := c.base + 32 * x.idx
          let stops : Bool := code == 1 || code == 2 || code == 3 || code == 7
          let freed : State := match x.desc.target with
            | some l => if x.desc.rel = true ∧ code ≠ 3 ∧ u.tables.holds l (.dma e) = true then
                { u with tables := u.tables.unlock l } else u
            | none => u
          let fenced := if x.desc.fence = true ∧ toHost x.desc.op = true ∧ 0 < x.moved then
            freed.out (.hostFence (x.desc.addr + x.moved - 1)) else freed
          let v := (((fenced.out (.host (a + 24) (leBytes 4 (x.desc.length - x.moved)) false)).out (.host (a + 28) (leBytes 4
            (code * 65536 + flag x.trunc * 512 + flag x.wdrn * 256 + c.done % 256)) false)).mapChan x.ch (fun c => { c with
              done := (c.done + 1) % 2 ^ 32, stopped := c.stopped || stops
              stopErr := if stops then code else c.stopErr, stopIdx := if stops then x.idx else c.stopIdx })).mapEngine e
                (fun _ => ⟨none, x.ch⟩)
          let w := if x.cells.isEmpty then v else v.freeCells 0 (x.cells.map (fun n => (n, 5)))
          let counted := if code = 1 ∨ code = 2 then w.hostMis 0x2003 5 (engineId e)
            else if code = 3 then w.hostMis 0x2003 4 (engineId e)
            else if code = 5 then w.bump 0x2003 4 else if code = 7 then w.bump 0x2003 5 else w
          let logged := if err = .poisoned ∨ err = .timeout then counted.bump 0x2000 8 else counted
          exec (.descriptorComplete t e err) s =
            .next ((if x.desc.irq = true ∧ 4 ≤ c.vector then logged.msix c.vector else logged).settle)) ∧
        (x.lockFrom = none → exec (.dmaLockRetry t e) s = .next u.settle) ∧
        (∀ t0, x.lockFrom = some t0 →
          (t0 + 100 * Config.us ≤ u.clock.now → exec (.dmaLockRetry t e) s =
            .next ((u.setXfer e { x with lockFrom := none, err := 6, ended := true }).settle)) ∧
          (u.clock.now < t0 + 100 * Config.us → u.clock.now < x.lockTry + Config.us →
            exec (.dmaLockRetry t e) s = .next u.settle) ∧
          (u.clock.now < t0 + 100 * Config.us → x.lockTry + Config.us ≤ u.clock.now →
            exec (.dmaLockRetry t e) s = .next ((u.tryLock e x).settle))) ∧
        (let stays : Prop := exec (.transferWithdrawn t e) s = .next u.settle
         let goes : Prop := exec (.transferWithdrawn t e) s =
           .next (((u.bump 0x2003 3).setXfer e { x with
             wdrn := true, ended := true, moved := if x.desc.op = 2 then x.desc.length else x.moved }).settle)
         (x.begun = false ∨ x.wdrn = true ∨ (x.desc.op ≠ 1 ∧ x.desc.op ≠ 2 ∧ x.desc.op ≠ 0x21) → stays) ∧
           (x.begun = true → x.wdrn = false →
             (x.desc.op = 1 → (u.chan x.ch).en = true → stays) ∧ (x.desc.op = 1 → (u.chan x.ch).en = false → goes) ∧
             (x.desc.op = 2 → x.ended = true ∨ 2 ^ 20 ≤ x.mark ∨ u.noInject x.mark = false → stays) ∧
             (x.desc.op = 2 → x.ended = false → x.mark < 2 ^ 20 → u.noInject x.mark = true → goes) ∧
             (x.desc.op = 0x21 → u.obj (0x5310 + x.desc.arg / 2 ^ 60) 5 ≤ x.mark → stays) ∧
             (∀ j, x.desc.op = 0x21 → j < 8388608 → x.mark + j < u.obj (0x5310 + x.desc.arg / 2 ^ 60) 5 →
               (x.mark + j + 8388608 - x.desc.arg % 8388608) % 8388608 < x.desc.length / 16 → goes))) ∧
        (x.desc.op = 3 → x.ended = false → x.lockFrom = none →
          (x.firstAt = none → exec (.timestampDescriptorFlush t e) s = .next u.settle) ∧
          (∀ t0, x.firstAt = some t0 →
            (u.clock.now < t0 + 100 * Config.us → exec (.timestampDescriptorFlush t e) s = .next u.settle) ∧
            (t0 + 100 * Config.us ≤ u.clock.now → exec (.timestampDescriptorFlush t e) s =
              .next ((u.setXfer e { x with ended := true }).settle)))))) ∧
  (∀ (s : State) (t : Tick) (e : Fin 4) (x : Xfer) (data : List Byte), s.faults.haltTm = false →
    let u := s.tick t
    let n := x.desc.length
    let b := if x.begun then u else u.hostRead x.desc.addr n
    let moves (i : Instr) (v : State) (y : Xfer) (d : List Byte) : Prop :=
      exec i s = .next (((v.hostWrite (x.desc.addr + x.moved) d).setXfer e { y with
        moved := x.moved + d.length, begun := true, ended := true }).settle)
    let fails (i : Instr) (v : State) (code : Nat) : Prop :=
      exec i s = .next ((v.setXfer e { x with err := code, ended := true, begun := true }).settle)
    let takes (i : Instr) (v : State) (m : Nat) : Prop :=
      exec i s = .next ((v.setXfer e { x with moved := m, begun := true, ended := true }).settle)
    (u.engine e).xfer = some x → x.ended = false → x.lockFrom = none →
    (x.desc.op = 1 → ∀ p : Punt, u.puntOf (u.chan x.ch).ring = some p →
      let v : State := { u with flow := { s.flow with
        punts := dropFirst (fun q => u.puntRing q == (u.chan x.ch).ring) s.flow.punts } }
      (p.bytes.length ≤ n → moves (.dmaPunt t e) v { x with trunc := false, cells := p.cells } p.bytes) ∧
        (n < p.bytes.length → moves (.dmaPunt t e) v { x with trunc := true, cells := p.cells }
          ((putBytes p.bytes 12 (beBytes 2 (n - 48))).take n))) ∧
      (x.desc.op = 2 →
        let d := bytesAt data 0 n
        let len := beAt d 8 2
        let fine := injectBad d = false ∧ n = 32 + len
        let stays (v : State) (y : Xfer) : Prop := exec (.dmaInject t e data) s = .next ((v.setXfer e y).settle)
        let done (v : State) (m : Nat) : Prop := stays v { x with moved := n, begun := true, ended := true, mark := m }
        (n < 32 → fails (.dmaInject t e data) b 5) ∧
          (32 ≤ n → injectBad d = true → fails (.dmaInject t e data) (b.bump 0x4001 8) 5) ∧
          (32 ≤ n → injectBad d = false → n ≠ 32 + len → fails (.dmaInject t e data) b 5) ∧
          (fine → beAt d 1 1 = 2 →
            (b.allocBusy 1 = true → stays b { x with begun := true, mark := 2 ^ 20 }) ∧
            (∀ v, b.allocBusy 1 = false → b.allocCells 1 (cellsOf len) 5 = (none, v) →
              stays v { x with begun := true, mark := 2 ^ 20 }) ∧
            (∀ l v, b.allocBusy 1 = false → b.allocCells 1 (cellsOf len) 5 = (some l, v) →
              done { v with flow := { v.flow with injectIn := v.flow.injectIn ++ [(injectFrame e d, l)] } } (2 ^ 20))) ∧
          (fine → beAt d 1 1 = 1 →
            let q := beAt d 4 4
            let r := b.admitInject q (bytesAt d 32 len) (bytesAt d 16 16) (beAt d 10 1)
              (if bit (beAt d 3 1) 0 then some (beAt d 12 4) else none)
            (x.begun = true → b.noInject q = true →
              stays (b.bump 0x2003 3) { x with wdrn := true, ended := true, moved := n }) ∧
              (b.noInject q = false → r.1 = true → done r.2 q) ∧
              (b.noInject q = false → r.1 = false → stays r.2 { x with begun := true, mark := q }) ∧
              (x.begun = false → b.noInject q = true → fails (.dmaInject t e data)
                ((if bit (beAt d 3 1) 0 then b.noStamp (beAt d 12 4) ((b.outLine (b.portOf q)).getD 0) else b).bump 0x5101 0xA)
                5))) ∧
      (x.desc.op = 3 →
        let k := min s.lines.stamps.length ((n - x.moved) / 32)
        (k = 0 → exec (.dmaTimestamp t e) s = .next u.settle) ∧
          (k ≠ 0 →
            let v : State := { u with lines := { s.lines with stamps := s.lines.stamps.drop k } }
            exec (.dmaTimestamp t e) s = .next (((v.hostWrite (x.desc.addr + x.moved) ((s.lines.stamps.take k).flatten)).setXfer e
              { x with moved := x.moved + 32 * k, begun := true, ended := x.moved + 32 * k == n
                       firstAt := some (x.firstAt.getD u.clock.now) }).settle))) ∧
      (x.desc.op = 0x10 → (bytesAt data 0 n).drop x.moved = [] → takes (.dmaTableRecords t e data) b n) ∧
      (x.desc.op = 0x10 → x.moved = 0 → data.length = n → 0 < n →
        let whole := 16 + beAt data 2 2
        let kind := beAt data 0 1
        let flags := beAt data 1 1
        let first := if kind = 0 ∨ 6 < kind then 0 else if 1 < flags ∨ (flags = 1 ∧ ¬ (2 ≤ kind ∧ kind ≤ 4)) then 1 else 2
        let r := if n < whole then b.refuse (beAt data 4 4) (0x09010000 + first) else b.txRecord (engineId e) (data.take whole)
        (n = whole → r.2 = .done → takes (.dmaTableRecords t e data) r.1 n) ∧
          (whole ≤ n → r.2 = .wait → exec (.dmaTableRecords t e data) s = .next ((b.setXfer e { x with begun := true }).settle)) ∧
          (∀ c, r.2 = .abort c → exec (.dmaTableRecords t e data) s = .next (((r.1.out (.host ((r.1.chan x.ch).base + 32 * x.idx + 16)
            (leBytes 4 c) false)).setXfer e { x with err := 4, ended := true, moved := n, begun := true }).settle))) ∧
      (x.desc.op = 0x11 →
        let table := x.desc.arg % 65536
        let first := x.desc.arg / 65536 % 2 ^ 32
        let w := entryBytes table
        let l := (List.range (n / w)).map (first + ·)
        let bad := l.any (fun i => u.tables.poisoned table (u.tables.lineOf table i))
        (bad = true → fails (.dmaTableRead t e) u 7) ∧
          (bad = false →
            moves (.dmaTableRead t e) u x (l.flatMap (fun i => beBytes w (verAt u.tables.vers table i u.tx.commit))))) ∧
      (x.desc.op = 0x12 → moves (.dmaBucketRead t e) u x
        ((List.range (n / 256)).flatMap (fun i => u.bucketBytes (x.desc.arg + i)))) ∧
      (x.desc.op = 0x13 →
        (u.bucketTable x.desc.arg = none → takes (.dmaBucketWrite t e data) b 256) ∧
          (u.tables.holds (bucketTarget x.desc.arg) (.dma e) = true →
            takes (.dmaBucketWrite t e data) (b.bucketWrite x.desc.arg (bytesAt data 0 256)) 256) ∧
          (u.bucketTable x.desc.arg ≠ none → u.tables.holds (bucketTarget x.desc.arg) (.dma e) = false →
            fails (.dmaBucketWrite t e data) (u.hostMis 0x4600 2 (holderRequester (.dma e))) 6)) ∧
      (x.desc.op = 0x14 → moves (.dmaCounterRead t e) u x (u.pairBytes (8 * x.desc.arg) (n / 16))) ∧
      (x.desc.op = 0x15 →
        (u.tables.holds (blockTarget x.desc.arg) (.dma e) = true →
          takes (.dmaCounterWrite t e data) (b.blockWrite x.desc.arg (bytesAt data 0 128)) 128) ∧
          (u.tables.holds (blockTarget x.desc.arg) (.dma e) = false →
            fails (.dmaCounterWrite t e data) (u.hostMis 0x4600 2 (holderRequester (.dma e))) 6)) ∧
      (x.desc.op = 0x20 → moves (.dmaStatsCounters t e) (u.bumpN 0xA100 4 (n / 16)) x (u.pairBytes x.desc.arg (n / 16))) ∧
      (x.desc.op = 0x21 →
        let k := x.desc.arg / 2 ^ 60
        moves (.dmaStatsSamples t e) (u.bumpN 0xA100 5 (n / 16)) { x with mark := u.obj (0x5310 + k) 5 }
          ((List.range (n / 16)).flatMap (fun i =>
            leBytes 16 (nget s.sched.samples (k * 8388608 + (x.desc.arg + i) % 8388608) 0))))) ∧
  (∀ (s : State) (t : Nat) (engine : Fin 4) (desc : List Byte), ∃ s2, exec (.descriptorFetch t engine desc) s = .next s2) ∧
  (∀ (s : State) (t : Nat) (engine : Fin 4) (err : HostErr), ∃ s2, exec (.descriptorComplete t engine err) s = .next s2) ∧
  (∀ (s : State) (t : Nat) (engine : Fin 4), ∃ s2, exec (.dmaPunt t engine) s = .next s2) ∧
  (∀ (s : State) (t : Nat) (engine : Fin 4) (data : List Byte), ∃ s2, exec (.dmaInject t engine data) s = .next s2) ∧
  (∀ (s : State) (t : Nat) (engine : Fin 4), ∃ s2, exec (.dmaTimestamp t engine) s = .next s2) ∧
  (∀ (s : State) (t : Nat) (engine : Fin 4) (data : List Byte), ∃ s2, exec (.dmaTableRecords t engine data) s = .next s2) ∧
  (∀ (s : State) (t : Nat) (engine : Fin 4), ∃ s2, exec (.dmaTableRead t engine) s = .next s2) ∧
  (∀ (s : State) (t : Nat) (engine : Fin 4), ∃ s2, exec (.dmaBucketRead t engine) s = .next s2) ∧
  (∀ (s : State) (t : Nat) (engine : Fin 4) (data : List Byte), ∃ s2, exec (.dmaBucketWrite t engine data) s = .next s2) ∧
  (∀ (s : State) (t : Nat) (engine : Fin 4), ∃ s2, exec (.dmaCounterRead t engine) s = .next s2) ∧
  (∀ (s : State) (t : Nat) (engine : Fin 4) (data : List Byte), ∃ s2, exec (.dmaCounterWrite t engine data) s = .next s2) ∧
  (∀ (s : State) (t : Nat) (engine : Fin 4), ∃ s2, exec (.dmaStatsCounters t engine) s = .next s2) ∧
  (∀ (s : State) (t : Nat) (engine : Fin 4), ∃ s2, exec (.dmaStatsSamples t engine) s = .next s2) ∧
  (∀ (s : State) (t : Nat) (engine : Fin 4), ∃ s2, exec (.dmaLockRetry t engine) s = .next s2) ∧
  (∀ (s : State) (t : Nat) (engine : Fin 4), ∃ s2, exec (.transferWithdrawn t engine) s = .next s2) ∧
  (∀ (s : State) (t : Nat) (engine : Fin 4), ∃ s2, exec (.timestampDescriptorFlush t engine) s = .next s2)

/-! ### Firmware update (R604 to R630) -/

/-- The update session's rows: CARTOUCHE opens a session on the bank that is neither ACTIVE nor TRIAL; CHUNK appends its data
at the count received, is done without effect when it repeats and names the count when it does not fit; ACTIVATION_TIME
schedules a STAGED session for a later time or takes it back; a bank's new state goes into both bank-status copies at the
next generation; CLOSE abandons it; CONFIRM ends a trial; REVERT activates the PREVIOUS bank at once; the refusals of R616
and R618, a cartouche's value checks first; in HALT all but those are refused (R604, R605, R612, R615 to R620, R623, R626,
R702). Each of these completes in every state, whatever its operands: cartouche, chunk, activationTime, closeSession,
confirm, revert. -/
def Obligations.UpdateSessionRowsAct : Prop :=
  (∀ (s : State) (t : Tick) (p : Path) (tag : Nat) (val : List Byte), (s.tick t).Ready p →
    2 ≤ (s.tick t).roleOf p →
    let who := (s.tick t).requesterOf p
    let now := (s.tick t).clock.now
    let x := s.update.sess
    let y : Session := { x with lastReq := if x.holder ≠ 0 ∧ x.holder = who then now else x.lastReq }
    let setSess (z : Session) (u : State) : State := { u with update := { u.update with sess := z } }
    let put (b st : Nat) (u : State) : State :=
      let banks := modAt u.update.banks b (fun k => { k with st := st })
      let copy : BankCopy := ⟨false, u.update.gen + 1, banks.map (·.st)⟩
      let old := match u.update.prior with
        | some (at_, l) => if at_ = u.clock.now then l else u.update.copies
        | none => u.update.copies
      { u with update := { u.update with
        gen := u.update.gen + 1, copies := [copy, copy], prior := some (u.clock.now, old), banks := banks } }
    let aborts (i : Instr) (sub code : Nat) : Prop := exec i s =
      .next (((setSess y (((s.tick t).begun p).bump 0x2030 0xD)).respond ((s.tick t).reqOn p 2 tag 0x9000 sub val) 1
        (leBytes 4 code) false).settle)
    (s.dev.st = .halt → val = [1] → aborts (.closeSession t p tag val) 5 (abortCode 4 1 s.dev.st.code) ∧
      aborts (.confirm t p tag val) 6 (abortCode 4 1 s.dev.st.code) ∧
      aborts (.revert t p tag val) 7 (abortCode 4 1 s.dev.st.code)) ∧
    (∀ c, val.length = 1024 → cartValueFault val = some c → aborts (.cartouche t p tag val) 1 c) ∧
    (s.dev.st ≠ .halt →
    (val.length = 1024 → x.busy = false → x.holder = 0 ∨ x.holder = who → x.holder ≠ 0 ∨ s.stagedAs val = false →
      s.cartFault val = none →
      let b := if (s.bank 0).st = 3 ∨ (s.bank 0).st = 4 then 1 else 0
      exec (.cartouche t p tag val) s = .next (s.writeDone t p tag 0x9000 1 val (fun u =>
        ({ put b 1 u with update := { (put b 1 u).update with
          banks := modAt (put b 1 u).update.banks b (fun k => { k with img := .bytes val [] })
          sess := ⟨1, 0, who, b, 0, beAt val 20 4, 0, (s.tick t).time80, 0, (cartDigest val).take 16, beAt val 12 4, now, 0,
            0, false⟩ } } : State).setObj 0x9000 1 (leNat val)))) ∧
      (val.length = 1024 → cartValueFault val = none → x.busy = true → aborts (.cartouche t p tag val) 1 (abortCode 4 0x1F x.st)) ∧
      (val.length = 1024 → x.busy = false → x.holder ≠ 0 → x.holder ≠ who → cartValueFault val = none →
        aborts (.cartouche t p tag val) 1
          (if x.st = 3 ∧ s.stagedAs val then abortCode 8 0x12 x.holder else abortCode 8 1 x.holder)) ∧
      (∀ n, n = leAt val 4 2 → val.length = 1024 → chunkBad val = none → x.busy = false →
        (x.holder ≠ who → aborts (.chunk t p tag val) 2 0x08130000) ∧
        (x.holder = who → x.st = 1 → leAt val 0 4 = x.recv → x.recv + n ≤ x.len → ∀ c q,
          (s.bank x.bank).img = .bytes c q → x.bank < s.update.banks.length →
          exec (.chunk t p tag val) s = .next (s.writeDone t p tag 0x9000 2 val (fun u =>
            { u with update := { u.update with
              banks := modAt u.update.banks x.bank (fun b => { b with img := .bytes c (q ++ bytesAt val 8 n) })
              sess := { y with recv := x.recv + n } } }))) ∧
        (x.holder = who → leAt val 0 4 + n ≤ x.recv →
          exec (.chunk t p tag val) s = .next (s.writeDone t p tag 0x9000 2 val (setSess y))) ∧
        (x.holder = who → x.recv < leAt val 0 4 + n → x.st ≠ 1 ∨ leAt val 0 4 ≠ x.recv ∨ x.len < leAt val 0 4 + n →
          aborts (.chunk t p tag val) 2 (abortCode 3 0x2D x.recv))) ∧
      (val.length = 10 → timeNs (leNat val) < 1000000000 →
        x.holder = 0 ∨ x.holder = who →
        (x.st = 3 → (s.tick t).time80 < leNat val → exec (.activationTime t p tag val) s =
          .next (s.writeDone t p tag 0x9000 4 val (fun u =>
            (setSess { y with st := 4, act := leNat val } u).setObj 0x9000 4 (leNat val)))) ∧
        (x.st = 4 → leNat val = 0 → exec (.activationTime t p tag val) s =
          .next (s.writeDone t p tag 0x9000 4 val (fun u => (setSess { y with st := 3, act := 0 } u).setObj 0x9000 4 0))) ∧
        (x.st = 3 → leNat val ≤ (s.tick t).time80 → aborts (.activationTime t p tag val) 4 0x032E0000)) ∧
      (val = [1] → x.holder = who →
        (x.st = 1 → exec (.closeSession t p tag val) s = .next (s.writeDone t p tag 0x9000 5 val (fun u =>
          (setSess { y with st := 9, cause := 1, result := 0, holder := 0 } (put x.bank 6 u)).setObj 0x9000 5 1))) ∧
        (x.st = 3 → exec (.closeSession t p tag val) s = .next (s.writeDone t p tag 0x9000 5 val (fun u =>
          (setSess { y with st := 9, cause := 1, result := 0, holder := 0 } u).setObj 0x9000 5 1)))) ∧
      (val = [1] → x.st = 6 → x.former ≠ x.bank → exec (.confirm t p tag val) s =
        .next (s.writeDone t p tag 0x9000 6 val (fun u =>
          let w := setSess { y with st := 7, cause := 0, result := 0, holder := 0 } (put x.bank 4 (put x.former 5 u))
          ({ w with fuses := { u.fuses with
            factoryKey := u.fuses.factoryKey && decide (1 < (s.bank x.bank).img.keySlot) } } : State).setObj 0x9000 6 1))) ∧
      (val = [1] → x.st ≠ 6 → aborts (.confirm t p tag val) 6
        (if x.busy = false ∧ x.holder ≠ 0 ∧ x.holder ≠ who then abortCode 8 1 x.holder else abortCode 4 0x1F x.st)) ∧
      (val = [1] → x.st = 0 ∨ 7 ≤ x.st → ∀ b, b < 2 → (s.bank b).st = 5 → (s.bank (1 - b)).st = 4 →
        s.imageFault (s.bank b).img true = none →
        exec (.revert t p tag val) s = .next (s.writeDone t p tag 0x9000 7 val (fun u =>
          let c := (s.bank b).img.cart
          let w : State := { put b 3 u with update := { (put b 3 u).update with
            loaded := b
            loadable := true
            sess := ⟨5, 0, 0, b, beAt c 20 4, beAt c 20 4, 0, (s.tick t).time80, 0, (cartDigest c).take 16, beAt c 12 4,
              now, 0, 1 - b, true⟩ } }
          let r := w.restartEffects true
          ({ r with faults := { r.faults with restarting := true } } : State).setObj 0x9000 7 1))))) ∧
  (∀ (s : State) (t : Nat) (p : Path) (tag : Nat) (val : List Byte), ∃ s2, exec (.cartouche t p tag val) s = .next s2) ∧
  (∀ (s : State) (t : Nat) (p : Path) (tag : Nat) (val : List Byte), ∃ s2, exec (.chunk t p tag val) s = .next s2) ∧
  (∀ (s : State) (t : Nat) (p : Path) (tag : Nat) (val : List Byte), ∃ s2, exec (.activationTime t p tag val) s = .next s2) ∧
  (∀ (s : State) (t : Nat) (p : Path) (tag : Nat) (val : List Byte), ∃ s2, exec (.closeSession t p tag val) s = .next s2) ∧
  (∀ (s : State) (t : Nat) (p : Path) (tag : Nat) (val : List Byte), ∃ s2, exec (.confirm t p tag val) s = .next s2) ∧
  (∀ (s : State) (t : Nat) (p : Path) (tag : Nat) (val : List Byte), ∃ s2, exec (.revert t p tag val) s = .next s2)

/-- UPDATE_ACTIVATE sets the bank to TRIAL and restarts the service core at the activation time, or ends the session FAILED;
ACTIVATION_LOADS_COMPLETE discards the requests sent during the reload and starts the trial, ends a reversion or, on a
failed check, reverts; TRIAL_EXPIRE reverts when the trial time has passed (R624, R626). Each of these completes in every
state, whatever its operands: updateActivate, activationLoadsComplete, trialExpire. -/
def Obligations.ActivationsAndTrialsProceed : Prop :=
  (∀ (s : State) (t : Tick),
    let u := s.tick t
    let x := s.update.sess
    let reverted (cause : Nat) : State :=
      let v : State := { u with update := { (u.setBank x.bank 6).update with
        loaded := x.former
        loadable := true
        sess := { x with st := 8, cause := cause, result := 0, holder := 0 } } }
      let r := v.restartEffects false
      (({ r with faults := { r.faults with restarting := true } } : State).raise
        { cls := 15, level := 1, object := 0xFF, value := x.bank }).settle
    (x.st = 4 → x.act ≤ u.time80 →
      (s.dev.st ∈ [DevState.run, .degraded, .standby, .ready, .maint] → s.imageFault (s.bank x.bank).img false = none →
        ∀ f, s.activeBank = some f →
        let v : State := { u with update := { (u.setBank x.bank 3).update with
          loaded := x.bank
          loadable := true
          sess := { x with st := 5, former := f, reverting := false } } }
        let r := v.restartEffects true
        exec (.updateActivate t) s = .next (({ r with faults := { r.faults with restarting := true } } : State).settle)) ∧
      (s.dev.st ∉ [DevState.run, .degraded, .standby, .ready, .maint] → exec (.updateActivate t) s =
        .next (({ u with update := { u.update with
          sess := { x with st := 8, cause := 0x11, result := 0x04010000 + s.dev.st.code, holder := 0 } } } : State).settle))) ∧
      (x.st = 5 → let d := u.discardRequests
        (x.reverting = false → exec (.activationLoadsComplete t true) s = .next (({ d with
          faults := { d.faults with restarting := false }
          update := { u.update with
            sess := { x with st := 6, trialEnd := u.clock.now + s.obj 0x9000 8 * Config.sec } } } : State).settle)) ∧
        (x.reverting = true → x.former ≠ x.bank → exec (.activationLoadsComplete t true) s = .next (({ d with
          faults := { d.faults with restarting := false }
          update := { ((u.setBank x.former 5).setBank x.bank 4).update with
            sess := { x with st := 7, cause := 0, result := 0, holder := 0 } } } : State).settle)) ∧
        exec (.activationLoadsComplete t false) s = .next (reverted 0x10)) ∧
      (x.st = 6 → x.trialEnd ≤ u.clock.now → exec (.trialExpire t) s = .next (reverted 0x12)) ∧
      (x.st = 6 → u.clock.now < x.trialEnd → exec (.trialExpire t) s = .next (u.settle))) ∧
  (∀ (s : State) (t : Nat), ∃ s2, exec (.updateActivate t) s = .next s2) ∧
  (∀ (s : State) (t : Nat) (ok : Bool), ∃ s2, exec (.activationLoadsComplete t ok) s = .next s2) ∧
  (∀ (s : State) (t : Nat), ∃ s2, exec (.trialExpire t) s = .next s2)

/-! ### Resets and starts (R634 to R659, R701) -/

/-- A low of RST_N or WRST_N under 1 µs does nothing; a longer one of RST_N resets cold with cause 0x02, of WRST_N warm with
cause 0x04; loss of power resets cold with cause 0x03 and puts the stacks in self-refresh; the commanded reset due begins
as it was asked for (R634 to R640). What a reset leaves: state BOOT with its cause, no command asked for and no signal of
life; after a cold one every volatile object at its Default and no operation, session or fault, with flash and fuses kept;
after a warm one the objects that R37 keeps, the shadows' records and the scheduler's, with the warm resets counted (R36,
R37, R637, R653). Each of these completes in every state, whatever its operands: rstNLow, wrstNLow, pwrgdFall,
commandedResetBegin. -/
def Obligations.ResetsTakeHoldAndClear : Prop :=
  (∀ (s : State) (t : Tick),
    let u := s.tick t
    (∀ held, held < Config.us → exec (.rstNLow t held) s = .next u.settle ∧ exec (.wrstNLow t held) s = .next u.settle) ∧
      (∀ held, Config.us ≤ held → s.dev.rstN = true → s.dev.pwrgd = true → exec (.rstNLow t held) s =
        .next ((({ u with dev := { u.dev with rstN := false } } : State).beginReset false 2).settle)) ∧
      (∀ held, Config.us ≤ held → s.dev.rstN = true → s.dev.pwrgd = true → s.dev.wrstN = true → s.faults.tripped = false →
        (s.dev.warm = true ∨ (s.dev.phase ≠ .held ∧ s.dev.phase ≠ .finishing)) → exec (.wrstNLow t held) s =
          .next ((({ u with dev := { u.dev with wrstN := false } } : State).beginReset true 4).settle)) ∧
      (∀ held, s.dev.rstN = false ∨ s.faults.tripped = true → exec (.wrstNLow t held) s = .next u.settle) ∧
      (∀ done cut, s.record.dirty = false → s.dict.deferred = [] → s.dev.finishing = false →
        (∀ x, s.update.prior = some x → x.1 ≠ u.clock.now) →
        let v := ({ u with dev := { u.dev with burn := none } } : State).beginReset false 3
        exec (.pwrgdFall t done cut false) s = .next (({ v with
          dev := { v.dev with pwrgd := false }, faults := { v.faults with selfRefresh := true } } : State).settle)) ∧
      (∀ found k t0, s.dev.cmd = some (k, t0) → t0 ≤ u.clock.now → k = 6 ∨ s.faults.tripped = false →
        exec (.commandedResetBegin t found) s =
          .next (((u.beginReset (k == 5) (if k = 5 then 6 else 5)).startBoot found false).settle)) ∧
      (∀ found, s.dev.cmd = none → exec (.commandedResetBegin t found) s = .next u.settle)) ∧
  (∀ (s : State) (warm : Bool) (cause : Nat),
    let v := s.beginReset warm cause
    (v.dev.st = .boot ∧ v.dev.phase = .held ∧ v.dev.cause = cause ∧ v.dev.cmd = none ∧ v.dev.warm = warm ∧
      v.dev.feAlive = false ∧ v.dev.tmStopped = false ∧ v.lanes = [] ∧ v.fabric = Fabric.blank ∧
      v.faults.haltFe = false ∧ v.faults.haltTm = false ∧ v.faults.standing = [] ∧ v.dict.deferred = [] ∧
      v.pending = s.pending ∧ v.record.copies = s.record.copies) ∧
      (warm = false → v.objs = [] ∧ v.dict.slots = State.reset.dict.slots ∧ v.update.sess = Session.blank ∧
        v.tx = State.reset.tx ∧ v.faults.queue = [] ∧ v.fuses = s.fuses ∧ v.update.banks = s.update.banks) ∧
      (warm = true → s.dict.deferred = [] →
        (∀ idx sub inst, objClass idx sub ≠ .kept → objClass idx sub ≠ .counter → objClass idx sub ≠ .persistent →
          idx < 65536 → sub < 256 → inst < 2 ^ 24 → v.objI idx sub inst = objDfltI idx sub inst) ∧
        v.sched.recs = s.sched.recs ∧ v.fuses = s.fuses ∧ v.obj 0x1100 7 = min (2 ^ 64 - 1) (s.obj 0x1100 7 + 1))) ∧
  (∀ (s : State) (t : Nat) (held : Nat), ∃ s2, exec (.rstNLow t held) s = .next s2) ∧
  (∀ (s : State) (t : Nat) (held : Nat), ∃ s2, exec (.wrstNLow t held) s = .next s2) ∧
  (∀ (s : State) (t : Nat) (copiesDone : Fin 4) (copyCut burnCut : Bool),
    ∃ s2, exec (.pwrgdFall t copiesDone copyCut burnCut) s = .next s2) ∧
  (∀ (s : State) (t : Nat) (found : Found), ∃ s2, exec (.commandedResetBegin t found) s = .next s2)

/-- A cold reset prevails over a warm reset that is requested in the same instant or while the cold reset runs, and WRST_N is
ignored while RST_N or PWRGD is low (R636): of the pins, and of the state commands whose reset has not begun. -/
def Obligations.ColdResetPrevails : Prop :=
  ∀ (s : State) (t : Tick) (held : Nat),
    let u := s.tick t
    (s.dev.rstN = false ∨ s.dev.pwrgd = false → exec (.wrstNLow t held) s = .next u.settle) ∧
      (s.dev.warm = false → s.dev.phase = .held ∨ s.dev.phase = .finishing → exec (.wrstNLow t held) s = .next u.settle) ∧
      (Config.us ≤ held → s.dev.rstN = true → s.dev.pwrgd = true →
        ∃ v, exec (.rstNLow t held) s = .next v ∧ v.dev.st = .boot ∧ v.dev.warm = false ∧ v.dev.cause = 2 ∧ v.objs = []) ∧
      (∀ (p : Path) (tag : Nat), u.Ready p → 2 ≤ u.roleOf p →
        (∀ t0, s.dev.cmd = some (5, t0) → exec (.coldResetCommand t p tag) s =
          .next (s.writeDone t p tag 0x1100 2 [6] (fun v => ({ v with dev := { v.dev with
            cmd := some (6, u.clock.now + Config.ms) } } : State).setObj 0x1100 2 6))) ∧
        (∀ t0, s.dev.cmd = some (6, t0) → s.faults.tripped = false → exec (.warmResetCommand t p tag) s =
          .next (s.writeDone t p tag 0x1100 2 [5] (fun v => v.setObj 0x1100 2 5))))

/-- A start begins at the rise of the last reset pin, at the rise of power or when the work that the reset waited for is done;
the service core enters INIT once a bank is loaded; INIT_COMPLETE, once every controller is loaded, asks both rails for
their plan voltages and notes what is read back, writes the record that is owed, enters READY with its duration, and with
auto start goes on as START does; DEVICE_RECORD_REWRITE writes the owed record to the three copies (R18, R523 to R525,
R637, R641, R644, R645, R647, R655, R701). Each of these completes in every state, whatever its operands: resetPinRise,
pwrgdRise, resetWorkComplete, serviceCoreStart, initComplete, deviceRecordRewrite. -/
def Obligations.StartsProceedToReady : Prop :=
  (∀ (s : State) (t : Tick) (found : Found),
    let u := s.tick t
    (s.dev.pwrgd = true → s.dev.phase = .held →
      (s.dev.rstN = false → exec (.resetPinRise t .rst found) s =
        .next ((({ u with dev := { u.dev with rstN := true } } : State).startBoot found true).settle)) ∧
      (s.dev.rstN = true → s.dev.wrstN = false → exec (.resetPinRise t .wrst found) s =
        .next ((({ u with dev := { u.dev with wrstN := true } } : State).startBoot found true).settle))) ∧
      (s.dev.pwrgd = false → s.dev.rstN = false → exec (.pwrgdRise t found) s =
        .next (({ u with dev := { u.dev with pwrgd := true, cause := 1 } } : State).settle)) ∧
      (s.dev.pwrgd = false → s.dev.rstN = true →
        let v := ({ u with dev := { u.dev with pwrgd := true, cause := 3, phase := .held } } : State).startBoot found false
        exec (.pwrgdRise t found) s =
          .next (({ v with dev := { v.dev with rise := v.clock.now + Config.ms } } : State).settle)) ∧
      (s.dev.finishing = true → s.dev.phase = .finishing →
        let v := u.rewriteRecord
        exec (.resetWorkComplete t found) s =
          .next ((({ v with dev := { v.dev with finishing := false } } : State).boot found false).settle)) ∧
      (s.dev.finishing = false → exec (.resetWorkComplete t found) s = .next u.settle) ∧
      (s.dev.st = .boot → s.dev.phase = .booting → s.update.loadable = true → s.dev.rise ≤ u.clock.now →
        exec (.serviceCoreStart t) s =
          .next (({ u with dev := { u.dev with st := .init, phase := .bringUp, entered := u.time80 } } : State).settle)) ∧
      (∀ fe tm : Option Nat,
        let asked (w : State) (d : Nat) (r : Option Nat) : State := (w.out (.avs (1 - d) (w.railPlan d))).setAvs d { w.avs d with
          at_ := w.clock.now, tries := if avsOk (w.railPlan d) r then 0 else (w.avs d).tries + 1 }
        let rails := asked (asked u 1 fe) 0 tm
        let w := if s.record.dirty then rails.rewriteRecord else rails
        let ready := (({ w with dev := { w.dev with
          st := .ready, phase := .done, entered := u.time80, duration := (u.clock.now - s.dev.rise) / Config.ms } } :
            State).bringUpAll).sessionLate
        let goes (x : State) : Prop := exec (.initComplete ⟨t, fe, tm⟩) s = .next x.settle
        (s.dev.st ≠ .init ∨ (∃ c ∈ s.faults.ctls, c.loaded = false ∨ c.out = true) → goes u) ∧
          (s.dev.st = .init → (∀ c ∈ s.faults.ctls, c.loaded = true ∧ c.out = false) →
            goes (if ready.obj 0x1100 3 = 1 then ready.enter (ready.pairDev ready.degraded) else ready))) ∧
      (s.record.dirty = true → s.dev.st ≠ .boot → exec (.deviceRecordRewrite t) s = .next (u.rewriteRecord.settle)) ∧
      (s.record.dirty = false → exec (.deviceRecordRewrite t) s = .next u.settle)) ∧
  (∀ (s : State) (t : Nat) (pin : ResetPin) (found : Found), ∃ s2, exec (.resetPinRise t pin found) s = .next s2) ∧
  (∀ (s : State) (t : Nat) (found : Found), ∃ s2, exec (.pwrgdRise t found) s = .next s2) ∧
  (∀ (s : State) (t : Nat) (found : Found), ∃ s2, exec (.resetWorkComplete t found) s = .next s2) ∧
  (∀ (s : State) (t : Nat), ∃ s2, exec (.serviceCoreStart t) s = .next s2) ∧
  (∀ (s : State) (e : InitEnd), ∃ s2, exec (.initComplete e) s = .next s2) ∧
  (∀ (s : State) (t : Nat), ∃ s2, exec (.deviceRecordRewrite t) s = .next s2)
end

