-- ==== Sys2Proof/Laws/Bits.lean ====
section
/-! SUPPORT. Maps from numbers to numbers: a set reads back, every other key reads as before, and the canonical form (keys
rising, no entry at what an unlisted key reads) is kept. -/

namespace Sys2Proof.Machine

/-- The canonical form of a map whose unlisted keys read `d`. -/
def nmapOk (m : NMap) (d : Nat → Nat) : Prop := m.Pairwise (fun a b => a.1 < b.1) ∧ ∀ e ∈ m, e.2 ≠ d e.1

theorem nset_keys (m : NMap) (k v d : Nat) : ∀ e ∈ nset m k v d, e ∈ m ∨ e = (k, v) := by
  induction m with
  | nil => intro e he; unfold nset at he; split at he <;> simp_all
  | cons x r ih =>
    obtain ⟨a, w⟩ := x
    intro e he
    unfold nset at he
    split at he
    · split at he
      · exact .inl he
      · rcases List.mem_cons.1 he with h | h
        · exact .inr h
        · exact .inl h
    · split at he
      · split at he
        · exact .inl (List.mem_cons_of_mem _ he)
        · rcases List.mem_cons.1 he with h | h
          · exact .inr h
          · exact .inl (List.mem_cons_of_mem _ h)
      · rcases List.mem_cons.1 he with h | h
        · exact .inl (by simp [h])
        · rcases ih e h with h' | h'
          · exact .inl (List.mem_cons_of_mem _ h')
          · exact .inr h'

theorem nset_rising (m : NMap) (k v d : Nat) (h : m.Pairwise (fun a b => a.1 < b.1)) :
    (nset m k v d).Pairwise (fun a b => a.1 < b.1) := by
  induction m with
  | nil => unfold nset; split <;> simp
  | cons x r ih =>
    obtain ⟨a, w⟩ := x
    obtain ⟨h1, h2⟩ := List.pairwise_cons.1 h
    unfold nset
    split
    · next hk =>
      split
      · exact h
      · refine List.pairwise_cons.2 ⟨?_, h⟩
        intro e he
        rcases List.mem_cons.1 he with h' | h'
        · simp [h', hk]
        · exact Nat.lt_trans hk (h1 e h')
    · next hk =>
      split
      · next hka =>
        split
        · exact h2
        · exact List.pairwise_cons.2 ⟨fun e he => by simpa [hka] using h1 e he, h2⟩
      · next hka =>
        refine List.pairwise_cons.2 ⟨?_, ih h2⟩
        intro e he
        rcases nset_keys r k v d e he with h' | h'
        · exact h1 e h'
        · simp [h']; omega

theorem nset_noDefault (m : NMap) (k v : Nat) (d : Nat → Nat) (h : m.Pairwise (fun a b => a.1 < b.1))
    (hd : ∀ e ∈ m, e.2 ≠ d e.1) : ∀ e ∈ nset m k v (d k), e.2 ≠ d e.1 := by
  intro e he
  rcases nset_keys m k v (d k) e he with h' | h'
  · exact hd e h'
  · subst h'
    intro hv
    simp only at hv
    clear hd
    induction m with
    | nil => simp [nset, hv] at he
    | cons x r ih =>
      obtain ⟨a, w⟩ := x
      obtain ⟨h1, h2⟩ := List.pairwise_cons.1 h
      unfold nset at he
      split at he
      · next hk =>
        rcases List.mem_cons.1 he with h' | h'
        · simp only [Prod.mk.injEq] at h'; omega
        · have := h1 _ h'; simp only at this; omega
      · split at he
        · next hka =>
          have := h1 _ he; simp only at this; omega
        · next hka =>
          rcases List.mem_cons.1 he with h' | h'
          · simp only [Prod.mk.injEq] at h'; omega
          · exact ih h2 h'

/-- Setting a key keeps the canonical form. -/
theorem nset_ok (m : NMap) (k v : Nat) (d : Nat → Nat) (h : nmapOk m d) : nmapOk (nset m k v (d k)) d :=
  ⟨nset_rising m k v (d k) h.1, nset_noDefault m k v d h.1 h.2⟩

/-- A key below every key of a map is not listed in it. -/
theorem nget_below (m : NMap) (k d : Nat) (h : ∀ e ∈ m, k < e.1) : nget m k d = d := by
  cases m with
  | nil => rfl
  | cons x r =>
    have hx := h x (by simp)
    have : x.1 ≠ k := by omega
    simp [nget, this, hx]

/-- What was set reads back. -/
theorem nget_nset_same (m : NMap) (k v d : Nat) (h : m.Pairwise (fun a b => a.1 < b.1)) : nget (nset m k v d) k d = v := by
  induction m with
  | nil => unfold nset; split <;> simp_all [nget]
  | cons x r ih =>
    obtain ⟨a, w⟩ := x
    obtain ⟨h1, h2⟩ := List.pairwise_cons.1 h
    unfold nset
    split
    · next hk =>
      split
      · next hv => have : a ≠ k := by omega
                   simp [nget, this, hk, hv]
      · simp [nget]
    · next hk =>
      split
      · next hka =>
        split
        · next hv => subst hka; rw [nget_below r k d (fun e he => h1 e he)]; exact hv.symm
        · simp [nget]
      · next hka =>
        have h3 : a ≠ k := fun e => hka e.symm
        simp [nget, h3, hk, ih h2]

/-- Every other key reads as before. -/
theorem nget_nset_ne (m : NMap) (k j v d e : Nat) (h : m.Pairwise (fun a b => a.1 < b.1)) (hj : j ≠ k) :
    nget (nset m k v d) j e = nget m j e := by
  induction m with
  | nil =>
    unfold nset
    split
    · rfl
    · simp [nget, Ne.symm hj]
  | cons x r ih =>
    obtain ⟨a, w⟩ := x
    obtain ⟨h1, h2⟩ := List.pairwise_cons.1 h
    unfold nset
    split
    · next hk =>
      split
      · rfl
      · by_cases hjk : j < k
        · have : a ≠ j := by omega
          have h4 : j < a := by omega
          simp [nget, Ne.symm hj, hjk, this, h4]
        · simp [nget, Ne.symm hj, hjk]
    · next hk =>
      split
      · next hka =>
        split
        · subst hka
          by_cases hjk : j < k
          · rw [nget_below r j e (fun x hx => Nat.lt_trans hjk (h1 x hx))]
            simp [nget, Ne.symm hj, hjk]
          · simp [nget, Ne.symm hj, hjk]
        · subst hka; simp [nget, Ne.symm hj]
      · simp only [nget, ih h2]

end Sys2Proof.Machine
end

