-- ==== Sys2Proof/Laws/State.lean ====
section
/-! SUPPORT. For each named update of the state, the fields that it leaves as they are: one lemma a field. -/

namespace Sys2Proof.Machine

variable (s : State)

/-! ### s.tick t -/

@[simp] theorem State.tick_dev (t : Tick) : (s.tick t).dev = s.dev := by unfold State.tick; split <;> rfl
@[simp] theorem State.tick_objs (t : Tick) : (s.tick t).objs = s.objs := by unfold State.tick; split <;> rfl
@[simp] theorem State.tick_dict (t : Tick) : (s.tick t).dict = s.dict := by unfold State.tick; split <;> rfl
@[simp] theorem State.tick_fuses (t : Tick) : (s.tick t).fuses = s.fuses := by unfold State.tick; split <;> rfl
@[simp] theorem State.tick_record (t : Tick) : (s.tick t).record = s.record := by unfold State.tick; split <;> rfl
@[simp] theorem State.tick_faults (t : Tick) : (s.tick t).faults = s.faults := by unfold State.tick; split <;> rfl
@[simp] theorem State.tick_sbFe (t : Tick) : (s.tick t).sbFe = s.sbFe := by unfold State.tick; split <;> rfl
@[simp] theorem State.tick_sbTm (t : Tick) : (s.tick t).sbTm = s.sbTm := by unfold State.tick; split <;> rfl
@[simp] theorem State.tick_flow (t : Tick) : (s.tick t).flow = s.flow := by unfold State.tick; split <;> rfl
@[simp] theorem State.tick_tables (t : Tick) : (s.tick t).tables = s.tables := by unfold State.tick; split <;> rfl
@[simp] theorem State.tick_tx (t : Tick) : (s.tick t).tx = s.tx := by unfold State.tick; split <;> rfl
@[simp] theorem State.tick_gates (t : Tick) : (s.tick t).gates = s.gates := by unfold State.tick; split <;> rfl
@[simp] theorem State.tick_pair (t : Tick) : (s.tick t).pair = s.pair := by unfold State.tick; split <;> rfl
@[simp] theorem State.tick_streams (t : Tick) : (s.tick t).streams = s.streams := by unfold State.tick; split <;> rfl
@[simp] theorem State.tick_buf (t : Tick) : (s.tick t).buf = s.buf := by unfold State.tick; split <;> rfl
@[simp] theorem State.tick_sched (t : Tick) : (s.tick t).sched = s.sched := by unfold State.tick; split <;> rfl
@[simp] theorem State.tick_fabric (t : Tick) : (s.tick t).fabric = s.fabric := by unfold State.tick; split <;> rfl
@[simp] theorem State.tick_lanes (t : Tick) : (s.tick t).lanes = s.lanes := by unfold State.tick; split <;> rfl
@[simp] theorem State.tick_lines (t : Tick) : (s.tick t).lines = s.lines := by unfold State.tick; split <;> rfl
@[simp] theorem State.tick_survey (t : Tick) : (s.tick t).survey = s.survey := by unfold State.tick; split <;> rfl
@[simp] theorem State.tick_pcie (t : Tick) : (s.tick t).pcie = s.pcie := by unfold State.tick; split <;> rfl
@[simp] theorem State.tick_update (t : Tick) : (s.tick t).update = s.update := by unfold State.tick; split <;> rfl
@[simp] theorem State.tick_outbox (t : Tick) : (s.tick t).outbox = s.outbox := by unfold State.tick; split <;> rfl
@[simp] theorem State.tick_freeCtr (t : Tick) : (s.tick t).freeCtr = s.freeCtr := by unfold State.tick; split <;> rfl
@[simp] theorem State.tick_pending (t : Tick) : (s.tick t).pending = s.pending := by unfold State.tick; split <;> rfl
@[simp] theorem State.tick_msi (t : Tick) : (s.tick t).msi = s.msi := by unfold State.tick; split <;> rfl

/-! ### s.out o -/

@[simp] theorem State.out_clock (o : Output) : (s.out o).clock = s.clock := rfl
@[simp] theorem State.out_dev (o : Output) : (s.out o).dev = s.dev := rfl
@[simp] theorem State.out_objs (o : Output) : (s.out o).objs = s.objs := rfl
@[simp] theorem State.out_dict (o : Output) : (s.out o).dict = s.dict := rfl
@[simp] theorem State.out_fuses (o : Output) : (s.out o).fuses = s.fuses := rfl
@[simp] theorem State.out_record (o : Output) : (s.out o).record = s.record := rfl
@[simp] theorem State.out_faults (o : Output) : (s.out o).faults = s.faults := rfl
@[simp] theorem State.out_sbFe (o : Output) : (s.out o).sbFe = s.sbFe := rfl
@[simp] theorem State.out_sbTm (o : Output) : (s.out o).sbTm = s.sbTm := rfl
@[simp] theorem State.out_flow (o : Output) : (s.out o).flow = s.flow := rfl
@[simp] theorem State.out_tables (o : Output) : (s.out o).tables = s.tables := rfl
@[simp] theorem State.out_tx (o : Output) : (s.out o).tx = s.tx := rfl
@[simp] theorem State.out_gates (o : Output) : (s.out o).gates = s.gates := rfl
@[simp] theorem State.out_pair (o : Output) : (s.out o).pair = s.pair := rfl
@[simp] theorem State.out_streams (o : Output) : (s.out o).streams = s.streams := rfl
@[simp] theorem State.out_buf (o : Output) : (s.out o).buf = s.buf := rfl
@[simp] theorem State.out_sched (o : Output) : (s.out o).sched = s.sched := rfl
@[simp] theorem State.out_fabric (o : Output) : (s.out o).fabric = s.fabric := rfl
@[simp] theorem State.out_lanes (o : Output) : (s.out o).lanes = s.lanes := rfl
@[simp] theorem State.out_lines (o : Output) : (s.out o).lines = s.lines := rfl
@[simp] theorem State.out_survey (o : Output) : (s.out o).survey = s.survey := rfl
@[simp] theorem State.out_pcie (o : Output) : (s.out o).pcie = s.pcie := rfl
@[simp] theorem State.out_update (o : Output) : (s.out o).update = s.update := rfl
@[simp] theorem State.out_freeCtr (o : Output) : (s.out o).freeCtr = s.freeCtr := rfl
@[simp] theorem State.out_pending (o : Output) : (s.out o).pending = s.pending := rfl
@[simp] theorem State.out_msi (o : Output) : (s.out o).msi = s.msi := rfl

/-! ### s.enter d -/

@[simp] theorem State.enter_clock (d : DevState) : (s.enter d).clock = s.clock := by unfold State.enter; split <;> rfl
@[simp] theorem State.enter_objs (d : DevState) : (s.enter d).objs = s.objs := by unfold State.enter; split <;> rfl
@[simp] theorem State.enter_dict (d : DevState) : (s.enter d).dict = s.dict := by unfold State.enter; split <;> rfl
@[simp] theorem State.enter_fuses (d : DevState) : (s.enter d).fuses = s.fuses := by unfold State.enter; split <;> rfl
@[simp] theorem State.enter_record (d : DevState) : (s.enter d).record = s.record := by unfold State.enter; split <;> rfl
@[simp] theorem State.enter_faults (d : DevState) : (s.enter d).faults = s.faults := by unfold State.enter; split <;> rfl
@[simp] theorem State.enter_sbFe (d : DevState) : (s.enter d).sbFe = s.sbFe := by unfold State.enter; split <;> rfl
@[simp] theorem State.enter_sbTm (d : DevState) : (s.enter d).sbTm = s.sbTm := by unfold State.enter; split <;> rfl
@[simp] theorem State.enter_flow (d : DevState) : (s.enter d).flow = s.flow := by unfold State.enter; split <;> rfl
@[simp] theorem State.enter_tables (d : DevState) : (s.enter d).tables = s.tables := by unfold State.enter; split <;> rfl
@[simp] theorem State.enter_tx (d : DevState) : (s.enter d).tx = s.tx := by unfold State.enter; split <;> rfl
@[simp] theorem State.enter_gates (d : DevState) : (s.enter d).gates = s.gates := by unfold State.enter; split <;> rfl
@[simp] theorem State.enter_pair (d : DevState) : (s.enter d).pair = s.pair := by unfold State.enter; split <;> rfl
@[simp] theorem State.enter_streams (d : DevState) : (s.enter d).streams = s.streams := by unfold State.enter; split <;> rfl
@[simp] theorem State.enter_buf (d : DevState) : (s.enter d).buf = s.buf := by unfold State.enter; split <;> rfl
@[simp] theorem State.enter_sched (d : DevState) : (s.enter d).sched = s.sched := by unfold State.enter; split <;> rfl
@[simp] theorem State.enter_fabric (d : DevState) : (s.enter d).fabric = s.fabric := by unfold State.enter; split <;> rfl
@[simp] theorem State.enter_lanes (d : DevState) : (s.enter d).lanes = s.lanes := by unfold State.enter; split <;> rfl
@[simp] theorem State.enter_lines (d : DevState) : (s.enter d).lines = s.lines := by unfold State.enter; split <;> rfl
@[simp] theorem State.enter_survey (d : DevState) : (s.enter d).survey = s.survey := by unfold State.enter; split <;> rfl
@[simp] theorem State.enter_pcie (d : DevState) : (s.enter d).pcie = s.pcie := by unfold State.enter; split <;> rfl
@[simp] theorem State.enter_update (d : DevState) : (s.enter d).update = s.update := by unfold State.enter; split <;> rfl
@[simp] theorem State.enter_outbox (d : DevState) : (s.enter d).outbox = s.outbox := by unfold State.enter; split <;> rfl
@[simp] theorem State.enter_freeCtr (d : DevState) : (s.enter d).freeCtr = s.freeCtr := by unfold State.enter; split <;> rfl
@[simp] theorem State.enter_pending (d : DevState) : (s.enter d).pending = s.pending := by unfold State.enter; split <;> rfl
@[simp] theorem State.enter_msi (d : DevState) : (s.enter d).msi = s.msi := by unfold State.enter; split <;> rfl

/-! ### s.setObjI i n k v -/

@[simp] theorem State.setObjI_clock (i n k v : Nat) : (s.setObjI i n k v).clock = s.clock := by unfold State.setObjI; split <;> rfl
@[simp] theorem State.setObjI_dev (i n k v : Nat) : (s.setObjI i n k v).dev = s.dev := by unfold State.setObjI; split <;> rfl
@[simp] theorem State.setObjI_dict (i n k v : Nat) : (s.setObjI i n k v).dict = s.dict := by unfold State.setObjI; split <;> rfl
@[simp] theorem State.setObjI_fuses (i n k v : Nat) : (s.setObjI i n k v).fuses = s.fuses := by unfold State.setObjI; split <;> rfl
@[simp] theorem State.setObjI_faults (i n k v : Nat) : (s.setObjI i n k v).faults = s.faults := by unfold State.setObjI; split <;> rfl
@[simp] theorem State.setObjI_sbFe (i n k v : Nat) : (s.setObjI i n k v).sbFe = s.sbFe := by unfold State.setObjI; split <;> rfl
@[simp] theorem State.setObjI_sbTm (i n k v : Nat) : (s.setObjI i n k v).sbTm = s.sbTm := by unfold State.setObjI; split <;> rfl
@[simp] theorem State.setObjI_flow (i n k v : Nat) : (s.setObjI i n k v).flow = s.flow := by unfold State.setObjI; split <;> rfl
@[simp] theorem State.setObjI_tables (i n k v : Nat) : (s.setObjI i n k v).tables = s.tables := by unfold State.setObjI; split <;> rfl
@[simp] theorem State.setObjI_tx (i n k v : Nat) : (s.setObjI i n k v).tx = s.tx := by unfold State.setObjI; split <;> rfl
@[simp] theorem State.setObjI_gates (i n k v : Nat) : (s.setObjI i n k v).gates = s.gates := by unfold State.setObjI; split <;> rfl
@[simp] theorem State.setObjI_pair (i n k v : Nat) : (s.setObjI i n k v).pair = s.pair := by unfold State.setObjI; split <;> rfl
@[simp] theorem State.setObjI_streams (i n k v : Nat) : (s.setObjI i n k v).streams = s.streams := by unfold State.setObjI; split <;> rfl
@[simp] theorem State.setObjI_buf (i n k v : Nat) : (s.setObjI i n k v).buf = s.buf := by unfold State.setObjI; split <;> rfl
@[simp] theorem State.setObjI_sched (i n k v : Nat) : (s.setObjI i n k v).sched = s.sched := by unfold State.setObjI; split <;> rfl
@[simp] theorem State.setObjI_fabric (i n k v : Nat) : (s.setObjI i n k v).fabric = s.fabric := by unfold State.setObjI; split <;> rfl
@[simp] theorem State.setObjI_lanes (i n k v : Nat) : (s.setObjI i n k v).lanes = s.lanes := by unfold State.setObjI; split <;> rfl
@[simp] theorem State.setObjI_lines (i n k v : Nat) : (s.setObjI i n k v).lines = s.lines := by unfold State.setObjI; split <;> rfl
@[simp] theorem State.setObjI_survey (i n k v : Nat) : (s.setObjI i n k v).survey = s.survey := by unfold State.setObjI; split <;> rfl
@[simp] theorem State.setObjI_pcie (i n k v : Nat) : (s.setObjI i n k v).pcie = s.pcie := by unfold State.setObjI; split <;> rfl
@[simp] theorem State.setObjI_update (i n k v : Nat) : (s.setObjI i n k v).update = s.update := by unfold State.setObjI; split <;> rfl
@[simp] theorem State.setObjI_outbox (i n k v : Nat) : (s.setObjI i n k v).outbox = s.outbox := by unfold State.setObjI; split <;> rfl
@[simp] theorem State.setObjI_freeCtr (i n k v : Nat) : (s.setObjI i n k v).freeCtr = s.freeCtr := by unfold State.setObjI; split <;> rfl
@[simp] theorem State.setObjI_pending (i n k v : Nat) : (s.setObjI i n k v).pending = s.pending := by unfold State.setObjI; split <;> rfl
@[simp] theorem State.setObjI_msi (i n k v : Nat) : (s.setObjI i n k v).msi = s.msi := by unfold State.setObjI; split <;> rfl

/-! ### s.setObj i n v -/

@[simp] theorem State.setObj_clock (i n v : Nat) : (s.setObj i n v).clock = s.clock := by unfold State.setObj; simp
@[simp] theorem State.setObj_dev (i n v : Nat) : (s.setObj i n v).dev = s.dev := by unfold State.setObj; simp
@[simp] theorem State.setObj_dict (i n v : Nat) : (s.setObj i n v).dict = s.dict := by unfold State.setObj; simp
@[simp] theorem State.setObj_fuses (i n v : Nat) : (s.setObj i n v).fuses = s.fuses := by unfold State.setObj; simp
@[simp] theorem State.setObj_faults (i n v : Nat) : (s.setObj i n v).faults = s.faults := by unfold State.setObj; simp
@[simp] theorem State.setObj_sbFe (i n v : Nat) : (s.setObj i n v).sbFe = s.sbFe := by unfold State.setObj; simp
@[simp] theorem State.setObj_sbTm (i n v : Nat) : (s.setObj i n v).sbTm = s.sbTm := by unfold State.setObj; simp
@[simp] theorem State.setObj_flow (i n v : Nat) : (s.setObj i n v).flow = s.flow := by unfold State.setObj; simp
@[simp] theorem State.setObj_tables (i n v : Nat) : (s.setObj i n v).tables = s.tables := by unfold State.setObj; simp
@[simp] theorem State.setObj_tx (i n v : Nat) : (s.setObj i n v).tx = s.tx := by unfold State.setObj; simp
@[simp] theorem State.setObj_gates (i n v : Nat) : (s.setObj i n v).gates = s.gates := by unfold State.setObj; simp
@[simp] theorem State.setObj_pair (i n v : Nat) : (s.setObj i n v).pair = s.pair := by unfold State.setObj; simp
@[simp] theorem State.setObj_streams (i n v : Nat) : (s.setObj i n v).streams = s.streams := by unfold State.setObj; simp
@[simp] theorem State.setObj_buf (i n v : Nat) : (s.setObj i n v).buf = s.buf := by unfold State.setObj; simp
@[simp] theorem State.setObj_sched (i n v : Nat) : (s.setObj i n v).sched = s.sched := by unfold State.setObj; simp
@[simp] theorem State.setObj_fabric (i n v : Nat) : (s.setObj i n v).fabric = s.fabric := by unfold State.setObj; simp
@[simp] theorem State.setObj_lanes (i n v : Nat) : (s.setObj i n v).lanes = s.lanes := by unfold State.setObj; simp
@[simp] theorem State.setObj_lines (i n v : Nat) : (s.setObj i n v).lines = s.lines := by unfold State.setObj; simp
@[simp] theorem State.setObj_survey (i n v : Nat) : (s.setObj i n v).survey = s.survey := by unfold State.setObj; simp
@[simp] theorem State.setObj_pcie (i n v : Nat) : (s.setObj i n v).pcie = s.pcie := by unfold State.setObj; simp
@[simp] theorem State.setObj_update (i n v : Nat) : (s.setObj i n v).update = s.update := by unfold State.setObj; simp
@[simp] theorem State.setObj_outbox (i n v : Nat) : (s.setObj i n v).outbox = s.outbox := by unfold State.setObj; simp
@[simp] theorem State.setObj_freeCtr (i n v : Nat) : (s.setObj i n v).freeCtr = s.freeCtr := by unfold State.setObj; simp
@[simp] theorem State.setObj_pending (i n v : Nat) : (s.setObj i n v).pending = s.pending := by unfold State.setObj; simp
@[simp] theorem State.setObj_msi (i n v : Nat) : (s.setObj i n v).msi = s.msi := by unfold State.setObj; simp

/-! ### s.bumpI i n k v -/

@[simp] theorem State.bumpI_clock (i n k v : Nat) : (s.bumpI i n k v).clock = s.clock := by unfold State.bumpI; simp
@[simp] theorem State.bumpI_dev (i n k v : Nat) : (s.bumpI i n k v).dev = s.dev := by unfold State.bumpI; simp
@[simp] theorem State.bumpI_dict (i n k v : Nat) : (s.bumpI i n k v).dict = s.dict := by unfold State.bumpI; simp
@[simp] theorem State.bumpI_fuses (i n k v : Nat) : (s.bumpI i n k v).fuses = s.fuses := by unfold State.bumpI; simp
@[simp] theorem State.bumpI_faults (i n k v : Nat) : (s.bumpI i n k v).faults = s.faults := by unfold State.bumpI; simp
@[simp] theorem State.bumpI_sbFe (i n k v : Nat) : (s.bumpI i n k v).sbFe = s.sbFe := by unfold State.bumpI; simp
@[simp] theorem State.bumpI_sbTm (i n k v : Nat) : (s.bumpI i n k v).sbTm = s.sbTm := by unfold State.bumpI; simp
@[simp] theorem State.bumpI_flow (i n k v : Nat) : (s.bumpI i n k v).flow = s.flow := by unfold State.bumpI; simp
@[simp] theorem State.bumpI_tables (i n k v : Nat) : (s.bumpI i n k v).tables = s.tables := by unfold State.bumpI; simp
@[simp] theorem State.bumpI_tx (i n k v : Nat) : (s.bumpI i n k v).tx = s.tx := by unfold State.bumpI; simp
@[simp] theorem State.bumpI_gates (i n k v : Nat) : (s.bumpI i n k v).gates = s.gates := by unfold State.bumpI; simp
@[simp] theorem State.bumpI_pair (i n k v : Nat) : (s.bumpI i n k v).pair = s.pair := by unfold State.bumpI; simp
@[simp] theorem State.bumpI_streams (i n k v : Nat) : (s.bumpI i n k v).streams = s.streams := by unfold State.bumpI; simp
@[simp] theorem State.bumpI_buf (i n k v : Nat) : (s.bumpI i n k v).buf = s.buf := by unfold State.bumpI; simp
@[simp] theorem State.bumpI_sched (i n k v : Nat) : (s.bumpI i n k v).sched = s.sched := by unfold State.bumpI; simp
@[simp] theorem State.bumpI_fabric (i n k v : Nat) : (s.bumpI i n k v).fabric = s.fabric := by unfold State.bumpI; simp
@[simp] theorem State.bumpI_lanes (i n k v : Nat) : (s.bumpI i n k v).lanes = s.lanes := by unfold State.bumpI; simp
@[simp] theorem State.bumpI_lines (i n k v : Nat) : (s.bumpI i n k v).lines = s.lines := by unfold State.bumpI; simp
@[simp] theorem State.bumpI_survey (i n k v : Nat) : (s.bumpI i n k v).survey = s.survey := by unfold State.bumpI; simp
@[simp] theorem State.bumpI_pcie (i n k v : Nat) : (s.bumpI i n k v).pcie = s.pcie := by unfold State.bumpI; simp
@[simp] theorem State.bumpI_update (i n k v : Nat) : (s.bumpI i n k v).update = s.update := by unfold State.bumpI; simp
@[simp] theorem State.bumpI_outbox (i n k v : Nat) : (s.bumpI i n k v).outbox = s.outbox := by unfold State.bumpI; simp
@[simp] theorem State.bumpI_freeCtr (i n k v : Nat) : (s.bumpI i n k v).freeCtr = s.freeCtr := by unfold State.bumpI; simp
@[simp] theorem State.bumpI_pending (i n k v : Nat) : (s.bumpI i n k v).pending = s.pending := by unfold State.bumpI; simp
@[simp] theorem State.bumpI_msi (i n k v : Nat) : (s.bumpI i n k v).msi = s.msi := by unfold State.bumpI; simp

/-! ### s.bump i n -/

@[simp] theorem State.bump_clock (i n : Nat) : (s.bump i n).clock = s.clock := by unfold State.bump; simp
@[simp] theorem State.bump_dev (i n : Nat) : (s.bump i n).dev = s.dev := by unfold State.bump; simp
@[simp] theorem State.bump_dict (i n : Nat) : (s.bump i n).dict = s.dict := by unfold State.bump; simp
@[simp] theorem State.bump_fuses (i n : Nat) : (s.bump i n).fuses = s.fuses := by unfold State.bump; simp
@[simp] theorem State.bump_faults (i n : Nat) : (s.bump i n).faults = s.faults := by unfold State.bump; simp
@[simp] theorem State.bump_sbFe (i n : Nat) : (s.bump i n).sbFe = s.sbFe := by unfold State.bump; simp
@[simp] theorem State.bump_sbTm (i n : Nat) : (s.bump i n).sbTm = s.sbTm := by unfold State.bump; simp
@[simp] theorem State.bump_flow (i n : Nat) : (s.bump i n).flow = s.flow := by unfold State.bump; simp
@[simp] theorem State.bump_tables (i n : Nat) : (s.bump i n).tables = s.tables := by unfold State.bump; simp
@[simp] theorem State.bump_tx (i n : Nat) : (s.bump i n).tx = s.tx := by unfold State.bump; simp
@[simp] theorem State.bump_gates (i n : Nat) : (s.bump i n).gates = s.gates := by unfold State.bump; simp
@[simp] theorem State.bump_pair (i n : Nat) : (s.bump i n).pair = s.pair := by unfold State.bump; simp
@[simp] theorem State.bump_streams (i n : Nat) : (s.bump i n).streams = s.streams := by unfold State.bump; simp
@[simp] theorem State.bump_buf (i n : Nat) : (s.bump i n).buf = s.buf := by unfold State.bump; simp
@[simp] theorem State.bump_sched (i n : Nat) : (s.bump i n).sched = s.sched := by unfold State.bump; simp
@[simp] theorem State.bump_fabric (i n : Nat) : (s.bump i n).fabric = s.fabric := by unfold State.bump; simp
@[simp] theorem State.bump_lanes (i n : Nat) : (s.bump i n).lanes = s.lanes := by unfold State.bump; simp
@[simp] theorem State.bump_lines (i n : Nat) : (s.bump i n).lines = s.lines := by unfold State.bump; simp
@[simp] theorem State.bump_survey (i n : Nat) : (s.bump i n).survey = s.survey := by unfold State.bump; simp
@[simp] theorem State.bump_pcie (i n : Nat) : (s.bump i n).pcie = s.pcie := by unfold State.bump; simp
@[simp] theorem State.bump_update (i n : Nat) : (s.bump i n).update = s.update := by unfold State.bump; simp
@[simp] theorem State.bump_outbox (i n : Nat) : (s.bump i n).outbox = s.outbox := by unfold State.bump; simp
@[simp] theorem State.bump_freeCtr (i n : Nat) : (s.bump i n).freeCtr = s.freeCtr := by unfold State.bump; simp
@[simp] theorem State.bump_pending (i n : Nat) : (s.bump i n).pending = s.pending := by unfold State.bump; simp
@[simp] theorem State.bump_msi (i n : Nat) : (s.bump i n).msi = s.msi := by unfold State.bump; simp

/-! ### s.bumpN i n v -/

@[simp] theorem State.bumpN_clock (i n v : Nat) : (s.bumpN i n v).clock = s.clock := by unfold State.bumpN; simp
@[simp] theorem State.bumpN_dev (i n v : Nat) : (s.bumpN i n v).dev = s.dev := by unfold State.bumpN; simp
@[simp] theorem State.bumpN_dict (i n v : Nat) : (s.bumpN i n v).dict = s.dict := by unfold State.bumpN; simp
@[simp] theorem State.bumpN_fuses (i n v : Nat) : (s.bumpN i n v).fuses = s.fuses := by unfold State.bumpN; simp
@[simp] theorem State.bumpN_faults (i n v : Nat) : (s.bumpN i n v).faults = s.faults := by unfold State.bumpN; simp
@[simp] theorem State.bumpN_sbFe (i n v : Nat) : (s.bumpN i n v).sbFe = s.sbFe := by unfold State.bumpN; simp
@[simp] theorem State.bumpN_sbTm (i n v : Nat) : (s.bumpN i n v).sbTm = s.sbTm := by unfold State.bumpN; simp
@[simp] theorem State.bumpN_flow (i n v : Nat) : (s.bumpN i n v).flow = s.flow := by unfold State.bumpN; simp
@[simp] theorem State.bumpN_tables (i n v : Nat) : (s.bumpN i n v).tables = s.tables := by unfold State.bumpN; simp
@[simp] theorem State.bumpN_tx (i n v : Nat) : (s.bumpN i n v).tx = s.tx := by unfold State.bumpN; simp
@[simp] theorem State.bumpN_gates (i n v : Nat) : (s.bumpN i n v).gates = s.gates := by unfold State.bumpN; simp
@[simp] theorem State.bumpN_pair (i n v : Nat) : (s.bumpN i n v).pair = s.pair := by unfold State.bumpN; simp
@[simp] theorem State.bumpN_streams (i n v : Nat) : (s.bumpN i n v).streams = s.streams := by unfold State.bumpN; simp
@[simp] theorem State.bumpN_buf (i n v : Nat) : (s.bumpN i n v).buf = s.buf := by unfold State.bumpN; simp
@[simp] theorem State.bumpN_sched (i n v : Nat) : (s.bumpN i n v).sched = s.sched := by unfold State.bumpN; simp
@[simp] theorem State.bumpN_fabric (i n v : Nat) : (s.bumpN i n v).fabric = s.fabric := by unfold State.bumpN; simp
@[simp] theorem State.bumpN_lanes (i n v : Nat) : (s.bumpN i n v).lanes = s.lanes := by unfold State.bumpN; simp
@[simp] theorem State.bumpN_lines (i n v : Nat) : (s.bumpN i n v).lines = s.lines := by unfold State.bumpN; simp
@[simp] theorem State.bumpN_survey (i n v : Nat) : (s.bumpN i n v).survey = s.survey := by unfold State.bumpN; simp
@[simp] theorem State.bumpN_pcie (i n v : Nat) : (s.bumpN i n v).pcie = s.pcie := by unfold State.bumpN; simp
@[simp] theorem State.bumpN_update (i n v : Nat) : (s.bumpN i n v).update = s.update := by unfold State.bumpN; simp
@[simp] theorem State.bumpN_outbox (i n v : Nat) : (s.bumpN i n v).outbox = s.outbox := by unfold State.bumpN; simp
@[simp] theorem State.bumpN_freeCtr (i n v : Nat) : (s.bumpN i n v).freeCtr = s.freeCtr := by unfold State.bumpN; simp
@[simp] theorem State.bumpN_pending (i n v : Nat) : (s.bumpN i n v).pending = s.pending := by unfold State.bumpN; simp
@[simp] theorem State.bumpN_msi (i n v : Nat) : (s.bumpN i n v).msi = s.msi := by unfold State.bumpN; simp

/-! ### s.msix v -/

@[simp] theorem State.msix_clock (v : Nat) : (s.msix v).clock = s.clock := by
  unfold State.msix; split <;> [rfl; split <;> rfl]
@[simp] theorem State.msix_dev (v : Nat) : (s.msix v).dev = s.dev := by
  unfold State.msix; split <;> [rfl; split <;> rfl]
@[simp] theorem State.msix_objs (v : Nat) : (s.msix v).objs = s.objs := by
  unfold State.msix; split <;> [rfl; split <;> rfl]
@[simp] theorem State.msix_dict (v : Nat) : (s.msix v).dict = s.dict := by
  unfold State.msix; split <;> [rfl; split <;> rfl]
@[simp] theorem State.msix_fuses (v : Nat) : (s.msix v).fuses = s.fuses := by
  unfold State.msix; split <;> [rfl; split <;> rfl]
@[simp] theorem State.msix_record (v : Nat) : (s.msix v).record = s.record := by
  unfold State.msix; split <;> [rfl; split <;> rfl]
@[simp] theorem State.msix_faults (v : Nat) : (s.msix v).faults = s.faults := by
  unfold State.msix; split <;> [rfl; split <;> rfl]
@[simp] theorem State.msix_sbFe (v : Nat) : (s.msix v).sbFe = s.sbFe := by
  unfold State.msix; split <;> [rfl; split <;> rfl]
@[simp] theorem State.msix_sbTm (v : Nat) : (s.msix v).sbTm = s.sbTm := by
  unfold State.msix; split <;> [rfl; split <;> rfl]
@[simp] theorem State.msix_flow (v : Nat) : (s.msix v).flow = s.flow := by
  unfold State.msix; split <;> [rfl; split <;> rfl]
@[simp] theorem State.msix_tables (v : Nat) : (s.msix v).tables = s.tables := by
  unfold State.msix; split <;> [rfl; split <;> rfl]
@[simp] theorem State.msix_tx (v : Nat) : (s.msix v).tx = s.tx := by
  unfold State.msix; split <;> [rfl; split <;> rfl]
@[simp] theorem State.msix_gates (v : Nat) : (s.msix v).gates = s.gates := by
  unfold State.msix; split <;> [rfl; split <;> rfl]
@[simp] theorem State.msix_pair (v : Nat) : (s.msix v).pair = s.pair := by
  unfold State.msix; split <;> [rfl; split <;> rfl]
@[simp] theorem State.msix_streams (v : Nat) : (s.msix v).streams = s.streams := by
  unfold State.msix; split <;> [rfl; split <;> rfl]
@[simp] theorem State.msix_buf (v : Nat) : (s.msix v).buf = s.buf := by
  unfold State.msix; split <;> [rfl; split <;> rfl]
@[simp] theorem State.msix_sched (v : Nat) : (s.msix v).sched = s.sched := by
  unfold State.msix; split <;> [rfl; split <;> rfl]
@[simp] theorem State.msix_fabric (v : Nat) : (s.msix v).fabric = s.fabric := by
  unfold State.msix; split <;> [rfl; split <;> rfl]
@[simp] theorem State.msix_lanes (v : Nat) : (s.msix v).lanes = s.lanes := by
  unfold State.msix; split <;> [rfl; split <;> rfl]
@[simp] theorem State.msix_lines (v : Nat) : (s.msix v).lines = s.lines := by
  unfold State.msix; split <;> [rfl; split <;> rfl]
@[simp] theorem State.msix_survey (v : Nat) : (s.msix v).survey = s.survey := by
  unfold State.msix; split <;> [rfl; split <;> rfl]
@[simp] theorem State.msix_pcie (v : Nat) : (s.msix v).pcie = s.pcie := by
  unfold State.msix; split <;> [rfl; split <;> rfl]
@[simp] theorem State.msix_update (v : Nat) : (s.msix v).update = s.update := by
  unfold State.msix; split <;> [rfl; split <;> rfl]
@[simp] theorem State.msix_freeCtr (v : Nat) : (s.msix v).freeCtr = s.freeCtr := by
  unfold State.msix; split <;> [rfl; split <;> rfl]
@[simp] theorem State.msix_pending (v : Nat) : (s.msix v).pending = s.pending := by
  unfold State.msix; split <;> [rfl; split <;> rfl]

/-! ### s.ibi d -/

@[simp] theorem State.ibi_clock (d : Nat) : (s.ibi d).clock = s.clock := by unfold State.ibi; split <;> rfl
@[simp] theorem State.ibi_dev (d : Nat) : (s.ibi d).dev = s.dev := by unfold State.ibi; split <;> rfl
@[simp] theorem State.ibi_objs (d : Nat) : (s.ibi d).objs = s.objs := by unfold State.ibi; split <;> rfl
@[simp] theorem State.ibi_dict (d : Nat) : (s.ibi d).dict = s.dict := by unfold State.ibi; split <;> rfl
@[simp] theorem State.ibi_fuses (d : Nat) : (s.ibi d).fuses = s.fuses := by unfold State.ibi; split <;> rfl
@[simp] theorem State.ibi_record (d : Nat) : (s.ibi d).record = s.record := by unfold State.ibi; split <;> rfl
@[simp] theorem State.ibi_faults (d : Nat) : (s.ibi d).faults = s.faults := by unfold State.ibi; split <;> rfl
@[simp] theorem State.ibi_sbFe (d : Nat) : (s.ibi d).sbFe = s.sbFe := by unfold State.ibi; split <;> rfl
@[simp] theorem State.ibi_sbTm (d : Nat) : (s.ibi d).sbTm = s.sbTm := by unfold State.ibi; split <;> rfl
@[simp] theorem State.ibi_flow (d : Nat) : (s.ibi d).flow = s.flow := by unfold State.ibi; split <;> rfl
@[simp] theorem State.ibi_tables (d : Nat) : (s.ibi d).tables = s.tables := by unfold State.ibi; split <;> rfl
@[simp] theorem State.ibi_tx (d : Nat) : (s.ibi d).tx = s.tx := by unfold State.ibi; split <;> rfl
@[simp] theorem State.ibi_gates (d : Nat) : (s.ibi d).gates = s.gates := by unfold State.ibi; split <;> rfl
@[simp] theorem State.ibi_pair (d : Nat) : (s.ibi d).pair = s.pair := by unfold State.ibi; split <;> rfl
@[simp] theorem State.ibi_streams (d : Nat) : (s.ibi d).streams = s.streams := by unfold State.ibi; split <;> rfl
@[simp] theorem State.ibi_buf (d : Nat) : (s.ibi d).buf = s.buf := by unfold State.ibi; split <;> rfl
@[simp] theorem State.ibi_sched (d : Nat) : (s.ibi d).sched = s.sched := by unfold State.ibi; split <;> rfl
@[simp] theorem State.ibi_fabric (d : Nat) : (s.ibi d).fabric = s.fabric := by unfold State.ibi; split <;> rfl
@[simp] theorem State.ibi_lanes (d : Nat) : (s.ibi d).lanes = s.lanes := by unfold State.ibi; split <;> rfl
@[simp] theorem State.ibi_lines (d : Nat) : (s.ibi d).lines = s.lines := by unfold State.ibi; split <;> rfl
@[simp] theorem State.ibi_survey (d : Nat) : (s.ibi d).survey = s.survey := by unfold State.ibi; split <;> rfl
@[simp] theorem State.ibi_pcie (d : Nat) : (s.ibi d).pcie = s.pcie := by unfold State.ibi; split <;> rfl
@[simp] theorem State.ibi_update (d : Nat) : (s.ibi d).update = s.update := by unfold State.ibi; split <;> rfl
@[simp] theorem State.ibi_freeCtr (d : Nat) : (s.ibi d).freeCtr = s.freeCtr := by unfold State.ibi; split <;> rfl
@[simp] theorem State.ibi_pending (d : Nat) : (s.ibi d).pending = s.pending := by unfold State.ibi; split <;> rfl
@[simp] theorem State.ibi_msi (d : Nat) : (s.ibi d).msi = s.msi := by unfold State.ibi; split <;> rfl

/-! ### s.fresh.2 -/

@[simp] theorem State.fresh_snd_clock : (s.fresh.2).clock = s.clock := rfl
@[simp] theorem State.fresh_snd_dev : (s.fresh.2).dev = s.dev := rfl
@[simp] theorem State.fresh_snd_objs : (s.fresh.2).objs = s.objs := rfl
@[simp] theorem State.fresh_snd_dict : (s.fresh.2).dict = s.dict := rfl
@[simp] theorem State.fresh_snd_fuses : (s.fresh.2).fuses = s.fuses := rfl
@[simp] theorem State.fresh_snd_record : (s.fresh.2).record = s.record := rfl
@[simp] theorem State.fresh_snd_faults : (s.fresh.2).faults = s.faults := rfl
@[simp] theorem State.fresh_snd_sbFe : (s.fresh.2).sbFe = s.sbFe := rfl
@[simp] theorem State.fresh_snd_sbTm : (s.fresh.2).sbTm = s.sbTm := rfl
@[simp] theorem State.fresh_snd_flow : (s.fresh.2).flow = s.flow := rfl
@[simp] theorem State.fresh_snd_tables : (s.fresh.2).tables = s.tables := rfl
@[simp] theorem State.fresh_snd_tx : (s.fresh.2).tx = s.tx := rfl
@[simp] theorem State.fresh_snd_gates : (s.fresh.2).gates = s.gates := rfl
@[simp] theorem State.fresh_snd_pair : (s.fresh.2).pair = s.pair := rfl
@[simp] theorem State.fresh_snd_streams : (s.fresh.2).streams = s.streams := rfl
@[simp] theorem State.fresh_snd_buf : (s.fresh.2).buf = s.buf := rfl
@[simp] theorem State.fresh_snd_sched : (s.fresh.2).sched = s.sched := rfl
@[simp] theorem State.fresh_snd_fabric : (s.fresh.2).fabric = s.fabric := rfl
@[simp] theorem State.fresh_snd_lanes : (s.fresh.2).lanes = s.lanes := rfl
@[simp] theorem State.fresh_snd_lines : (s.fresh.2).lines = s.lines := rfl
@[simp] theorem State.fresh_snd_survey : (s.fresh.2).survey = s.survey := rfl
@[simp] theorem State.fresh_snd_pcie : (s.fresh.2).pcie = s.pcie := rfl
@[simp] theorem State.fresh_snd_update : (s.fresh.2).update = s.update := rfl
@[simp] theorem State.fresh_snd_outbox : (s.fresh.2).outbox = s.outbox := rfl
@[simp] theorem State.fresh_snd_pending : (s.fresh.2).pending = s.pending := rfl
@[simp] theorem State.fresh_snd_msi : (s.fresh.2).msi = s.msi := rfl

/-! ### s.setSlot i j -/

@[simp] theorem State.setSlot_clock (i : Nat) (j : JSlot) : (s.setSlot i j).clock = s.clock := rfl
@[simp] theorem State.setSlot_dev (i : Nat) (j : JSlot) : (s.setSlot i j).dev = s.dev := rfl
@[simp] theorem State.setSlot_objs (i : Nat) (j : JSlot) : (s.setSlot i j).objs = s.objs := rfl
@[simp] theorem State.setSlot_fuses (i : Nat) (j : JSlot) : (s.setSlot i j).fuses = s.fuses := rfl
@[simp] theorem State.setSlot_record (i : Nat) (j : JSlot) : (s.setSlot i j).record = s.record := rfl
@[simp] theorem State.setSlot_faults (i : Nat) (j : JSlot) : (s.setSlot i j).faults = s.faults := rfl
@[simp] theorem State.setSlot_sbFe (i : Nat) (j : JSlot) : (s.setSlot i j).sbFe = s.sbFe := rfl
@[simp] theorem State.setSlot_sbTm (i : Nat) (j : JSlot) : (s.setSlot i j).sbTm = s.sbTm := rfl
@[simp] theorem State.setSlot_flow (i : Nat) (j : JSlot) : (s.setSlot i j).flow = s.flow := rfl
@[simp] theorem State.setSlot_tables (i : Nat) (j : JSlot) : (s.setSlot i j).tables = s.tables := rfl
@[simp] theorem State.setSlot_tx (i : Nat) (j : JSlot) : (s.setSlot i j).tx = s.tx := rfl
@[simp] theorem State.setSlot_gates (i : Nat) (j : JSlot) : (s.setSlot i j).gates = s.gates := rfl
@[simp] theorem State.setSlot_pair (i : Nat) (j : JSlot) : (s.setSlot i j).pair = s.pair := rfl
@[simp] theorem State.setSlot_streams (i : Nat) (j : JSlot) : (s.setSlot i j).streams = s.streams := rfl
@[simp] theorem State.setSlot_buf (i : Nat) (j : JSlot) : (s.setSlot i j).buf = s.buf := rfl
@[simp] theorem State.setSlot_sched (i : Nat) (j : JSlot) : (s.setSlot i j).sched = s.sched := rfl
@[simp] theorem State.setSlot_fabric (i : Nat) (j : JSlot) : (s.setSlot i j).fabric = s.fabric := rfl
@[simp] theorem State.setSlot_lanes (i : Nat) (j : JSlot) : (s.setSlot i j).lanes = s.lanes := rfl
@[simp] theorem State.setSlot_lines (i : Nat) (j : JSlot) : (s.setSlot i j).lines = s.lines := rfl
@[simp] theorem State.setSlot_survey (i : Nat) (j : JSlot) : (s.setSlot i j).survey = s.survey := rfl
@[simp] theorem State.setSlot_pcie (i : Nat) (j : JSlot) : (s.setSlot i j).pcie = s.pcie := rfl
@[simp] theorem State.setSlot_update (i : Nat) (j : JSlot) : (s.setSlot i j).update = s.update := rfl
@[simp] theorem State.setSlot_outbox (i : Nat) (j : JSlot) : (s.setSlot i j).outbox = s.outbox := rfl
@[simp] theorem State.setSlot_freeCtr (i : Nat) (j : JSlot) : (s.setSlot i j).freeCtr = s.freeCtr := rfl
@[simp] theorem State.setSlot_pending (i : Nat) (j : JSlot) : (s.setSlot i j).pending = s.pending := rfl
@[simp] theorem State.setSlot_msi (i : Nat) (j : JSlot) : (s.setSlot i j).msi = s.msi := rfl

/-! ### s.setPort x -/

@[simp] theorem State.setPort_clock (x : Port) : (s.setPort x).clock = s.clock := rfl
@[simp] theorem State.setPort_dev (x : Port) : (s.setPort x).dev = s.dev := rfl
@[simp] theorem State.setPort_objs (x : Port) : (s.setPort x).objs = s.objs := rfl
@[simp] theorem State.setPort_dict (x : Port) : (s.setPort x).dict = s.dict := rfl
@[simp] theorem State.setPort_fuses (x : Port) : (s.setPort x).fuses = s.fuses := rfl
@[simp] theorem State.setPort_record (x : Port) : (s.setPort x).record = s.record := rfl
@[simp] theorem State.setPort_faults (x : Port) : (s.setPort x).faults = s.faults := rfl
@[simp] theorem State.setPort_sbFe (x : Port) : (s.setPort x).sbFe = s.sbFe := rfl
@[simp] theorem State.setPort_sbTm (x : Port) : (s.setPort x).sbTm = s.sbTm := rfl
@[simp] theorem State.setPort_flow (x : Port) : (s.setPort x).flow = s.flow := rfl
@[simp] theorem State.setPort_tables (x : Port) : (s.setPort x).tables = s.tables := rfl
@[simp] theorem State.setPort_tx (x : Port) : (s.setPort x).tx = s.tx := rfl
@[simp] theorem State.setPort_gates (x : Port) : (s.setPort x).gates = s.gates := rfl
@[simp] theorem State.setPort_pair (x : Port) : (s.setPort x).pair = s.pair := rfl
@[simp] theorem State.setPort_streams (x : Port) : (s.setPort x).streams = s.streams := rfl
@[simp] theorem State.setPort_buf (x : Port) : (s.setPort x).buf = s.buf := rfl
@[simp] theorem State.setPort_sched (x : Port) : (s.setPort x).sched = s.sched := rfl
@[simp] theorem State.setPort_fabric (x : Port) : (s.setPort x).fabric = s.fabric := rfl
@[simp] theorem State.setPort_lanes (x : Port) : (s.setPort x).lanes = s.lanes := rfl
@[simp] theorem State.setPort_survey (x : Port) : (s.setPort x).survey = s.survey := rfl
@[simp] theorem State.setPort_pcie (x : Port) : (s.setPort x).pcie = s.pcie := rfl
@[simp] theorem State.setPort_update (x : Port) : (s.setPort x).update = s.update := rfl
@[simp] theorem State.setPort_outbox (x : Port) : (s.setPort x).outbox = s.outbox := rfl
@[simp] theorem State.setPort_freeCtr (x : Port) : (s.setPort x).freeCtr = s.freeCtr := rfl
@[simp] theorem State.setPort_pending (x : Port) : (s.setPort x).pending = s.pending := rfl
@[simp] theorem State.setPort_msi (x : Port) : (s.setPort x).msi = s.msi := rfl

/-! ### s.setPair x -/

@[simp] theorem State.setPair_clock (x : Pair) : (s.setPair x).clock = s.clock := rfl
@[simp] theorem State.setPair_dev (x : Pair) : (s.setPair x).dev = s.dev := rfl
@[simp] theorem State.setPair_objs (x : Pair) : (s.setPair x).objs = s.objs := rfl
@[simp] theorem State.setPair_dict (x : Pair) : (s.setPair x).dict = s.dict := rfl
@[simp] theorem State.setPair_fuses (x : Pair) : (s.setPair x).fuses = s.fuses := rfl
@[simp] theorem State.setPair_record (x : Pair) : (s.setPair x).record = s.record := rfl
@[simp] theorem State.setPair_faults (x : Pair) : (s.setPair x).faults = s.faults := rfl
@[simp] theorem State.setPair_sbFe (x : Pair) : (s.setPair x).sbFe = s.sbFe := rfl
@[simp] theorem State.setPair_sbTm (x : Pair) : (s.setPair x).sbTm = s.sbTm := rfl
@[simp] theorem State.setPair_flow (x : Pair) : (s.setPair x).flow = s.flow := rfl
@[simp] theorem State.setPair_tables (x : Pair) : (s.setPair x).tables = s.tables := rfl
@[simp] theorem State.setPair_tx (x : Pair) : (s.setPair x).tx = s.tx := rfl
@[simp] theorem State.setPair_gates (x : Pair) : (s.setPair x).gates = s.gates := rfl
@[simp] theorem State.setPair_streams (x : Pair) : (s.setPair x).streams = s.streams := rfl
@[simp] theorem State.setPair_buf (x : Pair) : (s.setPair x).buf = s.buf := rfl
@[simp] theorem State.setPair_sched (x : Pair) : (s.setPair x).sched = s.sched := rfl
@[simp] theorem State.setPair_fabric (x : Pair) : (s.setPair x).fabric = s.fabric := rfl
@[simp] theorem State.setPair_lanes (x : Pair) : (s.setPair x).lanes = s.lanes := rfl
@[simp] theorem State.setPair_lines (x : Pair) : (s.setPair x).lines = s.lines := rfl
@[simp] theorem State.setPair_survey (x : Pair) : (s.setPair x).survey = s.survey := rfl
@[simp] theorem State.setPair_pcie (x : Pair) : (s.setPair x).pcie = s.pcie := rfl
@[simp] theorem State.setPair_update (x : Pair) : (s.setPair x).update = s.update := rfl
@[simp] theorem State.setPair_outbox (x : Pair) : (s.setPair x).outbox = s.outbox := rfl
@[simp] theorem State.setPair_freeCtr (x : Pair) : (s.setPair x).freeCtr = s.freeCtr := rfl
@[simp] theorem State.setPair_pending (x : Pair) : (s.setPair x).pending = s.pending := rfl
@[simp] theorem State.setPair_msi (x : Pair) : (s.setPair x).msi = s.msi := rfl

/-! ### s.setTables x -/

@[simp] theorem State.setTables_clock (x : Tables) : (s.setTables x).clock = s.clock := rfl
@[simp] theorem State.setTables_dev (x : Tables) : (s.setTables x).dev = s.dev := rfl
@[simp] theorem State.setTables_objs (x : Tables) : (s.setTables x).objs = s.objs := rfl
@[simp] theorem State.setTables_dict (x : Tables) : (s.setTables x).dict = s.dict := rfl
@[simp] theorem State.setTables_fuses (x : Tables) : (s.setTables x).fuses = s.fuses := rfl
@[simp] theorem State.setTables_record (x : Tables) : (s.setTables x).record = s.record := rfl
@[simp] theorem State.setTables_faults (x : Tables) : (s.setTables x).faults = s.faults := rfl
@[simp] theorem State.setTables_sbFe (x : Tables) : (s.setTables x).sbFe = s.sbFe := rfl
@[simp] theorem State.setTables_sbTm (x : Tables) : (s.setTables x).sbTm = s.sbTm := rfl
@[simp] theorem State.setTables_flow (x : Tables) : (s.setTables x).flow = s.flow := rfl
@[simp] theorem State.setTables_tx (x : Tables) : (s.setTables x).tx = s.tx := rfl
@[simp] theorem State.setTables_gates (x : Tables) : (s.setTables x).gates = s.gates := rfl
@[simp] theorem State.setTables_pair (x : Tables) : (s.setTables x).pair = s.pair := rfl
@[simp] theorem State.setTables_streams (x : Tables) : (s.setTables x).streams = s.streams := rfl
@[simp] theorem State.setTables_buf (x : Tables) : (s.setTables x).buf = s.buf := rfl
@[simp] theorem State.setTables_sched (x : Tables) : (s.setTables x).sched = s.sched := rfl
@[simp] theorem State.setTables_fabric (x : Tables) : (s.setTables x).fabric = s.fabric := rfl
@[simp] theorem State.setTables_lanes (x : Tables) : (s.setTables x).lanes = s.lanes := rfl
@[simp] theorem State.setTables_lines (x : Tables) : (s.setTables x).lines = s.lines := rfl
@[simp] theorem State.setTables_survey (x : Tables) : (s.setTables x).survey = s.survey := rfl
@[simp] theorem State.setTables_pcie (x : Tables) : (s.setTables x).pcie = s.pcie := rfl
@[simp] theorem State.setTables_update (x : Tables) : (s.setTables x).update = s.update := rfl
@[simp] theorem State.setTables_outbox (x : Tables) : (s.setTables x).outbox = s.outbox := rfl
@[simp] theorem State.setTables_freeCtr (x : Tables) : (s.setTables x).freeCtr = s.freeCtr := rfl
@[simp] theorem State.setTables_pending (x : Tables) : (s.setTables x).pending = s.pending := rfl
@[simp] theorem State.setTables_msi (x : Tables) : (s.setTables x).msi = s.msi := rfl

/-! ### s.setLane x -/

@[simp] theorem State.setLane_clock (x : FLane) : (s.setLane x).clock = s.clock := rfl
@[simp] theorem State.setLane_dev (x : FLane) : (s.setLane x).dev = s.dev := rfl
@[simp] theorem State.setLane_objs (x : FLane) : (s.setLane x).objs = s.objs := rfl
@[simp] theorem State.setLane_dict (x : FLane) : (s.setLane x).dict = s.dict := rfl
@[simp] theorem State.setLane_fuses (x : FLane) : (s.setLane x).fuses = s.fuses := rfl
@[simp] theorem State.setLane_record (x : FLane) : (s.setLane x).record = s.record := rfl
@[simp] theorem State.setLane_faults (x : FLane) : (s.setLane x).faults = s.faults := rfl
@[simp] theorem State.setLane_sbFe (x : FLane) : (s.setLane x).sbFe = s.sbFe := rfl
@[simp] theorem State.setLane_sbTm (x : FLane) : (s.setLane x).sbTm = s.sbTm := rfl
@[simp] theorem State.setLane_flow (x : FLane) : (s.setLane x).flow = s.flow := rfl
@[simp] theorem State.setLane_tables (x : FLane) : (s.setLane x).tables = s.tables := rfl
@[simp] theorem State.setLane_tx (x : FLane) : (s.setLane x).tx = s.tx := rfl
@[simp] theorem State.setLane_gates (x : FLane) : (s.setLane x).gates = s.gates := rfl
@[simp] theorem State.setLane_pair (x : FLane) : (s.setLane x).pair = s.pair := rfl
@[simp] theorem State.setLane_streams (x : FLane) : (s.setLane x).streams = s.streams := rfl
@[simp] theorem State.setLane_buf (x : FLane) : (s.setLane x).buf = s.buf := rfl
@[simp] theorem State.setLane_sched (x : FLane) : (s.setLane x).sched = s.sched := rfl
@[simp] theorem State.setLane_fabric (x : FLane) : (s.setLane x).fabric = s.fabric := rfl
@[simp] theorem State.setLane_lines (x : FLane) : (s.setLane x).lines = s.lines := rfl
@[simp] theorem State.setLane_survey (x : FLane) : (s.setLane x).survey = s.survey := rfl
@[simp] theorem State.setLane_pcie (x : FLane) : (s.setLane x).pcie = s.pcie := rfl
@[simp] theorem State.setLane_update (x : FLane) : (s.setLane x).update = s.update := rfl
@[simp] theorem State.setLane_outbox (x : FLane) : (s.setLane x).outbox = s.outbox := rfl
@[simp] theorem State.setLane_freeCtr (x : FLane) : (s.setLane x).freeCtr = s.freeCtr := rfl
@[simp] theorem State.setLane_pending (x : FLane) : (s.setLane x).pending = s.pending := rfl
@[simp] theorem State.setLane_msi (x : FLane) : (s.setLane x).msi = s.msi := rfl

/-! ### s.setSerdes x -/

@[simp] theorem State.setSerdes_clock (x : Serdes) : (s.setSerdes x).clock = s.clock := rfl
@[simp] theorem State.setSerdes_dev (x : Serdes) : (s.setSerdes x).dev = s.dev := rfl
@[simp] theorem State.setSerdes_objs (x : Serdes) : (s.setSerdes x).objs = s.objs := rfl
@[simp] theorem State.setSerdes_dict (x : Serdes) : (s.setSerdes x).dict = s.dict := rfl
@[simp] theorem State.setSerdes_fuses (x : Serdes) : (s.setSerdes x).fuses = s.fuses := rfl
@[simp] theorem State.setSerdes_record (x : Serdes) : (s.setSerdes x).record = s.record := rfl
@[simp] theorem State.setSerdes_faults (x : Serdes) : (s.setSerdes x).faults = s.faults := rfl
@[simp] theorem State.setSerdes_sbFe (x : Serdes) : (s.setSerdes x).sbFe = s.sbFe := rfl
@[simp] theorem State.setSerdes_sbTm (x : Serdes) : (s.setSerdes x).sbTm = s.sbTm := rfl
@[simp] theorem State.setSerdes_flow (x : Serdes) : (s.setSerdes x).flow = s.flow := rfl
@[simp] theorem State.setSerdes_tables (x : Serdes) : (s.setSerdes x).tables = s.tables := rfl
@[simp] theorem State.setSerdes_tx (x : Serdes) : (s.setSerdes x).tx = s.tx := rfl
@[simp] theorem State.setSerdes_gates (x : Serdes) : (s.setSerdes x).gates = s.gates := rfl
@[simp] theorem State.setSerdes_pair (x : Serdes) : (s.setSerdes x).pair = s.pair := rfl
@[simp] theorem State.setSerdes_streams (x : Serdes) : (s.setSerdes x).streams = s.streams := rfl
@[simp] theorem State.setSerdes_buf (x : Serdes) : (s.setSerdes x).buf = s.buf := rfl
@[simp] theorem State.setSerdes_sched (x : Serdes) : (s.setSerdes x).sched = s.sched := rfl
@[simp] theorem State.setSerdes_fabric (x : Serdes) : (s.setSerdes x).fabric = s.fabric := rfl
@[simp] theorem State.setSerdes_lanes (x : Serdes) : (s.setSerdes x).lanes = s.lanes := rfl
@[simp] theorem State.setSerdes_survey (x : Serdes) : (s.setSerdes x).survey = s.survey := rfl
@[simp] theorem State.setSerdes_pcie (x : Serdes) : (s.setSerdes x).pcie = s.pcie := rfl
@[simp] theorem State.setSerdes_update (x : Serdes) : (s.setSerdes x).update = s.update := rfl
@[simp] theorem State.setSerdes_outbox (x : Serdes) : (s.setSerdes x).outbox = s.outbox := rfl
@[simp] theorem State.setSerdes_freeCtr (x : Serdes) : (s.setSerdes x).freeCtr = s.freeCtr := rfl
@[simp] theorem State.setSerdes_pending (x : Serdes) : (s.setSerdes x).pending = s.pending := rfl
@[simp] theorem State.setSerdes_msi (x : Serdes) : (s.setSerdes x).msi = s.msi := rfl

/-! ### s.setQue x -/

@[simp] theorem State.setQue_clock (x : Que) : (s.setQue x).clock = s.clock := rfl
@[simp] theorem State.setQue_dev (x : Que) : (s.setQue x).dev = s.dev := rfl
@[simp] theorem State.setQue_objs (x : Que) : (s.setQue x).objs = s.objs := rfl
@[simp] theorem State.setQue_dict (x : Que) : (s.setQue x).dict = s.dict := rfl
@[simp] theorem State.setQue_fuses (x : Que) : (s.setQue x).fuses = s.fuses := rfl
@[simp] theorem State.setQue_record (x : Que) : (s.setQue x).record = s.record := rfl
@[simp] theorem State.setQue_faults (x : Que) : (s.setQue x).faults = s.faults := rfl
@[simp] theorem State.setQue_sbFe (x : Que) : (s.setQue x).sbFe = s.sbFe := rfl
@[simp] theorem State.setQue_sbTm (x : Que) : (s.setQue x).sbTm = s.sbTm := rfl
@[simp] theorem State.setQue_flow (x : Que) : (s.setQue x).flow = s.flow := rfl
@[simp] theorem State.setQue_tables (x : Que) : (s.setQue x).tables = s.tables := rfl
@[simp] theorem State.setQue_tx (x : Que) : (s.setQue x).tx = s.tx := rfl
@[simp] theorem State.setQue_gates (x : Que) : (s.setQue x).gates = s.gates := rfl
@[simp] theorem State.setQue_pair (x : Que) : (s.setQue x).pair = s.pair := rfl
@[simp] theorem State.setQue_streams (x : Que) : (s.setQue x).streams = s.streams := rfl
@[simp] theorem State.setQue_buf (x : Que) : (s.setQue x).buf = s.buf := rfl
@[simp] theorem State.setQue_fabric (x : Que) : (s.setQue x).fabric = s.fabric := rfl
@[simp] theorem State.setQue_lanes (x : Que) : (s.setQue x).lanes = s.lanes := rfl
@[simp] theorem State.setQue_lines (x : Que) : (s.setQue x).lines = s.lines := rfl
@[simp] theorem State.setQue_survey (x : Que) : (s.setQue x).survey = s.survey := rfl
@[simp] theorem State.setQue_pcie (x : Que) : (s.setQue x).pcie = s.pcie := rfl
@[simp] theorem State.setQue_update (x : Que) : (s.setQue x).update = s.update := rfl
@[simp] theorem State.setQue_outbox (x : Que) : (s.setQue x).outbox = s.outbox := rfl
@[simp] theorem State.setQue_freeCtr (x : Que) : (s.setQue x).freeCtr = s.freeCtr := rfl
@[simp] theorem State.setQue_pending (x : Que) : (s.setQue x).pending = s.pending := rfl
@[simp] theorem State.setQue_msi (x : Que) : (s.setQue x).msi = s.msi := rfl

/-! ### s.mapSess f -/

@[simp] theorem State.mapSess_clock (f : Session → Session) : (s.mapSess f).clock = s.clock := rfl
@[simp] theorem State.mapSess_dev (f : Session → Session) : (s.mapSess f).dev = s.dev := rfl
@[simp] theorem State.mapSess_objs (f : Session → Session) : (s.mapSess f).objs = s.objs := rfl
@[simp] theorem State.mapSess_dict (f : Session → Session) : (s.mapSess f).dict = s.dict := rfl
@[simp] theorem State.mapSess_fuses (f : Session → Session) : (s.mapSess f).fuses = s.fuses := rfl
@[simp] theorem State.mapSess_record (f : Session → Session) : (s.mapSess f).record = s.record := rfl
@[simp] theorem State.mapSess_faults (f : Session → Session) : (s.mapSess f).faults = s.faults := rfl
@[simp] theorem State.mapSess_sbFe (f : Session → Session) : (s.mapSess f).sbFe = s.sbFe := rfl
@[simp] theorem State.mapSess_sbTm (f : Session → Session) : (s.mapSess f).sbTm = s.sbTm := rfl
@[simp] theorem State.mapSess_flow (f : Session → Session) : (s.mapSess f).flow = s.flow := rfl
@[simp] theorem State.mapSess_tables (f : Session → Session) : (s.mapSess f).tables = s.tables := rfl
@[simp] theorem State.mapSess_tx (f : Session → Session) : (s.mapSess f).tx = s.tx := rfl
@[simp] theorem State.mapSess_gates (f : Session → Session) : (s.mapSess f).gates = s.gates := rfl
@[simp] theorem State.mapSess_pair (f : Session → Session) : (s.mapSess f).pair = s.pair := rfl
@[simp] theorem State.mapSess_streams (f : Session → Session) : (s.mapSess f).streams = s.streams := rfl
@[simp] theorem State.mapSess_buf (f : Session → Session) : (s.mapSess f).buf = s.buf := rfl
@[simp] theorem State.mapSess_sched (f : Session → Session) : (s.mapSess f).sched = s.sched := rfl
@[simp] theorem State.mapSess_fabric (f : Session → Session) : (s.mapSess f).fabric = s.fabric := rfl
@[simp] theorem State.mapSess_lanes (f : Session → Session) : (s.mapSess f).lanes = s.lanes := rfl
@[simp] theorem State.mapSess_lines (f : Session → Session) : (s.mapSess f).lines = s.lines := rfl
@[simp] theorem State.mapSess_survey (f : Session → Session) : (s.mapSess f).survey = s.survey := rfl
@[simp] theorem State.mapSess_pcie (f : Session → Session) : (s.mapSess f).pcie = s.pcie := rfl
@[simp] theorem State.mapSess_outbox (f : Session → Session) : (s.mapSess f).outbox = s.outbox := rfl
@[simp] theorem State.mapSess_freeCtr (f : Session → Session) : (s.mapSess f).freeCtr = s.freeCtr := rfl
@[simp] theorem State.mapSess_pending (f : Session → Session) : (s.mapSess f).pending = s.pending := rfl
@[simp] theorem State.mapSess_msi (f : Session → Session) : (s.mapSess f).msi = s.msi := rfl

/-! ### s.mapChan k f -/

@[simp] theorem State.mapChan_clock (k : Nat) (f : Chan → Chan) : (s.mapChan k f).clock = s.clock := rfl
@[simp] theorem State.mapChan_dev (k : Nat) (f : Chan → Chan) : (s.mapChan k f).dev = s.dev := rfl
@[simp] theorem State.mapChan_objs (k : Nat) (f : Chan → Chan) : (s.mapChan k f).objs = s.objs := rfl
@[simp] theorem State.mapChan_dict (k : Nat) (f : Chan → Chan) : (s.mapChan k f).dict = s.dict := rfl
@[simp] theorem State.mapChan_fuses (k : Nat) (f : Chan → Chan) : (s.mapChan k f).fuses = s.fuses := rfl
@[simp] theorem State.mapChan_record (k : Nat) (f : Chan → Chan) : (s.mapChan k f).record = s.record := rfl
@[simp] theorem State.mapChan_faults (k : Nat) (f : Chan → Chan) : (s.mapChan k f).faults = s.faults := rfl
@[simp] theorem State.mapChan_sbFe (k : Nat) (f : Chan → Chan) : (s.mapChan k f).sbFe = s.sbFe := rfl
@[simp] theorem State.mapChan_sbTm (k : Nat) (f : Chan → Chan) : (s.mapChan k f).sbTm = s.sbTm := rfl
@[simp] theorem State.mapChan_flow (k : Nat) (f : Chan → Chan) : (s.mapChan k f).flow = s.flow := rfl
@[simp] theorem State.mapChan_tables (k : Nat) (f : Chan → Chan) : (s.mapChan k f).tables = s.tables := rfl
@[simp] theorem State.mapChan_tx (k : Nat) (f : Chan → Chan) : (s.mapChan k f).tx = s.tx := rfl
@[simp] theorem State.mapChan_gates (k : Nat) (f : Chan → Chan) : (s.mapChan k f).gates = s.gates := rfl
@[simp] theorem State.mapChan_pair (k : Nat) (f : Chan → Chan) : (s.mapChan k f).pair = s.pair := rfl
@[simp] theorem State.mapChan_streams (k : Nat) (f : Chan → Chan) : (s.mapChan k f).streams = s.streams := rfl
@[simp] theorem State.mapChan_buf (k : Nat) (f : Chan → Chan) : (s.mapChan k f).buf = s.buf := rfl
@[simp] theorem State.mapChan_sched (k : Nat) (f : Chan → Chan) : (s.mapChan k f).sched = s.sched := rfl
@[simp] theorem State.mapChan_fabric (k : Nat) (f : Chan → Chan) : (s.mapChan k f).fabric = s.fabric := rfl
@[simp] theorem State.mapChan_lanes (k : Nat) (f : Chan → Chan) : (s.mapChan k f).lanes = s.lanes := rfl
@[simp] theorem State.mapChan_lines (k : Nat) (f : Chan → Chan) : (s.mapChan k f).lines = s.lines := rfl
@[simp] theorem State.mapChan_survey (k : Nat) (f : Chan → Chan) : (s.mapChan k f).survey = s.survey := rfl
@[simp] theorem State.mapChan_update (k : Nat) (f : Chan → Chan) : (s.mapChan k f).update = s.update := rfl
@[simp] theorem State.mapChan_outbox (k : Nat) (f : Chan → Chan) : (s.mapChan k f).outbox = s.outbox := rfl
@[simp] theorem State.mapChan_freeCtr (k : Nat) (f : Chan → Chan) : (s.mapChan k f).freeCtr = s.freeCtr := rfl
@[simp] theorem State.mapChan_pending (k : Nat) (f : Chan → Chan) : (s.mapChan k f).pending = s.pending := rfl
@[simp] theorem State.mapChan_msi (k : Nat) (f : Chan → Chan) : (s.mapChan k f).msi = s.msi := rfl

/-! ### s.mapEngine k f -/

@[simp] theorem State.mapEngine_clock (k : Nat) (f : Engine → Engine) : (s.mapEngine k f).clock = s.clock := rfl
@[simp] theorem State.mapEngine_dev (k : Nat) (f : Engine → Engine) : (s.mapEngine k f).dev = s.dev := rfl
@[simp] theorem State.mapEngine_objs (k : Nat) (f : Engine → Engine) : (s.mapEngine k f).objs = s.objs := rfl
@[simp] theorem State.mapEngine_dict (k : Nat) (f : Engine → Engine) : (s.mapEngine k f).dict = s.dict := rfl
@[simp] theorem State.mapEngine_fuses (k : Nat) (f : Engine → Engine) : (s.mapEngine k f).fuses = s.fuses := rfl
@[simp] theorem State.mapEngine_record (k : Nat) (f : Engine → Engine) : (s.mapEngine k f).record = s.record := rfl
@[simp] theorem State.mapEngine_faults (k : Nat) (f : Engine → Engine) : (s.mapEngine k f).faults = s.faults := rfl
@[simp] theorem State.mapEngine_sbFe (k : Nat) (f : Engine → Engine) : (s.mapEngine k f).sbFe = s.sbFe := rfl
@[simp] theorem State.mapEngine_sbTm (k : Nat) (f : Engine → Engine) : (s.mapEngine k f).sbTm = s.sbTm := rfl
@[simp] theorem State.mapEngine_flow (k : Nat) (f : Engine → Engine) : (s.mapEngine k f).flow = s.flow := rfl
@[simp] theorem State.mapEngine_tables (k : Nat) (f : Engine → Engine) : (s.mapEngine k f).tables = s.tables := rfl
@[simp] theorem State.mapEngine_tx (k : Nat) (f : Engine → Engine) : (s.mapEngine k f).tx = s.tx := rfl
@[simp] theorem State.mapEngine_gates (k : Nat) (f : Engine → Engine) : (s.mapEngine k f).gates = s.gates := rfl
@[simp] theorem State.mapEngine_pair (k : Nat) (f : Engine → Engine) : (s.mapEngine k f).pair = s.pair := rfl
@[simp] theorem State.mapEngine_streams (k : Nat) (f : Engine → Engine) : (s.mapEngine k f).streams = s.streams := rfl
@[simp] theorem State.mapEngine_buf (k : Nat) (f : Engine → Engine) : (s.mapEngine k f).buf = s.buf := rfl
@[simp] theorem State.mapEngine_sched (k : Nat) (f : Engine → Engine) : (s.mapEngine k f).sched = s.sched := rfl
@[simp] theorem State.mapEngine_fabric (k : Nat) (f : Engine → Engine) : (s.mapEngine k f).fabric = s.fabric := rfl
@[simp] theorem State.mapEngine_lanes (k : Nat) (f : Engine → Engine) : (s.mapEngine k f).lanes = s.lanes := rfl
@[simp] theorem State.mapEngine_lines (k : Nat) (f : Engine → Engine) : (s.mapEngine k f).lines = s.lines := rfl
@[simp] theorem State.mapEngine_survey (k : Nat) (f : Engine → Engine) : (s.mapEngine k f).survey = s.survey := rfl
@[simp] theorem State.mapEngine_update (k : Nat) (f : Engine → Engine) : (s.mapEngine k f).update = s.update := rfl
@[simp] theorem State.mapEngine_outbox (k : Nat) (f : Engine → Engine) : (s.mapEngine k f).outbox = s.outbox := rfl
@[simp] theorem State.mapEngine_freeCtr (k : Nat) (f : Engine → Engine) : (s.mapEngine k f).freeCtr = s.freeCtr := rfl
@[simp] theorem State.mapEngine_pending (k : Nat) (f : Engine → Engine) : (s.mapEngine k f).pending = s.pending := rfl
@[simp] theorem State.mapEngine_msi (k : Nat) (f : Engine → Engine) : (s.mapEngine k f).msi = s.msi := rfl

/-! ### The field that an update sets -/

@[simp] theorem State.setPair_pair (x : Pair) : (s.setPair x).pair = x := rfl
@[simp] theorem State.setTables_tables (x : Tables) : (s.setTables x).tables = x := rfl
@[simp] theorem State.out_outbox (o : Output) : (s.out o).outbox = o :: s.outbox := rfl
/-- A message of a vector leaves while MSI-X is on and the vector is not masked. -/
theorem State.msix_open (v : Nat) (h : s.msi.on = true) (hm : s.msi.masked v = false) : s.msix v = s.out (.msix v) := by
  simp [State.msix, h, hm]
@[simp] theorem State.fresh_freeCtr : s.fresh.2.freeCtr = s.freeCtr + 1 := rfl
@[simp] theorem State.setSlot_slots (i : Nat) (j : JSlot) : (s.setSlot i j).dict.slots = s.dict.slots.set i j := rfl
@[simp] theorem State.mapSess_sess (f : Session → Session) : (s.mapSess f).update.sess = f s.update.sess := rfl
@[simp] theorem State.mapChan_chans (k : Nat) (f : Chan → Chan) : (s.mapChan k f).pcie.chans = modAt s.pcie.chans k f := rfl
@[simp] theorem State.mapEngine_engines (k : Nat) (f : Engine → Engine) : (s.mapEngine k f).pcie.engines = modAt s.pcie.engines k f := rfl
@[simp] theorem State.setLane_lanes (x : FLane) : (s.setLane x).lanes = s.lanes.filter (fun y => y.num != x.num) ++ [x] := rfl
@[simp] theorem State.setPort_ports (x : Port) : (s.setPort x).lines.ports = s.lines.ports.filter (fun y => y.num != x.num) ++ [x] := rfl
@[simp] theorem State.setPort_stamps (x : Port) : (s.setPort x).lines.stamps = s.lines.stamps := rfl
@[simp] theorem State.setSerdes_serdes (x : Serdes) : (s.setSerdes x).lines.serdes = s.lines.serdes.filter (fun y => y.code != x.code) ++ [x] := rfl
@[simp] theorem State.setSerdes_stamps (x : Serdes) : (s.setSerdes x).lines.stamps = s.lines.stamps := rfl
@[simp] theorem State.setQue_ques (x : Que) : (s.setQue x).sched.ques = insertQue x s.sched.ques := rfl

end Sys2Proof.Machine
end

