-- ==== Sys2Proof/Laws/Paths.lean ====
section
/-! SUPPORT. A request on a path that is ready is served at once; a WRITE that passes its checks has its object's effect. -/

namespace Sys2Proof.Machine

variable (s : State)

theorem getD_none_set {α : Type} (l : List (Option α)) (i : Nat) (x : α) (h : l.getD i none = some x) :
    l.set i (some x) = l := by
  have hi : l[i]? = some (some x) := by
    rw [List.getD_eq_getElem?_getD] at h
    cases hl : l[i]? with
    | none => simp [hl] at h
    | some y => simpa [hl] using h
  apply List.ext_getElem?
  intro j
  by_cases hj : i = j
  · subst hj
    rw [hi]
    have hlt : i < l.length := by
      by_contra hc
      rw [List.getElem?_eq_none (by omega)] at hi
      cases hi
    simp [hlt]
  · simp [List.getElem?_set_ne hj]

/-- The queue of a POP slot set is its session's. -/
theorem State.setQueue_pop (i : Fin 4) (l : List Req) (x : PopSess) (h : s.popSess i.val = some x) :
    s.setQueue (.pop i) l = s.setSess i.val { x with queue := l } := by
  show (match s.popSess i.val with
    | some z => s.setSess i.val { z with queue := l }
    | none => s) = _
  rw [h]

/-- A path that holds no request holds none after its queue is emptied. -/
theorem setQueue_twice (p : Path) (hp : p ≠ .mailbox) (r : Req) (h : s.pathQueue p = []) (ho : s.pathOpen p = true) :
    (s.setQueue p [r]).setQueue p [] = s ∧ (s.setQueue p [r]).pathQueue p = [r] := by
  cases p with
  | mailbox => exact absurd rfl hp
  | i3c =>
    constructor
    · have : s.dict.i3c.queue = [] := h
      simp only [State.setQueue]
      rw [← this]
    · rfl
  | pop i =>
    simp only [State.pathOpen] at ho
    cases hx : s.popSess i.val with
    | none => simp [hx] at ho
    | some x =>
      have hq : x.queue = [] := by simpa [State.pathQueue, hx] using h
      have hl : i.val < s.dict.pop.sess.length := by
        by_contra hc
        simp [State.popSess, List.getD_eq_getElem?_getD, List.getElem?_eq_none (Nat.le_of_not_lt hc)] at hx
      have hg : ∀ y : PopSess, (s.setSess i.val y).popSess i.val = some y := by
        intro y; simp [State.setSess, State.popSess, hl]
      rw [State.setQueue_pop s i [r] x hx]
      constructor
      · rw [State.setQueue_pop _ i [] _ (hg _)]
        have hxx : ({ x with queue := [] } : PopSess) = x := by rw [← hq]
        show (s.setSess i.val { x with queue := [r] }).setSess i.val { x with queue := [] } = s
        rw [hxx]
        simp only [State.setSess, List.set_set, getD_none_set _ _ _ hx]
      · show (((s.setSess i.val { x with queue := [r] }).popSess i.val).map (·.queue)).getD [] = [r]
        rw [hg]; rfl

/-! ### Turns (R42) -/

/-- The place of a number below four in a rotation that starts anywhere. -/
theorem turn_place (r g : Nat) (hg : g < 4) : (g + 4 - r % 4) % 4 < 4 ∧ (r + (g + 4 - r % 4) % 4) % 4 = g := by omega

/-- A group that has something to serve, with nothing to serve in the groups before it, has the next turn. -/
theorem State.nextTurn_first (g : Nat) (x : Turn) (hg : g < 4) (h1 : s.serves = true)
    (hb : ∀ k < (g + 4 - s.dict.rot % 4) % 4, s.groupTurn ((s.dict.rot + k) % 4) = none)
    (hx : s.groupTurn g = some x) : s.nextTurn = some (g, x) := by
  obtain ⟨hk, he⟩ := turn_place s.dict.rot g hg
  unfold State.nextTurn
  simp only [h1, not_true_eq_false, if_false]
  generalize (g + 4 - s.dict.rot % 4) % 4 = k at hb hk he
  interval_cases k
  · rw [Nat.add_zero] at he
    simp [he, hx]
  · have b0 := hb 0 (by omega)
    simp only [Nat.add_zero] at b0
    simp [b0, he, hx]
  · have b0 := hb 0 (by omega)
    simp only [Nat.add_zero] at b0
    simp [b0, hb 1 (by omega), he, hx]
  · have b0 := hb 0 (by omega)
    simp only [Nat.add_zero] at b0
    simp [b0, hb 1 (by omega), hb 2 (by omega), he, hx]

/-- A POP slot whose head may be served, with no such slot before it, has the turn of its group. -/
theorem State.popTurn_first (i : Fin 4) (hr : s.headReady (.pop i) = true)
    (hb : ∀ k < (i.val + 4 - s.dict.rotPop % 4) % 4, s.headReady (.pop (Fin.ofNat 4 (s.dict.rotPop + k))) = false) :
    s.popTurn = some i := by
  obtain ⟨hk, he⟩ := turn_place s.dict.rotPop i.val i.isLt
  have e : Fin.ofNat 4 (s.dict.rotPop + (i.val + 4 - s.dict.rotPop % 4) % 4) = i := Fin.ext he
  unfold State.popTurn
  generalize (i.val + 4 - s.dict.rotPop % 4) % 4 = k at hb hk e
  interval_cases k
  · simp only [List.map_cons, List.find?_cons, e, hr]
  · simp only [List.map_cons, List.find?_cons, hb 0 (by omega), e, hr]
  · simp only [List.map_cons, List.find?_cons, hb 0 (by omega), hb 1 (by omega), e, hr]
  · simp only [List.map_cons, List.find?_cons, hb 0 (by omega), hb 1 (by omega), hb 2 (by omega), e, hr]

/-- A state that differs from one whose turn comes to a path only in that path's head being ready serves that path next. -/
theorem State.nextTurn_arrived (u : State) (p : Path) (h1 : u.serves = true) (ht : s.turnTo p = true)
    (hr : u.headReady p = true) (hq : ∀ q, q ≠ p → u.headReady q = s.headReady q) (hs : u.stepTurn = s.stepTurn)
    (hrot : u.dict.rot = s.dict.rot) (hpop : u.dict.rotPop = s.dict.rotPop) : u.nextTurn = some (turnGroup p, .path p) := by
  unfold State.turnTo at ht
  obtain ⟨t1, t2⟩ := Bool.and_eq_true_iff.1 ht
  have hg : turnGroup p < 4 := by cases p <;> simp [turnGroup]
  have hpt : (∀ i, p ≠ .pop i) → u.popTurn = s.popTurn := by
    intro hn
    unfold State.popTurn
    rw [hpop]
    congr 1
    funext i
    exact hq _ (fun e => hn i e.symm)
  refine State.nextTurn_first u _ _ hg h1 (fun k hk => ?_) ?_
  · rw [hrot] at hk ⊢
    have hn : s.groupTurn ((s.dict.rot + k) % 4) = none := by
      have := (List.all_eq_true.1 t1) k (List.mem_range.2 hk)
      exact Option.isNone_iff_eq_none.1 this
    have hne : (s.dict.rot + k) % 4 ≠ turnGroup p := by
      have := turn_place s.dict.rot _ hg
      omega
    rw [← hn]
    have hlt : (s.dict.rot + k) % 4 < 4 := Nat.mod_lt _ (by omega)
    generalize (s.dict.rot + k) % 4 = g at hne hlt
    interval_cases g
    · simp only [State.groupTurn]
      rw [hq .i3c (by rintro rfl; exact hne rfl)]
    · simp only [State.groupTurn]
      rw [hq .mailbox (by rintro rfl; exact hne rfl)]
    · simp only [State.groupTurn]
      rw [hpt (by rintro i rfl; exact hne rfl)]
    · simp only [State.groupTurn]
      rw [hs]
  · cases p with
    | i3c => simp [turnGroup, State.groupTurn, hr]
    | mailbox => simp [turnGroup, State.groupTurn, hr]
    | pop i =>
      have : u.popTurn = some i := by
        refine State.popTurn_first u i hr (fun k hk => ?_)
        rw [hpop] at hk ⊢
        have hk4 := turn_place s.dict.rotPop i.val i.isLt
        have hne : Fin.ofNat 4 (s.dict.rotPop + k) ≠ i := by
          intro e
          have := congrArg Fin.val e
          simp only [Fin.ofNat] at this
          omega
        rw [hq _ (fun e => hne (by injection e))]
        have := (List.all_eq_true.1 t2) k (List.mem_range.2 hk)
        simpa using this
      simp [turnGroup, State.groupTurn, this]

/-- A path that has the next turn has its head served when the rotation is carried on to it. -/
theorem State.carryTo_next (p : Path) (hn : s.nextTurn = some (turnGroup p, .path p)) (hp : s.headReady p = true) :
    s.carryTo p 16 = s.takeTurn (turnGroup p) (.path p) none := by
  simp [State.carryTo, hn, hp]

/-- A chunk waits for the writes of the device record that are pending (R621); no other request on a ready path waits. -/
abbrev State.noChunk (op idx sub : Nat) : Prop :=
  s.record.dirty = false ∨ op % 256 ≠ 2 ∨ idx % 65536 ≠ 0x9000 ∨ sub % 256 ≠ 2

/-- A request on a ready path is served at once. -/
theorem State.request_ready (p : Path) (op tag idx sub : Nat) (val : List Byte) (h : s.Ready p)
    (hch : s.noChunk op idx sub) :
    s.request p op tag idx sub val = (s.begun p).serve (s.reqOn p op tag idx sub val) := by
  obtain ⟨h1, h2, h3, h4, h5, h6, h7, h8, -⟩ := h
  have hs : s.dev.tmStopped = false := by
    unfold State.serves at h1; cases hh : s.dev.tmStopped <;> simp_all
  have hb : s.dev.st ≠ .boot := by
    intro e; simp [State.serves, e] at h1
  generalize hr : s.reqOn p op tag idx sub val = r
  have hmk : s.mkReq p 0 op tag idx sub val none none = r := hr
  have hbl : ∀ u : State, u.dict.deferred = [] → u.tx.waits = [] → u.record.dirty = s.record.dirty →
      u.blocked r = false := by
    intro u a b c
    subst hr
    unfold State.blocked State.reqOn State.mkReq
    simp only [a, b, c, List.any_nil, Bool.false_or, Bool.and_false, Bool.or_false, List.isEmpty_nil, Bool.not_true]
    rcases hch with e | e | e | e <;> simp [e]
  unfold State.request
  simp only [hmk, hs, h2, h3, h4, h1, List.isEmpty_nil, Bool.and_true, hb]
  by_cases hp : p = .mailbox
  · subst hp
    obtain ⟨hm, hbusy⟩ := h5 rfl
    have hq : s.dict.mbx.req = none := by
      cases hr : s.dict.mbx.req with
      | none => rfl
      | some r => simp [State.pathQueue, hr] at h4
    generalize hu : s.mailboxTake r = u
    have hu' : u = { s with dict := { s.dict with mbx := { s.dict.mbx with busy := true, req := some r } } } := by
      rw [← hu]; simp [State.mailboxTake, hbusy, hb]
    have ready : u.headReady .mailbox = true := by
      have : u.blocked r = false := hbl u (by rw [hu']; exact h6) (by rw [hu']; exact h7) (by rw [hu'])
      have hq' : u.pathQueue .mailbox = [r] := by rw [hu']; rfl
      simp [State.headReady, hq', this]
    have other : ∀ q, q ≠ .mailbox → u.headReady q = s.headReady q := by
      intro q hq
      cases q with
      | mailbox => exact absurd rfl hq
      | i3c => rw [hu']; rfl
      | pop i => rw [hu']; rfl
    have hsv : u.serves = true := by rw [hu']; exact h1
    have next : u.nextTurn = some (turnGroup .mailbox, .path .mailbox) :=
      State.nextTurn_arrived s u .mailbox hsv h8 ready other (by rw [hu']; rfl) (by rw [hu']) (by rw [hu'])
    simp only [hm]
    simp only [not_true_eq_false, and_false, if_false, Bool.false_eq_true, or_false, if_true]
    rw [State.carryTo_next u .mailbox next ready, hu']
    simp only [State.takeTurn, turnGroup, State.serveHead, State.pathQueue]
    refine (if_neg ?_).trans ?_
    · rw [hbl]
      · simp
      · exact h6
      · exact h7
      · rfl
    · simp [State.setQueue, State.begun]
  · have hu : s.pathFull p = none := by
      cases p with
      | mailbox => exact absurd rfl hp
      | i3c => simp [State.pathFull, State.unanswered, h4, h6, h7]
      | pop i => simp [State.pathFull, State.unanswered, h4, h6, h7]
    have ha : s.arrive r = s.setQueue p [r] := by
      have hpath : r.path = p := by rw [← hr]; rfl
      simp only [State.arrive, hpath, hu, h4, List.nil_append]
    simp only [hp, false_and, Bool.false_eq_true, not_true_eq_false, or_false, if_false, if_true, ha]
    obtain ⟨g1, g2⟩ := setQueue_twice s p hp r h4 h3
    generalize hv : s.setQueue p [r] = v at g1 g2
    have hkeep : v.dict.deferred = s.dict.deferred ∧ v.tx = s.tx ∧ v.record = s.record ∧ v.dev = s.dev ∧
        v.faults = s.faults ∧ v.stepTurn = s.stepTurn ∧ v.dict.rot = s.dict.rot ∧ v.dict.rotPop = s.dict.rotPop ∧ (∀ q, q ≠ p → v.headReady q = s.headReady q) := by
      rw [← hv]
      cases p with
      | mailbox => exact absurd rfl hp
      | i3c =>
        refine ⟨rfl, rfl, rfl, rfl, rfl, rfl, rfl, rfl, fun q hq => ?_⟩
        cases q with
        | i3c => exact absurd rfl hq
        | mailbox => rfl
        | pop j => rfl
      | pop i =>
        cases hx : s.popSess i.val with
        | none => simp [State.pathOpen, hx] at h3
        | some x =>
          rw [State.setQueue_pop s i [r] x hx]
          refine ⟨rfl, rfl, rfl, rfl, rfl, rfl, rfl, rfl, fun q hq => ?_⟩
          cases q with
          | i3c => rfl
          | mailbox => rfl
          | pop j =>
            have hij : i.val ≠ j.val := fun e => hq (by rw [Fin.ext e])
            have hj : (s.setSess i.val { x with queue := [r] }).popSess j.val = s.popSess j.val := by
              simp [State.setSess, State.popSess, List.getD_eq_getElem?_getD, List.getElem?_set_ne hij]
            unfold State.headReady State.pathQueue
            simp only [hj]
            rfl
    obtain ⟨k1, k2, k3, k4, k5, k6, k8, k9, k7⟩ := hkeep
    have hsv : v.serves = true := by simpa only [State.serves, k4, k5] using h1
    have hbv : v.blocked r = false := hbl v (k1.trans h6) (by rw [k2]; exact h7) (by rw [k3])
    have ready : v.headReady p = true := by simp [State.headReady, g2, hbv]
    rw [State.carryTo_next v p (State.nextTurn_arrived s v p hsv h8 ready k7 k6 k8 k9) ready]
    cases p with
    | mailbox => exact absurd rfl hp
    | i3c =>
      have e1 : ∀ w : State, w = { v with dict := { v.dict with rot := 1 } } →
          w.serveHead .i3c = (s.begun .i3c).serve r := by
        rintro w rfl
        unfold State.serveHead
        rw [show ({ v with dict := { v.dict with rot := 1 } } : State).pathQueue .i3c = [r] from g2]
        refine (if_neg ?_).trans ?_
        · rw [hbl]
          · simp
          · exact k1.trans h6
          · rw [k2]; exact h7
          · show v.record.dirty = _
            rw [k3]
        · congr 1
          rw [← g1]
          rfl
      exact e1 _ rfl
    | pop i =>
      have e1 : ∀ w : State, w = { v with dict := { v.dict with rot := 3, rotPop := (i.val + 1) % 4 } } →
          w.serveHead (.pop i) = (s.begun (.pop i)).serve r := by
        rintro w rfl
        unfold State.serveHead
        rw [show ({ v with dict := { v.dict with rot := 3, rotPop := (i.val + 1) % 4 } } : State).pathQueue (.pop i) = [r]
          from g2]
        refine (if_neg ?_).trans ?_
        · rw [hbl]
          · simp
          · exact k1.trans h6
          · rw [k2]; exact h7
          · show v.record.dirty = _
            rw [k3]
        · congr 1
          rw [← g1]
          cases hx : v.popSess i.val with
          | none => simp [State.pathQueue, hx] at g2
          | some x =>
            rw [State.setQueue_pop v i [] x hx]
            exact State.setQueue_pop _ i [] x hx
      exact e1 _ rfl

/-! ### A WRITE that passes its checks -/

/-- The lock of the update session has not run out. -/
theorem State.lockExpiry_live (h : s.update.sess.holder = 0 ∨ s.clock.now < s.update.sess.lastReq + 60 * Config.sec) :
    s.lockExpiry = s := by
  unfold State.lockExpiry
  have : ¬ (s.update.sess.holder ≠ 0 ∧ s.update.sess.lastReq + 60 * Config.sec ≤ s.clock.now) := by
    rintro ⟨h1, h2⟩
    exact h.elim h1 (fun h3 => absurd h2 (Nat.not_le.2 h3))
  simp only [if_neg this]

/-- A well-formed WRITE on a defined object reaches the object. -/
theorem State.serveReq_write (r : Req) (d : ObjDesc)
    (hl : s.update.sess.holder = 0 ∨ s.clock.now < s.update.sess.lastReq + 60 * Config.sec) (hop : r.op = 2)
    (hr : r.refuse = none) (hb : r.bad = none) (h9 : r.idx ≠ 0x9000) (ht : (objTop r.idx).isSome = true)
    (hd : objDesc r.idx r.sub = some d) : s.serveReq r = s.serveObject d r := by
  unfold State.serveReq
  rw [State.lockExpiry_live s hl, hr, hb]
  have hn : s.noteHolder r = s := by simp [State.noteHolder, h9]
  have hf : findObject r.idx r.sub = .inl d := by
    have ht' : (objTop r.idx).isNone = false := by
      cases h : objTop r.idx with
      | none => simp [h] at ht
      | some x => rfl
    simp [findObject, ht', hd]
  simp only [hop, hn, hf]
  rfl

/-- A WRITE whose access, role and value are good goes to its object's kind of write. -/
theorem State.serveObject_write (r : Req) (d : ObjDesc) (hop : r.op = 2) (ha : d.acc ≠ 1) (hrole : d.role ≤ r.role)
    (hC : r.idx ≠ 0xC000) (hv : s.valueFault d r.idx r.sub r.val = none) : s.serveObject d r = s.serveWrite d r := by
  have hf : s.accessFault d r = none := by
    have : ¬ r.role < d.role := by omega
    simp [State.accessFault, hop, ha, firstFault, refuseIf, this, hC]
  unfold State.serveObject
  rw [hf, hv]
  simp [hop]

/-- A WRITE of a plain object that is done at once: its effect. -/
theorem State.serveWrite_done (r : Req) (d : ObjDesc) (h5 : d.acc ≠ 5) (h4 : r.idx ≠ 0x4501) (h9 : r.idx ≠ 0x9000)
    (hC : r.idx ≠ 0xC000) (hd : s.devFault d r.idx r.sub = none) (hs : s.stateFault r.idx r.sub (leNat r.val) = none)
    (hx : (s.applyWrite r.requester r.idx r.sub (leNat r.val)).afterFault r.idx r.sub = none)
    (hw : waitsForFlash r.idx r.sub = false) :
    s.serveWrite d r = (s.applyWrite r.requester r.idx r.sub (leNat r.val), .done []) := by
  simp only [State.serveWrite, h5, h4, h9, hC, State.plainWrite, hd, hs, Option.or_none]
  simp [hx, hw]

/-- A WRITE of a persistent object that waits for flash: its effect, and its place among the writes that wait. -/
theorem State.serveWrite_later (r : Req) (d : ObjDesc) (h5 : d.acc ≠ 5) (h4 : r.idx ≠ 0x4501) (h9 : r.idx ≠ 0x9000)
    (hC : r.idx ≠ 0xC000) (hd : s.devFault d r.idx r.sub = none) (hs : s.stateFault r.idx r.sub (leNat r.val) = none)
    (hx : (s.applyWrite r.requester r.idx r.sub (leNat r.val)).afterFault r.idx r.sub = none)
    (hw : waitsForFlash r.idx r.sub = true) (hdiv : s.record.divergent = false) :
    s.serveWrite d r = ((s.applyWrite r.requester r.idx r.sub (leNat r.val)).defer r (s.valueBytes r.idx r.sub) r.val false [0],
      .later) := by
  simp only [State.serveWrite, h5, h4, h9, hC, State.plainWrite, hd, hs, Option.or_none]
  simp [hx, hw, hdiv]

/-- What a WRITE that passes the checks of R702 has passed. -/
theorem State.admits_iff (p : Path) (idx sub : Nat) (val : List Byte) (d : ObjDesc) (hd : objDesc idx sub = some d) :
    s.admits p idx sub val = true ↔ d.acc ≠ 1 ∧ d.role ≤ s.roleOf p ∧ s.valueFault d idx sub val = none ∧
      s.devFault d idx sub = none ∧ s.stateFault idx sub (leNat val) = none := by
  unfold State.admits
  rw [hd]
  simp [Option.isNone_iff_eq_none, and_assoc]

theorem State.begun_sess (p : Path) : (s.begun p).update = s.update := by cases p <;> rfl
theorem State.begun_clock (p : Path) : (s.begun p).clock = s.clock := by cases p <;> rfl
theorem State.begun_record (p : Path) : (s.begun p).record = s.record := by cases p <;> rfl
theorem State.begun_roleOf (p q : Path) : (s.begun p).roleOf q = s.roleOf q := by cases p <;> cases q <;> rfl

/-- A dictionary WRITE of a plain object that is done at once. -/
theorem State.at_write_done {t : Tick} {p : Path} {tag idx sub : Nat} {val : List Byte} {d : ObjDesc} {f : State → State}
    (hr : (s.tick t).Ready p) (hi : idx < 65536) (hsub : sub < 256) (h9 : idx ≠ 0x9000) (h4 : idx ≠ 0x4501)
    (hC : idx ≠ 0xC000) (hk : idx ≠ 0x2021) (hd : objDesc idx sub = some d) (ht : (objTop idx).isSome = true)
    (h5 : d.acc ≠ 5) (ha : ((s.tick t).begun p).admits p idx sub val = true)
    (hf : ((s.tick t).begun p).applyWrite ((s.tick t).requesterOf p) idx sub (leNat val) = f ((s.tick t).begun p))
    (hx : (f ((s.tick t).begun p)).afterFault idx sub = none) (hw : waitsForFlash idx sub = false) :
    s.at_ t (fun s => s.request p 2 tag idx sub val) = s.writeDone t p tag idx sub val f := by
  obtain ⟨a1, a2, a3, a4, a5⟩ := (State.admits_iff _ p idx sub val d hd).1 ha
  have ei : idx % 65536 = idx := Nat.mod_eq_of_lt hi
  have es : sub % 256 = sub := Nat.mod_eq_of_lt hsub
  have hl := hr.2.2.2.2.2.2.2.2
  rw [State.begun_roleOf] at a2
  unfold State.at_ State.writeDone
  show ((s.tick t).request p 2 tag idx sub val).settle = _
  rw [State.request_ready _ p 2 tag idx sub val hr (Or.inr (Or.inr (Or.inl (by rw [ei]; exact h9))))]
  generalize hu : (s.tick t).begun p = u at *
  have hl' : u.update.sess.holder = 0 ∨ u.clock.now < u.update.sess.lastReq + 60 * Config.sec := by
    rw [← hu, State.begun_sess, State.begun_clock]; exact hl
  generalize hreq : (s.tick t).reqOn p 2 tag idx sub val = r
  have r1 : r.op = 2 := by rw [← hreq]; rfl
  have r2 : r.refuse = none := by rw [← hreq]; rfl
  have r3 : r.bad = none := by rw [← hreq]; rfl
  have r4 : r.idx = idx := by rw [← hreq]; exact ei
  have r5 : r.sub = sub := by rw [← hreq]; exact es
  have r6 : r.val = val := by rw [← hreq]; rfl
  have r7 : r.role = (s.tick t).roleOf p := by rw [← hreq]; rfl
  have r8 : r.requester = (s.tick t).requesterOf p := by rw [← hreq]; rfl
  have e1 : u.serveReq r = (f u, .done []) := by
    rw [State.serveReq_write u r d hl' r1 r2 r3 (by rw [r4]; exact h9) (by rw [r4]; exact ht) (by rw [r4, r5]; exact hd),
      State.serveObject_write u r d r1 a1 (by rw [r7]; exact a2) (by rw [r4]; exact hC) (by rw [r4, r5, r6]; exact a3),
      State.serveWrite_done u r d h5 (by rw [r4]; exact h4) (by rw [r4]; exact h9) (by rw [r4]; exact hC)
        (by rw [r4, r5]; exact a4) (by rw [r4, r5, r6]; exact a5) (by rw [r4, r5, r6, r8, hf]; exact hx)
        (by rw [r4, r5]; exact hw), r4, r5, r6, r8, hf]
  unfold State.serve
  rw [e1]
  simp [State.keyAnswered, r1, r4, hk]

/-- A dictionary WRITE of a plain object whose answer waits for flash. -/
theorem State.at_write_later {t : Tick} {p : Path} {tag idx sub : Nat} {val : List Byte} {d : ObjDesc} {f : State → State}
    (hr : (s.tick t).Ready p) (hi : idx < 65536) (hsub : sub < 256) (h9 : idx ≠ 0x9000) (h4 : idx ≠ 0x4501)
    (hC : idx ≠ 0xC000) (hd : objDesc idx sub = some d) (ht : (objTop idx).isSome = true)
    (h5 : d.acc ≠ 5) (ha : ((s.tick t).begun p).admits p idx sub val = true)
    (hf : ((s.tick t).begun p).applyWrite ((s.tick t).requesterOf p) idx sub (leNat val) = f ((s.tick t).begun p))
    (hx : (f ((s.tick t).begun p)).afterFault idx sub = none) (hw : waitsForFlash idx sub = true)
    (hdiv : (s.tick t).record.divergent = false) :
    s.at_ t (fun s => s.request p 2 tag idx sub val) = s.writeLater t p tag idx sub val false [0] f := by
  obtain ⟨a1, a2, a3, a4, a5⟩ := (State.admits_iff _ p idx sub val d hd).1 ha
  have ei : idx % 65536 = idx := Nat.mod_eq_of_lt hi
  have es : sub % 256 = sub := Nat.mod_eq_of_lt hsub
  have hl := hr.2.2.2.2.2.2.2.2
  rw [State.begun_roleOf] at a2
  unfold State.at_ State.writeLater
  show ((s.tick t).request p 2 tag idx sub val).settle = _
  rw [State.request_ready _ p 2 tag idx sub val hr (Or.inr (Or.inr (Or.inl (by rw [ei]; exact h9))))]
  generalize hu : (s.tick t).begun p = u at *
  have hl' : u.update.sess.holder = 0 ∨ u.clock.now < u.update.sess.lastReq + 60 * Config.sec := by
    rw [← hu, State.begun_sess, State.begun_clock]; exact hl
  generalize hreq : (s.tick t).reqOn p 2 tag idx sub val = r
  have r1 : r.op = 2 := by rw [← hreq]; rfl
  have r2 : r.refuse = none := by rw [← hreq]; rfl
  have r3 : r.bad = none := by rw [← hreq]; rfl
  have r4 : r.idx = idx := by rw [← hreq]; exact ei
  have r5 : r.sub = sub := by rw [← hreq]; exact es
  have r6 : r.val = val := by rw [← hreq]; rfl
  have r7 : r.role = (s.tick t).roleOf p := by rw [← hreq]; rfl
  have r8 : r.requester = (s.tick t).requesterOf p := by rw [← hreq]; rfl
  have hdv : u.record.divergent = false := by rw [← hu, State.begun_record]; exact hdiv
  have e1 : u.serveReq r = ((f u).defer r (u.valueBytes idx sub) val false [0], .later) := by
    rw [State.serveReq_write u r d hl' r1 r2 r3 (by rw [r4]; exact h9) (by rw [r4]; exact ht) (by rw [r4, r5]; exact hd),
      State.serveObject_write u r d r1 a1 (by rw [r7]; exact a2) (by rw [r4]; exact hC) (by rw [r4, r5, r6]; exact a3),
      State.serveWrite_later u r d h5 (by rw [r4]; exact h4) (by rw [r4]; exact h9) (by rw [r4]; exact hC)
        (by rw [r4, r5]; exact a4) (by rw [r4, r5, r6]; exact a5) (by rw [r4, r5, r6, r8, hf]; exact hx)
        (by rw [r4, r5]; exact hw) hdv, r4, r5, r6, r8, hf]
  unfold State.serve
  rw [e1]

end Sys2Proof.Machine
end

