-- ==== Sys2Proof/Laws/Pools.lean ====
section
/-! SUPPORT. Laws of the allocator: what a grant holds, and when a request answers EMPTY (R268, R269, R531, R552). -/

namespace Sys2Proof.Machine

/-- What the allocator picks is free. -/
theorem takeFree_free {taken : Nat → Bool} {lo hi x : Nat} :
    ∀ {fuel need cur : Nat}, x ∈ takeFree taken lo hi fuel need cur → taken x = false
  | 0, _, _, h => by simp [takeFree] at h
  | fuel + 1, need, cur, h => by
    unfold takeFree at h
    by_cases hn : need = 0
    · simp [hn] at h
    · simp only [hn, if_false] at h
      split at h
      · exact takeFree_free h
      · rcases List.mem_cons.1 h with rfl | h
        · simpa using ‹¬ taken _ = true›
        · exact takeFree_free h

/-- Where nothing is free the allocator picks nothing. -/
theorem takeFree_allTaken {taken : Nat → Bool} (h : ∀ x, taken x = true) (lo hi fuel need cur : Nat) :
    takeFree taken lo hi fuel need cur = [] :=
  List.eq_nil_iff_forall_not_mem.2 fun x hx => by simpa [h x] using takeFree_free hx

/-- A request is granted whole, of units that are free, or answered EMPTY and counted (R268, R269). -/
theorem State.grantUnits_cases (s : State) (kind lo hi n : Nat) :
    (∃ l, s.grantUnits kind lo hi n = (some l, s.fresh.2) ∧ l.length = n ∧
      ∀ x ∈ l, s.unitTaken kind (s.buf.usedNums kind) x = false) ∨
    s.grantUnits kind lo hi n = (none, s.bump 0x5001 3) := by
  unfold State.grantUnits
  dsimp only
  split
  · exact .inr rfl
  · exact .inl ⟨_, rfl, by simp_all, fun x hx => takeFree_free hx⟩

/-- While the controllers of all four HBM stacks are out of service no block is granted (R552). -/
theorem State.grantUnits_ctlOut {s : State} (h : ∀ i < 4, s.ctlOut (19 + i) = true) (lo hi : Nat) {n : Nat} (hn : n ≠ 0) :
    s.grantUnits 1 lo hi n = (none, s.bump 0x5001 3) := by
  rcases s.grantUnits_cases 1 lo hi n with ⟨l, -, hl, hf⟩ | h
  · obtain ⟨x, hx⟩ := List.exists_mem_of_length_pos (l := l) (by omega)
    simpa [State.unitTaken, h (x % 128 / 32) (by omega)] using hf x hx
  · exact h

end Sys2Proof.Machine
end

