-- ==== Sys2Proof/Laws/Settle.lean ====
section
/-! SUPPORT. What follows from a command on a calm part, and that entering a device state changes nothing that the device
state is derived from. -/

namespace Sys2Proof.Machine

variable (s : State)

@[simp] theorem State.enter_st (d : DevState) : (s.enter d).dev.st = d := by
  unfold State.enter; split <;> simp_all

@[simp] theorem State.enter_degraded (d : DevState) : (s.enter d).degraded = s.degraded := by
  unfold State.enter; split <;> rfl

@[simp] theorem State.enter_pairDev (d : DevState) (b : Bool) : (s.enter d).pairDev b = s.pairDev b := by
  unfold State.enter; split <;> rfl

@[simp] theorem State.enter_claimHead (d : DevState) : (s.enter d).claimHead = s.claimHead := by
  unfold State.enter; split <;> rfl

@[simp] theorem State.enter_self : s.enter s.dev.st = s := by unfold State.enter; simp

@[simp] theorem State.enter_twice (d : DevState) : (s.enter d).enter d = s.enter d := by
  have h := State.enter_self (s.enter d)
  rwa [State.enter_st] at h

/-- The device states that the pair state calls for are those in service. -/
@[simp] theorem State.pairDev_inService (b : Bool) : (s.pairDev b).inService = true := by
  unfold State.pairDev; cases s.pair.st <;> cases b <;> cases s.pair.request <;> rfl

/-- An unpaired part in service is in RUN or DEGRADED. -/
theorem State.pairDev_unpaired (h : s.pair.st = .unpaired) (b : Bool) :
    s.pairDev b = if b then .degraded else .run := by unfold State.pairDev; rw [h]

/-- The words of the sideband change nothing but what each die has received. -/
theorem State.sideWords_eq : s.sideWords =
    { s with sbFe := s.sbFe.take s.permitSent s.tx.commit, sbTm := s.sbTm.take s.permitSent s.tx.commit } := rfl

@[simp] theorem Sideband.take_take (x : Sideband) (p : Bool) (c : Nat) : (x.take p c).take p c = x.take p c := by
  unfold Sideband.take; cases h : x.safe <;> simp [h]

@[simp] theorem State.sideWords_permitSent : s.sideWords.permitSent = s.permitSent := rfl
@[simp] theorem State.sideWords_twice : s.sideWords.sideWords = s.sideWords := by
  show { s.sideWords with
    sbFe := (s.sbFe.take s.permitSent s.tx.commit).take s.permitSent s.tx.commit
    sbTm := (s.sbTm.take s.permitSent s.tx.commit).take s.permitSent s.tx.commit } = _
  rw [Sideband.take_take, Sideband.take_take]; rfl
@[simp] theorem State.sideWords_dev : s.sideWords.dev = s.dev := rfl
@[simp] theorem State.sideWords_faults : s.sideWords.faults = s.faults := rfl
@[simp] theorem State.sideWords_flow : s.sideWords.flow = s.flow := rfl
@[simp] theorem State.sideWords_lines : s.sideWords.lines = s.lines := rfl
@[simp] theorem State.sideWords_lanes : s.sideWords.lanes = s.lanes := rfl
@[simp] theorem State.sideWords_sched : s.sideWords.sched = s.sched := rfl
@[simp] theorem State.sideWords_pair : s.sideWords.pair = s.pair := rfl
@[simp] theorem State.sideWords_tx : s.sideWords.tx = s.tx := rfl
@[simp] theorem State.sideWords_lane (n : Nat) : s.sideWords.lane n = s.lane n := rfl
@[simp] theorem State.sideWords_laneState (n : Nat) : s.sideWords.laneState n = s.laneState n := rfl
@[simp] theorem State.sideWords_degraded : s.sideWords.degraded = s.degraded := rfl
@[simp] theorem State.sideWords_pairDev (b : Bool) : s.sideWords.pairDev b = s.pairDev b := rfl
theorem State.sideWords_enter (d : DevState) (h : s.dev.st = d) : s.sideWords.enter d = s.sideWords := by
  subst h; exact State.enter_self s.sideWords

theorem State.devSync_idem : s.devSync.devSync = s.devSync := by
  unfold State.devSync
  split
  · rename_i h
    simp [State.sideWords_enter]
  · rename_i h
    simp [h]

@[simp] theorem State.enter_lane (d : DevState) (n : Nat) : (s.enter d).lane n = s.lane n := by
  unfold State.enter; split <;> rfl

@[simp] theorem State.enter_laneState (d : DevState) (n : Nat) : (s.enter d).laneState n = s.laneState n := by
  unfold State.enter; split <;> rfl

/-- What settling the device state leaves as it is. -/
theorem State.devSync_keeps : s.devSync.faults = s.faults ∧ s.devSync.flow = s.flow ∧ s.devSync.lines = s.lines ∧
    s.devSync.lanes = s.lanes ∧ s.devSync.pair = s.pair ∧ s.devSync.tx = s.tx ∧ s.devSync.sched = s.sched ∧
    (∀ n, s.devSync.lane n = s.lane n) ∧ (∀ n, s.devSync.laneState n = s.laneState n) := by
  unfold State.devSync
  split <;> simp

/-- With no containment called for, none is carried out. -/
theorem State.containAll_nil (h : s.faults.todo = []) (n : Nat) : s.containAll n = s := by
  cases n with
  | zero => rfl
  | succ n => simp [State.containAll, h]

/-- No path that has recovered and been acknowledged, no lane held: nothing to take back. -/
theorem State.pathSync_calm (h : ∀ p ∈ s.faults.paths, (p.recovered && p.acked) = false) (hl : s.faults.laneHolds = []) :
    s.pathSync = s := by
  have e : s.faults.paths.filter (fun p => !(p.recovered && p.acked)) = s.faults.paths :=
    List.filter_eq_self.2 (fun p hp => by simp [h p hp])
  have l : s.faults.laneHolds.filter (fun h => s.faults.isStanding h.1) = s.faults.laneHolds := by rw [hl]; rfl
  unfold State.pathSync; rw [e, l]

/-- No child with a deficit, none to take. -/
theorem State.deficitSync_calm (h : ∀ n ∈ s.sched.nodes, n.deficit = 0) : s.deficitSync = s := by
  have e : s.sched.nodes.filter (fun n => n.deficit != 0) = [] :=
    List.filter_eq_nil_iff.2 (fun n hn => by simp [h n hn])
  unfold State.deficitSync; rw [e]; rfl

theorem State.fltSync_calm (h : s.faults.fltHeld = false) : s.fltSync = s := by simp [State.fltSync, h]

theorem State.puntPurge_calm (h : s.flow.punts = []) : s.puntPurge = s := by simp [State.puntPurge, h]

theorem State.stampPurge_calm (h : s.lines.stamps = []) : s.stampPurge = s := by simp [State.stampPurge, h]

theorem State.syncCheck_unpaired (h : s.pair.st = .unpaired) : s.syncCheck = s := by simp [State.syncCheck, h]

theorem State.claimSync_unpaired (h : s.pair.st = .unpaired) : s.claimSync = s := by
  simp [State.claimSync, State.claimsRun, h]

@[simp] theorem State.tick_lane (t : Tick) (n : Nat) : (s.tick t).lane n = s.lane n := by
  unfold State.tick; split <;> rfl

@[simp] theorem State.tick_laneState (t : Tick) (n : Nat) : (s.tick t).laneState n = s.laneState n := by
  unfold State.tick; split <;> rfl

/-- A lane that has neither left nor reached USABLE unseen is left as it is. -/
theorem State.laneLook_calm (n : Nat) (h : if (s.lane n).up then s.laneState n ≠ 1 else s.laneState n ≠ 0) :
    s.laneLook n = s := by
  unfold State.laneLook
  cases hu : (s.lane n).up <;> simp_all

/-- With every listed lane seen as it stands, none is counted. -/
theorem State.laneWatch_calm
    (h : ∀ l ∈ s.lanes, l.num < 160 → if (s.lane l.num).up then s.laneState l.num ≠ 1 else s.laneState l.num ≠ 0) :
    s.laneWatch = s := by
  have key : ∀ ns : List Nat, (∀ n ∈ ns, s.laneLook n = s) → ns.foldl State.laneLook s = s := by
    intro ns
    induction ns with
    | nil => intro _; rfl
    | cons n ns ih =>
      intro hn
      rw [List.foldl_cons, hn n (by simp)]
      exact ih (fun m hm => hn m (by simp [hm]))
  refine key _ (fun n hn => ?_)
  obtain ⟨hm, hlt⟩ := List.mem_filter.1 hn
  obtain ⟨l, hl, rfl⟩ := List.mem_map.1 hm
  exact State.laneLook_calm s _ (h l hl (by simpa using hlt))

/-- A state in which no transaction ends by the device state: neither SYNC nor HANDOVER, and none is held in HALT. -/
theorem State.endByState_calm (h1 : s.dev.st ≠ .sync) (h2 : s.dev.st ≠ .handover)
    (h3 : s.dev.st = .halt → s.tx.work = []) : s.endByState = s := by
  unfold State.endByState
  cases h : s.dev.st <;> simp_all

/-- On a calm part nothing but the device state and the words of the sideband follow from a command. -/
theorem State.settle_calm (h : s.Calm) : s.settle = s.devSync := by
  obtain ⟨h1, h2, hl, h3, hd, h4, h5, h6, h7, h8⟩ := h
  obtain ⟨kf, kw, kl, ka, kp, kt, _, kn, ks⟩ := s.devSync_keeps
  have he : s.devSync.endByState = s.devSync := by
    have hst : s.devSync.dev.st = if s.dev.st.inService then s.pairDev s.degraded else s.dev.st := by
      unfold State.devSync; split <;> simp
    rw [State.pairDev_unpaired _ h6] at hst
    cases hi : s.dev.st.inService
    · simp only [hi, Bool.false_eq_true, if_false] at hst
      apply State.endByState_calm
      · rw [hst]; intro h; simp [h, DevState.inService] at hi
      · rw [hst]; intro h; simp [h, DevState.inService] at hi
      · rw [hst, kt]; exact h7
    · simp only [hi, if_true] at hst
      apply State.endByState_calm <;> rw [hst] <;> split <;> simp
  have d8 : s.devSync.laneWatch = s.devSync := by
    apply State.laneWatch_calm; rw [ka]; simpa [kn, ks] using h8
  have hr : ∀ u : State, u.faults = s.faults → u.devSync = s.devSync → u.react = s.devSync := by
    intro u uf u4
    unfold State.react
    rw [State.containAll_nil u (by rw [uf, h1]), State.pathSync_calm u (by rw [uf]; exact h2) (by rw [uf, hl]),
      State.fltSync_calm u (by rw [uf, h3]), u4, he]
  unfold State.settle
  rw [State.deficitSync_calm s hd, hr s rfl rfl, d8, hr s.devSync kf s.devSync_idem,
    State.puntPurge_calm _ (by rw [kw, h4]), State.stampPurge_calm _ (by rw [kl, h5]),
    State.syncCheck_unpaired _ (by rw [kp, h6]), State.claimSync_unpaired _ (by rw [kp, h6]), State.devSync_idem]

/-- A part out of service keeps its device state: only the words of the sideband come. -/
theorem State.devSync_outOfService (h : s.dev.st.inService = false) : s.devSync = s.sideWords := by simp [State.devSync, h]

/-- A clock that moves leaves a calm part calm. -/
theorem State.tick_calm (h : s.Calm) (t : Tick) : (s.tick t).Calm := by simpa [State.Calm] using h

end Sys2Proof.Machine
end

