-- ==== Sys2Proof/Laws/Symbols.lean ====
section
/-! SUPPORT. Laws of the symbols of a lane (R462): Gray coding and the precoder are undone by the receiver. -/

namespace Sys2Proof.Machine

/-- The bits of a level give the level back. -/
@[simp] theorem pam4Level_pam4Bits (l : Fin 4) : pam4Level (pam4Bits l).1 (pam4Bits l).2 = l := by
  revert l; decide

/-- The level of two bits gives the bits back. -/
@[simp] theorem pam4Bits_pam4Level (a b : Bool) : pam4Bits (pam4Level a b) = (a, b) := by
  cases a <;> cases b <;> rfl

/-- The receiver's inverse undoes the precoder, whatever level came before. -/
@[simp] theorem unprecode_precode (y : Fin 4) (l : List (Fin 4)) : unprecode y (precode y l) = l := by
  induction l generalizing y with
  | nil => rfl
  | cons x r ih => simp [precode, unprecode, ih]

/-- The receiver's bits of the levels of whole pairs of bits are those bits. -/
theorem pam4_bits (bs : List (Bool × Bool)) :
    ((pam4 (bs.flatMap (fun x => [x.1, x.2]))).map pam4Bits) = bs := by
  induction bs with
  | nil => rfl
  | cons b r ih => simp [pam4, ih]

end Sys2Proof.Machine
end

