-- ==== Sys2Proof/Machine/Pins.lean ====
section
/-! DEFINITION. The ball grid of R663 to R665. It is a fact of the part that no command changes or reads, so no step calls
it. -/

namespace Sys2Proof.Machine

/-- The rails that the inner region's balls carry (R665). -/
inductive Rail where
  | vddFe | vddaSd | vddIo | vppHbm | vddqHbm | vddHbm | vddTm | vddhSd
  deriving DecidableEq, Repr

/-- The differential pairs of the ball grid (R664). -/
inductive PairName where
  | ltx (n : Nat) | lrx (n : Nat) | ftx (n : Nat) | frx (n : Nat) | ptx (n : Nat) | prx (n : Nat)
  | htx (n : Nat) | hrx (n : Nat) | mtx | mrx | sref | lref (n : Nat) | fref (n : Nat)
  deriving DecidableEq, Repr

/-- What a ball is: its pair's P or N ball, a single-ended pin, power or ground. -/
inductive Ball where
  | pair (name : PairName) (negative : Bool)
  | pin (name : String)
  | power (rail : Rail)
  | vss
  deriving DecidableEq, Repr

/-- The line pair of a number of the west band. -/
def linePair (p : Nat) : PairName := if p % 2 = 0 then .ltx (p / 2) else .lrx (p / 2)

/-- The fabric pair of a number of the east and south bands. -/
def fabricPair (p : Nat) : PairName := if p % 2 = 0 then .ftx (p / 2) else .frx (p / 2)

/-- The pair in a place of the south band, counted from row 83, slot 0. -/
def southPair (q : Nat) : Option PairName :=
  if q < 47 then some (fabricPair (273 + q))
  else [PairName.ptx 0, .prx 0, .ptx 1, .prx 1][q - 47]?

/-- The pair in a place of the north band, counted from row 01, slot 0. -/
def northPair (q : Nat) : Option PairName :=
  if q < 16 then some (if q % 2 = 0 then .htx (q / 2) else .hrx (q / 2))
  else [PairName.mtx, .mrx, .sref, .lref 0, .lref 1, .lref 2, .lref 3, .fref 0, .fref 1, .fref 2, .fref 3, .fref 4][q - 16]?

/-- The single-ended pins of row 05, from column 10 on (R664). -/
def rowPins : List String :=
  ["TREF", "PPS_IN", "PPS_OUT", "SYNCE_OUT0", "SYNCE_OUT1", "I3C_SCL", "I3C_SDA"] ++
  ["QCK", "QCS_N", "QD0", "QD1", "QD2", "QD3", "RST_N", "WRST_N", "PWRGD", "IRQ_N", "ALIVE_F", "ALIVE_T", "FLT_N"] ++
  ["OHC0_CK", "OHC0_D", "OHC1_CK", "OHC1_D", "AVS_CLK", "AVS_MDATA", "AVS_SDATA", "TCK", "TMS", "TDI", "TDO", "TRST_N"] ++
  ["BOOTSEL0", "BOOTSEL1", "THD_P", "THD_N", "SNS_FE_P", "SNS_FE_N", "SNS_TM_P", "SNS_TM_N"]

/-- A ball of a slot: P, N, ground; a slot that holds no pair is ground (R664). -/
def slotBall (p : Option PairName) (place : Nat) : Ball :=
  match p, place with
  | some p, 0 => .pair p false
  | some p, 1 => .pair p true
  | _, _ => .vss

/-- The rails of the inner region and the balls of each, in the order of R665. -/
def innerRails : List (Rail × Nat) :=
  [(.vddFe, 720), (.vddaSd, 400), (.vddIo, 20), (.vppHbm, 20), (.vddqHbm, 140), (.vddHbm, 180), (.vddTm, 360), (.vddhSd, 140)]

/-- The rail of the odd position of a number, in a list of rails and counts. -/
def railOf : List (Rail × Nat) → Nat → Ball
  | [], _ => .vss
  | (r, n) :: l, i => if i < n then .power r else railOf l (i - n)

/-- Whether a row or column lies in the span of the capacitors. -/
def inCaps (x : Nat) : Bool := decide (28 ≤ x ∧ x ≤ 64)

/-- An odd position of the inner region (R664). -/
def innerOdd (row col : Nat) : Bool :=
  decide (10 ≤ row ∧ row ≤ 82 ∧ 10 ≤ col ∧ col ≤ 82 ∧ (row + col) % 2 = 1) && !(inCaps row && inCaps col)

/-- The odd positions of a column of the inner region above a row. -/
def oddAbove (row col : Nat) : Nat := ((List.range row).filter (fun r => innerOdd r col)).length

/-- The place of an odd position in the order of R665: column by column, and from row 10 southwards. -/
def oddPlace (row col : Nat) : Nat := sumOf (oddAbove 83) (List.range col) + oddAbove row col

/-- The ball at a position of the grid; none outside it and where the capacitors stand (R663, R664). -/
def ballAt (row col : Nat) : Option Ball :=
  if row = 0 ∨ 91 < row ∨ col = 0 ∨ 91 < col ∨ (inCaps row ∧ inCaps col) then none
  else if col ≤ 9 then
    let p := (row - 1) * 3 + (col - 1) / 3
    some (slotBall (if p < 256 then some (linePair p) else none) ((col - 1) % 3))
  else if 83 ≤ col then
    let p := (row - 1) * 3 + (col - 83) / 3
    some (slotBall (if p < 273 then some (fabricPair p) else none) ((col - 83) % 3))
  else if 83 ≤ row then
    some (if col = 82 then .vss else slotBall (southPair ((row - 83) * 24 + (col - 10) / 3)) ((col - 10) % 3))
  else if row ≤ 9 then
    if row = 5 then some (match rowPins[col - 10]? with | some n => .pin n | none => .vss)
    else some (if col = 82 then .vss else slotBall (northPair ((row - 1) * 24 + (col - 10) / 3)) ((col - 10) % 3))
  else if (row + col) % 2 = 0 then some .vss
  else some (railOf innerRails (oddPlace row col))

end Sys2Proof.Machine
end

