-- ==== Sys2Proof/WellFormed.lean ====
section
/-! DEFINITION. Which commands are well formed: operands within the widths that the manual gives them. A command outside
them has a meaning as well; the manual gives it no wire form. -/

namespace Sys2Proof

/-- A number of 8 bits. -/
def octet (n : Nat) : Bool := decide (n < 2 ^ 8)

/-- A number of 16 bits. -/
def word16 (n : Nat) : Bool := decide (n < 2 ^ 16)

/-- A number of 32 bits. -/
def word32 (n : Nat) : Bool := decide (n < 2 ^ 32)

/-- At most so many octets. -/
def fits (n : Nat) (l : List Byte) : Bool := decide (l.length ≤ n)

/-- A sender's addresses: 48 bits of MAC, 32 or 128 of IP, 16 of port. -/
def peerOk (p : Peer) : Bool := decide (p.mac < 2 ^ 48) && decide (p.ip < 2 ^ 128) && word16 p.port

/-- A place within its area: the user area has 64 octets (R90). -/
def destOk : Dest → Bool
  | .user offset bytes => decide (0 < bytes.val) && decide (offset.val + bytes.val ≤ 64)
  | .b _ | .h _ | .w _ | .field _ | .fieldBit _ _ | .temp _ => true

/-- A source: an immediate has 32 bits (R95). -/
def srcOk : Src → Bool
  | .place d => destOk d
  | .imm n => word32 n
  | .lk _ _ | .cond _ => true

/-- A span of bits runs downwards (R95, EXT and INS). -/
def spanOk (hi lo : Nat) : Bool := decide (lo ≤ hi)

/-- A command is well formed. -/
def wellFormed (i : Instr) : Bool :=
  match i with
  | .read _ _ tag idx sub => word16 tag && word16 idx && octet sub
  | .write _ _ tag idx sub val => word16 tag && word16 idx && octet sub && fits 1024 val
  | .describe _ _ tag idx sub => word16 tag && word16 idx && octet sub
  | .nop _ _ tag idx sub => word16 tag && word16 idx && octet sub
  | .requestService _ => true
  | .persistentWriteCommit _ => true
  | .i3cPrivateWrite _ _ _ => true
  | .i3cPrivateRead _ => true
  | .entdaa _ _ => true
  | .setdasa _ _ _ => true
  | .rstdaa _ => true
  | .enec _ => true
  | .disec _ => true
  | .getpid _ => true
  | .getbcr _ => true
  | .getdcr _ => true
  | .getstatus _ => true
  | .getmwl _ => true
  | .getmrl _ => true
  | .setmwl _ _ => true
  | .setmrl _ _ => true
  | .rstact _ _ => true
  | .unsupportedCcc _ _ _ => true
  | .targetResetPattern _ _ => true
  | .mbxGo _ buffer => fits 4096 buffer
  | .mbxStatClear _ _ _ => true
  | .popHello _ src _ => peerOk src
  | .popProof _ src _ => peerOk src
  | .popRequest _ src _ => peerOk src
  | .popClose _ src _ => peerOk src
  | .popDatagramDiscard _ src _ _ => peerOk src
  | .popHandshakeTimeout _ session => word32 session
  | .popIdleTimeout _ _ => true
  | .popSourceIgnoreEnd _ _ => true
  | .popKeyWrite _ _ tag _ val => word16 tag && fits 1024 val
  | .mgmtNeighbourProtocol _ _ _ _ src => peerOk src
  | .steppedOperationStart _ _ tag idx sub val => word16 tag && word16 idx && octet sub && fits 1024 val
  | .steppedOperationStep _ _ _ => true
  | .cancel _ _ tag val => word16 tag && fits 1024 val
  | .acknowledge _ _ tag val => word16 tag && fits 1024 val
  | .journalSlotExpire _ _ => true
  | .antiRollbackFloorWrite _ _ tag val => word16 tag && fits 1024 val
  | .imageKeyWrite _ _ tag _ val => word16 tag && fits 1024 val
  | .unitNumberWrite _ _ tag val => word16 tag && fits 1024 val
  | .surveyBaselineRetake _ _ tag val => word16 tag && fits 1024 val
  | .debugLockWrite _ _ tag val => word16 tag && fits 1024 val
  | .lineFrameReceive _ _ _ _ => true
  | .frameDeal _ _ => true
  | .stageMatch _ _ _ _ => true
  | .backingRepair _ _ _ _ => true
  | .scrubVisit _ _ _ _ _ => true
  | .mov _ d s => destOk d && srcOk s
  | .set_ _ d imm => destOk d && word32 imm
  | .add _ d a b => destOk d && srcOk a && srcOk b
  | .sub _ d a b => destOk d && srcOk a && srcOk b
  | .and_ _ d a b => destOk d && srcOk a && srcOk b
  | .or_ _ d a b => destOk d && srcOk a && srcOk b
  | .xor_ _ d a b => destOk d && srcOk a && srcOk b
  | .shl _ d a _ => destOk d && srcOk a
  | .shr _ d a _ => destOk d && srcOk a
  | .min_ _ d a b => destOk d && srcOk a && srcOk b
  | .max_ _ d a b => destOk d && srcOk a && srcOk b
  | .ext _ d s hi lo => destOk d && srcOk s && spanOk hi lo
  | .ins _ d s hi lo => destOk d && srcOk s && spanOk hi lo
  | .cmp _ _ a _ b => srcOk a && srcOk b
  | .hash _ d list _ => destOk d && list.all srcOk
  | .valid _ _ _ => true
  | .pushHdr _ _ => true
  | .popHdr _ _ => true
  | .csum _ _ => true
  | .count _ idx len => srcOk idx && srcOk len
  | .meter _ idx d => srcOk idx && destOk d
  | .select _ d group h => destOk d && srcOk group && srcOk h
  | .learn _ _ key => key.all srcOk
  | .fwd _ qid => srcOk qid
  | .fwdm _ group => srcOk group
  | .dropReq _ => true
  | .recirc _ => true
  | .punt _ cls reason => srcOk cls && srcOk reason
  | .copy _ cls reason => srcOk cls && srcOk reason
  | .mirror _ session => srcOk session
  | .stamp _ d => destOk d
  | .br _ _ => true
  | .brc _ _ _ => true
  | .end_ _ => true
  | .frameDisposition _ _ => true
  | .reorderRelease _ _ => true
  | .reorderTimeout _ _ => true
  | .staleEpochDrop _ _ => true
  | .pipelineFailure _ _ => true
  | .stageSubstitute _ _ _ => true
  | .pipelineDrainComplete _ _ => true
  | .pipelineRetire _ _ => true
  | .learnNotification _ _ => true
  | .ageingSweepVisit _ _ => true
  | .lockAcquire _ _ _ => true
  | .lockRelease _ _ _ => true
  | .lockExpire _ _ => true
  | .tableWindowRead _ _ _ => true
  | .tableWindowWrite _ _ _ => true
  | .bankRelay _ _ => true
  | .learnedTableSizeWrite _ _ tag _ sub val => word16 tag && octet sub && fits 1024 val
  | .parserProfileWrite _ _ tag _ sub val => word16 tag && octet sub && fits 1024 val
  | .keyTemplateWrite _ _ tag _ val => word16 tag && fits 1024 val
  | .classificationWidthWrite _ _ tag _ val => word16 tag && fits 1024 val
  | .txnOpen _ _ tag txn => word16 tag && word32 txn
  | .txnWrite _ _ tag txn _ tabref payload => word16 tag && word32 txn && fits 8 tabref && fits 176 payload
  | .txnProgram _ _ tag txn _ _ _ payload => word16 tag && word32 txn && fits 176 payload
  | .txnGraticule _ _ tag txn _ _ _ _ payload => word16 tag && word32 txn && fits 176 payload
  | .txnKeystone _ _ tag txn => word16 tag && word32 txn
  | .txnAbandon _ _ tag txn => word16 tag && word32 txn
  | .txnWriteResume _ => true
  | .txnIdleTimeout _ txn => word32 txn
  | .commit _ => true
  | .admission _ => true
  | .cellFree _ _ _ => true
  | .handoverOfCells _ _ _ _ _ _ => true
  | .poolAccountMismatch _ _ => true
  | .evictionRun _ _ => true
  | .prefetch _ _ _ => true
  | .pfcRefresh _ _ _ => true
  | .partitionBoundaryWrite _ _ tag val => word16 tag && fits 1024 val
  | .badTail _ _ => true
  | .defaultMapApply _ _ tag val => word16 tag && fits 1024 val
  | .nodeRecordWrite _ _ tag _ val => word16 tag && fits 1024 val
  | .outletWrite _ _ tag val => word16 tag && fits 1024 val
  | .schedulerDecision _ _ => true
  | .sojournSweep _ _ _ => true
  | .requestRefresh _ _ => true
  | .fabricTransmit _ => true
  | .grantIssue _ _ => true
  | .creditTimeout _ _ => true
  | .holdTimerExpire _ _ => true
  | .samplerRound _ _ => true
  | .graticuleChangeEffect _ _ => true
  | .fabricCellReceive _ _ _ => true
  | .reachabilityExpire _ _ => true
  | .resequencingTimeout _ _ _ => true
  | .streamIdle _ _ _ => true
  | .pinHoldEnd _ _ => true
  | .laneRetire _ _ _ => true
  | .retireCmd _ _ tag _ val => word16 tag && fits 1024 val
  | .lanePowerDown _ _ => true
  | .laneReturnHoldEnd _ _ => true
  | .laneShortfallTimeout _ => true
  | .linkFrameSend _ _ => true
  | .linkFrameReceive _ _ _ => true
  | .slipBufferDeliver _ _ => true
  | .losDeclare _ _ => true
  | .losClear _ _ => true
  | .lofDeclare _ _ => true
  | .lofClear _ _ => true
  | .performanceSecond _ _ => true
  | .performancePost _ _ => true
  | .portModeWrite _ _ tag _ val => word16 tag && fits 1024 val
  | .linkTrainingFailure _ _ => true
  | .portUp _ _ => true
  | .portDown _ _ => true
  | .remoteFaultReceive _ _ => true
  | .flapHoldEnd _ _ => true
  | .laneLockLoss _ _ => true
  | .lrxClockStop _ _ _ _ => true
  | .pfcFrameReceive _ _ _ => true
  | .pfcPauseExpire _ _ _ => true
  | .pfcStorm _ _ _ => true
  | .stormRecoveryEnd _ _ _ => true
  | .macControlFrameReceive _ _ _ => true
  | .lineFrameTransmit _ _ => true
  | .transmitPermissionChange _ => true
  | .phaseAdjustment _ _ tag val => word16 tag && fits 1024 val
  | .slewComplete _ => true
  | .timeStep _ _ tag val => word16 tag && fits 1024 val
  | .timeStepApply _ => true
  | .timeSecondCarry _ => true
  | .ppsInEdge _ => true
  | .ppsOutPulse _ => true
  | .loopSet _ _ tag val => word16 tag && fits 1024 val
  | .generator _ _ tag val => word16 tag && fits 1024 val
  | .checker _ _ tag val => word16 tag && fits 1024 val
  | .clearChecker _ _ tag val => word16 tag && fits 1024 val
  | .testMode _ _ tag _ val => word16 tag && fits 1024 val
  | .transmitSleep _ _ tag val => word16 tag && fits 1024 val
  | .receiveSleep _ _ tag val => word16 tag && fits 1024 val
  | .laneWakeComplete _ _ _ => true
  | .pairingEnableWrite _ _ tag val => word16 tag && fits 1024 val
  | .claimCellSend _ => true
  | .claimCellReceive _ _ _ => true
  | .claimLoss _ => true
  | .loneStartTimeout _ => true
  | .takeOverCmd _ _ tag => word16 tag
  | .handoverCmd _ _ tag => word16 tag
  | .resyncCmd _ _ tag => word16 tag
  | .isolateCmd _ _ tag => word16 tag
  | .handoverTimeout _ => true
  | .rankLower _ => true
  | .transferItemReceive _ _ _ => true
  | .transferResend _ => true
  | .resynchronisation _ => true
  | .streamRecordWrite _ _ tag val => word16 tag && fits 1024 val
  | .streamResetTimeout _ _ => true
  | .benchmarkReading _ bench _ => word16 bench
  | .dailyPassStart _ => true
  | .dailyPassSkip _ => true
  | .baselinePassStart _ => true
  | .surveyRemedy _ _ _ _ => true
  | .avsRetry _ _ _ => true
  | .memoryRepair _ _ _ _ => true
  | .bondWireSubstitute _ _ _ => true
  | .pipelineFloorWrite _ _ tag val => word16 tag && fits 1024 val
  | .bondFlitUncorrectable _ _ _ => true
  | .sidebandSafeValue _ _ => true
  | .sidebandSafeTimeout _ _ => true
  | .crossingPointerMismatch _ _ => true
  | .faultPathFailure _ _ _ => true
  | .faultPathAssert _ _ _ => true
  | .reactionTimerExpire _ _ => true
  | .acknowledgeEvent _ _ tag val => word16 tag && fits 1024 val
  | .acknowledgeClass _ _ tag val => word16 tag && fits 1024 val
  | .serviceCoreWatchdog _ => true
  | .serviceCoreRestartComplete _ _ => true
  | .controllerWatchdog _ _ => true
  | .controllerLoadCheck _ _ _ => true
  | .fltNPulseEnd _ => true
  | .fltNHold _ _ tag val => word16 tag && fits 1024 val
  | .tailWrite _ _ v => word32 v
  | .enWrite _ _ _ => true
  | .resume _ _ => true
  | .chCfg _ _ _ v => word32 v
  | .registerAccessInvalid _ _ size data => decide (size < 4097) && (data.map (fun d => d.length == size)).getD true
  | .descriptorFetch _ _ desc => desc.length == 32
  | .descriptorComplete _ _ _ => true
  | .dmaPunt _ _ => true
  | .dmaInject _ _ _ => true
  | .dmaTimestamp _ _ => true
  | .dmaTableRecords _ _ _ => true
  | .dmaTableRead _ _ => true
  | .dmaBucketRead _ _ => true
  | .dmaBucketWrite _ _ _ => true
  | .dmaCounterRead _ _ => true
  | .dmaCounterWrite _ _ _ => true
  | .dmaStatsCounters _ _ => true
  | .dmaStatsSamples _ _ => true
  | .dmaLockRetry _ _ => true
  | .transferWithdrawn _ _ => true
  | .timestampDescriptorFlush _ _ => true
  | .pcieHotReset _ _ => true
  | .pcieConfigRequest _ _ => true
  | .userWindowRead _ _ _ => true
  | .counterSnapshot _ => true
  | .clearCounters _ _ tag val => word16 tag && fits 1024 val
  | .cartouche _ _ tag val => word16 tag && fits 1024 val
  | .chunk _ _ tag val => word16 tag && fits 1024 val
  | .verify _ _ tag val => word16 tag && fits 1024 val
  | .activationTime _ _ tag val => word16 tag && fits 1024 val
  | .closeSession _ _ tag val => word16 tag && fits 1024 val
  | .confirm _ _ tag val => word16 tag && fits 1024 val
  | .revert _ _ tag val => word16 tag && fits 1024 val
  | .updateActivate _ => true
  | .activationLoadsComplete _ _ => true
  | .trialExpire _ => true
  | .rstNLow _ _ => true
  | .wrstNLow _ _ => true
  | .resetPinRise _ _ _ => true
  | .pwrgdFall _ _ _ _ => true
  | .pwrgdRise _ _ => true
  | .resetWorkComplete _ _ => true
  | .serviceCoreStart _ => true
  | .initComplete _ => true
  | .deviceRecordRewrite _ => true
  | .startCmd _ _ tag => word16 tag
  | .stopCmd _ _ tag => word16 tag
  | .maintCmd _ _ tag => word16 tag
  | .leaveCmd _ _ tag => word16 tag
  | .warmResetCommand _ _ tag => word16 tag
  | .coldResetCommand _ _ tag => word16 tag
  | .commandedResetBegin _ _ => true
  | .chooseSource _ _ tag val => word16 tag && fits 1024 val
  | .clearRecord _ _ tag val => word16 tag && fits 1024 val
  | .sidebandSafeValueClear _ _ => true
  | .laneLock _ _ => true
  | .checkerLock _ _ _ _ => true
  | .faultPathRecover _ _ => true
  | .learnedTableTick _ _ => true
  | .pairClaimExpire _ _ => true
  | .ppsOutPulseEnd _ => true
  | .dieClockStop _ _ => true
  | .testAccessInstruction _ _ => true

end Sys2Proof
end

