-- ==== Sys2Proof/Tests/Slice0.lean ====
section
/-! SUPPORT. Tests of the model, and for each statement with hypotheses concrete states and operands that meet them. The
witnesses of a chapter stand in a namespace of their own; those of a statement made of several parts are numbered. Two kinds of
hypothesis are not decided here because an opaque constant of `Config` stands in them: a TXN_PROGRAM record that carries a
keystone (`Config.bundleFault`), and a named error of an operation whose verdict the manual leaves open. -/

open Sys2Proof Sys2Proof.Machine

namespace Sys2Proof.Tests

set_option Elab.async false

/-! ### A part in RUN -/

/-- A part in RUN, 1,000 s after its start, memory space enabled and every controller loaded. -/
def W.run : State := { State.reset with
  clock := { State.reset.clock with now := 1000 * Config.sec, sec := 100000 }
  dev := { State.reset.dev with st := .run, feAlive := true }
  sbFe := { State.reset.sbFe with permit := true }
  sbTm := { State.reset.sbTm with permit := true }
  pcie := { State.reset.pcie with memory := true }
  faults := { State.reset.faults with ctls := List.replicate 24 ⟨true, 0, false⟩ } }

/-- An instant a little later. -/
def W.T : Nat := 1000 * Config.sec + 5

/-! ### The checks of well-formedness refuse -/

theorem test_octet_refused : wellFormed (.read 0 .mailbox 0 0 256) = false := by decide

theorem test_word16_refused : wellFormed (.nop 0 .mailbox 65536 0 0) = false := by decide

theorem test_word32_refused : wellFormed (.txnOpen 0 .mailbox 0 4294967296) = false := by decide

theorem test_fits_refused : wellFormed (.txnWrite 0 .mailbox 0 77 false (zeros 9) []) = false := by decide

theorem test_peer_refused : wellFormed (.popHello 0 ⟨0, 0x0A000001, 65536⟩ []) = false := by decide

theorem test_dest_refused : wellFormed (.stamp ⟨0, 0, none⟩ (.user 63 2)) = false := by decide

theorem test_src_refused : wellFormed (.fwd ⟨0, 0, none⟩ (.imm 4294967296)) = false := by decide

theorem test_span_refused : wellFormed (.ext ⟨0, 0, none⟩ (.temp 0) (.imm 1) 3 4) = false := by decide

theorem test_descriptor_refused : wellFormed (.descriptorFetch 0 0 (zeros 31)) = false := by decide

theorem test_well_formed : wellFormed (.write 0 (.pop 3) 65535 0xFFFF 255 (zeros 16)) = true := by decide

/-! ### The queue and the words of the table -/

theorem test_no_word_spells_a_command : decodeTableWord 32 0 = none ∧ State.reset.withFetchWord 32 0 = State.reset :=
  ⟨rfl, rfl⟩

theorem test_empty_queue_idles : step State.reset = .next State.reset := rfl

/-! ### Worked examples of the manual -/

/-- After reset the part is in BOOT and holds no command, and line port 0 is down. -/
theorem test_reset : State.reset.dev.st = .boot ∧ State.reset.pending = [] ∧ (State.reset.port 0).link = 0 := by decide

/-- Chapter 20: with 25.6 Tb/s in service 154 lanes are needed, with the floor at 118 they are 152. -/
theorem test_lanes_needed :
    let s := (List.range 32).foldl (fun s i => s.setObj (0x3000 + 4 * i) 1 4) W.run
    s.lineRate = 25600 ∧ s.lanesNeeded = 154 ∧ (s.setObj 0x6000 4 118).lanesNeeded = 152 := by
  decide +kernel

/-- Chapter 6: commit number 7,340 has tag 4. -/
theorem test_epoch_tag : tagCommit 7340 4 = 7340 ∧ tagCommit 7341 4 = 7340 := by decide

/-- Chapter 2: the floor stands at 5, so 123 slots remain; a write of 7 burns two of them. -/
theorem test_floor_slots :
    let s : State := { W.run with fuses := { W.run.fuses with floor := 5, floorSpent := 5 } }
    s.slotsLeft 0x1200 = 123 := by
  decide

/-- Chapter 17: an image of 18,874,368 octets takes 289 verification steps. -/
theorem test_verify_steps :
    let x : Machine.Session := { Session.blank with
      st := 1, holder := (W.run.tick W.T).requesterOf .mailbox, recv := 18874368, len := 18874368, lastReq := W.T }
    let s : State := { W.run with update := { W.run.update with sess := x } }
    (match exec (.verify W.T .mailbox 0 [1]) s with
      | .next t => (t.slot 0).planned
      | _ => 0) = 289 := by
  decide +kernel

/-- Chapter 13: what stream 40 does with the five copies of the example, each on the state that the ones before leave. -/
theorem test_stream_recovery :
    let v := 2 ^ 127 + 2 ^ 125 + 256 * 2 ^ 77 + 2 ^ 67
    let s := W.run.setStream { W.run.stream 40 with rcv := 1000, history := 1, takeAny := false }
    let a := s.recover 40 v (some 1001)
    let b := a.2.recover 40 v (some 1001)
    let c := b.2.recover 40 v (some 1003)
    let d := c.2.recover 40 v (some 1002)
    let e := d.2.recover 40 v (some 1300)
    [a.1, b.1, c.1, d.1, e.1] = [true, false, true, true, false] ∧
      [5, 6, 8, 7].map (fun k => e.2.objI 0x6900 k 40) = [3, 1, 1, 1] := by
  decide +kernel

/-! ### Published check values of the checks and hashes that the manual names -/

/-- The check values of CRC-32 and CRC-32C over the nine digits. -/
theorem test_crc :
    let digits := (List.range 9).map (fun i => byteOf (0x31 + i))
    crc32 digits = 0xCBF43926 ∧ crc32c digits = 0xE3069283 := by
  decide +kernel

/-- FIPS 180-4: SHA-256 of the three letters abc. -/
theorem test_sha256 :
    beNat (sha256 [0x61, 0x62, 0x63]) = 0xba7816bf8f01cfea414140de5dae2223b00361a396177a9cb410ff61f20015ad := by
  decide +kernel

/-! ### One step of one command -/

/-- R95: ADD wraps at the width of its place; the source is also the destination. -/
theorem test_add_wraps :
    let c : Ctx := { W.run.mkCtx .ingress 0 (lineFrame 4 0 (zeros 70) 5 none) with
      hv := zeros 640, id := 9, skip := false, stage := 3, bundle := some 1, started := false, bundles := 16,
      temps := 0xFFFFFFFF :: List.replicate 7 0 }
    let s : State := { W.run with flow := { W.run.flow with ctxs := [c] } }
    (match exec (.add ⟨9, 1, none⟩ (.temp 0) (.place (.temp 0)) (.imm 2)) s with
      | .next t => (t.flow.ctx 9).map (fun c => c.temps.headD 0)
      | _ => none) = some 1 := by
  decide +kernel

/-- R635: a low of RST_N under 1 µs does nothing, one of 1 µs resets the part. -/
theorem test_short_reset_low :
    (match exec (.rstNLow W.T (Config.us - 1)) W.run, exec (.rstNLow W.T Config.us) W.run with
      | .next a, .next b => (a.dev.st, b.dev.st)
      | _, _ => (.halt, .halt)) = (.run, .boot) := by
  decide +kernel

/-- R664's worked example: LRXN[37] at 26-02 and FRXN[150] at 84-23. -/
theorem test_balls :
    ballAt 26 2 = some (.pair (.lrx 37) true) ∧ ballAt 84 23 = some (.pair (.frx 150) true) := by decide +kernel

/-- R462: the four pairs of bits from the lowest level to the highest. -/
theorem test_gray : pam4 [false, false, false, true, true, true, true, false] = [0, 1, 2, 3] := by decide

/-! ### What the statements suppose -/

namespace C01

def T : Nat := W.T

def RR := W.run

def B (l : List Nat) : List Byte := l.map byteOf

def c1 : Instr := .i3cPrivateRead T

def P1 : State := { RR with pending := [c1, c1] }

def late : Nat := W.T + Config.sec

def nopI : Instr := .nop T .mailbox 5 0 0

def nopW : WireReq := ⟨T, .mailbox, 5, 4, 0, 0, []⟩

def halted : State := { RR with dev := { RR.dev with st := .halt } }

def d1 : ObjDesc := (objDesc 0x5310 1).getD ⟨0,0,0,0,0,0,0,.volatile,0,.any,[],0⟩

def d0 : ObjDesc := (objDesc 0x1000 1).getD d1

def rq : Req := (RR.tick T).mkReq .mailbox 0 1 7 0x2020 1 [] none none

def Q1 : State := { RR with dict := { RR.dict with i3c := { RR.dict.i3c with queue := [rq] } } }

def Q2 : State := { RR with dict := { RR.dict with rot := 1, mbx := { RR.dict.mbx with busy := true, req := some rq } } }

def Q3 : State := { RR with dict := { RR.dict with mbx := { RR.dict.mbx with busy := true, req := some rq } } }

def df : Deferred := ⟨rq, 0x1010, 1, [0], [1], false, [0], 0⟩

def D1 : State := { RR with dict := { RR.dict with deferred := [df] } }

def emptyQ : State := RR

def ps : PopSess := { sid := 1, role := 1, key := zeros 32, label := 0, peer := ⟨1, 0x0A000001, 700⟩, high := 0, seen := [], held := [], queue := [], acc := [], txSeq := 0, last := 1000*Config.sec }

def low : State := { RR with dict := { RR.dict with pop := { RR.dict.pop with sess := [some ps, none, none, none] } } }

def rqp : Req := { rq with path := .pop 0 }

def ps1 : PopSess := { ps with queue := [rqp] }

def Q4 : State := { RR with dict := { RR.dict with rot := 2, rotPop := 4, pop := { RR.dict.pop with sess := [some ps1, none, none, none] } } }

def Q5 : State := { RR with dict := { RR.dict with rot := 3, rotStep := 2, slots := RR.dict.slots.set 2 ⟨7, 0, 0x6900, 9, 0x2000, 0, 3, 0, 0, zeros 12, 0, true, 0⟩ } }

/-- What the clauses of `UndefinedObjectIsAborted` suppose, met by concrete states. -/
theorem witness_UndefinedObjectIsAborted :
    5 < 65536 ∧
    5 < 256 ∧
    (RR.tick T).Ready Path.mailbox ∧
    objTop 5 = none ∧
    36864 < 65536 ∧
    255 < 256 ∧
    (objTop 36864).isSome = true ∧
    objDesc 36864 255 = none := by
  refine ⟨?_, ?_, ?_, ?_, ?_, ?_, ?_, ?_⟩ <;> decide +kernel

/-- What the clauses of `StepRunsTheFrontCommand` suppose, met by concrete states. -/
theorem witness_StepRunsTheFrontCommand :
    P1.pending = [c1, c1] ∧
    emptyQ.pending = [] := by
  refine ⟨?_, ?_⟩ <;> decide +kernel

/-- What the clauses of `TimeCarriesAndSlewEnds` suppose, met by concrete states. -/
theorem witness_TimeCarriesAndSlewEnds :
    RR.Calm ∧
    RR.clock.now < late ∧
    RR.freqAdj = 0 ∧
    RR.clock.phase = 0 ∧
    1000000000 * Config.timeFine ≤ RR.clock.sub + (late - RR.clock.now) * Config.timeUnit ∧
    RR.clock.sub + (late - RR.clock.now) * Config.timeUnit < 2 * (1000000000 * Config.timeFine) ∧
    RR.clock.now < T ∧
    RR.clock.phase.natAbs ≤ (T - RR.clock.now) * RR.obj 8448 4 * 1024 := by
  refine ⟨?_, ?_, ?_, ?_, ?_, ?_, ?_, ?_⟩ <;> decide +kernel

/-- What the clauses of `ReadyPathServesAtOnce` suppose, met by concrete states. -/
theorem witness_ReadyPathServesAtOnce :
    rowRequest nopI = some nopW ∧
    (RR.tick nopW.t).Ready nopW.p ∧
    (nopW.op = 2 → nopW.idx % 65536 = 36864 → nopW.sub % 256 = 2 → RR.record.dirty = false) := by
  refine ⟨?_, ?_, ?_⟩ <;> decide +kernel

/-- What the clauses of `ReadDescribeNopAreAnswered` suppose, met by concrete states. -/
theorem witness_ReadDescribeNopAreAnswered :
    21264 < 65536 ∧
    1 < 256 ∧
    (RR.tick T).Ready Path.mailbox ∧
    objDesc 21264 1 = some d1 ∧
    (objTop 21264).isSome = true ∧
    d1.acc ≠ 3 := by
  refine ⟨?_, ?_, ?_, ?_, ?_, ?_⟩ <;> decide +kernel

/-- What the clauses of `WriteTakesEffectAndIsDone` suppose, met by concrete states. -/
theorem witness_WriteTakesEffectAndIsDone :
    21264 < 65536 ∧
    1 < 256 ∧
    (RR.tick T).Ready Path.mailbox ∧
    objDesc 21264 1 = some d1 ∧
    (objTop 21264).isSome = true ∧
    d1.acc ≠ 5 ∧
    d1.cls ≠ ObjClass.persistent ∧
    21264 ≠ 17665 ∧
    21264 ≠ 36864 ∧
    21264 ≠ 49152 ∧
    ((RR.tick T).begun Path.mailbox).admits Path.mailbox 21264 1 (B [0]) = true ∧
    (((RR.tick T).begun Path.mailbox).applyWrite ((RR.tick T).requesterOf Path.mailbox) 21264 1 (leNat (B [0]))).afterFault
    21264 1 = none ∧
    (4880 = 21264 ∨ 16384 ≤ 21264 ∧ 21264 < 17920 ∨ 21264 ≤ 21264 ∧ 21264 < 24576 ∨ 28672 ≤ 21264 ∧ 21264 < 29184) := by
  refine ⟨?_, ?_, ?_, ?_, ?_, ?_, ?_, ?_, ?_, ?_, ?_, ?_, ?_⟩ <;> decide +kernel

/-- What the clauses of `WriteAbortsInOrder` suppose, met by concrete states. -/
theorem witness_WriteAbortsInOrder_a :
    21264 < 65536 ∧
    1 < 256 ∧
    (RR.tick T).Ready Path.mailbox ∧
    objDesc 21264 1 = some d1 ∧
    (objTop 21264).isSome = true ∧
    d1.acc ≠ 5 ∧
    21264 ≠ 17665 ∧
    21264 ≠ 36864 ∧
    21264 ≠ 49152 ∧
    d1.acc ≠ 1 ∧
    d1.role ≤ ((RR.tick T).begun Path.mailbox).roleOf Path.mailbox ∧
    (B []).length ≠ d1.len ∧
    4096 < 65536 ∧
    objDesc 4096 1 = some d0 := by
  refine ⟨?_, ?_, ?_, ?_, ?_, ?_, ?_, ?_, ?_, ?_, ?_, ?_, ?_, ?_⟩ <;> decide +kernel

/-- What the clauses of `WriteAbortsInOrder` suppose, met by concrete states. -/
theorem witness_WriteAbortsInOrder_b :
    (objTop 4096).isSome = true ∧
    d0.acc ≠ 5 ∧
    4096 ≠ 17665 ∧
    4096 ≠ 36864 ∧
    4096 ≠ 49152 ∧
    d0.acc = 1 ∧
    (halted.tick T).Ready Path.mailbox ∧
    d1.role ≤ ((halted.tick T).begun Path.mailbox).roleOf Path.mailbox ∧
    ((halted.tick T).begun Path.mailbox).valueFault d1 21264 1 (B [0]) = none ∧
    ((halted.tick T).begun Path.mailbox).dev.st = DevState.halt ∧
    ¬(21264 = 4352 ∧ 1 = 2) ∧
    (low.tick T).Ready (Path.pop (0 : Fin 4)) ∧
    ((low.tick T).begun (Path.pop (0 : Fin 4))).roleOf (Path.pop (0 : Fin 4)) < d1.role := by
  refine ⟨?_, ?_, ?_, ?_, ?_, ?_, ?_, ?_, ?_, ?_, ?_, ?_, ?_⟩ <;> decide +kernel

/-- What the clauses of `RequestsAreServedAndWritesCommitted` suppose, met by concrete states. -/
theorem witness_RequestsAreServedAndWritesCommitted_1_a :
    (RR.tick T).serves = true ∧
    (RR.tick T).nextTurn = none ∧
    (Q1.tick T).serves = true ∧
    (Q1.tick T).blocked rq = false ∧
    Q1.dict.i3c.queue = [rq] ∧
    Q1.dict.rot % 4 = 0 ∧
    (Q2.tick T).serves = true ∧
    (Q2.tick T).blocked rq = false ∧
    Q2.dict.mbx.req = some rq ∧
    Q2.dict.rot % 4 = 1 ∧
    (Q3.tick T).serves = true ∧
    (Q3.tick T).blocked rq = false ∧
    Q3.dict.mbx.req = some rq := by
  refine ⟨?_, ?_, ?_, ?_, ?_, ?_, ?_, ?_, ?_, ?_, ?_, ?_, ?_⟩ <;> decide +kernel

/-- What the clauses of `RequestsAreServedAndWritesCommitted` suppose, met by concrete states. -/
theorem witness_RequestsAreServedAndWritesCommitted_1_b :
    Q3.dict.rot % 4 = 0 ∧
    Q3.dict.i3c.queue = [] ∧
    (Q4.tick T).serves = true ∧
    (Q4.tick T).blocked rqp = false ∧
    Q4.popSess 0 = some ps1 ∧
    ps1.queue = [rqp] ∧
    Q4.dict.rot % 4 = 2 ∧
    Q4.dict.rotPop % 4 = 0 ∧
    (Q5.tick T).serves = true ∧
    Q5.dict.rot % 4 = 3 ∧
    Q5.dict.rotStep % 12 = 2 ∧
    Q5.stepReady 2 = true := by
  refine ⟨?_, ?_, ?_, ?_, ?_, ?_, ?_, ?_, ?_, ?_, ?_, ?_⟩ <;> decide +kernel

/-- What the clauses of `RequestsAreServedAndWritesCommitted` suppose, met by concrete states. -/
theorem witness_RequestsAreServedAndWritesCommitted_2 :
    (D1.tick T).serves = true ∧
    D1.dict.deferred = [df] ∧
    df.answer = [BitVec.ofNat 8 0] ∧
    df.idx ≠ 8225 ∧
    D1.record.divergent = false := by
  refine ⟨?_, ?_, ?_, ?_, ?_⟩ <;> decide +kernel

end C01

namespace C02

def T : Nat := W.T

def RR := W.run

def wKey : Nat :=
  0x95db7c4b57a474f3d694e566fe516d950448018c17bc3057b0e055352ad21a7acd0e22cb46e9bab74766c01681ecec8979f628f29f1f8aa24b4d7855288f146cf8167ddf293c9e1047dc666cff7ea38a36f9dce740cd4a13eacde0ec99f7cec04

def fz (f : Fuses → Fuses) (s : State := RR) : State := { s with fuses := f s.fuses }

def div (s : State) : State := { s with record := { s.record with divergent := true } }

def dead := fz (fun f => { f with floor := 3, floorSpent := 128, key0 := 4, key1 := wKey, key0Spent := 6, key1Spent := 6, unit := 5, unitSpent := 8, retakeSpent := 4, debugSpent := 1 }) { RR with dev := { RR.dev with st := .maint } }

def d0 : ObjDesc := (objDesc 0x1203 1).getD ⟨0,0,0,0,0,0,0,.volatile,0,.any,[],0⟩

def d1 : ObjDesc := (objDesc 0x1204 1).getD d0

def B (l : List Nat) : List Byte := l.map byteOf

def key : Nat :=
  0x95db7c4b57a474f3d694e566fe516d950448018c17bc3057b0e055352ad21a7acd0e22cb46e9bab74766c01681ecec8979f628f29f1f8aa24b4d7855288f146cf8167ddf293c9e1047dc666cff7ea38a36f9dce740cd4a13eacde0ec99f7cec04

def mnt : State := { RR with dev := { RR.dev with st := .maint } }

def i3 (f : Machine.I3c → Machine.I3c) : State := { RR with dict := { RR.dict with i3c := f RR.dict.i3c } }

def dyn0 := i3 (fun x => { x with dyn := 0 })

def dynA := i3 (fun x => { x with dyn := 8 })

def resp1 := i3 (fun x => { x with dyn := 8, resp := [zeros 20] })

def resp2 := i3 (fun x => { x with dyn := 8, resp := [zeros 2000], off := 5, mrl := 100 })

def noResp := i3 (fun x => { x with dyn := 8, resp := [] })

def rq : Req := (RR.tick T).mkReq .i3c 0 1 7 0x2020 1 [] none none

def four := i3 (fun x => { x with dyn := 8, queue := [rq, rq, rq, rq] })

def rec12 : List Byte := zeros 12

def act (n : Nat) : State := i3 (fun x => { x with action := n })

def act1 := act 1

def act2 := act 2

def act0 := act 0

def tripped : State := { act 2 with faults := { RR.faults with tripped := true } }

def busy : State := { RR with dict := { RR.dict with mbx := { RR.dict.mbx with busy := true } } }

def go : List Byte := zeros 4096

def flr : State := { RR with update := { RR.update with banks := RR.update.banks.set 0 ⟨4, .bytes (zeros 16 ++ B [3] ++ zeros 1007) []⟩ } }

def ps : PopSess := { sid := 1, role := 3, key := zeros 32, label := 0, peer := ⟨1, 0x0A000001, 700⟩, high := 0, seen := [], held := [], queue := [], acc := [], txSeq := 0, last := 1000*Config.sec }

def hi : State := { RR with dict := { RR.dict with pop := { RR.dict.pop with sess := [none, none, none, some ps] } } }

/-- What the clauses of `CountedWriteEqualOrRefused` suppose, met by concrete states. -/
theorem witness_CountedWriteEqualOrRefused_a :
    (RR.tick T).Ready Path.mailbox ∧
    4608 ≤ 4611 ∧
    4611 ≤ 4613 ∧
    objDesc 4611 1 = some d0 ∧
    d0.role ≤ (RR.tick T).roleOf Path.mailbox ∧
    ((RR.tick T).begun Path.mailbox).valueFault d0 4611 1 (leBytes 2 0) = none ∧
    RR.countedValueFault 4611 (leNat (leBytes 2 0)) (leBytes 2 0) = none ∧
    RR.countedEqual 4611 (leNat (leBytes 2 0)) = true ∧
    RR.record.divergent = false ∧
    ((div RR).tick T).Ready Path.mailbox ∧
    d0.role ≤ ((div RR).tick T).roleOf Path.mailbox ∧
    (((div RR).tick T).begun Path.mailbox).valueFault d0 4611 1 (leBytes 2 0) = none ∧
    (div RR).countedValueFault 4611 (leNat (leBytes 2 0)) (leBytes 2 0) = none ∧
    (div RR).countedEqual 4611 (leNat (leBytes 2 0)) = true ∧
    (div RR).record.divergent = true ∧
    4608 ≤ 4612 ∧
    4612 ≤ 4613 ∧
    objDesc 4612 1 = some d1 := by
  refine ⟨?_, ?_, ?_, ?_, ?_, ?_, ?_, ?_, ?_, ?_, ?_, ?_, ?_, ?_, ?_, ?_, ?_, ?_⟩ <;> decide +kernel

/-- What the clauses of `CountedWriteEqualOrRefused` suppose, met by concrete states. -/
theorem witness_CountedWriteEqualOrRefused_b :
    d1.role ≤ ((div RR).tick T).roleOf Path.mailbox ∧
    (((div RR).tick T).begun Path.mailbox).valueFault d1 4612 1 [BitVec.ofNat 8 1] = none ∧
    (div RR).countedValueFault 4612 (leNat [BitVec.ofNat 8 1]) [BitVec.ofNat 8 1] = none ∧
    (div RR).countedEqual 4612 (leNat [BitVec.ofNat 8 1]) = false ∧
    (div RR).dev.st ≠ DevState.halt ∧
    (4612 = 4611 → (div RR).dev.st = DevState.ready ∨ (div RR).dev.st = DevState.maint) ∧
    (4612 = 4612 → (div RR).passRuns = false) ∧
    (dead.tick T).Ready Path.mailbox ∧
    d0.role ≤ (dead.tick T).roleOf Path.mailbox ∧
    ((dead.tick T).begun Path.mailbox).valueFault d0 4611 1 (leBytes 2 0) = none ∧
    dead.countedValueFault 4611 (leNat (leBytes 2 0)) (leBytes 2 0) = none ∧
    dead.countedEqual 4611 (leNat (leBytes 2 0)) = false ∧
    dead.dev.st ≠ DevState.halt ∧
    (4611 = 4611 → dead.dev.st = DevState.ready ∨ dead.dev.st = DevState.maint) ∧
    (4611 = 4612 → dead.passRuns = false) ∧
    dead.record.divergent = false ∧
    (4611 = 4612 → (dead.freeSlot false).isSome = true) ∧
    dead.slotsLeft 4611 = 0 := by
  refine ⟨?_, ?_, ?_, ?_, ?_, ?_, ?_, ?_, ?_, ?_, ?_, ?_, ?_, ?_, ?_, ?_, ?_, ?_⟩ <;> decide +kernel

/-- What the clauses of `CountedWritesBurnOrRetake` suppose, met by concrete states. -/
theorem witness_CountedWritesBurnOrRetake_2 :
    (RR.tick T).Ready Path.mailbox ∧
    RR.record.divergent = false ∧
    RR.dev.st ≠ DevState.halt ∧
    2 ≤ (RR.tick T).roleOf Path.mailbox ∧
    RR.passRuns = false ∧
    RR.freeSlot false = some 0 ∧
    RR.fuses.retakeSpent < 4 := by
  refine ⟨?_, ?_, ?_, ?_, ?_, ?_, ?_⟩ <;> decide +kernel

/-- What the clauses of `I3cCommandsActAndAnswer` suppose, met by concrete states. -/
theorem witness_I3cCommandsActAndAnswer_1 :
    dyn0.Calm ∧
    dyn0.pathsLive = true ∧
    dyn0.dict.i3c.dyn = 0 ∧
    (⟨RR.obj 8208 1 % 128, Nat.mod_lt _ (by decide)⟩ : Fin 128).val = dyn0.obj 8208 1 := by
  refine ⟨?_, ?_, ?_, ?_⟩ <;> decide +kernel

/-- What the clauses of `I3cCommandsActAndAnswer` suppose, met by concrete states. -/
theorem witness_I3cCommandsActAndAnswer_2 :
    dynA.Calm ∧
    dynA.pathsLive = true ∧
    dynA.dict.i3c.dyn ≠ 0 := by
  refine ⟨?_, ?_, ?_⟩ <;> decide +kernel

/-- What the clauses of `I3cTransfersResetsAndTheMailbox` suppose, met by concrete states. -/
theorem witness_I3cTransfersResetsAndTheMailbox_1 :
    noResp.Calm ∧
    noResp.pathsLive = true ∧
    noResp.dict.i3c.dyn ≠ 0 ∧
    noResp.dict.i3c.resp = [] ∧
    resp1.Calm ∧
    resp1.pathsLive = true ∧
    resp1.dict.i3c.dyn ≠ 0 ∧
    resp1.dict.i3c.resp = [zeros 20] ∧
    (zeros 20).length ≤ resp1.dict.i3c.off + resp1.dict.i3c.mrl ∧
    resp2.Calm ∧
    resp2.pathsLive = true ∧
    resp2.dict.i3c.dyn ≠ 0 ∧
    resp2.dict.i3c.resp = [zeros 2000] ∧
    resp2.dict.i3c.off + resp2.dict.i3c.mrl < (zeros 2000).length := by
  refine ⟨?_, ?_, ?_, ?_, ?_, ?_, ?_, ?_, ?_, ?_, ?_, ?_, ?_, ?_⟩ <;> decide +kernel

/-- What the clauses of `I3cTransfersResetsAndTheMailbox` suppose, met by concrete states. -/
theorem witness_I3cTransfersResetsAndTheMailbox_2 :
    dynA.pathsLive = true ∧
    dynA.dict.i3c.dyn ≠ 0 ∧
    (dynA.tick T).pathIgnored Path.i3c = false ∧
    rec12.length ≤ dynA.dict.i3c.mwl ∧
    dynA.unanswered Path.i3c < 4 ∧
    dynA.Calm ∧
    four.pathsLive = true ∧
    four.dict.i3c.dyn ≠ 0 ∧
    (four.tick T).pathIgnored Path.i3c = false ∧
    rec12.length ≤ four.dict.i3c.mwl ∧
    4 ≤ four.unanswered Path.i3c := by
  refine ⟨?_, ?_, ?_, ?_, ?_, ?_, ?_, ?_, ?_, ?_, ?_⟩ <;> decide +kernel

/-- What the clauses of `I3cTransfersResetsAndTheMailbox` suppose, met by concrete states. -/
theorem witness_I3cTransfersResetsAndTheMailbox_3 :
    act1.pathsLive = true ∧
    act1.dict.i3c.action = 1 ∧
    act1.dict.deferred = [] ∧
    act1.tx.waits = [] ∧
    act2.pathsLive = true ∧
    act2.dict.i3c.action = 2 ∧
    act2.faults.tripped = false ∧
    tripped.pathsLive = true ∧
    tripped.dict.i3c.action = 2 ∧
    tripped.faults.tripped = true ∧
    act0.pathsLive = true ∧
    act0.dict.i3c.action ≠ 1 ∧
    act0.dict.i3c.action ≠ 2 := by
  refine ⟨?_, ?_, ?_, ?_, ?_, ?_, ?_, ?_, ?_, ?_, ?_, ?_, ?_⟩ <;> decide +kernel

/-- What the clauses of `I3cTransfersResetsAndTheMailbox` suppose, met by concrete states. -/
theorem witness_I3cTransfersResetsAndTheMailbox_4 :
    RR.memOk 8192 = true ∧
    RR.Calm ∧
    RR.pathsLive = true ∧
    (RR.tick T).pathIgnored Path.mailbox = false ∧
    RR.dict.mbx.busy = false ∧
    go.length = 4096 ∧
    12 + leAt go 8 2 ≤ 4096 ∧
    busy.memOk 8192 = true ∧
    busy.pathsLive = true ∧
    (busy.tick T).pathIgnored Path.mailbox = false ∧
    busy.dict.mbx.busy = true := by
  refine ⟨?_, ?_, ?_, ?_, ?_, ?_, ?_, ?_, ?_, ?_, ?_⟩ <;> decide +kernel

/-- What the clauses of `CountedWritesBurnOrRetake` suppose, met by concrete states. -/
theorem witness_CountedWritesBurnOrRetake_1_a :
    (RR.tick T).Ready Path.mailbox ∧
    RR.record.divergent = false ∧
    RR.dev.st ≠ DevState.halt ∧
    2 ≤ (RR.tick T).roleOf Path.mailbox ∧
    (leBytes 97 key).length = 97 ∧
    keyBad (leBytes 97 key) = false ∧
    leNat (leBytes 97 key) ≠ RR.fuses.key1 ∧
    leNat (leBytes 97 key) ≠ RR.fuses.key0 ∧
    RR.slotVerifies 0 = false ∧
    RR.fuses.key0Spent < 6 ∧
    RR.slotVerifies 1 = false ∧
    RR.fuses.key1Spent < 6 ∧
    (mnt.tick T).Ready Path.mailbox ∧
    mnt.record.divergent = false ∧
    mnt.dev.st ≠ DevState.halt ∧
    2 ≤ (mnt.tick T).roleOf Path.mailbox ∧
    (leBytes 2 511).length = 2 ∧
    leNat (leBytes 2 511) ≤ 511 ∧
    leNat (leBytes 2 511) ≠ mnt.fuses.unit := by
  refine ⟨?_, ?_, ?_, ?_, ?_, ?_, ?_, ?_, ?_, ?_, ?_, ?_, ?_, ?_, ?_, ?_, ?_, ?_, ?_⟩ <;> decide +kernel

/-- What the clauses of `CountedWritesBurnOrRetake` suppose, met by concrete states. -/
theorem witness_CountedWritesBurnOrRetake_1_b :
    mnt.fuses.unitSpent < 8 ∧
    (mnt.dev.st = DevState.ready ∨ mnt.dev.st = DevState.maint) ∧
    (flr.tick T).Ready Path.mailbox ∧
    flr.record.divergent = false ∧
    flr.dev.st ≠ DevState.halt ∧
    2 ≤ (flr.tick T).roleOf Path.mailbox ∧
    (B [1]).length = 1 ∧
    leNat (B [1]) ≤ 128 ∧
    flr.fuses.floor < leNat (B [1]) ∧
    leNat (B [1]) - flr.fuses.floor ≤ 128 - flr.fuses.floorSpent ∧
    (leNat (B [1]) ≤ beAt ((Option.map (fun b => (flr.bank b).img) flr.activeBank).getD Image.none).cart 16 1) ∧
    (hi.tick T).Ready (Path.pop (3 : Fin 4)) ∧
    hi.record.divergent = false ∧
    hi.dev.st ≠ DevState.halt ∧
    2 ≤ (hi.tick T).roleOf (Path.pop (3 : Fin 4)) ∧
    B [1] = [1] ∧
    3 ≤ (hi.tick T).roleOf (Path.pop (3 : Fin 4)) ∧
    hi.fuses.debugLock = false ∧
    hi.fuses.debugSpent = 0 := by
  refine ⟨?_, ?_, ?_, ?_, ?_, ?_, ?_, ?_, ?_, ?_, ?_, ?_, ?_, ?_, ?_, ?_, ?_, ?_, ?_⟩ <;> decide +kernel

end C02

namespace C04

def fr : Frame := lineFrame 4 0 (zeros 70) 5 none

def c0 : Ctx := { W.run.mkCtx .ingress 0 fr with hv := (List.range 640).map (fun i => byteOf (i*7+3)), temps := [1,2,3,4,5,6,7,8] }

/-- What the clauses of `PlaceKeepsWhatIsWritten` suppose, met by concrete states. -/
theorem witness_PlaceKeepsWhatIsWritten :
    c0.hv.length = 640 ∧
    c0.temps.length = 8 ∧
    metaWritable Meta.destination = true ∧
    metaWritable Meta.sequence = false ∧
    90144042682896311822508713865 ≠ 0 ∧
    (90144042682896311822508713865 < 64 + 2 * 0 ∨ 66 + 2 * 0 ≤ 90144042682896311822508713865) ∧
    (90144042682896311822508713865 < 192 + 4 * 0 ∨ 196 + 4 * 0 ≤ 90144042682896311822508713865) := by
  refine ⟨?_, ?_, ?_, ?_, ?_, ?_, ?_⟩ <;> decide +kernel

end C04

namespace C05

def T : Nat := W.T

def B (l : List Nat) : List Byte := l.map byteOf

def RR := W.run

def fr : Frame := lineFrame 4 0 (zeros 70) 5 none

def fr4 : Frame := { fr with dom := 4, seq := 3, pass := 1 }

def c0 : Ctx := { RR.mkCtx .ingress 0 fr4 with id := 9, trailer := 0, hv := zeros 640 }

def fl (f : Flow → Flow) (s : State := RR) : State := { s with flow := f s.flow }

def sec (ports : List Byte) : List Byte := B [3, 1, 0, 28, 5,0,0,0] ++ ports ++ zeros 4

def prog (ports : List Byte) : List Byte := zeros 7 ++ B [1] ++ zeros 56 ++ sec ports

def pr (ports : List Byte) (s : State := RR) : State := { s with tx := { s.tx with progs := [⟨0, 0, prog ports⟩] } }

def c3 : Ctx := { c0 with skip := false, stage := 3, id := 9 }

def tpl : List Byte := leBytes 2 8 ++ B [1,0] ++ zeros 8 ++ leBytes 2 4608 ++ B [8, 0] ++ zeros 60

def pp : List Byte := B [0,0x30,0,1] ++ zeros 12

def M0 := fl (fun x => { x with ctxs := [c3] })

def M1 := pr (zeros 16) M0

def M2 : State := let s := (pr pp M0).setObj 0x4180 1 (leNat tpl); { s with tables := { s.tables with vers := [⟨0x30, (tplKey tpl c3.hv).1, 0, 2^63 + 5⟩] } }

def sc : Section := ((sectionOf (prog (zeros 16)) 3).getD ⟨0,0,0,[],[]⟩)

def sc2 : Section := ((sectionOf (prog pp) 3).getD ⟨0,0,0,[],[]⟩)

def dest (n : Nat) (c : Ctx := { c0 with skip := false, hv := metaSet c0.hv .requests 0 }) : Ctx := { c with hv := metaSet c.hv .destination n }

def req (n : Nat) (c : Ctx) : Ctx := { c with hv := metaSet c.hv .requests n }

def ro1 : RoEntry := ⟨4, 3, .waiting, 0⟩

def ro2 : RoEntry := ⟨4, 4, .forward fr4 1 5 0, 5⟩

def E (c : Ctx) (s : State := RR) : State := fl (fun x => { x with ctxs := [c], ro := [ro1, ro2] }) s

def ceg (c : Ctx) : Ctx := { c with dir := .egress, frame := { c.frame with port := 7, cells := [] } }

def e1 := dest (2^29+77)

def e2 := dest (2^30+7)

def e3 := req 1 e1

def e4 := ceg e1

def e5 := ceg e3

def e6 := dest 0

def out (s : State) : State := (s.setObjI 0x5201 2 7 (0x100 + 9))

def secE : List Byte := B [3, 0, 0, 28, 5,0,0,0] ++ zeros 20

def progE : List Byte := zeros 7 ++ B [1] ++ zeros 56 ++ secE

def M3 : State := { M0 with tx := { M0.tx with progs := [⟨0, 0, progE⟩] } }

def scE : Section := (sectionOf progE 3).getD ⟨0,0,0,[],[]⟩

def M4 : State := { M2 with tables := { M2.tables with vers := [] } }

def M5 : State := { M2 with tables := { M2.tables with lines := [⟨0x30, (M2.lookup 0x30 (M2.portKey 0x30 (tplKey tpl c3.hv)) 0).2, true, false, []⟩] } }

def older : Ctx := { e4 with id := 8 }

def EW : State := fl (fun x => { x with ctxs := [older, e4] })

/-- What the clauses of `StagesMatchAndFramesAreSettled` suppose, met by concrete states. -/
theorem witness_StagesMatchAndFramesAreSettled_1_a :
    M0.faults.haltFe = false ∧
    M0.flow.ctx 9 = some c3 ∧
    c3.skip = false ∧
    c3.stage = 3 ∧
    c3.sel = none ∧
    ((((M0.tick T).ctxProg c3).bind fun p => sectionOf p 3) = none) ∧
    M1.faults.haltFe = false ∧
    M1.flow.ctx 9 = some c3 ∧
    ((((M1.tick T).ctxProg c3).bind fun p => sectionOf p 3) = some sc) ∧
    sc.bundles ≠ 0 ∧
    sc.ports = [(0, 0, 0), (0, 0, 0), (0, 0, 0), (0, 0, 0)] ∧
    M2.faults.haltFe = false ∧
    M2.flow.ctx 9 = some c3 ∧
    ((((M2.tick T).ctxProg c3).bind fun p => sectionOf p 3) = some sc2) ∧
    sc2.bundles ≠ 0 ∧
    sc2.ports = [(48, 0, 1), (0, 0, 0), (0, 0, 0), (0, 0, 0)] ∧
    portUsed (48, 0, 1) = true ∧
    tableKind (48, 0, 1).1 ≠ 3 ∧
    tableKind (48, 0, 1).1 ≠ 4 := by
  refine ⟨?_, rfl, ?_, ?_, ?_, ?_, ?_, rfl, ?_, ?_, ?_, ?_, rfl, ?_, ?_, ?_, ?_, ?_, ?_⟩ <;> decide +kernel

/-- What the clauses of `StagesMatchAndFramesAreSettled` suppose, met by concrete states. -/
theorem witness_StagesMatchAndFramesAreSettled_1_b :
    missingInst ((M2.tick T).template (48, 0, 1).2.1) (metaGet c3.hv Meta.validMap) = none ∧
    (M2.tick T).tables.poisoned (48, 0, 1).1 ((M2.tick T).lookup (48, 0, 1).1 ((M2.tick T).portKey (48, 0, 1).1 (tplKey
    ((M2.tick T).template (48, 0, 1).2.1) c3.hv)) (tagCommit (M2.tick T).tx.commit c3.frame.tag)).2 = false ∧
    ((M2.tick T).lookup (48, 0, 1).1 ((M2.tick T).portKey (48, 0, 1).1 (tplKey ((M2.tick T).template (48, 0, 1).2.1) c3.hv))
    (tagCommit (M2.tick T).tx.commit c3.frame.tag)).1.hit = true ∧
    M3.faults.haltFe = false ∧
    M3.flow.ctx 9 = some c3 ∧
    ((((M3.tick T).ctxProg c3).bind fun p => sectionOf p 3) = some scE) ∧
    scE.bundles = 0 ∧
    M4.faults.haltFe = false ∧
    M4.flow.ctx 9 = some c3 ∧
    ((((M4.tick T).ctxProg c3).bind fun p => sectionOf p 3) = some sc2) ∧
    missingInst ((M4.tick T).template (48, 0, 1).2.1) (metaGet c3.hv Meta.validMap) = none ∧
    (M4.tick T).tables.poisoned (48, 0, 1).1 ((M4.tick T).lookup (48, 0, 1).1 ((M4.tick T).portKey (48, 0, 1).1 (tplKey
    ((M4.tick T).template (48, 0, 1).2.1) c3.hv)) (tagCommit (M4.tick T).tx.commit c3.frame.tag)).2 = false ∧
    ((M4.tick T).lookup (48, 0, 1).1 ((M4.tick T).portKey (48, 0, 1).1 (tplKey ((M4.tick T).template (48, 0, 1).2.1) c3.hv))
    (tagCommit (M4.tick T).tx.commit c3.frame.tag)).1.hit = false ∧
    M5.faults.haltFe = false ∧
    M5.flow.ctx 9 = some c3 ∧
    ((((M5.tick T).ctxProg c3).bind fun p => sectionOf p 3) = some sc2) ∧
    missingInst ((M5.tick T).template (48, 0, 1).2.1) (metaGet c3.hv Meta.validMap) = none ∧
    (M5.tick T).tables.poisoned (48, 0, 1).1 ((M5.tick T).lookup (48, 0, 1).1 ((M5.tick T).portKey (48, 0, 1).1 (tplKey
    ((M5.tick T).template (48, 0, 1).2.1) c3.hv)) (tagCommit (M5.tick T).tx.commit c3.frame.tag)).2 = true := by
  refine ⟨?_, ?_, ?_, ?_, rfl, ?_, ?_, ?_, rfl, ?_, ?_, ?_, ?_, ?_, rfl, ?_, ?_, ?_⟩ <;> decide +kernel

/-- What the clauses of `StagesMatchAndFramesAreSettled` suppose, met by concrete states. -/
theorem witness_StagesMatchAndFramesAreSettled_2_a :
    EW.faults.haltFe = false ∧
    EW.flow.ctx 9 = some e4 ∧
    e4.trailer = 0 ∧
    e4.sel = none ∧
    (EW.tick T).stagesDone e4 = true ∧
    (EW.tick T).mustWait e4 = true ∧
    (E e1).faults.haltFe = false ∧
    (E e1).flow.ctx 9 = some e1 ∧
    e1.trailer = 0 ∧
    e1.sel = none ∧
    ((E e1).tick T).stagesDone e1 = true ∧
    ((E e1).tick T).mustWait e1 = false ∧
    e1.dir = Dir.ingress ∧
    metaGet e1.hv Meta.requests = 0 ∧
    e1.poisoned = false ∧
    metaGet e1.hv Meta.destination / 2 ^ 29 = 1 ∧
    (E e2).faults.haltFe = false ∧
    (E e2).flow.ctx 9 = some e2 ∧
    e2.trailer = 0 ∧
    e2.sel = none ∧
    ((E e2).tick T).stagesDone e2 = true ∧
    ((E e2).tick T).mustWait e2 = false := by
  refine ⟨?_, rfl, ?_, ?_, ?_, ?_, ?_, rfl, ?_, ?_, ?_, ?_, ?_, ?_, ?_, ?_, ?_, rfl, ?_, ?_, ?_, ?_⟩ <;> decide +kernel

/-- What the clauses of `StagesMatchAndFramesAreSettled` suppose, met by concrete states. -/
theorem witness_StagesMatchAndFramesAreSettled_2_b :
    e2.dir = Dir.ingress ∧
    metaGet e2.hv Meta.requests = 0 ∧
    e2.poisoned = false ∧
    metaGet e2.hv Meta.destination / 2 ^ 29 = 2 ∧
    (E e3).faults.haltFe = false ∧
    (E e3).flow.ctx 9 = some e3 ∧
    e3.trailer = 0 ∧
    e3.sel = none ∧
    ((E e3).tick T).stagesDone e3 = true ∧
    ((E e3).tick T).mustWait e3 = false ∧
    e3.dir = Dir.ingress ∧
    metaGet e3.hv Meta.mirrorSession = 0 ∧
    (metaGet e3.hv Meta.requests = 1 ∨ metaGet e3.hv Meta.requests = 0 ∧ e3.poisoned = true) ∧
    (out (E e4)).faults.haltFe = false ∧
    (out (E e4)).flow.ctx 9 = some e4 ∧
    ((out (E e4)).tick T).stagesDone e4 = true ∧
    ((out (E e4)).tick T).mustWait e4 = false ∧
    e4.dir = Dir.egress ∧
    metaGet e4.hv Meta.requests = 0 ∧
    e4.poisoned = false ∧
    metaGet e4.hv Meta.mirrorSession = 0 ∧
    metaGet e4.hv Meta.destination / 2 ^ 29 = 1 := by
  refine ⟨?_, ?_, ?_, ?_, ?_, rfl, ?_, ?_, ?_, ?_, ?_, ?_, ?_, ?_, rfl, ?_, ?_, ?_, ?_, ?_, ?_, ?_⟩ <;> decide +kernel

/-- What the clauses of `StagesMatchAndFramesAreSettled` suppose, met by concrete states. -/
theorem witness_StagesMatchAndFramesAreSettled_2_c :
    ((({ (out (E e4)).tick T with flow := ({ (out (E e4)).flow with ctxs := dropFirst (fun x => x.id == 9) (out (E e4)).flow.ctxs } : Machine.Flow) }
    : State)).objI 20993 2 e4.frame.port = 256 + 9) ∧
    (E e5).faults.haltFe = false ∧
    (E e5).flow.ctx 9 = some e5 ∧
    e5.trailer = 0 ∧
    e5.sel = none ∧
    ((E e5).tick T).stagesDone e5 = true ∧
    ((E e5).tick T).mustWait e5 = false ∧
    e5.dir = Dir.egress ∧
    metaGet e5.hv Meta.mirrorSession = 0 ∧
    (metaGet e5.hv Meta.requests = 1 ∨ metaGet e5.hv Meta.requests = 0 ∧ e5.poisoned = true) ∧
    (E e6).faults.haltFe = false ∧
    (E e6).flow.ctx 9 = some e6 ∧
    e6.trailer = 0 ∧
    e6.sel = none ∧
    ((E e6).tick T).stagesDone e6 = true ∧
    ((E e6).tick T).mustWait e6 = false ∧
    e6.dir = Dir.ingress ∧
    metaGet e6.hv Meta.requests = 0 ∧
    e6.poisoned = false ∧
    metaGet e6.hv Meta.destination / 2 ^ 29 = 0 ∧
    metaGet e6.hv Meta.mirrorSession = 0 := by
  refine ⟨?_, ?_, rfl, ?_, ?_, ?_, ?_, ?_, ?_, ?_, ?_, rfl, ?_, ?_, ?_, ?_, ?_, ?_, ?_, ?_, ?_⟩ <;> decide +kernel

end C05

namespace C06

def T : Nat := W.T

def T3 : Nat := W.T + 300 * Config.us

def RR := W.run

def tbs (f : Tables → Tables) (s : State := RR) : State := { s with tables := f s.tables }

def ln (p b : Bool) : LineState := ⟨0x30, 5, p, b, []⟩

def L1 := tbs (fun x => { x with lines := [ln true false, ⟨0x30,6,true,true,[]⟩] })

def B0 := (RR.setObj 0x4610 1 1)

def R1 := tbs (fun x => { x with relaying := [(7, 0)] })

def note : Learn := ⟨0, 99, 77⟩

def N (s : State) : State := { s with flow := { s.flow with learnI := [note] } }

def ab := B0.candidates 0 99

def lk (g : LockTarget) (s : State) : State := { s with tables := s.tables.lock g .window (1000*Config.sec) }

def g1 : LockTarget := .bucket ⟨ab.1 % 262144, Nat.mod_lt _ (by decide)⟩

def g2 : LockTarget := .bucket ⟨ab.2 % 262144, Nat.mod_lt _ (by decide)⟩

def full (b : Nat) (s : State) : State := (List.range 8).foldl (fun s i => { s with tables := s.tables.setSlot b i (2^255 + i * 2^200) }) s

def own : State := { B0 with tables := B0.tables.setSlot ab.1 3 (B0.tables.newEntry 0 (B0.obj 0x4610 5) 99 77) }

def bk : LockTarget := .block 2

def K1 := lk bk RR

def K2 := { K1 with tables := (K1.tables.lock (.block 3) (.dma 1) 5) }

def K64 := tbs (fun x => { x with locks := (List.range 64).map (fun i => ⟨.bucket ⟨i % 262144, Nat.mod_lt _ (by decide)⟩, .window, 5, [], []⟩) })

def noM (s : State) : State := { s with pcie := { s.pcie with memory := false } }

def d16 : List Byte := (List.range 16).map byteOf

def tk1 := tbs (fun x => { x with tickAt := [(0, 1000*Config.sec), (1, 2000*Config.sec)] })

def lk1 : Lock := ⟨.block 2, .window, 1000*Config.sec, [], []⟩

def D1 : State := { RR with tx := { RR.tx with digest := [(digestSub 0x30, 9)] } }

def NP : State := { N B0 with flow := { (N B0).flow with learnAt := [(0, 2^60), (1, 2^60)] } }

def RZ : State := (List.range 8).foldl (fun s n => s.setObj (0x4610 + n) 1 0) RR

def d32 : List Byte := List.replicate 32 255

def KB : State := lk (.bucket 7) B0

def HFe : State := { RR with faults := { RR.faults with haltFe := true } }

def ig : State := { RR with dict := { RR.dict with pop := { RR.dict.pop with ignored := [(ignoreKey 0x2021, 2000*Config.sec)] } } }

/-- What the clauses of `TableMemoryIsScrubbedAndRepaired` suppose, met by concrete states. -/
theorem witness_TableMemoryIsScrubbedAndRepaired :
    RR.faults.haltFe = false ∧
    isVersioned T = false ∧
    (∀ (l : LineState), RR.tables.lineAt T T = some l → l.poisoned = false ∨ l.backingBad = true) ∧
    isVersioned 48 = true ∧
    MemErr.none ≠ MemErr.uncorrectable ∧
    HFe.faults.haltFe = true ∧
    L1.faults.haltFe = false ∧
    L1.tables.lineAt 48 5 = some (ln true false) ∧
    (ln true false).poisoned = true ∧
    (ln true false).backingBad = false ∧
    D1.faults.haltFe = false ∧
    4 ≤ nget D1.tx.digest (digestSub 48) 0 ∧
    nget D1.tx.digest (digestSub 48) 0 < 11 ∧
    nget D1.tx.digest (digestSub 48) 0 ≠ 0 ∧
    5 ≤ nget D1.tx.digest (digestSub 48) 0 ∧
    (nget RR.tx.digest (digestSub 48) 0 = 0 ∨ nget RR.tx.digest (digestSub 48) 0 < 4 ∧ nget RR.tx.digest (digestSub 48) 0 <
    5) ∧
    R1.faults.haltFe = false ∧
    R1.Calm ∧
    ((R1.tables.relaying.any fun x => x.1 == 7) = true) ∧
    R1.openOp relayIdx relaySub 7 = none ∧
    R1.reserveUsed < 2 ∧
    R1.freeSlot true = some 8 := by
  refine ⟨?_, ?_, ?_, ?_, ?_, ?_, ?_, ?_, ?_, ?_, ?_, ?_, ?_, ?_, ?_, ?_, ?_, ?_, ?_, ?_, ?_, ?_⟩ <;> decide +kernel

/-- What the clauses of `LearnedTablesLearnAndAge` suppose, met by concrete states. -/
theorem witness_LearnedTablesLearnAndAge_a :
    (N (RR.setObj 17936 1 0)).Calm ∧
    (N (RR.setObj 17936 1 0)).faults.haltFe = false ∧
    (N (RR.setObj 17936 1 0)).flow.learnI = [note] ∧
    nget (N (RR.setObj 17936 1 0)).flow.learnAt 0 0 ≤ ((N (RR.setObj 17936 1 0)).tick T).coreCycle ∧
    (N (RR.setObj 17936 1 0)).bucketCount note.tbl = 0 ∧
    NP.Calm ∧
    NP.faults.haltFe = false ∧
    (NP.tick T).coreCycle < nget NP.flow.learnAt 0 0 ∧
    (NP.tick T).coreCycle < nget NP.flow.learnAt 1 0 ∧
    (NP.tick T).bucketTable 7 = some 0 ∧
    (NP.tick T).tables.locked 7 = false ∧
    ((nget NP.tables.tickAt 0 0 + if nget NP.tables.tickAt 0 0 = 0 then NP.dev.coreBase else 0) + nget NP.tables.tickPeriod
    0 1000 * Config.ms ≤ (NP.tick T).clock.now) ∧
    (N B0).Calm ∧
    (N B0).faults.haltFe = false ∧
    (N B0).flow.learnI = [note] ∧
    nget (N B0).flow.learnAt 0 0 ≤ ((N B0).tick T).coreCycle ∧
    (N B0).bucketCount note.tbl ≠ 0 ∧
    (N B0).tables.locked ((N B0).candidates note.tbl note.key).1 = false := by
  refine ⟨?_, ?_, ?_, ?_, ?_, ?_, ?_, ?_, ?_, ?_, ?_, ?_, ?_, ?_, ?_, ?_, ?_, ?_⟩ <;> decide +kernel

/-- What the clauses of `LearnedTablesLearnAndAge` suppose, met by concrete states. -/
theorem witness_LearnedTablesLearnAndAge_b :
    (N B0).tables.locked ((N B0).candidates note.tbl note.key).2 = false ∧
    (N B0).tables.findKey ((N B0).obj (17936 + note.tbl) 5) ((N B0).candidates note.tbl note.key).1 note.key = none ∧
    (N B0).tables.findKey ((N B0).obj (17936 + note.tbl) 5) ((N B0).candidates note.tbl note.key).2 note.key = none ∧
    (N B0).tables.freeSlot ((N B0).candidates note.tbl note.key).1 = some 0 ∧
    (N (lk g2 (lk g1 B0))).Calm ∧
    (N (lk g2 (lk g1 B0))).faults.haltFe = false ∧
    (N (lk g2 (lk g1 B0))).flow.learnI = [note] ∧
    nget (N (lk g2 (lk g1 B0))).flow.learnAt 0 0 ≤ ((N (lk g2 (lk g1 B0))).tick T).coreCycle ∧
    (N (lk g2 (lk g1 B0))).bucketCount note.tbl ≠ 0 ∧
    (N (lk g2 (lk g1 B0))).tables.locked ((N (lk g2 (lk g1 B0))).candidates note.tbl note.key).1 = true ∧
    (N (lk g2 (lk g1 B0))).tables.locked ((N (lk g2 (lk g1 B0))).candidates note.tbl note.key).2 = true ∧
    ((N (lk g2 (lk g1 B0))).tick T).bucketTable (⟨ab.1 % 262144, Nat.mod_lt _ (by decide)⟩ : Fin 262144).val = some 0 ∧
    ((N (lk g2 (lk g1 B0))).tick T).tables.locked (⟨ab.1 % 262144, Nat.mod_lt _ (by decide)⟩ : Fin 262144).val = true ∧
    (N own).Calm ∧
    (N own).faults.haltFe = false ∧
    (N own).flow.learnI = [note] ∧
    nget (N own).flow.learnAt 0 0 ≤ ((N own).tick T).coreCycle ∧
    (N own).bucketCount note.tbl ≠ 0 := by
  refine ⟨?_, ?_, ?_, ?_, ?_, ?_, ?_, ?_, ?_, ?_, ?_, ?_, ?_, ?_, ?_, ?_, ?_, ?_⟩ <;> decide +kernel

/-- What the clauses of `LearnedTablesLearnAndAge` suppose, met by concrete states. -/
theorem witness_LearnedTablesLearnAndAge_c :
    (N own).tables.locked ((N own).candidates note.tbl note.key).1 = false ∧
    (N own).tables.locked ((N own).candidates note.tbl note.key).2 = false ∧
    (N own).tables.findKey ((N own).obj (17936 + note.tbl) 5) ((N own).candidates note.tbl note.key).1 note.key = some 3 ∧
    bits ((N own).tables.slotAt ((N own).candidates note.tbl note.key).1 3) 63 0 = note.result ∧
    (N (full ab.1 B0)).Calm ∧
    (N (full ab.1 B0)).faults.haltFe = false ∧
    (N (full ab.1 B0)).flow.learnI = [note] ∧
    nget (N (full ab.1 B0)).flow.learnAt 0 0 ≤ ((N (full ab.1 B0)).tick T).coreCycle ∧
    (N (full ab.1 B0)).bucketCount note.tbl ≠ 0 ∧
    (N (full ab.1 B0)).tables.locked ((N (full ab.1 B0)).candidates note.tbl note.key).1 = false ∧
    (N (full ab.1 B0)).tables.locked ((N (full ab.1 B0)).candidates note.tbl note.key).2 = false ∧
    (N (full ab.1 B0)).tables.findKey ((N (full ab.1 B0)).obj (17936 + note.tbl) 5) ((N (full ab.1 B0)).candidates note.tbl
    note.key).1 note.key = none ∧
    (N (full ab.1 B0)).tables.findKey ((N (full ab.1 B0)).obj (17936 + note.tbl) 5) ((N (full ab.1 B0)).candidates note.tbl
    note.key).2 note.key = none ∧
    (N (full ab.1 B0)).tables.freeSlot ((N (full ab.1 B0)).candidates note.tbl note.key).1 = none ∧
    (N (full ab.1 B0)).tables.freeSlot ((N (full ab.1 B0)).candidates note.tbl note.key).2 = some 0 ∧
    tk1.Calm ∧
    tk1.faults.haltFe = false ∧
    ((tk1.tick T).clock.now < (nget tk1.tables.tickAt 0 0 + if nget tk1.tables.tickAt 0 0 = 0 then tk1.dev.coreBase else 0)
    + nget tk1.tables.tickPeriod 0 1000 * Config.ms) := by
  refine ⟨?_, ?_, ?_, ?_, ?_, ?_, ?_, ?_, ?_, ?_, ?_, ?_, ?_, ?_, ?_, ?_, ?_, ?_⟩ <;> decide +kernel

/-- What the clauses of `LocksGuardTheTableWindow` suppose, met by concrete states. -/
theorem witness_LocksGuardTheTableWindow_a :
    RR.Calm ∧
    RR.tables.lockOf (LockTarget.bucket (5 : Fin 262144)) = none ∧
    RR.tables.locks.length < 64 ∧
    K1.Calm ∧
    K1.tables.lockOf bk = some lk1 ∧
    lk1.holder = Holder.window ∧
    (K1.tick T).clock.now ≤ lk1.since + 100 * Config.us ∧
    lk1.holder ≠ Holder.dma (1 : Fin 4) ∧
    lk1.since + 100 * Config.us < (K1.tick T3).clock.now ∧
    K64.Calm ∧
    K64.tables.lockOf bk = none ∧
    64 ≤ K64.tables.locks.length ∧
    (RR.tick (2 ^ 29)).memOk 8225 = true ∧
    2 ^ 29 < 2 ^ 29 + 2 ^ 29 ∧
    2 ^ 29 < 2 ^ 29 + d16.length ∧
    344981504 ≤ 352321536 ∧
    352321536 + d16.length ≤ 2 ^ 29 ∧
    352321536 + 3 ≤ 2 ^ 29 ∧
    (noM RR).pcie.memory = false ∧
    ig.pcie.memory = true ∧
    (ig.tick (2 ^ 29)).memOk 8225 = false ∧
    (RR.tick 0).memOk 8225 = true ∧
    0 < 4 := by
  refine ⟨?_, ?_, ?_, ?_, ?_, ?_, ?_, ?_, ?_, ?_, ?_, ?_, ?_, ?_, ?_, ?_, ?_, ?_, ?_, ?_, ?_, ?_, ?_⟩ <;> decide +kernel

/-- What the clauses of `LocksGuardTheTableWindow` suppose, met by concrete states. -/
theorem witness_LocksGuardTheTableWindow_b :
    0 + 4 ≤ 256 ∧
    d32 ≠ [] ∧
    d32.length ≤ 32 ∧
    0 + d32.length ≤ 32 ∧
    (RR.tick 0).bucketTable 0 = some 0 ∧
    RR.tables.holds (bucketTarget 0) Holder.window = false ∧
    32 < 3 + d32.length ∧
    0 + 4 ≤ 128 ∧
    d16 ≠ [] ∧
    d16.length ≤ 16 ∧
    0 + d16.length ≤ 16 ∧
    RR.tables.holds (blockTarget (16 / 8)) Holder.window = false ∧
    16 < 3 + d16.length ∧
    [byteOf 3] ≠ [] ∧
    0 + [byteOf 3].length ≤ 4 ∧
    0 + 4 ≤ 4 ∧
    (KB.tick 0).memOk 8225 = true ∧
    (KB.tick 0).bucketTable 7 = some 0 ∧
    KB.tables.holds (bucketTarget 7) Holder.window = true ∧
    (RZ.tick 0).memOk 8225 = true ∧
    (RZ.tick 0).bucketTable 0 = none ∧
    (K2.tick 0).memOk 8225 = true ∧
    K2.tables.holds (blockTarget (16 / 8)) Holder.window = true := by
  refine ⟨?_, ?_, ?_, ?_, ?_, ?_, ?_, ?_, ?_, ?_, ?_, ?_, ?_, ?_, ?_, ?_, ?_, ?_, ?_, ?_, ?_, ?_, ?_⟩ <;> decide +kernel

end C06

namespace C07

def T : Nat := W.T

def RR := W.run

def B (l : List Nat) : List Byte := l.map byteOf

def jr (st n : Nat) : JRec := ⟨77, st, 0, 0, 0, 0x2000, n, 0, 0, 0, 0, 0⟩

def wk (k : Nat) : TxWork := ⟨77, [], [], none, none, [], 1000*Config.sec, k, 0, []⟩

def wk2 : TxWork := { wk 0 with last := 5 }

def wk3 : TxWork := { wk 1 with writes := [⟨0x30, 5, 2^63+9⟩, ⟨0x31, 7, 3⟩] }

def tx (f : Tx → Tx) (s : State := RR) : State := { s with tx := f s.tx }

def O0 := RR

def O1 := tx (fun x => { x with journal := [jr 1 3], work := [wk 0] })

def O2 := tx (fun x => { x with journal := [jr 1 3], work := [wk2] })

def O3 := tx (fun x => { x with journal := [jr 2 3], work := [wk3], commit := 4, paceTok := 1000*Config.sec, paceAt := 5 }) { RR with tables := { RR.tables with vers := [⟨0x30,5,2,8⟩] } }

def O4 := tx (fun x => { x with lastCommit := some (1000*Config.sec + 4)}) O3

def tref : List Byte := B [0,0x30] ++ beBytes 4 5 ++ B [0,0]

def pay : List Byte := beBytes 8 (2^63 + 9)

def rq : Req := ((RR.tick T).mkReq .mailbox 0 2 7 0x4501 1 (txnRecord 1 false 77 (zeros 8) []) none none)

def wr (bs : List Byte) : WaitRec := ⟨some rq, 0x2000, bs⟩

def Q1 := tx (fun x => { x with waits := [wr (txnRecord 1 false 78 (zeros 8) [])] })

def gp : List Byte := zeros 4 ++ beBytes 4 100

def fr3 : Frame := { lineFrame 4 0 (zeros 60) 5 none with tag := 3 }

def QW : State := { O1 with
  tx := { O1.tx with commit := 4, held := [(4, 1048576)], waits := [wr (txnRecord 2 false 77 tref pay)] }
  flow := { O1.flow with recircI := [fr3] } }

def ww : TxWork := { wk 0 with progI := some (zeros 64), last := W.T, recs := [txnRecord 3 true 77 ([byteOf 0, 0] ++ beBytes 4 0) (zeros 64)] }

def wb : TxWork := { wk 0 with progI := some (zeros 64) }

def O1b := tx (fun x => { x with journal := [jr 1 3], work := [wb] })

def wbs : List Byte := txnRecord 2 true 77 tref pay

def wwr : TxWork := { wb.lay 0x30 (writeKey 0x30 (txParse wbs)) (beNat (txParse wbs).payload) with last := W.T, recs := [wbs] }

def hd0 : List Byte := zeros 32

def gbs (l : List Byte) : List Byte := txnRecord 4 true 77 ([byteOf 3, byteOf 1] ++ beBytes 2 0) l

def wgr (l : List Byte) : TxWork := { wb with grats := wb.grats ++ [⟨3, 1, 0, (txParse (gbs l)).payload⟩], last := W.T, recs := [gbs l] }

/-- What the clauses of `TransactionRecordsAreLaid` suppose, met by concrete states. -/
theorem witness_TransactionRecordsAreLaid_a :
    (O0.tick T).Ready Path.mailbox ∧
    2 ≤ (O0.tick T).roleOf Path.mailbox ∧
    77 < 2 ^ 32 ∧
    ((O0.tick T).begun Path.mailbox).pairTakesNone = false ∧
    ((O0.tick T).begun Path.mailbox).dev.st.takesRecords = true ∧
    ((O0.tick T).begun Path.mailbox).tx.workOf 77 = none ∧
    ((O0.tick T).begun Path.mailbox).tx.work.length < 64 ∧
    ((O0.tick T).begun Path.mailbox).tx.rec_ 77 = none ∧
    (O1.tick T).Ready Path.mailbox ∧
    2 ≤ (O1.tick T).roleOf Path.mailbox ∧
    ((O1.tick T).begun Path.mailbox).pairTakesNone = false ∧
    ((O1.tick T).begun Path.mailbox).dev.st.takesRecords = true ∧
    jr 1 3 ∈ ((O1.tick T).begun Path.mailbox).tx.journal ∧
    (jr 1 3).state < 3 ∧
    ((O1.tick T).begun Path.mailbox).tx.workOf 77 = some (wk 0) ∧
    ((O1.tick T).begun Path.mailbox).tx.rec_ 77 = some (jr 1 3) ∧
    (jr 1 3).state = 1 ∧
    ((O1.tick T).begun Path.mailbox).keystoneFault (wk 0) = none ∧
    (((dropFirst (fun x => x.tag == 77) ((O1.tick T).begun Path.mailbox).tx.work).all fun x => x.tag != 77) = true) ∧
    (jr 1 3).records < 65536 ∧
    ((O1.tick T).begun Path.mailbox).txFormFault (txnRecord 2 true 77 tref tref) = none := by
  refine ⟨?_, ?_, ?_, ?_, ?_, ?_, ?_, ?_, ?_, ?_, ?_, ?_, ?_, ?_, ?_, ?_, ?_, ?_, ?_, ?_, ?_⟩ <;> decide +kernel

/-- What the clauses of `TransactionRecordsAreLaid` suppose, met by concrete states. -/
theorem witness_TransactionRecordsAreLaid_b :
    ((((O1.tick T).begun Path.mailbox).tx.holder 77 fun x => x.writes.any fun q => q.table == beAt (txParse (txnRecord 2
    true 77 tref tref)).target 0 2 && q.key == writeKey (beAt (txParse (txnRecord 2 true 77 tref tref)).target 0 2) (txParse
    (txnRecord 2 true 77 tref tref))) = none) ∧
    ((O1.tick T).begun Path.mailbox).entryFault (beAt (txParse (txnRecord 2 true 77 tref tref)).target 0 2) (writeKey (beAt
    (txParse (txnRecord 2 true 77 tref tref)).target 0 2) (txParse (txnRecord 2 true 77 tref tref))) (beNat (txParse
    (txnRecord 2 true 77 tref tref)).payload) = none ∧
    (wk 0).slotsFor (beAt (txParse (txnRecord 2 true 77 tref tref)).target 0 2) (writeKey (beAt (txParse (txnRecord 2 true
    77 tref tref)).target 0 2) (txParse (txnRecord 2 true 77 tref tref))) ≤ ((O1.tick T).begun Path.mailbox).shadowFree ∧
    (∀ (w : TxWork),
    { ((O1.tick T).begun Path.mailbox) with tx := (((O1.tick T).begun Path.mailbox).tx.modWork 77 fun x => ({ x.lay (beAt (txParse (txnRecord 2 true 77 tref tref)).target 0 2) (writeKey (beAt (txParse (txnRecord 2 true 77 tref tref)).target 0 2) (txParse (txnRecord 2 true 77 tref tref))) (beNat (txParse (txnRecord 2 true 77 tref tref)).payload) with last := ((O1.tick T).begun Path.mailbox).clock.now, recs := x.recs ++ [txnRecord 2 true 77 tref tref] } : TxWork)).modRec 77 fun r => ({ { r with shadow := r.shadow + (wk 0).slotsFor (beAt (txParse (txnRecord 2 true 77 tref tref)).target 0 2) (writeKey (beAt (txParse (txnRecord 2 true 77 tref tref)).target 0 2) (txParse (txnRecord 2 true 77 tref tref))) : JRec } with records := r.records + 1 } : JRec) : State }.tx.workOf
    77 = some w →
    { ((O1.tick T).begun Path.mailbox) with tx := (((O1.tick T).begun Path.mailbox).tx.modWork 77 fun x => ({ x.lay (beAt (txParse (txnRecord 2 true 77 tref tref)).target 0 2) (writeKey (beAt (txParse (txnRecord 2 true 77 tref tref)).target 0 2) (txParse (txnRecord 2 true 77 tref tref))) (beNat (txParse (txnRecord 2 true 77 tref tref)).payload) with last := ((O1.tick T).begun Path.mailbox).clock.now, recs := x.recs ++ [txnRecord 2 true 77 tref tref] } : TxWork)).modRec 77 fun r => ({ { r with shadow := r.shadow + (wk 0).slotsFor (beAt (txParse (txnRecord 2 true 77 tref tref)).target 0 2) (writeKey (beAt (txParse (txnRecord 2 true 77 tref tref)).target 0 2) (txParse (txnRecord 2 true 77 tref tref))) : JRec } with records := r.records + 1 } : JRec) : State }.keystoneFault
    w = none) ∧
    ((O1.tick T).begun Path.mailbox).txFormFault (txnRecord 2 false 77 tref tref) = none ∧
    ((((O1.tick T).begun Path.mailbox).tx.holder 77 fun x => x.writes.any fun q => q.table == beAt (txParse (txnRecord 2
    false 77 tref tref)).target 0 2 && q.key == writeKey (beAt (txParse (txnRecord 2 false 77 tref tref)).target 0 2)
    (txParse (txnRecord 2 false 77 tref tref))) = none) ∧
    ((O1.tick T).begun Path.mailbox).entryFault (beAt (txParse (txnRecord 2 false 77 tref tref)).target 0 2) (writeKey (beAt
    (txParse (txnRecord 2 false 77 tref tref)).target 0 2) (txParse (txnRecord 2 false 77 tref tref))) (beNat (txParse
    (txnRecord 2 false 77 tref tref)).payload) = none ∧
    (wk 0).slotsFor (beAt (txParse (txnRecord 2 false 77 tref tref)).target 0 2) (writeKey (beAt (txParse (txnRecord 2 false
    77 tref tref)).target 0 2) (txParse (txnRecord 2 false 77 tref tref))) ≤ ((O1.tick T).begun Path.mailbox).shadowFree ∧
    0 < 2 ^ 32 ∧
    ((O1.tick T).begun Path.mailbox).txFormFault (txnRecord 3 false 77 ([byteOf 0, 0] ++ beBytes 4 0) tref) = none ∧
    ((((O1.tick T).begun Path.mailbox).tx.holder 77 fun x => (x.prog 0).isSome) = none) ∧
    0 = (((wk 0).prog 0).getD []).length ∧
    progComplete (((wk 0).prog 0).getD []) = false ∧
    2 < 256 ∧
    77 < 65536 ∧
    ((O1.tick T).begun Path.mailbox).txFormFault (txnRecord 4 false 77 ([byteOf 3, byteOf 2] ++ beBytes 2 77) gp) = none ∧
    gratFault 3 2 77 (txParse (txnRecord 4 false 77 ([byteOf 3, byteOf 2] ++ beBytes 2 77) gp)).payload = none ∧
    ((((O1.tick T).begun Path.mailbox).tx.holder 77 fun x => x.grats.any fun g => g.port == 3) = none) ∧
    ((O1.tick T).begun Path.mailbox).txFormFault (txnRecord 3 true 77 ([byteOf 0, 0] ++ beBytes 4 0) (zeros 64)) = none ∧
    ({ ((O1.tick T).begun Path.mailbox) with tx := (((O1.tick T).begun Path.mailbox).tx.modWork 77 fun x => ({ if (0 : Fin 2) = (0 : Fin 2) then { x with progI := some (((wk 0).prog 0).getD [] ++ (txParse (txnRecord 3 true 77 ([byteOf 0, 0] ++ beBytes 4 0) (zeros 64))).payload) : TxWork } else { x with progE := some (((wk 0).prog 0).getD [] ++ (txParse (txnRecord 3 true 77 ([byteOf 0, 0] ++ beBytes 4 0) (zeros 64))).payload) : TxWork } with last := ((O1.tick T).begun Path.mailbox).clock.now, recs := x.recs ++ [txnRecord 3 true 77 ([byteOf 0, 0] ++ beBytes 4 0) (zeros 64)] } : TxWork)).modRec 77 fun r => ({ { r with flags := setBit r.flags 0 true : JRec } with records := r.records + 1 } : JRec) : State }.tx.workOf
    77 = some ww) ∧
    ({ ((O1.tick T).begun Path.mailbox) with tx := (((O1.tick T).begun Path.mailbox).tx.modWork 77 fun x => ({ if (0 : Fin 2) = (0 : Fin 2) then { x with progI := some (((wk 0).prog 0).getD [] ++ (txParse (txnRecord 3 true 77 ([byteOf 0, 0] ++ beBytes 4 0) (zeros 64))).payload) : TxWork } else { x with progE := some (((wk 0).prog 0).getD [] ++ (txParse (txnRecord 3 true 77 ([byteOf 0, 0] ++ beBytes 4 0) (zeros 64))).payload) : TxWork } with last := ((O1.tick T).begun Path.mailbox).clock.now, recs := x.recs ++ [txnRecord 3 true 77 ([byteOf 0, 0] ++ beBytes 4 0) (zeros 64)] } : TxWork)).modRec 77 fun r => ({ { r with flags := setBit r.flags 0 true : JRec } with records := r.records + 1 } : JRec) : State }.keystoneFault
    ww = some 51380224) := by
  refine ⟨?_, ?_, ?_, ?_, ?_, ?_, ?_, ?_, ?_, ?_, ?_, ?_, ?_, ?_, ?_, ?_, ?_, ?_, ?_, ?_, ?_⟩ <;> decide +kernel

/-- What the clauses of `TransactionRecordsAreLaid` suppose, met by concrete states. -/
theorem witness_TransactionRecordsAreLaid_c :
    (O1b.tick T).Ready Path.mailbox ∧
    2 ≤ (O1b.tick T).roleOf Path.mailbox ∧
    ((O1b.tick T).begun Path.mailbox).pairTakesNone = false ∧
    ((O1b.tick T).begun Path.mailbox).dev.st.takesRecords = true ∧
    ((O1b.tick T).begun Path.mailbox).tx.workOf 77 = some wb ∧
    ((O1b.tick T).begun Path.mailbox).tx.rec_ 77 = some (jr 1 3) ∧
    ((O1b.tick T).begun Path.mailbox).txFormFault (txnRecord 2 true 77 tref pay) = none ∧
    ((((O1b.tick T).begun Path.mailbox).tx.holder 77 fun x => x.writes.any fun q => q.table == beAt (txParse (txnRecord 2
    true 77 tref pay)).target 0 2 && q.key == writeKey (beAt (txParse (txnRecord 2 true 77 tref pay)).target 0 2) (txParse
    (txnRecord 2 true 77 tref pay))) = none) ∧
    ((O1b.tick T).begun Path.mailbox).entryFault (beAt (txParse (txnRecord 2 true 77 tref pay)).target 0 2) (writeKey (beAt
    (txParse (txnRecord 2 true 77 tref pay)).target 0 2) (txParse (txnRecord 2 true 77 tref pay))) (beNat (txParse
    (txnRecord 2 true 77 tref pay)).payload) = none ∧
    wb.slotsFor (beAt (txParse (txnRecord 2 true 77 tref pay)).target 0 2) (writeKey (beAt (txParse (txnRecord 2 true 77
    tref pay)).target 0 2) (txParse (txnRecord 2 true 77 tref pay))) ≤ ((O1b.tick T).begun Path.mailbox).shadowFree ∧
    ({ ((O1b.tick T).begun Path.mailbox) with tx := (((O1b.tick T).begun Path.mailbox).tx.modWork 77 fun x => ({ x.lay (beAt (txParse (txnRecord 2 true 77 tref pay)).target 0 2) (writeKey (beAt (txParse (txnRecord 2 true 77 tref pay)).target 0 2) (txParse (txnRecord 2 true 77 tref pay))) (beNat (txParse (txnRecord 2 true 77 tref pay)).payload) with last := ((O1b.tick T).begun Path.mailbox).clock.now, recs := x.recs ++ [txnRecord 2 true 77 tref pay] } : TxWork)).modRec 77 fun r => ({ { r with shadow := r.shadow + wb.slotsFor (beAt (txParse (txnRecord 2 true 77 tref pay)).target 0 2) (writeKey (beAt (txParse (txnRecord 2 true 77 tref pay)).target 0 2) (txParse (txnRecord 2 true 77 tref pay))) : JRec } with records := r.records + 1 } : JRec) : State }.tx.workOf
    77 = some wwr) ∧
    ({ ((O1b.tick T).begun Path.mailbox) with tx := (((O1b.tick T).begun Path.mailbox).tx.modWork 77 fun x => ({ x.lay (beAt (txParse (txnRecord 2 true 77 tref pay)).target 0 2) (writeKey (beAt (txParse (txnRecord 2 true 77 tref pay)).target 0 2) (txParse (txnRecord 2 true 77 tref pay))) (beNat (txParse (txnRecord 2 true 77 tref pay)).payload) with last := ((O1b.tick T).begun Path.mailbox).clock.now, recs := x.recs ++ [txnRecord 2 true 77 tref pay] } : TxWork)).modRec 77 fun r => ({ { r with shadow := r.shadow + wb.slotsFor (beAt (txParse (txnRecord 2 true 77 tref pay)).target 0 2) (writeKey (beAt (txParse (txnRecord 2 true 77 tref pay)).target 0 2) (txParse (txnRecord 2 true 77 tref pay))) : JRec } with records := r.records + 1 } : JRec) : State }.keystoneFault
    wwr = some 51380224) ∧
    1 < 256 ∧
    0 < 65536 ∧
    ((O1b.tick T).begun Path.mailbox).txFormFault (txnRecord 4 true 77 ([byteOf 3, byteOf 1] ++ beBytes 2 0) hd0) = none ∧
    gratFault 3 1 0 (txParse (txnRecord 4 true 77 ([byteOf 3, byteOf 1] ++ beBytes 2 0) hd0)).payload = none ∧
    ((((O1b.tick T).begun Path.mailbox).tx.holder 77 fun x => x.grats.any fun g => g.port == 3) = none) ∧
    ({ ((O1b.tick T).begun Path.mailbox) with tx := (((O1b.tick T).begun Path.mailbox).tx.modWork 77 fun x => ({ { x with grats := x.grats ++ [{ port := 3, part := 1, first := 0, payload := (txParse (txnRecord 4 true 77 ([byteOf 3, byteOf 1] ++ beBytes 2 0) hd0)).payload : PGrat }] : TxWork } with last := ((O1b.tick T).begun Path.mailbox).clock.now, recs := x.recs ++ [txnRecord 4 true 77 ([byteOf 3, byteOf 1] ++ beBytes 2 0) hd0] } : TxWork)).modRec 77 fun r => ({ { r with flags := setBit r.flags 2 true : JRec } with records := r.records + 1 } : JRec) : State }.tx.workOf
    77 = some (wgr hd0)) ∧
    ({ ((O1b.tick T).begun Path.mailbox) with tx := (((O1b.tick T).begun Path.mailbox).tx.modWork 77 fun x => ({ { x with grats := x.grats ++ [{ port := 3, part := 1, first := 0, payload := (txParse (txnRecord 4 true 77 ([byteOf 3, byteOf 1] ++ beBytes 2 0) hd0)).payload : PGrat }] : TxWork } with last := ((O1b.tick T).begun Path.mailbox).clock.now, recs := x.recs ++ [txnRecord 4 true 77 ([byteOf 3, byteOf 1] ++ beBytes 2 0) hd0] } : TxWork)).modRec 77 fun r => ({ { r with flags := setBit r.flags 2 true : JRec } with records := r.records + 1 } : JRec) : State }.keystoneFault
    (wgr hd0) = some 51380224) := by
  refine ⟨?_, ?_, ?_, ?_, ?_, ?_, ?_, ?_, ?_, ?_, ?_, ?_, ?_, ?_, ?_, ?_, ?_, ?_, ?_⟩ <;> decide +kernel

/-- What the clauses of `TransactionsCommitResumeAndEnd` suppose, met by concrete states. -/
theorem witness_TransactionsCommitResumeAndEnd_1 :
    RR.faults.haltTm = false ∧
    (∀ w ∈ RR.tx.staged.head?, RR.pair.mirrored.contains w.tag = true) ∧
    O3.faults.haltTm = false ∧
    O3.tx.staged = [wk3] ∧
    O3.pair.mirrored.contains wk3.tag = false ∧
    (O3.tick T).waitBits wk3 = 0 ∧
    2 ≤ O3.tx.commit ∧
    (List.find? (fun x => x.table == { table := 48, key := 5, data := 2 ^ 63 + 9 : PWrite }.table && x.key ==
    { table := 48, key := 5, data := 2 ^ 63 + 9 : PWrite }.key) wk3.writes = some
    { table := 48, key := 5, data := 2 ^ 63 + 9 : PWrite }) ∧
    7 ∈ wk3.digests ∧
    O4.faults.haltTm = false ∧
    O4.tx.staged = [wk3] ∧
    O4.pair.mirrored.contains wk3.tag = false ∧
    (O4.tick T).waitBits wk3 ≠ 0 := by
  refine ⟨?_, ?_, ?_, ?_, ?_, ?_, ?_, ?_, ?_, ?_, ?_, ?_, ?_⟩ <;> decide +kernel

/-- What the clauses of `TransactionsCommitResumeAndEnd` suppose, met by concrete states. -/
theorem witness_TransactionsCommitResumeAndEnd_2 :
    (QW.tick T).serves = true ∧
    QW.tx.waits = [wr (txnRecord 2 false 77 tref pay)] ∧
    ((QW.tick T).txRecord (wr (txnRecord 2 false 77 tref pay)).requester (wr (txnRecord 2 false 77 tref pay)).bytes).2 =
    TxAns.wait ∧
    QW.tx.workOf 77 = some (wk 0) ∧
    (wk 0).kseq = 0 ∧
    (QW.tick T).clock.now < (wk 0).last + (QW.tick T).obj 17664 6 * Config.sec ∧
    O2.tx.workOf 77 = some wk2 ∧
    wk2.kseq = 0 ∧
    wk2.last + (O2.tick T).obj 17664 6 * Config.sec ≤ (O2.tick T).clock.now ∧
    (Q1.tick T).serves = true ∧
    Q1.tx.waits = [wr (txnRecord 1 false 78 (zeros 8) [])] ∧
    ((Q1.tick T).txRecord (wr (txnRecord 1 false 78 (zeros 8) [])).requester (wr (txnRecord 1 false 78 (zeros 8)
    [])).bytes).2 = TxAns.done ∧
    (wr (txnRecord 1 false 78 (zeros 8) [])).req = some rq := by
  refine ⟨?_, ?_, ?_, ?_, ?_, ?_, ?_, ?_, ?_, ?_, ?_, ?_, ?_⟩ <;> decide +kernel

end C07

namespace C09

def T : Nat := W.T

def T2 : Nat := W.T + 5000 * Config.ms

def mkslot (kind cls dest src seq : Nat) (sync : Bool) : List Byte :=
  beBytes 8 (kind * 2^62 + cls * 2^59 + (if sync then 2^57 else 0) + dest * 2^48 + src * 2^39 + seq) ++ zeros 256

def sl0 := mkslot 0 1 0 5 7 false

def sl2 := mkslot 2 1 0 5 7 false

def sl3 := mkslot 3 1 0 5 7 false

def slx := mkslot 0 1 3 5 7 false

def rxs (act : Bool) (r : Nat) (held : List HeldCell) (last : Nat) : State := { W.run with fabric := { W.run.fabric with rxs := [⟨5, 1, act, r, held, last, none, false⟩], pinHold := [(7, 1000*Config.sec+2)], claims := [(7,3,5),(8,3,5)] } }

def c0 : FCell := ⟨sl0, 0, []⟩

def s1 := rxs true 7 [] 0

def s2 := rxs true 5 [⟨7, 0, c0, none⟩] 0

def s3 := rxs true 9 [⟨7, 0, c0, none⟩] 0

def s4 := rxs false 0 [⟨7, 0, c0, some 3⟩] 0

def s5 := rxs false 0 [] 0

def s6 := rxs false 0 [⟨9, 1000*Config.sec, c0, none⟩] 0

def ln (n : Nat) (f : FLane → FLane) : State := W.run.setLane (f (FLane.fresh n))

def l1 := ln 3 (fun l => { l with reachAt := some 5, st := 2, bad := false, slots := [c0], frameNo := 3 })

def l2 := ln 3 (fun l => { l with reachAt := some (1000 * Config.sec), st := 2, lof := true, stAt := 5, retiring := true })

def l3 := ln 3 (fun l => { l with st := 0, stAt := 5, los := true, holdEnd := 5, events := List.replicate 16 (999*Config.sec) })

def l4 := ln 3 (fun l => { l with st := 0, stAt := 5, holdEnd := 5000 * Config.sec , errs := 5, slip := [[]], secs := [(5, 1), (99999, 2)] })

def l5 := ln 3 (fun l => { l with st := 2, fawRun := 1, errs := 1831055, slip := [[],[],[],[],[],[some sl2],[some sl2]], secs := [(99999, 2)] })

def l6 := ln 3 (fun l => { l with st := 3, sesRun := 9, errs := 1831055, slip := [[some sl0]], secs := [(9, 8), (99999, 2)] })

def l7 := ln 3 (fun l => { l with st := 3, sesRun := 9, errs := 1831055, tested := true, slip := [[some sl2]], secs := [(9, 2), (99999, 2)] })

def l8 := ln 3 (fun l => { l with st := 3, unavail := true, okRun := 9, tested := false, slip := [[some sl2],[],[],[],[],[],[]], secs := [(9, 4), (99999, 2)] })

def l9 : State := let s := l3; { s with record := { s.record with mem := { s.record.mem with spares := { s.record.mem.spares with laneRetired := [3] } } } }

def ini : State := { l1 with dev := { l1.dev with st := .ready } }

def boot : State := { l1 with dev := { l1.dev with st := .boot } }

def l10 : State := ln 3 (fun l => { l with st := 2, retiring := true, slots := [] })

def l11 : State := { l10 with record := { l10.record with mem := { l10.record.mem with spares := { l10.record.mem.spares with laneRetired := [3] } } } }

def lt1 : State := l4.setObj (laneObj 3) 3 1

def ll1 : State := l2.setObjI 0x3201 5 (laneCode 3) 1

def sh2 : State := let s := (List.range 32).foldl (fun s i => s.setObj (0x3000 + 4*i) 1 4) W.run; { s with record := { s.record with mem := { s.record.mem with spares := { s.record.mem.spares with laneRetired := (List.range 100).map (· + 10) } } }, fabric := { s.fabric with shortAt := T } }

def sh3 : State := { sh2 with survey := { sh2.survey with waiting := [24835] } }

def ll2 : State := (ln 3 (fun l => { l with reachAt := some 5, st := 2 })).setObj (laneObj 3) 3 1

/-- What the clauses of `FabricCellsAndTheirTimers` suppose, met by concrete states. -/
theorem witness_FabricCellsAndTheirTimers_1_a :
    s1.faults.haltTm = false ∧
    sl0.length = 264 ∧
    bits (beNat (List.take 8 sl0)) 63 62 = 0 ∧
    (bits (beNat (List.take 8 sl0)) 56 48 = (if 3 < 160 then (s1.tick T).bump (24608 + 3) 4 else s1.tick T).unit) ∧
    ((if 3 < 160 then (s1.tick T).bump (24608 + 3) 4 else s1.tick T).pinned (bits (beNat (List.take 8 sl0)) 47 39) = false) ∧
    ((({ (((if 3 < 160 then (s1.tick T).bump (24608 + 3) 4 else s1.tick T).bump 24577 3).noteClaim (bits (beNat (List.take 8 sl0)) 47 39) (bits (beNat (List.take 8 sl0)) 38 31)).fabric.rx (bits (beNat (List.take 8 sl0)) 47 39) (bits (beNat (List.take 8 sl0)) 61 59) with last := (((if 3 < 160 then (s1.tick T).bump (24608 + 3) 4 else s1.tick T).bump 24577 3).noteClaim (bits (beNat (List.take 8 sl0)) 47 39) (bits (beNat (List.take 8 sl0)) 38 31)).clock.now }
    : RxStream)).active = true) ∧
    ((bits (beNat (List.take 8 sl0)) 22 0 + 2 ^ 23 -
    (({ (((if 3 < 160 then (s1.tick T).bump (24608 + 3) 4 else s1.tick T).bump 24577 3).noteClaim (bits (beNat (List.take 8 sl0)) 47 39) (bits (beNat (List.take 8 sl0)) 38 31)).fabric.rx (bits (beNat (List.take 8 sl0)) 47 39) (bits (beNat (List.take 8 sl0)) 61 59) with last := (((if 3 < 160 then (s1.tick T).bump (24608 + 3) 4 else s1.tick T).bump 24577 3).noteClaim (bits (beNat (List.take 8 sl0)) 47 39) (bits (beNat (List.take 8 sl0)) 38 31)).clock.now }
    : RxStream)).r) % 2 ^ 23 = 0) ∧
    ((({ (((if 3 < 160 then (s1.tick T).bump (24608 + 3) 4 else s1.tick T).bump 24577 3).noteClaim (bits (beNat (List.take 8 sl0)) 47 39) (bits (beNat (List.take 8 sl0)) 38 31)).fabric.rx (bits (beNat (List.take 8 sl0)) 47 39) (bits (beNat (List.take 8 sl0)) 61 59) with last := (((if 3 < 160 then (s1.tick T).bump (24608 + 3) 4 else s1.tick T).bump 24577 3).noteClaim (bits (beNat (List.take 8 sl0)) 47 39) (bits (beNat (List.take 8 sl0)) 38 31)).clock.now }
    : RxStream)).held = []) ∧
    sl2.length = 264 ∧
    bits (beNat (List.take 8 sl2)) 63 62 = 2 ∧
    sl3.length = 264 ∧
    bits (beNat (List.take 8 sl3)) 63 62 = 3 ∧
    3 < 160 ∧
    slx.length = 264 ∧
    bits (beNat (List.take 8 slx)) 63 62 < 2 ∧
    (bits (beNat (List.take 8 slx)) 56 48 ≠ (if 3 < 160 then (s1.tick T).bump (24608 + 3) 4 else s1.tick T).unit) ∧
    s2.faults.haltTm = false := by
  refine ⟨?_, ?_, ?_, ?_, ?_, ?_, ?_, ?_, ?_, ?_, ?_, ?_, ?_, ?_, ?_, ?_, ?_⟩ <;> decide +kernel

/-- What the clauses of `FabricCellsAndTheirTimers` suppose, met by concrete states. -/
theorem witness_FabricCellsAndTheirTimers_1_b :
    (bits (beNat (List.take 8 sl0)) 56 48 = (if 3 < 160 then (s2.tick T).bump (24608 + 3) 4 else s2.tick T).unit) ∧
    ((if 3 < 160 then (s2.tick T).bump (24608 + 3) 4 else s2.tick T).pinned (bits (beNat (List.take 8 sl0)) 47 39) = false) ∧
    ((({ (((if 3 < 160 then (s2.tick T).bump (24608 + 3) 4 else s2.tick T).bump 24577 3).noteClaim (bits (beNat (List.take 8 sl0)) 47 39) (bits (beNat (List.take 8 sl0)) 38 31)).fabric.rx (bits (beNat (List.take 8 sl0)) 47 39) (bits (beNat (List.take 8 sl0)) 61 59) with last := (((if 3 < 160 then (s2.tick T).bump (24608 + 3) 4 else s2.tick T).bump 24577 3).noteClaim (bits (beNat (List.take 8 sl0)) 47 39) (bits (beNat (List.take 8 sl0)) 38 31)).clock.now }
    : RxStream)).active = true) ∧
    bit (beNat (List.take 8 sl0)) 57 = false ∧
    (0 < (bits (beNat (List.take 8 sl0)) 22 0 + 2 ^ 23 -
    (({ (((if 3 < 160 then (s2.tick T).bump (24608 + 3) 4 else s2.tick T).bump 24577 3).noteClaim (bits (beNat (List.take 8 sl0)) 47 39) (bits (beNat (List.take 8 sl0)) 38 31)).fabric.rx (bits (beNat (List.take 8 sl0)) 47 39) (bits (beNat (List.take 8 sl0)) 61 59) with last := (((if 3 < 160 then (s2.tick T).bump (24608 + 3) 4 else s2.tick T).bump 24577 3).noteClaim (bits (beNat (List.take 8 sl0)) 47 39) (bits (beNat (List.take 8 sl0)) 38 31)).clock.now }
    : RxStream)).r) % 2 ^ 23) ∧
    ((bits (beNat (List.take 8 sl0)) 22 0 + 2 ^ 23 -
    (({ (((if 3 < 160 then (s2.tick T).bump (24608 + 3) 4 else s2.tick T).bump 24577 3).noteClaim (bits (beNat (List.take 8 sl0)) 47 39) (bits (beNat (List.take 8 sl0)) 38 31)).fabric.rx (bits (beNat (List.take 8 sl0)) 47 39) (bits (beNat (List.take 8 sl0)) 61 59) with last := (((if 3 < 160 then (s2.tick T).bump (24608 + 3) 4 else s2.tick T).bump 24577 3).noteClaim (bits (beNat (List.take 8 sl0)) 47 39) (bits (beNat (List.take 8 sl0)) 38 31)).clock.now }
    : RxStream)).r) % 2 ^ 23 < 65536) ∧
    (((({ (((if 3 < 160 then (s2.tick T).bump (24608 + 3) 4 else s2.tick T).bump 24577 3).noteClaim (bits (beNat (List.take 8 sl0)) 47 39) (bits (beNat (List.take 8 sl0)) 38 31)).fabric.rx (bits (beNat (List.take 8 sl0)) 47 39) (bits (beNat (List.take 8 sl0)) 61 59) with last := (((if 3 < 160 then (s2.tick T).bump (24608 + 3) 4 else s2.tick T).bump 24577 3).noteClaim (bits (beNat (List.take 8 sl0)) 47 39) (bits (beNat (List.take 8 sl0)) 38 31)).clock.now }
    : RxStream)).held.any fun h => h.seq == bits (beNat (List.take 8 sl0)) 22 0) = true) ∧
    s3.faults.haltTm = false ∧
    (bits (beNat (List.take 8 sl0)) 56 48 = (if 3 < 160 then (s3.tick T).bump (24608 + 3) 4 else s3.tick T).unit) ∧
    ((if 3 < 160 then (s3.tick T).bump (24608 + 3) 4 else s3.tick T).pinned (bits (beNat (List.take 8 sl0)) 47 39) = false) ∧
    ((({ (((if 3 < 160 then (s3.tick T).bump (24608 + 3) 4 else s3.tick T).bump 24577 3).noteClaim (bits (beNat (List.take 8 sl0)) 47 39) (bits (beNat (List.take 8 sl0)) 38 31)).fabric.rx (bits (beNat (List.take 8 sl0)) 47 39) (bits (beNat (List.take 8 sl0)) 61 59) with last := (((if 3 < 160 then (s3.tick T).bump (24608 + 3) 4 else s3.tick T).bump 24577 3).noteClaim (bits (beNat (List.take 8 sl0)) 47 39) (bits (beNat (List.take 8 sl0)) 38 31)).clock.now }
    : RxStream)).active = true) ∧
    (4194304 ≤ (bits (beNat (List.take 8 sl0)) 22 0 + 2 ^ 23 -
    (({ (((if 3 < 160 then (s3.tick T).bump (24608 + 3) 4 else s3.tick T).bump 24577 3).noteClaim (bits (beNat (List.take 8 sl0)) 47 39) (bits (beNat (List.take 8 sl0)) 38 31)).fabric.rx (bits (beNat (List.take 8 sl0)) 47 39) (bits (beNat (List.take 8 sl0)) 61 59) with last := (((if 3 < 160 then (s3.tick T).bump (24608 + 3) 4 else s3.tick T).bump 24577 3).noteClaim (bits (beNat (List.take 8 sl0)) 47 39) (bits (beNat (List.take 8 sl0)) 38 31)).clock.now }
    : RxStream)).r) % 2 ^ 23) ∧
    s5.faults.haltTm = false ∧
    (bits (beNat (List.take 8 sl0)) 56 48 = (if 3 < 160 then (s5.tick T).bump (24608 + 3) 4 else s5.tick T).unit) ∧
    ((if 3 < 160 then (s5.tick T).bump (24608 + 3) 4 else s5.tick T).pinned (bits (beNat (List.take 8 sl0)) 47 39) = false) ∧
    ((({ (((if 3 < 160 then (s5.tick T).bump (24608 + 3) 4 else s5.tick T).bump 24577 3).noteClaim (bits (beNat (List.take 8 sl0)) 47 39) (bits (beNat (List.take 8 sl0)) 38 31)).fabric.rx (bits (beNat (List.take 8 sl0)) 47 39) (bits (beNat (List.take 8 sl0)) 61 59) with last := (((if 3 < 160 then (s5.tick T).bump (24608 + 3) 4 else s5.tick T).bump 24577 3).noteClaim (bits (beNat (List.take 8 sl0)) 47 39) (bits (beNat (List.take 8 sl0)) 38 31)).clock.now }
    : RxStream)).active = false) ∧
    ((((((if 3 < 160 then (s5.tick T).bump (24608 + 3) 4 else s5.tick T).bump 24577 3).noteClaim (bits (beNat (List.take 8
    sl0)) 47 39) (bits (beNat (List.take 8 sl0)) 38 31)).setRx
    (({ (((if 3 < 160 then (s5.tick T).bump (24608 + 3) 4 else s5.tick T).bump 24577 3).noteClaim (bits (beNat (List.take 8 sl0)) 47 39) (bits (beNat (List.take 8 sl0)) 38 31)).fabric.rx (bits (beNat (List.take 8 sl0)) 47 39) (bits (beNat (List.take 8 sl0)) 61 59) with last := (((if 3 < 160 then (s5.tick T).bump (24608 + 3) 4 else s5.tick T).bump 24577 3).noteClaim (bits (beNat (List.take 8 sl0)) 47 39) (bits (beNat (List.take 8 sl0)) 38 31)).clock.now }
    : RxStream))).allocCells 1 1 6).1.isSome = true) := by
  refine ⟨?_, ?_, ?_, ?_, ?_, ?_, ?_, ?_, ?_, ?_, ?_, ?_, ?_, ?_, ?_, ?_, ?_⟩ <;> decide +kernel

/-- What the clauses of `FabricCellsAndTheirTimers` suppose, met by concrete states. -/
theorem witness_FabricCellsAndTheirTimers_2 :
    s1.faults.haltTm = false ∧
    (s1.fabric.rx 5 1).active = true ∧
    (s1.fabric.rx 5 1).held = [] ∧
    (s1.fabric.rx 5 1).last + 2 * Config.ms ≤ (s1.tick T).clock.now ∧
    nget s1.fabric.pinHold 7 0 ≠ 0 ∧
    nget s1.fabric.pinHold 7 0 ≤ (s1.tick T).clock.now ∧
    (s1.tick 5).clock.now < nget s1.fabric.pinHold 7 0 ∧
    s2.faults.haltTm = false ∧
    ((s2.fabric.rx 5 1).held ≠ [] ∨ (s2.tick T).clock.now < (s2.fabric.rx 5 1).last + 2 * Config.ms) ∧
    s4.faults.haltTm = false ∧
    (s4.fabric.rx 5 1).held = [(s4.fabric.rx 5 1).held.headD
    { seq := 0, at_ := 0, cell := { bytes := [], arrival := 0, gens := [] : FCell }, place := none : HeldCell }] ∧
    ((s4.fabric.rx 5 1).held.headD
    { seq := 0, at_ := 0, cell := { bytes := [], arrival := 0, gens := [] : FCell }, place := none : HeldCell }).at_ +
    (s4.tick T).obj 25088 1 * Config.ns ≤ (s4.tick T).clock.now ∧
    (s4.fabric.rx 5 1).active = false ∧
    ((s4.fabric.rx 5 1).held.headD
    { seq := 0, at_ := 0, cell := { bytes := [], arrival := 0, gens := [] : FCell }, place := none : HeldCell }).seq < 2 ^
    23 ∧
    s6.faults.haltTm = false ∧
    (s6.fabric.rx 5 1).held = [(s6.fabric.rx 5 1).held.headD
    { seq := 0, at_ := 0, cell := { bytes := [], arrival := 0, gens := [] : FCell }, place := none : HeldCell }] ∧
    ¬((s6.fabric.rx 5 1).held.headD
    { seq := 0, at_ := 0, cell := { bytes := [], arrival := 0, gens := [] : FCell }, place := none : HeldCell }).at_ +
    (s6.tick T).obj 25088 1 * Config.ns ≤ (s6.tick T).clock.now ∧
    l1.faults.haltTm = false ∧
    (l1.lane 3).reachAt = some 5 ∧
    5 + 4 * Config.ms ≤ (l1.tick T).clock.now ∧
    l2.faults.haltTm = false ∧
    (l2.lane 3).reachAt = some (1000 * Config.sec) ∧
    (l2.tick T).clock.now < 1000 * Config.sec + 4 * Config.ms := by
  refine ⟨?_, ?_, ?_, ?_, ?_, ?_, ?_, ?_, ?_, ?_, ?_, ?_, ?_, ?_, ?_, ?_, ?_, ?_, ?_, ?_, ?_, ?_, ?_⟩ <;> decide +kernel

/-- What the clauses of `LanesRetireReturnAndFallShort` suppose, met by concrete states. -/
theorem witness_LanesRetireReturnAndFallShort_a :
    (sh2.tick T).laneRetired 3 = false ∧
    (sh2.tick T).laneRetireFits = false ∧
    (sh2.tick T).survey.waiting.contains (24832 + 3) = false ∧
    (sh2.lane 3).events.length < 16 ∧
    ((sh2.lane 3).retiring = false ∨ (sh2.lane 3).slots ≠ []) ∧
    (sh2.tick T).floorSync.fabric.shortAt ≠ 0 ∧
    (sh2.tick T).floorSync.fabric.shortRaised = false ∧
    (sh2.tick T).floorSync.clock.now ≤ (sh2.tick T).floorSync.fabric.shortAt - 1 + 100 * Config.ms ∧
    (sh2.tick T2).floorSync.fabric.shortAt ≠ 0 ∧
    (sh2.tick T2).floorSync.fabric.shortRaised = false ∧
    (sh2.tick T2).floorSync.fabric.shortAt - 1 + 100 * Config.ms < (sh2.tick T2).floorSync.clock.now ∧
    (W.run.tick T).laneRetired 3 = false ∧
    (W.run.tick T).laneRetireFits = true ∧
    (l10.lane 3).retiring = true := by
  refine ⟨?_, ?_, ?_, ?_, ?_, ?_, ?_, ?_, ?_, ?_, ?_, ?_, ?_, ?_⟩ <;> decide +kernel

/-- What the clauses of `LanesRetireReturnAndFallShort` suppose, met by concrete states. -/
theorem witness_LanesRetireReturnAndFallShort_b :
    (l10.lane 3).slots = [] ∧
    (l11.tick T).laneRetired 3 = true ∧
    (l11.lane 3).retiring = true ∧
    (l11.lane 3).slots = [] ∧
    (l3.tick T).laneRetired 3 = false ∧
    16 ≤ (l3.lane 3).events.length ∧
    (∀ e ∈ (l3.lane 3).events, (l3.tick T).clock.now < e + 3600 * Config.sec) ∧
    (l3.lane 3).holdEnd ≠ 0 ∧
    (l3.lane 3).holdEnd ≤ (l3.tick T).clock.now ∧
    (l4.lane 3).holdEnd ≠ 0 ∧
    (l4.tick T).clock.now < (l4.lane 3).holdEnd ∧
    (sh3.tick T).laneRetired 3 = false ∧
    (sh3.tick T).laneRetireFits = false ∧
    (sh3.tick T).survey.waiting.contains (24832 + 3) = true := by
  refine ⟨?_, ?_, ?_, ?_, ?_, ?_, ?_, ?_, ?_, ?_, ?_, ?_, ?_, ?_⟩ <;> decide +kernel

/-- What the clauses of `LinkFramesAreSentTakenAndDelivered` suppose, met by concrete states. -/
theorem witness_LinkFramesAreSentTakenAndDelivered_1 :
    W.run.dev.st ≠ DevState.boot ∧
    (W.run.tick T).testMode 161 = 0 ∧
    160 ≤ 161 ∧
    (W.run.tick T).testMode 3 = 0 ∧
    3 < 160 ∧
    (W.run.tick T).laneState 3 ≠ 3 ∧
    (((W.run.tick T).setLane (if (W.run.lane 3).frameNo = 0 then
    ({ W.run.lane 3 with oh0 := (W.run.tick T).obj 24832 3, oh1 := (W.run.tick T).obj 24832 4 } : FLane) else W.run.lane
    3)).lanesBlank = false) ∧
    (W.run.tick T).laneLoop (laneCode 3) = 0 ∧
    (ini.setLane (({ FLane.fresh 161 with st := 2 } : FLane))).dev.st ≠ DevState.boot ∧
    ((ini.setLane (({ FLane.fresh 161 with st := 2 } : FLane))).tick T).testMode 3 = 0 ∧
    ((ini.setLane (({ FLane.fresh 161 with st := 2 } : FLane))).tick T).laneState 3 ≠ 3 ∧
    ((((ini.setLane (({ FLane.fresh 161 with st := 2 } : FLane))).tick T).setLane (if ((ini.setLane
    (({ FLane.fresh 161 with st := 2 } : FLane))).lane 3).frameNo = 0 then
    ({ (ini.setLane (({ FLane.fresh 161 with st := 2 } : FLane))).lane 3 with oh0 := ((ini.setLane (({ FLane.fresh 161 with st := 2 } : FLane))).tick T).obj 24832 3, oh1 := ((ini.setLane (({ FLane.fresh 161 with st := 2 } : FLane))).tick T).obj 24832 4 }
    : FLane) else (ini.setLane (({ FLane.fresh 161 with st := 2 } : FLane))).lane 3)).lanesBlank = true) ∧
    (boot.dev.st = DevState.boot ∨ 161 < 160 ∧ (boot.tick T).laneState 161 = 3) ∧
    ll2.dev.st ≠ DevState.boot ∧
    (ll2.tick T).testMode 3 ≠ 0 ∧
    (3 < 160 → (ll2.tick T).laneState 3 ≠ 3) := by
  refine ⟨?_, ?_, ?_, ?_, ?_, ?_, ?_, ?_, ?_, ?_, ?_, ?_, ?_, ?_, ?_, ?_⟩ <;> decide +kernel

/-- What the clauses of `LinkFramesAreSentTakenAndDelivered` suppose, met by concrete states. -/
theorem witness_LinkFramesAreSentTakenAndDelivered_2 :
    (W.run.tick T).laneLoop (laneCode 3) = 0 ∧
    (W.run.tick T).laneOut 3 = false ∧
    (W.run.lane 3).st = 0 ∧
    findFaw ((W.run.lane 3).buf ++ List.replicate 56 true) 0 = none ∧
    (ll1.tick T).nearLoop (laneCode 3) = true ∧
    (l10.tick T).laneLoop (laneCode 3) = 0 ∧
    (l10.tick T).laneOut 3 = false ∧
    (l10.lane 3).st = 2 ∧
    (l10.lane 3).checked = false ∧
    (l10.lane 3).buf = [] ∧
    fawBits.length = 56 ∧
    (List.replicate 56 true).length = 56 ∧
    List.replicate 56 true ≠ fawBits ∧
    (l10.lane 3).fawRun < 3 ∧
    (l6.tick T).laneLoop (laneCode 3) = 0 ∧
    (l6.tick T).laneOut 3 = false ∧
    (l6.lane 3).st = 3 ∧
    (l9.tick T).laneLoop (laneCode 3) = 0 ∧
    (l9.tick T).laneOut 3 = true := by
  refine ⟨?_, ?_, ?_, ?_, ?_, ?_, ?_, ?_, ?_, ?_, ?_, ?_, ?_, ?_, ?_, ?_, ?_, ?_, ?_⟩ <;> decide +kernel

/-- What the clauses of `DefectsAndPerformanceSeconds` suppose, met by concrete states. -/
theorem witness_DefectsAndPerformanceSeconds_1 :
    (W.run.lane 3).st ≠ 3 ∧
    (W.run.lane 3).los = false ∧
    ((W.run.lane 3).st = 0 ∨ (W.run.lane 3).st = 1) ∧
    (W.run.lane 3).lof = false ∧
    max (W.run.lane 3).stAt (W.run.tick T).dev.coreBase + 2700657 ≤ (W.run.tick T).clock.now ∧
    ((W.run.lane 3).st ≠ 2 ∨ (W.run.tick T).clock.now < (W.run.lane 3).stAt + 2700657) ∧
    ((l1.lane 3).st = 2 ∨ (l1.lane 3).st = 3 ∨ (l1.lane 3).lof = true ∨ (l1.tick T).clock.now < max (l1.lane 3).stAt
    (l1.tick T).dev.coreBase + 2700657) ∧
    (l2.lane 3).lof = true ∧
    (l2.lane 3).st = 2 ∧
    (l2.lane 3).stAt + 2700657 ≤ (l2.tick T).clock.now ∧
    (l3.lane 3).st ≠ 3 ∧
    (l3.lane 3).los = true ∧
    (l6.lane 3).st = 3 := by
  refine ⟨?_, ?_, ?_, ?_, ?_, ?_, ?_, ?_, ?_, ?_, ?_, ?_, ?_⟩ <;> decide +kernel

/-- What the clauses of `DefectsAndPerformanceSeconds` suppose, met by concrete states. -/
theorem witness_DefectsAndPerformanceSeconds_2_a :
    (W.run.lane 3).tested = false ∧
    (W.run.tick T).testMode 3 = 0 ∧
    (W.run.lane 3).unavail = false ∧
    ((if 1831055 ≤ (W.run.lane 3).errs then 2 else if (W.run.lane 3).errs ≠ 0 then 1 else 0) ≠ 2) ∧
    (l4.lane 3).secs = [(5, 1), (99999, 2)] ∧
    (5, 1).1 + 10 ≤ (l4.tick T).clock.sec ∧
    (∀ f ∈ [(99999, 2)], (l4.tick T).clock.sec < f.1 + 10) ∧
    (5, 1).2 = 1 ∧
    (l5.lane 3).tested = false ∧
    (l5.tick T).testMode 3 = 0 ∧
    (l5.lane 3).unavail = false ∧
    ((if 1831055 ≤ (l5.lane 3).errs then 2 else if (l5.lane 3).errs ≠ 0 then 1 else 0) = 2) ∧
    (l5.lane 3).sesRun < 9 ∧
    (l5.lane 3).secs = [(99999, 2)] ∧
    (l5.tick T).clock.sec < (99999, 2).1 + 10 ∧
    (l6.lane 3).tested = false ∧
    (l6.tick T).testMode 3 = 0 ∧
    (l6.lane 3).unavail = false ∧
    ((if 1831055 ≤ (l6.lane 3).errs then 2 else if (l6.lane 3).errs ≠ 0 then 1 else 0) = 2) ∧
    (l6.lane 3).sesRun = 9 := by
  refine ⟨?_, ?_, ?_, ?_, ?_, ?_, ?_, ?_, ?_, ?_, ?_, ?_, ?_, ?_, ?_, ?_, ?_, ?_, ?_, ?_⟩ <;> decide +kernel

/-- What the clauses of `DefectsAndPerformanceSeconds` suppose, met by concrete states. -/
theorem witness_DefectsAndPerformanceSeconds_2_b :
    (l6.lane 3).secs = [(9, 8), (99999, 2)] ∧
    (9, 8).1 + 10 ≤ (l6.tick T).clock.sec ∧
    (∀ f ∈ [(99999, 2)], (l6.tick T).clock.sec < f.1 + 10) ∧
    8 ≤ (9, 8).2 ∧
    ((l7.lane 3).tested = true ∨ (l7.tick T).testMode 3 ≠ 0) ∧
    (l7.lane 3).unavail = false ∧
    (l7.lane 3).sesRun < 10 ∧
    (l7.lane 3).secs = [(9, 2), (99999, 2)] ∧
    (9, 2).1 + 10 ≤ (l7.tick T).clock.sec ∧
    (∀ f ∈ [(99999, 2)], (l7.tick T).clock.sec < f.1 + 10) ∧
    (9, 2).2 = 2 ∧
    (l8.lane 3).tested = false ∧
    (l8.tick T).testMode 3 = 0 ∧
    (l8.lane 3).unavail = true ∧
    ((if 1831055 ≤ (l8.lane 3).errs then 2 else if (l8.lane 3).errs ≠ 0 then 1 else 0) ≠ 2) ∧
    (l8.lane 3).okRun = 9 ∧
    (l8.lane 3).secs = [(9, 4), (99999, 2)] ∧
    (9, 4).1 + 10 ≤ (l8.tick T).clock.sec ∧
    (∀ f ∈ [(99999, 2)], (l8.tick T).clock.sec < f.1 + 10) ∧
    ((9, 4).2 = 0 ∨ (9, 4).2 = 4) := by
  refine ⟨?_, ?_, ?_, ?_, ?_, ?_, ?_, ?_, ?_, ?_, ?_, ?_, ?_, ?_, ?_, ?_, ?_, ?_, ?_, ?_⟩ <;> decide +kernel

/-- What the clauses of `LinkFramesAreSentTakenAndDelivered` suppose, met by concrete states. -/
theorem witness_LinkFramesAreSentTakenAndDelivered_3 :
    (W.run.tick T).testMode 3 = 0 ∧
    (W.run.lane 3).slip = [] ∧
    (lt1.tick T).testMode 3 ≠ 0 ∧
    (l4.tick T).testMode 3 = 0 ∧
    (l4.lane 3).slip = [[]] ∧
    fillerFrame [] = true ∧
    (l4.lane 3).slip.length ≤ 2 ∧
    (l5.tick T).testMode 3 = 0 ∧
    (l5.lane 3).slip = [[], [], [], [], [], [some sl2], [some sl2]] ∧
    6 ≤ (l5.lane 3).slip.length ∧
    (l6.tick T).testMode 3 = 0 ∧
    (l6.lane 3).slip = [[some sl0]] ∧
    (fillerFrame [some sl0] = false ∨ 2 < (l6.lane 3).slip.length ∧ (l6.lane 3).slip.length < 6) := by
  refine ⟨?_, ?_, ?_, ?_, ?_, ?_, ?_, ?_, ?_, ?_, ?_, ?_, ?_⟩ <;> decide +kernel

end C09

namespace C10

def T : Nat := W.T

def W4 : State := (W.run.setObj 0x3004 1 1).setObj 0x3004 0x12 1

def ok : State := (W4.setSerdes ⟨4, true, true, 0,0,0,false,false,false,false,false,0,none⟩)

def pt (s : State) (f : Port → Port) : State := s.setPort (f (s.port 4))

def p1 := pt ok (fun x => { x with link := 0, okAt := 5, good := true })

def p2 := pt W4 (fun x => { x with link := 1, good := true, failAt := 5, paused := [(2,5,9000*Config.sec)] })

def p3 := pt ok (fun x => { x with link := 1, good := true, failAt := 5, downs := [1000*Config.sec], paused := [(2,1000*Config.sec,9000*Config.sec)], storm := [(2, 7)] })

def p4 := pt (ok.setObj 0x3004 2 1) (fun x => { x with link := 3, flapEnd := 5, storm := [(2, 7000*Config.sec)] })

def p6 := pt W4 (fun x => { x with link := 3, flapEnd := 5000 * Config.sec, good := false, failAt := 1000*Config.sec })

def p7 := { (p2.setObj 0x3004 9 4) with lines := { p2.lines with perm := true } }

def fr : Frame := lineFrame 4 0 (zeros 70) 5 none

def fl (f : Frame) (s : State) : State := { s with flow := { s.flow with toLine := [(4,f)] } }

def q1 := fl fr p3

def q2 := fl { fr with bad := true } (p3.setObj 0x3004 0x11 0)

def fcsd (l : List Byte) : List Byte := l ++ fcsOf l

def pf (q : Nat) : List Byte := fcsd ([1,0x80,0xC2,0,0,1] ++ zeros 6 ++ [0x88,8,1,1] ++ [0,4] ++ zeros 4 ++ beBytes 2 q ++ zeros 36)

def mc (n : Nat) : List Byte := fcsd ([1,0x80,0xC2,0,0,1] ++ zeros 6 ++ [0x88,8] ++ beBytes 2 n ++ zeros 44)

def st1 : State := { W.run with clock := { W.run.clock with step := some (5, 99990), ppsHigh := true, ppsUntil := 5 } }

def st2 : State := { W.run with clock := { W.run.clock with step := some (5, 200000), sub := 0 } }

def st3 : State := { W.run with clock := { W.run.clock with step := some (5, 99999), sub := 0 } }

def sx : State := ((W.run.setSerdes ⟨4, true, false, 0,0,0,true,true,false,false,false,0,none⟩).setObjI 0x3201 7 4 1)

def sec : Nat := 99999

def pr1 := pt p1 (fun x => { x with remote := true, good := false })

def pr2 := pt ok (fun x => { x with link := 0, failAt := 5, okAt := 1000*Config.sec, remote := true })

def pq := (pt ok (fun x => { x with link := 1, good := true })).setObj 0x3004 9 4

def q3 := (fl { fr with rtag := some 7 } p3).setObjI 0x3201 5 4 1

def q4 := fl fr (pt p3 (fun x => { x with good := false }))

def T0 : Nat := 1000 * Config.sec

def gfr : Frame := { fr with gated := true }

def gr : Grat := ⟨1, [(1,1000)], 0, 0, 1⟩

def gq : State := let s := fl gfr p3; { s with gates := { s.gates with inForce := [(4, gr)] }, faults := { s.faults with marks := [(0x352004, 100001)] } }

def fpath (c : Fin 16) (o : Nat) : FailedPath := ⟨1, 1, false, false, ⟨c, 2, 1, o, 0, false⟩⟩

def hp (s : State) (c : Fin 16) (o : Nat) : State := { s with faults := { s.faults with paths := [fpath c o] } }

/-- What the clauses of `PortsAndTheirLanesChange` suppose, met by concrete states. -/
theorem witness_PortsAndTheirLanesChange_1_a :
    (pr1.port 4).link ≠ 1 ∧
    (pr1.port 4).link ≠ 3 ∧
    ((pr1.tick T).setPort { (pr1.port 4) with remote := false, aligned := true : Port }).portGood 4 = true ∧
    (pr1.port 4).okAt + (pr1.tick T).obj (12288 + 4) 5 * Config.ms ≤ (pr1.tick T).clock.now ∧
    (pr1.tick T).portMode 4 ≠ 0 ∧
    ((pr1.port 4).good = true ∨ (pr1.port 4).failAt + (pr1.tick T).obj (12288 + 4) 6 * Config.us ≤ (pr1.tick T).clock.now) ∧
    ((pr1.tick T).portMode 4 = 0 ∨ (pr1.tick T).obj (12288 + 4) 2 ≠ 1 ∨ (pr1.port 4).link = 1) ∧
    ((pr2.port 4).link = 3 ∨ (pr2.port 4).link ≠ 1 ∧ (((pr2.tick T).setPort
    { (pr2.port 4) with remote := false, aligned := true : Port }).portGood 4 = false ∨ (pr2.tick T).clock.now < (pr2.port
    4).okAt + (pr2.tick T).obj (12288 + 4) 5 * Config.ms)) ∧
    ((W.run.tick T).portMode 4 = 0 ∨ (W.run.port 4).good = false ∧ (W.run.tick T).clock.now < (W.run.port 4).failAt +
    (W.run.tick T).obj (12288 + 4) 6 * Config.us) ∧
    (p2.port 4).link = 1 ∧
    (p2.tick T).portMode 4 ≠ 0 ∧
    ((p2.port 4).good = true ∨ (p2.port 4).failAt + (p2.tick T).obj (12288 + 4) 6 * Config.us ≤ (p2.tick T).clock.now) ∧
    ((p2.tick T).obj (12288 + 4) 18 = 0 ∨ (List.filter (fun a => decide ((p2.tick T).clock.now < a + 10 * Config.sec))
    (p2.port 4).downs ++ [(p2.tick T).clock.now]).length ≤ (p2.tick T).obj (12288 + 4) 18) ∧
    (p3.tick T).portMode 4 ≠ 0 ∧
    (p3.port 4).link = 1 := by
  refine ⟨?_, ?_, ?_, ?_, ?_, ?_, ?_, ?_, ?_, ?_, ?_, ?_, ?_, ?_, ?_⟩ <;> decide +kernel

/-- What the clauses of `PortsAndTheirLanesChange` suppose, met by concrete states. -/
theorem witness_PortsAndTheirLanesChange_1_b :
    ((p3.port 4).good = true ∨ (p3.port 4).failAt + (p3.tick T).obj (12288 + 4) 6 * Config.us ≤ (p3.tick T).clock.now) ∧
    (p3.tick T).obj (12288 + 4) 18 ≠ 0 ∧
    ((p3.tick T).obj (12288 + 4) 18 < (List.filter (fun a => decide ((p3.tick T).clock.now < a + 10 * Config.sec)) (p3.port
    4).downs ++ [(p3.tick T).clock.now]).length) ∧
    (p4.port 4).link = 3 ∧
    (p4.port 4).flapEnd ≤ (p4.tick T).clock.now ∧
    ((p4.faults.paths.any fun q => sourcePort q.source == some 4) = false) ∧
    (p4.tick T).portMode 4 ≠ 0 ∧
    (p4.tick T).obj (12288 + 4) 2 = 1 ∧
    (p4.port 4).link ≠ 1 ∧
    (p6.port 4).link = 3 ∧
    (p6.tick T).clock.now < (p6.port 4).flapEnd ∧
    ((hp p4 (13 : Fin 16) 4).port 4).link = 3 ∧
    ((hp p4 (13 : Fin 16) 4).port 4).flapEnd ≤ ((hp p4 (13 : Fin 16) 4).tick T).clock.now ∧
    (((hp p4 (13 : Fin 16) 4).faults.paths.any fun q => sourcePort q.source == some 4) = true) := by
  refine ⟨?_, ?_, ?_, ?_, ?_, ?_, ?_, ?_, ?_, ?_, ?_, ?_, ?_, ?_⟩ <;> decide +kernel

/-- What the clauses of `PortsAndTheirLanesChange` suppose, met by concrete states. -/
theorem witness_PortsAndTheirLanesChange_2 :
    W.run.faults.haltFe = false ∧
    (W.run.serdes 4).locked = false ∧
    ((W.run.tick T).adapts (laneCodeOf (Lane.line (4 : Fin 128))) = false ∨ (W.run.serdes (laneCodeOf (Lane.line (4 : Fin
    128)))).asleep = true) ∧
    (4 / 4 ≠ 1 ∨ (W.run.tick T).portMode 4 = 0 ∨ True) ∧
    (W.run.tick T).mayTransmit = true ∧
    W.run.lines.perm = false ∧
    (∀ (p : Fin 128), (W.run.tick T).portMode p.val = 0 ∨ (W.run.tick T).obj (12288 + p.val) 17 ≠ 1) ∧
    (p1.serdes 4).locked = true ∧
    (p1.tick T).portOfLane 4 = some 4 ∧
    (p1.tick T).adapts (laneCodeOf (Lane.line (4 : Fin 128))) = true ∧
    (p1.serdes (laneCodeOf (Lane.line (4 : Fin 128)))).asleep = false ∧
    p1.faults.haltFe = false ∧
    4 / 4 = 1 ∧
    (p1.tick T).portMode 4 ≠ 0 ∧
    [5] ≠ [] ∧
    (sx.serdes 4).locked = true ∧
    (sx.tick T).portOfLane 4 = none ∧
    ((p7.tick T).mayTransmit = false ∨ p7.lines.perm = true) := by
  refine ⟨?_, ?_, ?_, ?_, ?_, ?_, ?_, ?_, ?_, ?_, ?_, ?_, ?_, ?_, ?_, ?_, ?_, ?_⟩ <;> decide +kernel

/-- What the clauses of `MacControlAndLineFrames` suppose, met by concrete states. -/
theorem witness_MacControlAndLineFrames_1_a :
    pq.faults.haltFe = false ∧
    (pq.tick T).linkUp 4 = true ∧
    (pq.tick T).nearLoop 4 = false ∧
    64 ≤ (pq.tick T).obj (12288 + 4) 3 ∧
    (pf 0).length = 64 ∧
    List.drop 60 (pf 0) = fcsOf (List.take 60 (pf 0)) ∧
    beAt (pf 0) 12 2 = 34824 ∧
    beAt (pf 0) 0 6 = 1652522221569 ∧
    beAt (pf 0) 14 2 = 257 ∧
    beAt (pf 0) 16 2 = 2 ^ 2 ∧
    bit ((pq.tick T).obj (12288 + 4) 9) 2 = true ∧
    (pq.port 4).storming (pq.tick T).clock.now 2 = false ∧
    (pq.port 4).pausedNow (pq.tick T).clock.now 2 = false ∧
    (mc 1).length = 64 ∧
    List.drop 60 (mc 1) = fcsOf (List.take 60 (mc 1)) ∧
    beAt (mc 1) 12 2 = 34824 := by
  refine ⟨?_, ?_, ?_, ?_, ?_, ?_, ?_, ?_, ?_, ?_, ?_, ?_, ?_, ?_, ?_, ?_⟩ <;> decide +kernel

/-- What the clauses of `MacControlAndLineFrames` suppose, met by concrete states. -/
theorem witness_MacControlAndLineFrames_1_b :
    beAt (mc 1) 0 6 = 1652522221569 ∧
    beAt (mc 1) 14 2 = 1 ∧
    (mc 7).length = 64 ∧
    List.drop 60 (mc 7) = fcsOf (List.take 60 (mc 7)) ∧
    beAt (mc 7) 12 2 = 34824 ∧
    (¬beAt (mc 7) 0 6 = 1652522221569 ∨ beAt (mc 7) 14 2 ≠ 1 ∧ beAt (mc 7) 14 2 ≠ 257) ∧
    p2.faults.haltFe = false ∧
    (p2.tick T).linkUp 4 = true ∧
    (p2.tick T).nearLoop 4 = false ∧
    64 ≤ (p2.tick T).obj (12288 + 4) 3 ∧
    (bit ((p2.tick T).obj (12288 + 4) 9) 2 = false ∨ (p2.port 4).storming (p2.tick T).clock.now 2 = true) ∧
    (List.find? (fun e => e.1 == 2 && decide ((p2.tick T).clock.now < e.2.2)) (p2.port 4).paused = some (2, 5, 9000 *
    Config.sec)) ∧
    (2, 5, 9000 * Config.sec).2.1 + (p2.tick T).obj (12288 + 4) 11 * Config.ms ≤ (p2.tick T).clock.now ∧
    p3.faults.haltFe = false ∧
    (List.find? (fun e => e.1 == 2 && decide ((p3.tick T).clock.now < e.2.2)) (p3.port 4).paused = some (2, 1000 *
    Config.sec, 9000 * Config.sec)) ∧
    (p3.tick T).clock.now < (2, 1000 * Config.sec, 9000 * Config.sec).2.1 + (p3.tick T).obj (12288 + 4) 11 * Config.ms := by
  refine ⟨?_, ?_, ?_, ?_, ?_, ?_, ?_, ?_, ?_, ?_, ?_, ?_, ?_, ?_, ?_, ?_⟩ <;> decide +kernel

/-- What the clauses of `MacControlAndLineFrames` suppose, met by concrete states. -/
theorem witness_MacControlAndLineFrames_2_a :
    W.run.faults.haltFe = false ∧
    W.run.flow.macHead 4 = none ∧
    q3.faults.haltFe = false ∧
    q3.flow.macHead 4 = some (({ fr with rtag := some 7 } : Frame)) ∧
    (q3.tick T).linkUp 4 = true ∧
    (q3.tick T).mayTransmit = true ∧
    (q3.tick T).faultStands 4 = false ∧
    (q3.tick T).overrun (({ fr with rtag := some 7 } : Frame)) 4 = false ∧
    (q3.tick T).nearLoop 4 = true ∧
    (({ fr with rtag := some 7 } : Frame)).bad = false ∧
    (({ fr with rtag := some 7 } : Frame)).coming = 0 ∧
    q4.faults.haltFe = false ∧
    q4.flow.macHead 4 = some fr ∧
    (q4.tick T).mayTransmit = true ∧
    (q4.tick T).faultStands 4 = true ∧
    q1.faults.haltFe = false ∧
    q1.flow.macHead 4 = some fr ∧
    (q1.tick T).linkUp 4 = true ∧
    (q1.tick T).mayTransmit = true ∧
    (q1.tick T).faultStands 4 = false ∧
    (q1.tick T).overrun fr 4 = false ∧
    (q1.tick T).nearLoop 4 = false := by
  refine ⟨?_, ?_, ?_, ?_, ?_, ?_, ?_, ?_, ?_, ?_, ?_, ?_, ?_, ?_, ?_, ?_, ?_, ?_, ?_, ?_, ?_, ?_⟩ <;> decide +kernel

/-- What the clauses of `MacControlAndLineFrames` suppose, met by concrete states. -/
theorem witness_MacControlAndLineFrames_2_b :
    fr.bad = false ∧
    fr.coming = 0 ∧
    q2.faults.haltFe = false ∧
    q2.flow.macHead 4 = some (({ fr with bad := true } : Frame)) ∧
    (q2.tick T).linkUp 4 = true ∧
    (q2.tick T).mayTransmit = true ∧
    (q2.tick T).faultStands 4 = false ∧
    (q2.tick T).overrun (({ fr with bad := true } : Frame)) 4 = false ∧
    (q2.tick T).nearLoop 4 = false ∧
    ((({ fr with bad := true } : Frame)).bad = true ∨ (({ fr with bad := true } : Frame)).coming ≠ 0) ∧
    (fl fr W.run).faults.haltFe = false ∧
    (fl fr W.run).flow.macHead 4 = some fr ∧
    (((fl fr W.run).tick T).linkUp 4 = false ∨ ((fl fr W.run).tick T).mayTransmit = false) ∧
    gq.faults.haltFe = false ∧
    gq.flow.macHead 4 = some gfr ∧
    (gq.tick T).linkUp 4 = true ∧
    (gq.tick T).mayTransmit = true ∧
    (gq.tick T).faultStands 4 = false ∧
    gfr.gated = true ∧
    (gq.tick T).gates.of 4 = some gr ∧
    gfr.stored + gr.allow < gfr.data.length + gfr.coming := by
  refine ⟨?_, ?_, ?_, ?_, ?_, ?_, ?_, ?_, ?_, ?_, ?_, ?_, ?_, ?_, ?_, ?_, ?_, ?_, ?_, ?_, ?_⟩ <;> decide +kernel

/-- What the clauses of `TimePulsesAndLaneServices` suppose, met by concrete states. -/
theorem witness_TimePulsesAndLaneServices :
    W.run.clock.step = none ∧
    (W.run.tick T).ppsDue = true ∧
    (W.run.clock.ppsHigh = false ∨ (W.run.tick T).clock.now < W.run.clock.ppsUntil) ∧
    ((W.run.tick T).checkOf (laneCodeOf (Lane.line (4 : Fin 128))) = 0 ∨ (W.run.tick T).nearLoop (laneCodeOf (Lane.line (4 :
    Fin 128))) = true ∧ (W.run.tick T).genOf (laneCodeOf (Lane.line (4 : Fin 128))) ≠ (W.run.tick T).checkOf (laneCodeOf
    (Lane.line (4 : Fin 128)))) ∧
    (W.run.serdes (laneCodeOf (Lane.line (4 : Fin 128)))).rxWaking = false ∧
    (W.run.serdes (laneCodeOf (Lane.line (4 : Fin 128)))).txWaking = false ∧
    st1.clock.ppsHigh = true ∧
    st1.clock.ppsUntil ≤ (st1.tick T).clock.now ∧
    st3.clock.step = some (5, sec) ∧
    (st3.tick T).clock.sec = sec + 1 ∧
    st3.gates.pending = [] ∧
    (sx.tick T).checkOf (laneCodeOf (Lane.line (4 : Fin 128))) ≠ 0 ∧
    ((sx.tick T).nearLoop (laneCodeOf (Lane.line (4 : Fin 128))) = false ∨ (sx.tick T).genOf (laneCodeOf (Lane.line (4 : Fin
    128))) = (sx.tick T).checkOf (laneCodeOf (Lane.line (4 : Fin 128)))) ∧
    (sx.tick T).sourceHeld 7 (laneCodeOf (Lane.line (4 : Fin 128))) = false ∧
    (sx.serdes (laneCodeOf (Lane.line (4 : Fin 128)))).rxWaking = true ∧
    (sx.serdes (laneCodeOf (Lane.line (4 : Fin 128)))).txWaking = true ∧
    ((hp W.run (6 : Fin 16) 4).tick T).sourceHeld 7 (laneCodeOf (Lane.line (4 : Fin 128))) = true ∧
    (W.run.tick (T0 + 7777 * Config.ns)).ppsDue = false ∧
    st2.clock.step = some (5, 200000) ∧
    (st2.tick T).clock.sec ≤ 200000 := by
  refine ⟨?_, ?_, ?_, ?_, ?_, ?_, ?_, ?_, ?_, ?_, ?_, ?_, ?_, ?_, ?_, ?_, ?_, ?_, ?_, ?_⟩ <;> decide +kernel

end C10

namespace C11

def T : Nat := W.T

def rdy : State := { W.run with dev := { W.run.dev with st := .ready } }

def mnt : State := { W.run with dev := { W.run.dev with st := .maint } , record := W.run.record }

def dv : State := { mnt with record := { mnt.record with divergent := true } }

def fe2 : State := { (W.run.raise { cls := 4, level := 1, die := 1, object := 5 }) with }

def sl : State := ((W.run.setObjI 0x3201 0xC 0 1).setObjI 0x3201 0xD 0 1).setObjI 0x3201 7 0 1

def pi (st : PairSt) : State := { W.run with pair := { W.run.pair with st := st, partnerSt := .standby } }

def B (l : List Nat) : List Byte := l.map byteOf

def tst0 : State := rdy.setLane { rdy.lane 3 with st := 3 }

def slr : State := sl.setSerdes { sl.serdes 0 with rxSleepAt := 1000*Config.sec }

def srec : List Byte := leBytes 16 (256 * 2^77 + 1 * 2^67)

def ps : PopSess := { sid := 1, role := 3, key := zeros 32, label := 0, peer := ⟨1, 0x0A000001, 700⟩, high := 0, seen := [], held := [], queue := [], acc := [], txSeq := 0, last := 1000*Config.sec }

def mhi : State := { mnt with dict := { mnt.dict with pop := { mnt.dict.pop with sess := [none, none, none, some ps] } } }

/-- What the clauses of `TableQueueLineAndLaneWritesAct` suppose, met by concrete states. -/
theorem witness_TableQueueLineAndLaneWritesAct_1 :
    (rdy.tick T).Ready Path.mailbox ∧
    (1 = 1 ∨ 1 = 5 ∨ 1 = 12) ∧
    ((rdy.tick T).begun Path.mailbox).obj (17936 + 3) 1 = leNat (B [0]) ∧
    ((rdy.tick T).begun Path.mailbox).admits Path.mailbox (17936 + 3) 1 (B [0]) = true ∧
    ((rdy.tick T).begun Path.mailbox).afterFault (17936 + 3) 1 = none ∧
    ((rdy.tick T).begun Path.mailbox).admits Path.mailbox (17504 + 3) 9 (B [0]) = true ∧
    (((rdy.tick T).begun Path.mailbox).setObj (17504 + 3) 9 (leNat (B [0]))).afterFault (17504 + 3) 9 = none ∧
    (5 = 1 ∨ 5 = 5 ∨ 5 = 12) ∧
    ((rdy.tick T).begun Path.mailbox).obj (17936 + 3) 5 ≠ leNat (B [1]) ∧
    5 ≠ 1 ∧
    ((rdy.tick T).begun Path.mailbox).admits Path.mailbox (17936 + 3) 5 (B [1]) = true ∧
    ({ (((rdy.tick T).begun Path.mailbox).setObj (17936 + 3) 5 (leNat (B [1]))) with tables := ({ (((rdy.tick T).begun Path.mailbox).setObj (17936 + 3) 5 (leNat (B [1]))).tables with learned := List.filter (fun e => match ((rdy.tick T).begun Path.mailbox).bucketTable (e.1 / 8) with | some j => !decide (j = 3) | none => true) (((rdy.tick T).begun Path.mailbox).setObj (17936 + 3) 5 (leNat (B [1]))).tables.learned } : Tables) : State }.afterFault (17936 + 3) 5 = none) ∧
    leNat (B [1]) = 1 ∧
    ((rdy.tick T).begun Path.mailbox).admits Path.mailbox 20737 1 (B [1]) = true ∧
    ((have w := List.foldl (fun w k => w.settleNode k (defaultRec ((rdy.tick T).begun Path.mailbox).unit k)) (((rdy.tick
    T).begun Path.mailbox).setObj 20737 1 1) (List.map (fun x => x.key) ((rdy.tick T).begun Path.mailbox).sched.nodes);
    { w with sched := ({ w.sched with recs := [], mapUnit := ((rdy.tick T).begun Path.mailbox).unit } : Sched) : State }).afterFault
    20737 1 = none) ∧
    ((rdy.tick T).begun Path.mailbox).admits Path.mailbox 20993 2 (B [0, 0]) = true ∧
    (((rdy.tick T).begun Path.mailbox).setObjI 20993 2 (((rdy.tick T).begun Path.mailbox).obj 20993 1) (leNat (B [0,
    0]))).afterFault 20993 2 = none ∧
    1 < 256 ∧
    ((rdy.tick T).begun Path.mailbox).admits Path.mailbox (16656 + 3) 1 (B [0, 0, 0, 0]) = true ∧
    (((rdy.tick T).begun Path.mailbox).setObj (16656 + 3) 1 (leNat (B [0, 0, 0, 0]))).afterFault (16656 + 3) 1 = none ∧
    ((rdy.tick T).begun Path.mailbox).admits Path.mailbox 20736 2 (zeros 32) = true ∧
    (((rdy.tick T).begun Path.mailbox).setNodeRec (nodeKey 5 (((rdy.tick T).begun Path.mailbox).obj 20736 1)) (leNat (zeros
    32))).afterFault 20736 2 = none ∧
    ((rdy.tick T).begun Path.mailbox).admits Path.mailbox 20992 3 (zeros 32) = true ∧
    (((rdy.tick T).begun Path.mailbox).setNodeRec ((rdy.tick T).begun Path.mailbox).selNode (leNat (zeros 32))).afterFault
    20992 3 = none := by
  refine ⟨?_, ?_, ?_, ?_, ?_, ?_, ?_, ?_, ?_, ?_, ?_, ?_, ?_, ?_, ?_, ?_, ?_, ?_, ?_, ?_, ?_, ?_, ?_, ?_⟩ <;> decide +kernel

/-- What the clauses of `TableQueueLineAndLaneWritesAct` suppose, met by concrete states. -/
theorem witness_TableQueueLineAndLaneWritesAct_2_a :
    (W.run.tick T).Ready Path.mailbox ∧
    leNat (B [0]) = 0 ∧
    ((W.run.tick T).begun Path.mailbox).admits Path.mailbox (24608 + 3) 6 (B [0]) = true ∧
    (((W.run.tick T).begun Path.mailbox).lane 3).st ≠ 3 ∧
    ((W.run.tick T).begun Path.mailbox).admits Path.mailbox (laneObj 3) 3 (B [0]) = true ∧
    ((W.run.tick T).begun Path.mailbox).admits Path.mailbox 12801 5 (B [0]) = true ∧
    leNat (B [0]) = ((W.run.tick T).begun Path.mailbox).objI 12801 6 (((W.run.tick T).begun Path.mailbox).obj 12801 1) ∧
    ((W.run.tick T).begun Path.mailbox).admits Path.mailbox 12801 6 (B [0]) = true ∧
    leNat (B [0]) = ((W.run.tick T).begun Path.mailbox).objI 12801 7 (((W.run.tick T).begun Path.mailbox).obj 12801 1) ∧
    ((W.run.tick T).begun Path.mailbox).admits Path.mailbox 12801 7 (B [0]) = true ∧
    ((W.run.tick T).begun Path.mailbox).admits Path.mailbox 12801 11 (B [0]) = true ∧
    leNat (B [0]) = ((W.run.tick T).begun Path.mailbox).objI 12801 12 (((W.run.tick T).begun Path.mailbox).obj 12801 1) ∧
    ((W.run.tick T).begun Path.mailbox).admits Path.mailbox 12801 12 (B [0]) = true ∧
    leNat (B [0]) = ((W.run.tick T).begun Path.mailbox).objI 12801 13 (((W.run.tick T).begun Path.mailbox).obj 12801 1) ∧
    ((W.run.tick T).begun Path.mailbox).admits Path.mailbox 12801 13 (B [0]) = true ∧
    W.run.record.divergent = false ∧
    ((W.run.tick T).begun Path.mailbox).admits Path.mailbox (12288 + 4) 1 (B [0]) = true ∧
    leNat (B [1]) = 1 ∧
    ((W.run.tick T).begun Path.mailbox).admits Path.mailbox (24608 + 3) 6 (B [1]) = true ∧
    leNat (B [1]) ≠ 0 ∧
    ((W.run.tick T).begun Path.mailbox).admits Path.mailbox (laneObj 3) 3 (B [1]) = true ∧
    leNat (B [1]) ≠ ((W.run.tick T).begun Path.mailbox).objI 12801 6 (((W.run.tick T).begun Path.mailbox).obj 12801 1) ∧
    ((W.run.tick T).begun Path.mailbox).admits Path.mailbox 12801 6 (B [1]) = true := by
  refine ⟨?_, ?_, ?_, ?_, ?_, ?_, ?_, ?_, ?_, ?_, ?_, ?_, ?_, ?_, ?_, ?_, ?_, ?_, ?_, ?_, ?_, ?_, ?_⟩ <;> decide +kernel

/-- What the clauses of `TableQueueLineAndLaneWritesAct` suppose, met by concrete states. -/
theorem witness_TableQueueLineAndLaneWritesAct_2_b :
    leNat (B [1]) ≠ ((W.run.tick T).begun Path.mailbox).objI 12801 7 (((W.run.tick T).begun Path.mailbox).obj 12801 1) ∧
    ((W.run.tick T).begun Path.mailbox).admits Path.mailbox 12801 7 (B [1]) = true ∧
    ((W.run.tick T).begun Path.mailbox).admits Path.mailbox 12801 11 (B [1]) = true ∧
    ((W.run.tick T).begun Path.mailbox).objI 12801 12 (((W.run.tick T).begun Path.mailbox).obj 12801 1) = 0 ∧
    ((W.run.tick T).begun Path.mailbox).admits Path.mailbox 12801 12 (B [1]) = true ∧
    ((W.run.tick T).begun Path.mailbox).objI 12801 13 (((W.run.tick T).begun Path.mailbox).obj 12801 1) = 0 ∧
    ((W.run.tick T).begun Path.mailbox).admits Path.mailbox 12801 13 (B [1]) = true ∧
    ((W.run.tick T).begun Path.mailbox).admits Path.mailbox 8448 3 (B [0, 0, 0, 0]) = true ∧
    ((W.run.tick T).begun Path.mailbox).admits Path.mailbox 8448 6 (zeros 10) = true ∧
    (sl.tick T).Ready Path.mailbox ∧
    ((sl.tick T).begun Path.mailbox).objI 12801 12 (((sl.tick T).begun Path.mailbox).obj 12801 1) = 1 ∧
    ((sl.tick T).begun Path.mailbox).admits Path.mailbox 12801 12 (B [0]) = true ∧
    ((sl.tick T).begun Path.mailbox).objI 12801 13 (((sl.tick T).begun Path.mailbox).obj 12801 1) = 1 ∧
    (((sl.tick T).begun Path.mailbox).serdes (((sl.tick T).begun Path.mailbox).obj 12801 1)).rxSleepAt + Config.sec <
    ((sl.tick T).begun Path.mailbox).clock.now ∧
    ((sl.tick T).begun Path.mailbox).admits Path.mailbox 12801 13 (B [0]) = true ∧
    (tst0.tick T).Ready Path.mailbox ∧
    (((tst0.tick T).begun Path.mailbox).lane 3).st = 3 ∧
    ((tst0.tick T).begun Path.mailbox).admits Path.mailbox (laneObj 3) 3 (B [0]) = true ∧
    (slr.tick T).Ready Path.mailbox ∧
    ((slr.tick T).begun Path.mailbox).objI 12801 13 (((slr.tick T).begun Path.mailbox).obj 12801 1) = 1 ∧
    ((slr.tick T).begun Path.mailbox).clock.now ≤ (((slr.tick T).begun Path.mailbox).serdes (((slr.tick T).begun
    Path.mailbox).obj 12801 1)).rxSleepAt + Config.sec ∧
    ((slr.tick T).begun Path.mailbox).admits Path.mailbox 12801 13 (B [0]) = true := by
  refine ⟨?_, ?_, ?_, ?_, ?_, ?_, ?_, ?_, ?_, ?_, ?_, ?_, ?_, ?_, ?_, ?_, ?_, ?_, ?_, ?_, ?_, ?_⟩ <;> decide +kernel

/-- What the clauses of `PairFaultAndStateWritesAct` suppose, met by concrete states. -/
theorem witness_PairFaultAndStateWritesAct_a :
    (W.run.tick T).Ready Path.mailbox ∧
    ((W.run.tick T).begun Path.mailbox).admits Path.mailbox 33280 2 (B [0]) = true ∧
    leNat (B [0]) = 0 ∧
    ((W.run.tick T).begun Path.mailbox).admits Path.mailbox 40960 3 (B [0]) = true ∧
    ((W.run.tick T).begun Path.mailbox).admits Path.mailbox 4352 2 [2] = true ∧
    W.run.dev.cmd = none ∧
    ((W.run.tick T).begun Path.mailbox).admits Path.mailbox 4352 2 [5] = true ∧
    ((W.run.tick T).begun Path.mailbox).admits Path.mailbox 4352 2 [6] = true ∧
    ((W.run.tick T).begun Path.mailbox).admits Path.mailbox 32768 4 (B [1]) = true ∧
    leNat (B [1]) = 1 ∧
    ((W.run.tick T).begun Path.mailbox).admits Path.mailbox 40960 3 (B [1]) = true ∧
    (rdy.tick T).Ready Path.mailbox ∧
    rdy.record.divergent = false ∧
    ((rdy.tick T).begun Path.mailbox).admits Path.mailbox 26624 1 (B [0]) = true ∧
    ((rdy.tick T).begun Path.mailbox).admits Path.mailbox 4352 2 [1] = true ∧
    ((rdy.tick T).begun Path.mailbox).admits Path.mailbox 4352 2 [3] = true ∧
    rdy.pair.st = PairSt.unpaired ∧
    ((rdy.tick T).begun Path.mailbox).admits Path.mailbox 26624 1 (B [1]) = true := by
  refine ⟨?_, ?_, ?_, ?_, ?_, ?_, ?_, ?_, ?_, ?_, ?_, ?_, ?_, ?_, ?_, ?_, ?_, ?_⟩ <;> decide +kernel

/-- What the clauses of `PairFaultAndStateWritesAct` suppose, met by concrete states. -/
theorem witness_PairFaultAndStateWritesAct_b :
    (mnt.tick T).Ready Path.mailbox ∧
    ((mnt.tick T).begun Path.mailbox).admits Path.mailbox 4352 2 [4] = true ∧
    (dv.tick T).Ready Path.mailbox ∧
    ((dv.tick T).begun Path.mailbox).admits Path.mailbox 4864 7 (B [0]) = true ∧
    (fe2.tick T).Ready Path.mailbox ∧
    ((fe2.tick T).begun Path.mailbox).admits Path.mailbox 32768 3 (B [1, 0, 0, 0]) = true ∧
    ((pi PairSt.active).tick T).Ready Path.mailbox ∧
    (((pi PairSt.active).tick T).begun Path.mailbox).admits Path.mailbox 26624 11 [2] = true ∧
    ((pi PairSt.standby).tick T).Ready Path.mailbox ∧
    (((pi PairSt.standby).tick T).begun Path.mailbox).admits Path.mailbox 26624 11 [3] = true ∧
    (((pi PairSt.standby).tick T).begun Path.mailbox).admits Path.mailbox 26624 11 [4] = true ∧
    ((pi PairSt.isolated).tick T).Ready Path.mailbox ∧
    (((pi PairSt.isolated).tick T).begun Path.mailbox).admits Path.mailbox 26624 11 [1] = true ∧
    ((W.run.tick T).begun Path.mailbox).admits Path.mailbox 26880 2 srec = true ∧
    (mhi.tick T).Ready (Path.pop (3 : Fin 4)) ∧
    mhi.record.divergent = false ∧
    ((mhi.tick T).begun (Path.pop (3 : Fin 4))).admits (Path.pop (3 : Fin 4)) 4864 9 (B [1]) = true := by
  refine ⟨?_, ?_, ?_, ?_, ?_, ?_, ?_, ?_, ?_, ?_, ?_, ?_, ?_, ?_, ?_, ?_, ?_⟩ <;> decide +kernel

end C11

namespace C11b

def T : Nat := W.T

def rdy : State := { W.run with dev := { W.run.dev with st := .ready } }

/-- What the clauses of `TableQueueLineAndLaneWritesAct` suppose, met by concrete states. -/
theorem witness_TableQueueLineAndLaneWritesAct_1 :
    (rdy.tick T).Ready Path.mailbox ∧
    (1 = 1 ∨ 1 = 5 ∨ 1 = 12) ∧
    ((rdy.tick T).begun Path.mailbox).obj (17936 + 0) 1 ≠ leNat (leBytes 1 2) ∧
    ((rdy.tick T).begun Path.mailbox).admits Path.mailbox (17936 + 0) 1 (leBytes 1 2) = true ∧
    ({ (((rdy.tick T).begun Path.mailbox).setObj (17936 + 0) 1 (leNat (leBytes 1 2))) with tables := ({ (((rdy.tick T).begun Path.mailbox).setObj (17936 + 0) 1 (leNat (leBytes 1 2))).tables with learned := List.filter (fun e => match ((rdy.tick T).begun Path.mailbox).bucketTable (e.1 / 8) with | some j => !decide (j < 8 ∧ (j = 0 ∨ ((rdy.tick T).begun Path.mailbox).firstBucket j ≠ (((rdy.tick T).begun Path.mailbox).setObj (17936 + 0) 1 (leNat (leBytes 1 2))).firstBucket j)) | none => true) (((rdy.tick T).begun Path.mailbox).setObj (17936 + 0) 1 (leNat (leBytes 1 2))).tables.learned } : Tables) : State }.afterFault (17936 + 0) 1 = none) ∧
    ((rdy.tick T).begun Path.mailbox).obj 20480 2 ≠ leNat (leBytes 4 262144) ∧
    ((rdy.tick T).begun Path.mailbox).admits Path.mailbox 20480 2 (leBytes 4 262144) = true ∧
    (((((((((((rdy.tick T).begun Path.mailbox).setObj 20480 2 (leNat (leBytes 4 262144))).setObj (20496 + 0) 3 ((((rdy.tick
    T).begun Path.mailbox).setObj 20480 2 (leNat (leBytes 4 262144))).poolSize 0 * 3 / 4)).setObj (20496 + 0) 4 ((((rdy.tick
    T).begun Path.mailbox).setObj 20480 2 (leNat (leBytes 4 262144))).poolSize 0 * 7 / 8)).setObj (20496 + 0) 5 ((((rdy.tick
    T).begun Path.mailbox).setObj 20480 2 (leNat (leBytes 4 262144))).poolSize 0 * 31 / 32)).poolSync 0).setObj (20496 + 1)
    3 ((((((((rdy.tick T).begun Path.mailbox).setObj 20480 2 (leNat (leBytes 4 262144))).setObj (20496 + 0) 3 ((((rdy.tick
    T).begun Path.mailbox).setObj 20480 2 (leNat (leBytes 4 262144))).poolSize 0 * 3 / 4)).setObj (20496 + 0) 4 ((((rdy.tick
    T).begun Path.mailbox).setObj 20480 2 (leNat (leBytes 4 262144))).poolSize 0 * 7 / 8)).setObj (20496 + 0) 5 ((((rdy.tick
    T).begun Path.mailbox).setObj 20480 2 (leNat (leBytes 4 262144))).poolSize 0 * 31 / 32)).poolSync 0).poolSize 1 * 3 /
    4)).setObj (20496 + 1) 4 ((((((((rdy.tick T).begun Path.mailbox).setObj 20480 2 (leNat (leBytes 4 262144))).setObj
    (20496 + 0) 3 ((((rdy.tick T).begun Path.mailbox).setObj 20480 2 (leNat (leBytes 4 262144))).poolSize 0 * 3 / 4)).setObj
    (20496 + 0) 4 ((((rdy.tick T).begun Path.mailbox).setObj 20480 2 (leNat (leBytes 4 262144))).poolSize 0 * 7 / 8)).setObj
    (20496 + 0) 5 ((((rdy.tick T).begun Path.mailbox).setObj 20480 2 (leNat (leBytes 4 262144))).poolSize 0 * 31 /
    32)).poolSync 0).poolSize 1 * 7 / 8)).setObj (20496 + 1) 5 ((((((((rdy.tick T).begun Path.mailbox).setObj 20480 2 (leNat
    (leBytes 4 262144))).setObj (20496 + 0) 3 ((((rdy.tick T).begun Path.mailbox).setObj 20480 2 (leNat (leBytes 4
    262144))).poolSize 0 * 3 / 4)).setObj (20496 + 0) 4 ((((rdy.tick T).begun Path.mailbox).setObj 20480 2 (leNat (leBytes 4
    262144))).poolSize 0 * 7 / 8)).setObj (20496 + 0) 5 ((((rdy.tick T).begun Path.mailbox).setObj 20480 2 (leNat (leBytes 4
    262144))).poolSize 0 * 31 / 32)).poolSync 0).poolSize 1 * 31 / 32)).poolSync 1).afterFault 20480 2 = none ∧
    ((rdy.tick T).begun Path.mailbox).obj 20480 2 = leNat (leBytes 4 (rdy.obj 20480 2)) ∧
    ((rdy.tick T).begun Path.mailbox).admits Path.mailbox 20480 2 (leBytes 4 (rdy.obj 20480 2)) = true ∧
    (((rdy.tick T).begun Path.mailbox).setObj 20480 2 (leNat (leBytes 4 (rdy.obj 20480 2)))).afterFault 20480 2 = none ∧
    ((rdy.tick T).begun Path.mailbox).admits Path.mailbox (16768 + 3) 1 (zeros 76) = true ∧
    (((rdy.tick T).begun Path.mailbox).setObj (16768 + 3) 1 (leNat (zeros 76))).afterFault (16768 + 3) 1 = none := by
  refine ⟨?_, ?_, ?_, ?_, ?_, ?_, ?_, ?_, ?_, ?_, ?_, ?_, ?_⟩ <;> decide +kernel

/-- What the clauses of `PairFaultAndStateWritesAct` suppose, met by concrete states. -/
theorem witness_PairFaultAndStateWritesAct :
    (rdy.tick T).Ready Path.mailbox ∧
    rdy.record.divergent = false ∧
    ((rdy.tick T).begun Path.mailbox).admits Path.mailbox 29184 1 (leBytes 1 13) = true := by
  refine ⟨?_, ?_, ?_⟩ <;> decide +kernel

end C11b

namespace C13

def T : Nat := W.T

def fs (l : Fin 4) : FaultSource := ⟨3, l, 1, 5, 6, false⟩

def fc (c : Fin 16) (l : Fin 4) (pool : Nat) (own : Bool) : FaultSource := ⟨c, l, 0, pool * 2^24 + 5, 6, own⟩

def RR := W.run

def sb1 : State := { RR with sbTm := ⟨false, 0, true, 5, false⟩, sbFe := ⟨false, 0, true, 5, true⟩ }

def irq (s : State) (n : Nat) : State := s.setObj 0x8200 3 n

def h : State := { RR with faults := { RR.faults with paths := [⟨7, 3, false, false, fs 1⟩], standing := [⟨3,6,2,0,0,0,false,zeros 32⟩], fltPulsed := true, fltUntil := 5 } }

def h2 : State := { RR with faults := { RR.faults with paths := [⟨7, 4, false, false, fs 1⟩], standing := [⟨3,6,1,5,0,0,false,zeros 32⟩,⟨5,6,1,5000*Config.sec,0,0,false,zeros 32⟩] } }

def act : State := { RR with faults := { RR.faults with restarting := true }, update := { RR.update with sess := { RR.update.sess with st := 5, bank := 1 } } }

def rs : State := { RR with faults := { RR.faults with restarting := true } }

def tr : State := { RR with update := { RR.update with sess := { RR.update.sess with st := 6, bank := 1 } } }

def bt : State := { RR with dev := { RR.dev with st := .boot } }

def ct (f : Nat) (st : DevState) : State := { RR with dev := { RR.dev with st := st }, faults := { RR.faults with ctls := List.replicate 24 ⟨false, f, true⟩ } }

def ct0 := ct 0 .init

def ct1 := ct 1 .init

def ct2 := ct 1 .run

/-- What the clauses of `FaultSourcesRaiseEvents` suppose, met by concrete states. -/
theorem witness_FaultSourcesRaiseEvents :
    Option.any (RR.tick T).deafTo ((none : Option Nat)) = false ∧
    (¬((fs (0 : Fin 4)).object / 2 ^ 24 = 240 ∨ (fs (0 : Fin 4)).object / 2 ^ 24 = 241 ∨ (fs (0 : Fin 4)).object / 2 ^ 24 =
    243) ∨ (fs (0 : Fin 4)).cls.val + 1 = 3 ∨ 5 ≤ (fs (0 : Fin 4)).cls.val + 1) ∧
    RR.Calm ∧
    (fs (0 : Fin 4)).level.val = 0 ∧
    ((if (fs (0 : Fin 4)).cls.val + 1 = 2 then match (RR.tick T).repairOf (fs (0 : Fin 4)).object (fs (0 : Fin 4)).value with | some (code, row) => (RR.tick T).noteError code row true | none => RR.tick T else RR.tick T).faults.raisedLevel ((fs (0 : Fin 4)).cls.val + 1) 0 = (0, false)) ∧
    ((fs (0 : Fin 4)).cls.val + 1 ≠ 4 ∨ (fs (0 : Fin 4)).level.val = 3 ∨ (fs (0 : Fin 4)).ownAction = false) ∧
    (¬((fs (1 : Fin 4)).object / 2 ^ 24 = 240 ∨ (fs (1 : Fin 4)).object / 2 ^ 24 = 241 ∨ (fs (1 : Fin 4)).object / 2 ^ 24 =
    243) ∨ (fs (1 : Fin 4)).cls.val + 1 = 3 ∨ 5 ≤ (fs (1 : Fin 4)).cls.val + 1) ∧
    (fs (1 : Fin 4)).level.val = 1 ∧
    ((if (fs (1 : Fin 4)).cls.val + 1 = 2 then match (RR.tick T).repairOf (fs (1 : Fin 4)).object (fs (1 : Fin 4)).value with | some (code, row) => (RR.tick T).noteError code row true | none => RR.tick T else RR.tick T).faults.raisedLevel ((fs (1 : Fin 4)).cls.val + 1) 1 = (1, false)) ∧
    ((({ clock := (if (fs (1 : Fin 4)).cls.val + 1 = 2 then match (RR.tick T).repairOf (fs (1 : Fin 4)).object (fs (1 : Fin 4)).value with | some (code, row) => (RR.tick T).noteError code row true | none => RR.tick T else RR.tick T).clock, dev := (if (fs (1 : Fin 4)).cls.val + 1 = 2 then match (RR.tick T).repairOf (fs (1 : Fin 4)).object (fs (1 : Fin 4)).value with | some (code, row) => (RR.tick T).noteError code row true | none => RR.tick T else RR.tick T).dev, objs := (if (fs (1 : Fin 4)).cls.val + 1 = 2 then match (RR.tick T).repairOf (fs (1 : Fin 4)).object (fs (1 : Fin 4)).value with | some (code, row) => (RR.tick T).noteError code row true | none => RR.tick T else RR.tick T).objs, dict := (if (fs (1 : Fin 4)).cls.val + 1 = 2 then match (RR.tick T).repairOf (fs (1 : Fin 4)).object (fs (1 : Fin 4)).value with | some (code, row) => (RR.tick T).noteError code row true | none => RR.tick T else RR.tick T).dict, fuses := (if (fs (1 : Fin 4)).cls.val + 1 = 2 then match (RR.tick T).repairOf (fs (1 : Fin 4)).object (fs (1 : Fin 4)).value with | some (code, row) => (RR.tick T).noteError code row true | none => RR.tick T else RR.tick T).fuses, record := (if (fs (1 : Fin 4)).cls.val + 1 = 2 then match (RR.tick T).repairOf (fs (1 : Fin 4)).object (fs (1 : Fin 4)).value with | some (code, row) => (RR.tick T).noteError code row true | none => RR.tick T else RR.tick T).record, faults := ({ (if (fs (1 : Fin 4)).cls.val + 1 = 2 then match (RR.tick T).repairOf (fs (1 : Fin 4)).object (fs (1 : Fin 4)).value with | some (code, row) => (RR.tick T).noteError code row true | none => RR.tick T else RR.tick T).faults with standing := RR.faults.standing ++ [{ num := (RR.faults.newest + 1) % 2 ^ 32, cls := (fs (1 : Fin 4)).cls.val + 1, level := 1, deadline := (if (fs (1 : Fin 4)).cls.val + 1 = 2 then match (RR.tick T).repairOf (fs (1 : Fin 4)).object (fs (1 : Fin 4)).value with | some (code, row) => (RR.tick T).noteError code row true | none => RR.tick T else RR.tick T).clock.now + (if (fs (1 : Fin 4)).cls.val + 1 = 2 then match (RR.tick T).repairOf (fs (1 : Fin 4)).object (fs (1 : Fin 4)).value with | some (code, row) => (RR.tick T).noteError code row true | none => RR.tick T else RR.tick T).obj (32783 + ((fs (1 : Fin 4)).cls.val + 1)) 1 * Config.us, object := (fs (1 : Fin 4)).object, value := (fs (1 : Fin 4)).value, port := (fs (1 : Fin 4)).die.val == 1, detail := leBytes 4 (fs (1 : Fin 4)).object ++ leBytes 4 (fs (1 : Fin 4)).value ++ zeros 24 : Standing }], newest := (RR.faults.newest + 1) % 2 ^ 32 } : Faults), sbFe := (if (fs (1 : Fin 4)).cls.val + 1 = 2 then match (RR.tick T).repairOf (fs (1 : Fin 4)).object (fs (1 : Fin 4)).value with | some (code, row) => (RR.tick T).noteError code row true | none => RR.tick T else RR.tick T).sbFe, sbTm := (if (fs (1 : Fin 4)).cls.val + 1 = 2 then match (RR.tick T).repairOf (fs (1 : Fin 4)).object (fs (1 : Fin 4)).value with | some (code, row) => (RR.tick T).noteError code row true | none => RR.tick T else RR.tick T).sbTm, flow := (if (fs (1 : Fin 4)).cls.val + 1 = 2 then match (RR.tick T).repairOf (fs (1 : Fin 4)).object (fs (1 : Fin 4)).value with | some (code, row) => (RR.tick T).noteError code row true | none => RR.tick T else RR.tick T).flow, tables := (if (fs (1 : Fin 4)).cls.val + 1 = 2 then match (RR.tick T).repairOf (fs (1 : Fin 4)).object (fs (1 : Fin 4)).value with | some (code, row) => (RR.tick T).noteError code row true | none => RR.tick T else RR.tick T).tables, tx := (if (fs (1 : Fin 4)).cls.val + 1 = 2 then match (RR.tick T).repairOf (fs (1 : Fin 4)).object (fs (1 : Fin 4)).value with | some (code, row) => (RR.tick T).noteError code row true | none => RR.tick T else RR.tick T).tx, gates := (if (fs (1 : Fin 4)).cls.val + 1 = 2 then match (RR.tick T).repairOf (fs (1 : Fin 4)).object (fs (1 : Fin 4)).value with | some (code, row) => (RR.tick T).noteError code row true | none => RR.tick T else RR.tick T).gates, pair := (if (fs (1 : Fin 4)).cls.val + 1 = 2 then match (RR.tick T).repairOf (fs (1 : Fin 4)).object (fs (1 : Fin 4)).value with | some (code, row) => (RR.tick T).noteError code row true | none => RR.tick T else RR.tick T).pair, streams := (if (fs (1 : Fin 4)).cls.val + 1 = 2 then match (RR.tick T).repairOf (fs (1 : Fin 4)).object (fs (1 : Fin 4)).value with | some (code, row) => (RR.tick T).noteError code row true | none => RR.tick T else RR.tick T).streams, buf := (if (fs (1 : Fin 4)).cls.val + 1 = 2 then match (RR.tick T).repairOf (fs (1 : Fin 4)).object (fs (1 : Fin 4)).value with | some (code, row) => (RR.tick T).noteError code row true | none => RR.tick T else RR.tick T).buf, sched := (if (fs (1 : Fin 4)).cls.val + 1 = 2 then match (RR.tick T).repairOf (fs (1 : Fin 4)).object (fs (1 : Fin 4)).value with | some (code, row) => (RR.tick T).noteError code row true | none => RR.tick T else RR.tick T).sched, fabric := (if (fs (1 : Fin 4)).cls.val + 1 = 2 then match (RR.tick T).repairOf (fs (1 : Fin 4)).object (fs (1 : Fin 4)).value with | some (code, row) => (RR.tick T).noteError code row true | none => RR.tick T else RR.tick T).fabric, lanes := (if (fs (1 : Fin 4)).cls.val + 1 = 2 then match (RR.tick T).repairOf (fs (1 : Fin 4)).object (fs (1 : Fin 4)).value with | some (code, row) => (RR.tick T).noteError code row true | none => RR.tick T else RR.tick T).lanes, lines := (if (fs (1 : Fin 4)).cls.val + 1 = 2 then match (RR.tick T).repairOf (fs (1 : Fin 4)).object (fs (1 : Fin 4)).value with | some (code, row) => (RR.tick T).noteError code row true | none => RR.tick T else RR.tick T).lines, survey := (if (fs (1 : Fin 4)).cls.val + 1 = 2 then match (RR.tick T).repairOf (fs (1 : Fin 4)).object (fs (1 : Fin 4)).value with | some (code, row) => (RR.tick T).noteError code row true | none => RR.tick T else RR.tick T).survey, pcie := (if (fs (1 : Fin 4)).cls.val + 1 = 2 then match (RR.tick T).repairOf (fs (1 : Fin 4)).object (fs (1 : Fin 4)).value with | some (code, row) => (RR.tick T).noteError code row true | none => RR.tick T else RR.tick T).pcie, msi := (if (fs (1 : Fin 4)).cls.val + 1 = 2 then match (RR.tick T).repairOf (fs (1 : Fin 4)).object (fs (1 : Fin 4)).value with | some (code, row) => (RR.tick T).noteError code row true | none => RR.tick T else RR.tick T).msi, update := (if (fs (1 : Fin 4)).cls.val + 1 = 2 then match (RR.tick T).repairOf (fs (1 : Fin 4)).object (fs (1 : Fin 4)).value with | some (code, row) => (RR.tick T).noteError code row true | none => RR.tick T else RR.tick T).update, outbox := (if (fs (1 : Fin 4)).cls.val + 1 = 2 then match (RR.tick T).repairOf (fs (1 : Fin 4)).object (fs (1 : Fin 4)).value with | some (code, row) => (RR.tick T).noteError code row true | none => RR.tick T else RR.tick T).outbox, freeCtr := (if (fs (1 : Fin 4)).cls.val + 1 = 2 then match (RR.tick T).repairOf (fs (1 : Fin 4)).object (fs (1 : Fin 4)).value with | some (code, row) => (RR.tick T).noteError code row true | none => RR.tick T else RR.tick T).freeCtr, pending := (if (fs (1 : Fin 4)).cls.val + 1 = 2 then match (RR.tick T).repairOf (fs (1 : Fin 4)).object (fs (1 : Fin 4)).value with | some (code, row) => (RR.tick T).noteError code row true | none => RR.tick T else RR.tick T).pending : State }.enterEvent { num := (RR.faults.newest + 1) % 2 ^ 32, cls := (fs (1 : Fin 4)).cls.val + 1, level := 1, first := 1, flags := if 1 = 0 then 4 else 0, ctrIdx := 0, ctrSub := 0, die := (fs (1 : Fin 4)).die.val, path := ((none : Option Nat)).getD 65535, devState := (if (fs (1 : Fin 4)).cls.val + 1 = 2 then match (RR.tick T).repairOf (fs (1 : Fin 4)).object (fs (1 : Fin 4)).value with | some (code, row) => (RR.tick T).noteError code row true | none => RR.tick T else RR.tick T).dev.st.code, raised := (if (fs (1 : Fin 4)).cls.val + 1 = 2 then match (RR.tick T).repairOf (fs (1 : Fin 4)).object (fs (1 : Fin 4)).value with | some (code, row) => (RR.tick T).noteError code row true | none => RR.tick T else RR.tick T).time80, ackBy := if 1 = 0 then selfId else 0, detail := leBytes 4 (fs (1 : Fin 4)).object ++ leBytes 4 (fs (1 : Fin 4)).value ++ zeros 24 : Event }).bump (32783 + ((fs (1 : Fin 4)).cls.val + 1)) 4).obj 33280 3 ≤ 1) ∧
    (fc (0 : Fin 16) (0 : Fin 4) 241 false).cls.val + 1 = 1 ∧
    ((fc (0 : Fin 16) (0 : Fin 4) 241 false).object / 2 ^ 24 = 240 ∨ (fc (0 : Fin 16) (0 : Fin 4) 241 false).object / 2 ^ 24
    = 241 ∨ (fc (0 : Fin 16) (0 : Fin 4) 241 false).object / 2 ^ 24 = 243) ∧
    (fc (1 : Fin 16) (1 : Fin 4) 243 false).cls.val + 1 = 2 ∧
    ((fc (1 : Fin 16) (1 : Fin 4) 243 false).object / 2 ^ 24 = 240 ∨ (fc (1 : Fin 16) (1 : Fin 4) 243 false).object / 2 ^ 24
    = 241 ∨ (fc (1 : Fin 16) (1 : Fin 4) 243 false).object / 2 ^ 24 = 243) ∧
    (fc (3 : Fin 16) (2 : Fin 4) 240 true).cls.val + 1 = 4 ∧
    (fc (3 : Fin 16) (2 : Fin 4) 240 true).level.val = 2 ∧
    (fc (3 : Fin 16) (2 : Fin 4) 240 true).ownAction = true ∧
    Option.any ((irq RR 2).tick T).deafTo ((none : Option Nat)) = false ∧
    (irq RR 2).Calm ∧
    ((if (fs (1 : Fin 4)).cls.val + 1 = 2 then match ((irq RR 2).tick T).repairOf (fs (1 : Fin 4)).object (fs (1 : Fin 4)).value with | some (code, row) => ((irq RR 2).tick T).noteError code row true | none => (irq RR 2).tick T else (irq RR 2).tick T).faults.raisedLevel ((fs (1 : Fin 4)).cls.val + 1) 1 = (1, false)) ∧
    (2 ≤ (({ clock := (if (fs (1 : Fin 4)).cls.val + 1 = 2 then match ((irq RR 2).tick T).repairOf (fs (1 : Fin 4)).object (fs (1 : Fin 4)).value with | some (code, row) => ((irq RR 2).tick T).noteError code row true | none => (irq RR 2).tick T else (irq RR 2).tick T).clock, dev := (if (fs (1 : Fin 4)).cls.val + 1 = 2 then match ((irq RR 2).tick T).repairOf (fs (1 : Fin 4)).object (fs (1 : Fin 4)).value with | some (code, row) => ((irq RR 2).tick T).noteError code row true | none => (irq RR 2).tick T else (irq RR 2).tick T).dev, objs := (if (fs (1 : Fin 4)).cls.val + 1 = 2 then match ((irq RR 2).tick T).repairOf (fs (1 : Fin 4)).object (fs (1 : Fin 4)).value with | some (code, row) => ((irq RR 2).tick T).noteError code row true | none => (irq RR 2).tick T else (irq RR 2).tick T).objs, dict := (if (fs (1 : Fin 4)).cls.val + 1 = 2 then match ((irq RR 2).tick T).repairOf (fs (1 : Fin 4)).object (fs (1 : Fin 4)).value with | some (code, row) => ((irq RR 2).tick T).noteError code row true | none => (irq RR 2).tick T else (irq RR 2).tick T).dict, fuses := (if (fs (1 : Fin 4)).cls.val + 1 = 2 then match ((irq RR 2).tick T).repairOf (fs (1 : Fin 4)).object (fs (1 : Fin 4)).value with | some (code, row) => ((irq RR 2).tick T).noteError code row true | none => (irq RR 2).tick T else (irq RR 2).tick T).fuses, record := (if (fs (1 : Fin 4)).cls.val + 1 = 2 then match ((irq RR 2).tick T).repairOf (fs (1 : Fin 4)).object (fs (1 : Fin 4)).value with | some (code, row) => ((irq RR 2).tick T).noteError code row true | none => (irq RR 2).tick T else (irq RR 2).tick T).record, faults := ({ (if (fs (1 : Fin 4)).cls.val + 1 = 2 then match ((irq RR 2).tick T).repairOf (fs (1 : Fin 4)).object (fs (1 : Fin 4)).value with | some (code, row) => ((irq RR 2).tick T).noteError code row true | none => (irq RR 2).tick T else (irq RR 2).tick T).faults with standing := (irq RR 2).faults.standing ++ [{ num := ((irq RR 2).faults.newest + 1) % 2 ^ 32, cls := (fs (1 : Fin 4)).cls.val + 1, level := 1, deadline := (if (fs (1 : Fin 4)).cls.val + 1 = 2 then match ((irq RR 2).tick T).repairOf (fs (1 : Fin 4)).object (fs (1 : Fin 4)).value with | some (code, row) => ((irq RR 2).tick T).noteError code row true | none => (irq RR 2).tick T else (irq RR 2).tick T).clock.now + (if (fs (1 : Fin 4)).cls.val + 1 = 2 then match ((irq RR 2).tick T).repairOf (fs (1 : Fin 4)).object (fs (1 : Fin 4)).value with | some (code, row) => ((irq RR 2).tick T).noteError code row true | none => (irq RR 2).tick T else (irq RR 2).tick T).obj (32783 + ((fs (1 : Fin 4)).cls.val + 1)) 1 * Config.us, object := (fs (1 : Fin 4)).object, value := (fs (1 : Fin 4)).value, port := (fs (1 : Fin 4)).die.val == 1, detail := leBytes 4 (fs (1 : Fin 4)).object ++ leBytes 4 (fs (1 : Fin 4)).value ++ zeros 24 : Standing }], newest := ((irq RR 2).faults.newest + 1) % 2 ^ 32 } : Faults), sbFe := (if (fs (1 : Fin 4)).cls.val + 1 = 2 then match ((irq RR 2).tick T).repairOf (fs (1 : Fin 4)).object (fs (1 : Fin 4)).value with | some (code, row) => ((irq RR 2).tick T).noteError code row true | none => (irq RR 2).tick T else (irq RR 2).tick T).sbFe, sbTm := (if (fs (1 : Fin 4)).cls.val + 1 = 2 then match ((irq RR 2).tick T).repairOf (fs (1 : Fin 4)).object (fs (1 : Fin 4)).value with | some (code, row) => ((irq RR 2).tick T).noteError code row true | none => (irq RR 2).tick T else (irq RR 2).tick T).sbTm, flow := (if (fs (1 : Fin 4)).cls.val + 1 = 2 then match ((irq RR 2).tick T).repairOf (fs (1 : Fin 4)).object (fs (1 : Fin 4)).value with | some (code, row) => ((irq RR 2).tick T).noteError code row true | none => (irq RR 2).tick T else (irq RR 2).tick T).flow, tables := (if (fs (1 : Fin 4)).cls.val + 1 = 2 then match ((irq RR 2).tick T).repairOf (fs (1 : Fin 4)).object (fs (1 : Fin 4)).value with | some (code, row) => ((irq RR 2).tick T).noteError code row true | none => (irq RR 2).tick T else (irq RR 2).tick T).tables, tx := (if (fs (1 : Fin 4)).cls.val + 1 = 2 then match ((irq RR 2).tick T).repairOf (fs (1 : Fin 4)).object (fs (1 : Fin 4)).value with | some (code, row) => ((irq RR 2).tick T).noteError code row true | none => (irq RR 2).tick T else (irq RR 2).tick T).tx, gates := (if (fs (1 : Fin 4)).cls.val + 1 = 2 then match ((irq RR 2).tick T).repairOf (fs (1 : Fin 4)).object (fs (1 : Fin 4)).value with | some (code, row) => ((irq RR 2).tick T).noteError code row true | none => (irq RR 2).tick T else (irq RR 2).tick T).gates, pair := (if (fs (1 : Fin 4)).cls.val + 1 = 2 then match ((irq RR 2).tick T).repairOf (fs (1 : Fin 4)).object (fs (1 : Fin 4)).value with | some (code, row) => ((irq RR 2).tick T).noteError code row true | none => (irq RR 2).tick T else (irq RR 2).tick T).pair, streams := (if (fs (1 : Fin 4)).cls.val + 1 = 2 then match ((irq RR 2).tick T).repairOf (fs (1 : Fin 4)).object (fs (1 : Fin 4)).value with | some (code, row) => ((irq RR 2).tick T).noteError code row true | none => (irq RR 2).tick T else (irq RR 2).tick T).streams, buf := (if (fs (1 : Fin 4)).cls.val + 1 = 2 then match ((irq RR 2).tick T).repairOf (fs (1 : Fin 4)).object (fs (1 : Fin 4)).value with | some (code, row) => ((irq RR 2).tick T).noteError code row true | none => (irq RR 2).tick T else (irq RR 2).tick T).buf, sched := (if (fs (1 : Fin 4)).cls.val + 1 = 2 then match ((irq RR 2).tick T).repairOf (fs (1 : Fin 4)).object (fs (1 : Fin 4)).value with | some (code, row) => ((irq RR 2).tick T).noteError code row true | none => (irq RR 2).tick T else (irq RR 2).tick T).sched, fabric := (if (fs (1 : Fin 4)).cls.val + 1 = 2 then match ((irq RR 2).tick T).repairOf (fs (1 : Fin 4)).object (fs (1 : Fin 4)).value with | some (code, row) => ((irq RR 2).tick T).noteError code row true | none => (irq RR 2).tick T else (irq RR 2).tick T).fabric, lanes := (if (fs (1 : Fin 4)).cls.val + 1 = 2 then match ((irq RR 2).tick T).repairOf (fs (1 : Fin 4)).object (fs (1 : Fin 4)).value with | some (code, row) => ((irq RR 2).tick T).noteError code row true | none => (irq RR 2).tick T else (irq RR 2).tick T).lanes, lines := (if (fs (1 : Fin 4)).cls.val + 1 = 2 then match ((irq RR 2).tick T).repairOf (fs (1 : Fin 4)).object (fs (1 : Fin 4)).value with | some (code, row) => ((irq RR 2).tick T).noteError code row true | none => (irq RR 2).tick T else (irq RR 2).tick T).lines, survey := (if (fs (1 : Fin 4)).cls.val + 1 = 2 then match ((irq RR 2).tick T).repairOf (fs (1 : Fin 4)).object (fs (1 : Fin 4)).value with | some (code, row) => ((irq RR 2).tick T).noteError code row true | none => (irq RR 2).tick T else (irq RR 2).tick T).survey, pcie := (if (fs (1 : Fin 4)).cls.val + 1 = 2 then match ((irq RR 2).tick T).repairOf (fs (1 : Fin 4)).object (fs (1 : Fin 4)).value with | some (code, row) => ((irq RR 2).tick T).noteError code row true | none => (irq RR 2).tick T else (irq RR 2).tick T).pcie, msi := (if (fs (1 : Fin 4)).cls.val + 1 = 2 then match ((irq RR 2).tick T).repairOf (fs (1 : Fin 4)).object (fs (1 : Fin 4)).value with | some (code, row) => ((irq RR 2).tick T).noteError code row true | none => (irq RR 2).tick T else (irq RR 2).tick T).msi, update := (if (fs (1 : Fin 4)).cls.val + 1 = 2 then match ((irq RR 2).tick T).repairOf (fs (1 : Fin 4)).object (fs (1 : Fin 4)).value with | some (code, row) => ((irq RR 2).tick T).noteError code row true | none => (irq RR 2).tick T else (irq RR 2).tick T).update, outbox := (if (fs (1 : Fin 4)).cls.val + 1 = 2 then match ((irq RR 2).tick T).repairOf (fs (1 : Fin 4)).object (fs (1 : Fin 4)).value with | some (code, row) => ((irq RR 2).tick T).noteError code row true | none => (irq RR 2).tick T else (irq RR 2).tick T).outbox, freeCtr := (if (fs (1 : Fin 4)).cls.val + 1 = 2 then match ((irq RR 2).tick T).repairOf (fs (1 : Fin 4)).object (fs (1 : Fin 4)).value with | some (code, row) => ((irq RR 2).tick T).noteError code row true | none => (irq RR 2).tick T else (irq RR 2).tick T).freeCtr, pending := (if (fs (1 : Fin 4)).cls.val + 1 = 2 then match ((irq RR 2).tick T).repairOf (fs (1 : Fin 4)).object (fs (1 : Fin 4)).value with | some (code, row) => ((irq RR 2).tick T).noteError code row true | none => (irq RR 2).tick T else (irq RR 2).tick T).pending : State }.enterEvent { num := ((irq RR 2).faults.newest + 1) % 2 ^ 32, cls := (fs (1 : Fin 4)).cls.val + 1, level := 1, first := 1, flags := if 1 = 0 then 4 else 0, ctrIdx := 0, ctrSub := 0, die := (fs (1 : Fin 4)).die.val, path := ((none : Option Nat)).getD 65535, devState := (if (fs (1 : Fin 4)).cls.val + 1 = 2 then match ((irq RR 2).tick T).repairOf (fs (1 : Fin 4)).object (fs (1 : Fin 4)).value with | some (code, row) => ((irq RR 2).tick T).noteError code row true | none => (irq RR 2).tick T else (irq RR 2).tick T).dev.st.code, raised := (if (fs (1 : Fin 4)).cls.val + 1 = 2 then match ((irq RR 2).tick T).repairOf (fs (1 : Fin 4)).object (fs (1 : Fin 4)).value with | some (code, row) => ((irq RR 2).tick T).noteError code row true | none => (irq RR 2).tick T else (irq RR 2).tick T).time80, ackBy := if 1 = 0 then selfId else 0, detail := leBytes 4 (fs (1 : Fin 4)).object ++ leBytes 4 (fs (1 : Fin 4)).value ++ zeros 24 : Event }).bump (32783 + ((fs (1 : Fin 4)).cls.val + 1)) 4).obj 33280 3) ∧
    (Option.any (h.tick T).deafTo (Option.map (fun (x : Fin 2304) => x.val) (some (7 : Fin 2304))) = true) := by
  refine ⟨?_, ?_, ?_, ?_, ?_, ?_, ?_, ?_, ?_, ?_, ?_, ?_, ?_, ?_, ?_, ?_, ?_, ?_, ?_, ?_, ?_, ?_⟩ <;> decide +kernel

/-- What the clauses of `FaultPathsPinsAndTheBond` suppose, met by concrete states. -/
theorem witness_FaultPathsPinsAndTheBond_1 :
    (RR.tick T).deafTo 7 = false ∧
    (∀ f ∈ RR.faults.paths, f.path ≠ 7) ∧
    RR.Calm ∧
    (∀ e ∈ RR.faults.standing, e.num ≠ T ∨ e.level ≠ 1) ∧
    (RR.faults.fltPulsed = false ∨ (RR.tick T).clock.now < RR.faults.fltUntil) ∧
    (h.tick T).deafTo 7 = true ∧
    h.Calm ∧
    h.faults.paths = [{ path := 7, event := 3, recovered := false, acked := false, source := fs (1 : Fin 4) : FailedPath }] ∧
    { path := 7, event := 3, recovered := false, acked := false, source := fs (1 : Fin 4) : FailedPath }.path = 7 ∧
    h.faults.fltPulsed = true ∧
    h.faults.fltUntil ≤ (h.tick T).clock.now ∧
    (List.find? (fun e => e.num == 3 && e.level == 1) h2.faults.standing = some
    { num := 3, cls := 6, level := 1, deadline := 5, object := 0, value := 0, port := false, detail := zeros 32 : Standing }) ∧
    { num := 3, cls := 6, level := 1, deadline := 5, object := 0, value := 0, port := false, detail := zeros 32 : Standing }.deadline
    / Config.tmc < (h2.tick T).clock.now / Config.tmc ∧
    (List.find? (fun e => e.num == 5 && e.level == 1) h2.faults.standing = some
    { num := 5, cls := 6, level := 1, deadline := 5000 * Config.sec, object := 0, value := 0, port := false, detail := zeros 32 : Standing }) ∧
    (h2.tick T).clock.now / Config.tmc ≤
    { num := 5, cls := 6, level := 1, deadline := 5000 * Config.sec, object := 0, value := 0, port := false, detail := zeros 32 : Standing }.deadline
    / Config.tmc := by
  refine ⟨?_, ?_, ?_, ?_, ?_, ?_, ?_, ?_, ?_, ?_, ?_, ?_, ?_, ?_, ?_⟩ <;> decide +kernel

/-- What the clauses of `FaultPathsPinsAndTheBond` suppose, met by concrete states. -/
theorem witness_FaultPathsPinsAndTheBond_2 :
    (RR.sb Die.fe).safe = false ∧
    ((RR.sb Die.fe).safe = false ∨ (RR.sb Die.fe).raised = true ∨ (RR.tick T).clock.now < (RR.sb Die.fe).since + 10 *
    Config.ms) ∧
    (sb1.sb Die.fe).safe = true ∧
    (sb1.sb Die.tm).safe = true ∧
    (sb1.sb Die.tm).raised = false ∧
    (sb1.sb Die.tm).since + 10 * Config.ms ≤ (sb1.tick T).clock.now ∧
    sb1.Calm ∧
    sb1.dev.st ≠ DevState.boot := by
  refine ⟨?_, ?_, ?_, ?_, ?_, ?_, ?_, ?_⟩ <;> decide +kernel

/-- What the clauses of `WatchdogsAndLoadChecks` suppose, met by concrete states. -/
theorem witness_WatchdogsAndLoadChecks_a :
    RR.dev.st ≠ DevState.boot ∧
    RR.faults.restarting = false ∧
    RR.update.sess.st ≠ 5 ∧
    RR.update.sess.st ≠ 6 ∧
    (RR.tick T).ctlOut 3 = false ∧
    (RR.faults.ctls.getD 3 { loaded := false, fails := 0, out := false : Ctl }).loaded = true ∧
    ((RR.faults.ctls.getD 3 { loaded := false, fails := 0, out := false : Ctl }).loaded = true ∨ 2 ≤ (RR.faults.ctls.getD 3
    { loaded := false, fails := 0, out := false : Ctl }).fails ∨ RR.dev.st = DevState.boot) ∧
    (rs.dev.st = DevState.boot ∨ rs.faults.restarting = true) ∧
    rs.faults.restarting = true ∧
    rs.update.sess.st ≠ 5 ∧
    act.faults.restarting = true ∧
    act.update.sess.st = 5 ∧
    tr.dev.st ≠ DevState.boot ∧
    tr.faults.restarting = false ∧
    (tr.update.sess.st = 5 ∨ tr.update.sess.st = 6) ∧
    (bt.dev.st = DevState.boot ∨ (bt.tick T).ctlOut 3 = true ∨ (bt.faults.ctls.getD 3
    { loaded := false, fails := 0, out := false : Ctl }).loaded = false) ∧
    (ct0.faults.ctls.getD 3 { loaded := false, fails := 0, out := false : Ctl }).loaded = false := by
  refine ⟨?_, ?_, ?_, ?_, ?_, ?_, ?_, ?_, ?_, ?_, ?_, ?_, ?_, ?_, ?_, ?_, ?_⟩ <;> decide +kernel

/-- What the clauses of `WatchdogsAndLoadChecks` suppose, met by concrete states. -/
theorem witness_WatchdogsAndLoadChecks_b :
    (ct0.faults.ctls.getD 3 { loaded := false, fails := 0, out := false : Ctl }).fails < 2 ∧
    ct0.dev.st ≠ DevState.boot ∧
    3 ≠ 23 ∧
    (ct0.faults.ctls.getD 3 { loaded := false, fails := 0, out := false : Ctl }).fails = 0 ∧
    (ct0.faults.ctls.getD 23 { loaded := false, fails := 0, out := false : Ctl }).loaded = false ∧
    (ct0.faults.ctls.getD 23 { loaded := false, fails := 0, out := false : Ctl }).fails < 2 ∧
    (ct1.faults.ctls.getD 3 { loaded := false, fails := 0, out := false : Ctl }).loaded = false ∧
    (ct1.faults.ctls.getD 3 { loaded := false, fails := 0, out := false : Ctl }).fails < 2 ∧
    ct1.dev.st ≠ DevState.boot ∧
    (ct1.faults.ctls.getD 3 { loaded := false, fails := 0, out := false : Ctl }).fails = 1 ∧
    ct1.dev.st = DevState.init ∧
    (ct2.faults.ctls.getD 3 { loaded := false, fails := 0, out := false : Ctl }).loaded = false ∧
    (ct2.faults.ctls.getD 3 { loaded := false, fails := 0, out := false : Ctl }).fails < 2 ∧
    ct2.dev.st ≠ DevState.boot ∧
    (ct2.faults.ctls.getD 3 { loaded := false, fails := 0, out := false : Ctl }).fails = 1 ∧
    ct2.dev.st ≠ DevState.init := by
  refine ⟨?_, ?_, ?_, ?_, ?_, ?_, ?_, ?_, ?_, ?_, ?_, ?_, ?_, ?_, ?_, ?_⟩ <;> decide +kernel

end C13

namespace C15

def T : Nat := W.T

def B (l : List Nat) : List Byte := l.map byteOf

def wKey : Nat :=
  0x95db7c4b57a474f3d694e566fe516d950448018c17bc3057b0e055352ad21a7acd0e22cb46e9bab74766c01681ecec8979f628f29f1f8aa24b4d7855288f146cf8167ddf293c9e1047dc666cff7ea38a36f9dce740cd4a13eacde0ec99f7cec04

def wSig : Nat :=
  0x8d2a536ce18dec956f59463595b4895a850032f15302fd342bdbcebf14dd9c883a18277421fc05c27c45ad2581966be

def cart : List Byte := B [0x43,0x41,0x52,0x54,0,1,0x0C,0x3E,0x51,0x20,0,0,0,0,0,1,0,0,25,0,0,0,0,100] ++ zeros 904 ++ beBytes 48 wSig ++ beBytes 48 wSig

def R_ : State := { W.run with fuses := { W.run.fuses with key0 := wKey } }

def se (x : Machine.Session) (s : State := R_) : State := { s with update := { s.update with sess := x } }

def x1 : Machine.Session := { Machine.Session.none_ with st := 1, holder := 0x2000, bank := 1, recv := 20, len := 100, former := 0, lastReq := 1000*Config.sec }

def W_ := (R_.tick T).requesterOf .mailbox

def S0 := R_

def S1 := se { x1 with holder := W_ }

def S1b : State := { S1 with update := { S1.update with banks := S1.update.banks.set 1 ⟨1, .bytes cart (zeros 20)⟩ } }

def S1c := se { x1 with holder := 0x3001 }

def S3 : State := let s := se { x1 with st := 3, holder := W_ , recv := 100}; { s with update := { s.update with banks := s.update.banks.set 1 ⟨2, .bytes cart (zeros 20)⟩ } }

def S4 : State := { S3 with update := { S3.update with sess := { S3.update.sess with st := 4, act := 5 } } }

def S6 : State := { S3 with update := { S3.update with banks := S3.update.banks.set 1 ⟨3, .bytes cart (zeros 20)⟩, sess := { S3.update.sess with st := 6, trialEnd := 5 } } }

def S6b : State := { S6 with update := { S6.update with sess := { S6.update.sess with trialEnd := 5000*Config.sec } } }

def S5 : State := { S6 with update := { S6.update with sess := { S6.update.sess with st := 5 } } }

def S5r : State := { S6 with update := { S6.update with sess := { S6.update.sess with st := 5 , reverting := true} } }

def S0p : State := { R_ with update := { R_.update with banks := R_.update.banks.set 1 ⟨5, .factory⟩ } }

def ck (o n : Nat) (extra : Nat := 0) : List Byte := leBytes 4 o ++ leBytes 2 n ++ zeros 2 ++ List.replicate n 7#8 ++ (if extra = 0 then [] else [1#8]) ++ zeros (1016 - n - extra)

def halt (s : State) : State := { s with dev := { s.dev with st := .init } }

def S0h : State := { R_ with dev := { R_.dev with st := .halt } }

def cb : Nat := (cartValueFault (ck 10 5)).getD 0

def dv (f : Machine.Dev → Machine.Dev) (s : State := R_) : State := { s with dev := f s.dev }

def D1 := dv (fun d => { d with cmd := some (5, 5) })

def D2 := dv (fun d => { d with cmd := some (6, 5) })

def D3 := dv (fun d => { d with rstN := false, phase := .held })

def D4 := dv (fun d => { d with wrstN := false, phase := .held })

def D5 := dv (fun d => { d with wrstN := false, phase := .finishing, finishing := true })

def D6 := dv (fun d => { d with pwrgd := false })

def D7 := dv (fun d => { d with pwrgd := false, rstN := false })

def D8 := dv (fun d => { d with st := .boot, phase := .booting, rise := 5 })

def D8b : State := { D8 with update := { D8.update with loadable := true } }

def D9 := dv (fun d => { d with st := .init, phase := .bringUp, rise := 5 })

def A4 : State := { R_ with update := { R_.update with banks := [⟨4, .factory⟩, ⟨2, .factory⟩], sess := { x1 with st := 4, act := 5, holder := W_ } } }

def A4i : State := halt A4

def D9a : State := { D9 with objs := [], record := { D9.record with dirty := true } }

def D9s : State := (D9.setObj 0x1100 3 1)

def D9n : State := { D9 with faults := { D9.faults with ctls := List.replicate 24 ⟨false, 0, false⟩ } }

/-- What the clauses of `UpdateSessionRowsAct` suppose, met by concrete states. -/
theorem witness_UpdateSessionRowsAct_a :
    (S0h.tick T).Ready Path.mailbox ∧
    2 ≤ (S0h.tick T).roleOf Path.mailbox ∧
    (ck 20 30).length = 1024 ∧
    cartValueFault (ck 20 30) = some cb ∧
    S0h.dev.st = DevState.halt ∧
    [BitVec.ofNat 8 1] = [1] ∧
    (S0.tick T).Ready Path.mailbox ∧
    2 ≤ (S0.tick T).roleOf Path.mailbox ∧
    S0.dev.st ≠ DevState.halt ∧
    cart.length = 1024 ∧
    S0.update.sess.busy = false ∧
    (S0.update.sess.holder = 0 ∨ S0.update.sess.holder = (S0.tick T).requesterOf Path.mailbox) ∧
    (S0.update.sess.holder ≠ 0 ∨ S0.stagedAs cart = false) ∧
    chunkBad (ck 20 30) = none ∧
    S0.update.sess.holder ≠ (S0.tick T).requesterOf Path.mailbox ∧
    S0.update.sess.st ≠ 6 ∧
    (S1b.tick T).Ready Path.mailbox ∧
    2 ≤ (S1b.tick T).roleOf Path.mailbox ∧
    S1b.dev.st ≠ DevState.halt ∧
    S1b.update.sess.busy = false ∧
    S1b.update.sess.holder = (S1b.tick T).requesterOf Path.mailbox ∧
    S1b.update.sess.st = 1 ∧
    leAt (ck 20 30) 0 4 = S1b.update.sess.recv ∧
    S1b.update.sess.recv + leAt (ck 20 30) 4 2 ≤ S1b.update.sess.len := by
  refine ⟨?_, ?_, ?_, ?_, ?_, ?_, ?_, ?_, ?_, ?_, ?_, ?_, ?_, ?_, ?_, ?_, ?_, ?_, ?_, ?_, ?_, ?_, ?_, ?_⟩ <;> decide +kernel

/-- What the clauses of `UpdateSessionRowsAct` suppose, met by concrete states. -/
theorem witness_UpdateSessionRowsAct_b :
    (S1b.bank S1b.update.sess.bank).img = Image.bytes cart (zeros 20) ∧
    S1b.update.sess.bank < S1b.update.banks.length ∧
    (ck 20 90).length = 1024 ∧
    chunkBad (ck 20 90) = none ∧
    S1b.update.sess.recv < leAt (ck 20 90) 0 4 + leAt (ck 20 90) 4 2 ∧
    (S1b.update.sess.st ≠ 1 ∨ leAt (ck 20 90) 0 4 ≠ S1b.update.sess.recv ∨ S1b.update.sess.len < leAt (ck 20 90) 0 4 + leAt
    (ck 20 90) 4 2) ∧
    5 = leAt (ck 10 5) 4 2 ∧
    (ck 10 5).length = 1024 ∧
    chunkBad (ck 10 5) = none ∧
    leAt (ck 10 5) 0 4 + 5 ≤ S1b.update.sess.recv ∧
    (S1c.tick T).Ready Path.mailbox ∧
    2 ≤ (S1c.tick T).roleOf Path.mailbox ∧
    S1c.dev.st ≠ DevState.halt ∧
    S1c.update.sess.busy = false ∧
    S1c.update.sess.holder ≠ 0 ∧
    S1c.update.sess.holder ≠ (S1c.tick T).requesterOf Path.mailbox ∧
    (S3.tick T).Ready Path.mailbox ∧
    2 ≤ (S3.tick T).roleOf Path.mailbox ∧
    S3.dev.st ≠ DevState.halt ∧
    S3.update.sess.holder = (S3.tick T).requesterOf Path.mailbox ∧
    S3.update.sess.st = 3 ∧
    (leBytes 10 0).length = 10 ∧
    timeNs (leNat (leBytes 10 0)) < 1000000000 ∧
    (S3.update.sess.holder = 0 ∨ S3.update.sess.holder = (S3.tick T).requesterOf Path.mailbox) := by
  refine ⟨?_, ?_, ?_, ?_, ?_, ?_, ?_, ?_, ?_, ?_, ?_, ?_, ?_, ?_, ?_, ?_, ?_, ?_, ?_, ?_, ?_, ?_, ?_, ?_⟩ <;> decide +kernel

/-- What the clauses of `UpdateSessionRowsAct` suppose, met by concrete states. -/
theorem witness_UpdateSessionRowsAct_c :
    leNat (leBytes 10 0) ≤ (S3.tick T).time80 ∧
    (leBytes 10 (2 ^ 60)).length = 10 ∧
    timeNs (leNat (leBytes 10 (2 ^ 60))) < 1000000000 ∧
    (S3.tick T).time80 < leNat (leBytes 10 (2 ^ 60)) ∧
    (S4.tick T).Ready Path.mailbox ∧
    2 ≤ (S4.tick T).roleOf Path.mailbox ∧
    S4.dev.st ≠ DevState.halt ∧
    S4.update.sess.busy = true ∧
    (S4.update.sess.holder = 0 ∨ S4.update.sess.holder = (S4.tick T).requesterOf Path.mailbox) ∧
    S4.update.sess.st = 4 ∧
    leNat (leBytes 10 0) = 0 ∧
    (S6.tick T).Ready Path.mailbox ∧
    2 ≤ (S6.tick T).roleOf Path.mailbox ∧
    S6.dev.st ≠ DevState.halt ∧
    S6.update.sess.st = 6 ∧
    S6.update.sess.former ≠ S6.update.sess.bank ∧
    (S0p.tick T).Ready Path.mailbox ∧
    2 ≤ (S0p.tick T).roleOf Path.mailbox ∧
    S0p.dev.st ≠ DevState.halt ∧
    (S0p.update.sess.st = 0 ∨ 7 ≤ S0p.update.sess.st) ∧
    1 < 2 ∧
    (S0p.bank 1).st = 5 ∧
    (S0p.bank (1 - 1)).st = 4 ∧
    S0p.imageFault (S0p.bank 1).img true = none := by
  refine ⟨?_, ?_, ?_, ?_, ?_, ?_, ?_, ?_, ?_, ?_, ?_, ?_, ?_, ?_, ?_, ?_, ?_, ?_, ?_, ?_, ?_, ?_, ?_, ?_⟩ <;> decide +kernel

/-- What the clauses of `ActivationsAndTrialsProceed` suppose, met by concrete states. -/
theorem witness_ActivationsAndTrialsProceed :
    A4.update.sess.st = 4 ∧
    A4.update.sess.act ≤ (A4.tick T).time80 ∧
    A4.dev.st ∈ [DevState.run, DevState.degraded, DevState.standby, DevState.ready, DevState.maint] ∧
    A4.imageFault (A4.bank A4.update.sess.bank).img false = none ∧
    A4.activeBank = some 0 ∧
    A4i.update.sess.st = 4 ∧
    A4i.update.sess.act ≤ (A4i.tick T).time80 ∧
    A4i.dev.st ∉ [DevState.run, DevState.degraded, DevState.standby, DevState.ready, DevState.maint] ∧
    S5.update.sess.st = 5 ∧
    S5.update.sess.reverting = false ∧
    S5r.update.sess.st = 5 ∧
    S5r.update.sess.reverting = true ∧
    S5r.update.sess.former ≠ S5r.update.sess.bank ∧
    S6.update.sess.st = 6 ∧
    S6.update.sess.trialEnd ≤ (S6.tick T).clock.now ∧
    S6b.update.sess.st = 6 ∧
    (S6b.tick T).clock.now < S6b.update.sess.trialEnd := by
  refine ⟨?_, ?_, ?_, ?_, ?_, ?_, ?_, ?_, ?_, ?_, ?_, ?_, ?_, ?_, ?_, ?_, ?_⟩ <;> decide +kernel

/-- What the clauses of `ResetsTakeHoldAndClear` suppose, met by concrete states. -/
theorem witness_ResetsTakeHoldAndClear_1 :
    0 < Config.us ∧
    Config.us ≤ T ∧
    R_.dev.rstN = true ∧
    R_.dev.pwrgd = true ∧
    R_.dev.wrstN = true ∧
    R_.faults.tripped = false ∧
    (R_.dev.warm = true ∨ R_.dev.phase ≠ BootPhase.held ∧ R_.dev.phase ≠ BootPhase.finishing) ∧
    R_.record.dirty = false ∧
    R_.dict.deferred = [] ∧
    R_.dev.finishing = false ∧
    (∀ (x : Tick × List BankCopy), R_.update.prior = some x → x.1 ≠ (R_.tick T).clock.now) ∧
    R_.dev.cmd = none ∧
    D1.dev.cmd = some (5, 5) ∧
    5 ≤ (D1.tick T).clock.now ∧
    (5 = 6 ∨ D1.faults.tripped = false) ∧
    (D3.dev.rstN = false ∨ D3.faults.tripped = true) := by
  refine ⟨?_, ?_, ?_, ?_, ?_, ?_, ?_, ?_, ?_, ?_, ?_, ?_, ?_, ?_, ?_, ?_⟩ <;> decide +kernel

/-- What the clauses of `ColdResetPrevails` suppose, met by concrete states. -/
theorem witness_ColdResetPrevails :
    Config.us ≤ T ∧
    R_.dev.rstN = true ∧
    R_.dev.pwrgd = true ∧
    (D1.tick T).Ready Path.mailbox ∧
    2 ≤ (D1.tick T).roleOf Path.mailbox ∧
    D1.dev.cmd = some (5, 5) ∧
    (D2.tick T).Ready Path.mailbox ∧
    2 ≤ (D2.tick T).roleOf Path.mailbox ∧
    D2.dev.cmd = some (6, 5) ∧
    D2.faults.tripped = false ∧
    (D3.dev.rstN = false ∨ D3.dev.pwrgd = false) ∧
    D3.dev.warm = false ∧
    (D3.dev.phase = BootPhase.held ∨ D3.dev.phase = BootPhase.finishing) := by
  refine ⟨?_, ?_, ?_, ?_, ?_, ?_, ?_, ?_, ?_, ?_, ?_, ?_, ?_⟩ <;> decide +kernel

/-- What the clauses of `ResetsTakeHoldAndClear` suppose, met by concrete states. -/
theorem witness_ResetsTakeHoldAndClear_2 :
    R_.dict.deferred = [] ∧
    objClass 2 2 ≠ ObjClass.kept ∧
    objClass 2 2 ≠ ObjClass.counter ∧
    objClass 2 2 ≠ ObjClass.persistent ∧
    2 < 65536 ∧
    2 < 256 ∧
    2 < 2 ^ 24 := by
  refine ⟨?_, ?_, ?_, ?_, ?_, ?_, ?_⟩ <;> decide +kernel

/-- What the clauses of `StartsProceedToReady` suppose, met by concrete states. -/
theorem witness_StartsProceedToReady :
    D9a.dev.finishing = false ∧
    D9a.dev.st = DevState.init ∧
    (∀ c ∈ D9a.faults.ctls, c.loaded = true ∧ c.out = false) ∧
    D9a.record.dirty = true ∧
    D9a.dev.st ≠ DevState.boot ∧
    D9s.record.dirty = false ∧
    (D9n.dev.st ≠ DevState.init ∨ ∃ c ∈ D9n.faults.ctls, c.loaded = false ∨ c.out = true) ∧
    D3.dev.pwrgd = true ∧
    D3.dev.phase = BootPhase.held ∧
    D3.dev.rstN = false ∧
    D4.dev.pwrgd = true ∧
    D4.dev.phase = BootPhase.held ∧
    D4.dev.rstN = true ∧
    D4.dev.wrstN = false ∧
    D5.dev.finishing = true ∧
    D5.dev.phase = BootPhase.finishing ∧
    D6.dev.pwrgd = false ∧
    D6.dev.rstN = true ∧
    D7.dev.pwrgd = false ∧
    D7.dev.rstN = false ∧
    D8b.dev.st = DevState.boot ∧
    D8b.dev.phase = BootPhase.booting ∧
    D8b.update.loadable = true ∧
    D8b.dev.rise ≤ (D8b.tick T).clock.now := by
  refine ⟨?_, ?_, ?_, ?_, ?_, ?_, ?_, ?_, ?_, ?_, ?_, ?_, ?_, ?_, ?_, ?_, ?_, ?_, ?_, ?_, ?_, ?_, ?_, ?_⟩ <;> decide +kernel

/-- The cartouche faults of a list hang on the keys accepted and on the fuses alone. -/
theorem cartFault_same (s t : State) (c : List Byte) (hk : ∀ n, s.cartKey n = t.cartKey n) (hf : s.fuses = t.fuses) :
    s.cartFault c = t.cartFault c := by
  unfold State.cartFault State.cartKeyFault
  rw [hk, hf]

/-- A cartouche that passes, on the first of the states of `UpdateSessionRowsAct`. -/
theorem witness_UpdateSessionRowsAct_cart : S0.cartFault cart = none := by
  decide +kernel

/-- The same cartouche passes where another requester holds the session. -/
theorem witness_UpdateSessionRowsAct_cart_held : S1c.cartFault cart = none :=
  (cartFault_same S1c S0 cart (fun _ => rfl) rfl).trans witness_UpdateSessionRowsAct_cart

/-- The values of that cartouche pass too. -/
theorem witness_UpdateSessionRowsAct_cart_values : cartValueFault cart = none :=
  (Option.or_eq_none_iff.mp witness_UpdateSessionRowsAct_cart).1

end C15

namespace C05b

def T : Nat := W.T

def RR := W.run

def fr : Frame := lineFrame 4 0 (zeros 70) 5 none

def up : State := (RR.setObj 0x3004 1 1).setPort { RR.port 4 with link := 1 }

def up64 : State := up.setObj 0x3004 3 64

def rdy : State := { up with dev := { up.dev with st := .ready } }

def wire (d : List Byte) : List Byte := d ++ fcsOf d

def good : List Byte := wire (zeros 60)

def runt : List Byte := wire (zeros 59)

def ovr : List Byte := wire (zeros 66)

def stomped : List Byte := zeros 60 ++ (fcsOf (zeros 60)).map (fun b => ~~~b)

def bad : List Byte := zeros 64

def fl (f : Flow → Flow) (s : State := RR) : State := { s with flow := f s.flow }

def full : State := fl (fun x => { x with lineIn := (List.range 14).map (fun _ => (1, { fr with data := zeros 9600 })) }) up

def fr4 : Frame := { fr with dom := 4, seq := 3, pass := 1 }

def d0 := fl (fun x => { x with lineIn := [(1, fr)] })

def d1 := fl (fun x => { x with egressIn := [fr] })

def d2 := fl (fun x => { x with pipeBusy := (List.range 32).map (fun n => (n, 1)), lineIn := [(1, fr)] })

def ro1 : RoEntry := ⟨4, 3, .waiting, 0⟩

def ro2 : RoEntry := ⟨4, 4, .forward fr4 1 5 0, 5⟩

def ro0 : RoEntry := ⟨4, 2, .forward fr4 1 5 0, 5⟩

def res2 : Machine.Settle := .forward fr4 1 5 0

def O1 := fl (fun x => { x with ro := [ro1, ro2] })

def O2 := fl (fun x => { x with ro := [ro0, ro1] })

def c0 : Ctx := { RR.mkCtx .ingress 0 fr4 with id := 9, trailer := 0, hv := zeros 640 }

def c5 : Ctx := { c0 with pipe := 5 }

def P1 := fl (fun x => { x with ctxs := [c5] })

def P2 := fl (fun x => { x with pipeBusy := [(5,1)] })

def P3 := RR.mapSpares (fun x => { x with pipeSubst := [(5, 4)] })

def frc : Frame := { fr4 with stamp := (RR.tick T).coreCycle }

def rc1 := fl (fun x => { x with recircI := [frc] })

def ij1 := fl (fun x => { x with injectIn := [(fr, [3])] })

def rj0 := fl (fun x => { x with recircI := [frc], injectIn := [(fr, [3])] })

def re1 := fl (fun x => { x with recircE := [frc] })

def P4 : State := { P3 with flow := { P3.flow with pipeBusy := [(6,1)] } }

/-- What the clauses of `PipelinesAreSubstitutedDrainedAndRetired` suppose, met by concrete states. -/
theorem witness_PipelinesAreSubstitutedDrainedAndRetired_a :
    P4.faults.haltFe = false ∧
    (P4.tick T).record.mem.spares.pipeRetired.contains 5 = false ∧
    (P4.tick T).pipeSubst 5 ≠ 255 ∧
    P4.survey.retires = [] ∧
    (P4.tick T).pipeMoving 5 = true ∧
    (P4.tick T).flow.ctxCount 5 = 0 ∧
    nget P4.flow.pipeBusy 5 0 = 0 ∧
    RR.faults.haltFe = false ∧
    (RR.tick T).record.mem.spares.pipeRetired.contains 5 = false ∧
    (RR.tick T).pipeSubst 5 = 255 ∧
    (RR.tick T).sxFit 5 = true ∧
    (RR.tick T).pipeMoving 5 = false ∧
    P1.faults.haltFe = false ∧
    (P1.tick T).record.mem.spares.pipeRetired.contains 5 = false ∧
    (List.filter (fun c => c.pipe == 5) (P1.tick T).flow.ctxs = [c5]) ∧
    c5.dir = Dir.ingress := by
  refine ⟨?_, ?_, ?_, ?_, ?_, ?_, ?_, ?_, ?_, ?_, ?_, ?_, ?_, ?_, ?_, ?_⟩ <;> decide +kernel

/-- What the clauses of `PipelinesAreSubstitutedDrainedAndRetired` suppose, met by concrete states. -/
theorem witness_PipelinesAreSubstitutedDrainedAndRetired_b :
    nget P1.flow.pipeBusy 5 0 = 0 ∧
    P1.flow.ctxCount 5 ≠ 0 ∧
    P2.faults.haltFe = false ∧
    (P2.tick T).record.mem.spares.pipeRetired.contains 5 = false ∧
    (P2.tick T).sxFit 5 = true ∧
    (P2.tick T).pipeMoving 5 = true ∧
    nget P2.flow.pipeBusy 5 0 ≠ 0 ∧
    P2.flow.ctxCount 5 = 0 ∧
    P2.survey.retires = [] ∧
    P3.faults.haltFe = false ∧
    (P3.tick T).record.mem.spares.pipeRetired.contains 5 = false ∧
    (P3.tick T).pipeSubst 5 ≠ 255 ∧
    P3.survey.retires = [] ∧
    (P3.tick T).pipeMoving 5 = false ∧
    (P3.tick T).sxFit 5 = false := by
  refine ⟨?_, ?_, ?_, ?_, ?_, ?_, ?_, ?_, ?_, ?_, ?_, ?_, ?_, ?_, ?_⟩ <;> decide +kernel

/-- What the clauses of `FramesAreTakenAndDealt` suppose, met by concrete states. -/
theorem witness_FramesAreTakenAndDealt_1_a :
    up.faults.haltFe = false ∧
    (up.tick T).linkUp 4 = true ∧
    (up.tick T).nearLoop 4 = false ∧
    (List.drop (good.length - 4) good ≠ List.map (fun b => ~~~b) (fcsOf (List.take (good.length - 4) good))) ∧
    List.drop (good.length - 4) good = fcsOf (List.take (good.length - 4) good) ∧
    64 ≤ good.length ∧
    good.length ≤ (up.tick T).obj (12288 + 4) 3 ∧
    beAt good 12 2 ≠ 34824 ∧
    bit ((up.tick T).obj 26881 1) 4 = false ∧
    (up.tick T).dev.st.inService = true ∧
    (up.tick T).flow.fifoBytes (4 / 4) + good.length ≤ 131072 ∧
    List.drop (runt.length - 4) runt = fcsOf (List.take (runt.length - 4) runt) ∧
    runt.length < 64 ∧
    4 ≤ stomped.length ∧
    (List.drop (stomped.length - 4) stomped = List.map (fun b => ~~~b) (fcsOf (List.take (stomped.length - 4) stomped))) ∧
    (List.drop (bad.length - 4) bad ≠ List.map (fun b => ~~~b) (fcsOf (List.take (bad.length - 4) bad))) ∧
    List.drop (bad.length - 4) bad ≠ fcsOf (List.take (bad.length - 4) bad) ∧
    up64.faults.haltFe = false := by
  refine ⟨?_, ?_, ?_, ?_, ?_, ?_, ?_, ?_, ?_, ?_, ?_, ?_, ?_, ?_, ?_, ?_, ?_, ?_⟩ <;> decide +kernel

/-- What the clauses of `FramesAreTakenAndDealt` suppose, met by concrete states. -/
theorem witness_FramesAreTakenAndDealt_1_b :
    (up64.tick T).linkUp 4 = true ∧
    (up64.tick T).nearLoop 4 = false ∧
    List.drop (ovr.length - 4) ovr = fcsOf (List.take (ovr.length - 4) ovr) ∧
    64 ≤ ovr.length ∧
    (up64.tick T).obj (12288 + 4) 3 < ovr.length ∧
    rdy.faults.haltFe = false ∧
    (rdy.tick T).linkUp 4 = true ∧
    (rdy.tick T).nearLoop 4 = false ∧
    good.length ≤ (rdy.tick T).obj (12288 + 4) 3 ∧
    bit ((rdy.tick T).obj 26881 1) 4 = false ∧
    (rdy.tick T).dev.st.inService = false ∧
    full.faults.haltFe = false ∧
    (full.tick T).linkUp 4 = true ∧
    (full.tick T).nearLoop 4 = false ∧
    good.length ≤ (full.tick T).obj (12288 + 4) 3 ∧
    bit ((full.tick T).obj 26881 1) 4 = false ∧
    (full.tick T).dev.st.inService = true ∧
    131072 < (full.tick T).flow.fifoBytes (4 / 4) + good.length := by
  refine ⟨?_, ?_, ?_, ?_, ?_, ?_, ?_, ?_, ?_, ?_, ?_, ?_, ?_, ?_, ?_, ?_, ?_, ?_⟩ <;> decide +kernel

/-- What the clauses of `FramesAreTakenAndDealt` suppose, met by concrete states. -/
theorem witness_FramesAreTakenAndDealt_2_a :
    d0.faults.haltFe = false ∧
    ((d0.tick T).purgeStale Dir.ingress).bodyEmpty = false ∧
    ((d0.tick T).purgeStale Dir.ingress).pickPipe Dir.ingress = some 0 ∧
    ((d0.tick T).purgeStale Dir.ingress).lineReady = some (1, fr) ∧
    d1.faults.haltFe = false ∧
    ((d1.tick T).purgeStale Dir.ingress).bodyEmpty = false ∧
    ((d1.tick T).purgeStale Dir.ingress).pickPipe Dir.ingress = some 0 ∧
    ((d1.tick T).purgeStale Dir.ingress).lineReady = none ∧
    ((d1.tick T).purgeStale Dir.ingress).recircReady = none ∧
    ((d1.tick T).purgeStale Dir.ingress).injectReady = none ∧
    ((d1.tick T).purgeStale Dir.egress).pickPipe Dir.egress = some (((d0.tick T).pickPipe Dir.egress).getD 0) ∧
    ((d1.tick T).purgeStale Dir.egress).flow.egressIn = [fr] ∧
    d2.faults.haltFe = false ∧
    ((d2.tick T).purgeStale Dir.ingress).bodyEmpty = false ∧
    ((d2.tick T).purgeStale Dir.ingress).pickPipe Dir.ingress = none ∧
    ((d2.tick T).purgeStale Dir.egress).pickPipe Dir.egress = none ∧
    rc1.faults.haltFe = false ∧
    ((rc1.tick T).purgeStale Dir.ingress).bodyEmpty = false ∧
    ((rc1.tick T).purgeStale Dir.ingress).pickPipe Dir.ingress = some 0 ∧
    ((rc1.tick T).purgeStale Dir.ingress).lineReady = none ∧
    ((rc1.tick T).purgeStale Dir.ingress).recircReady = some frc := by
  refine ⟨?_, ?_, ?_, ?_, ?_, ?_, ?_, ?_, ?_, ?_, ?_, ?_, ?_, ?_, ?_, ?_, ?_, ?_, ?_, ?_, ?_⟩ <;> decide +kernel

/-- What the clauses of `FramesAreTakenAndDealt` suppose, met by concrete states. -/
theorem witness_FramesAreTakenAndDealt_2_b :
    ((rc1.tick T).purgeStale Dir.ingress).injectReady = none ∧
    ij1.faults.haltFe = false ∧
    ((ij1.tick T).purgeStale Dir.ingress).bodyEmpty = false ∧
    ((ij1.tick T).purgeStale Dir.ingress).pickPipe Dir.ingress = some 0 ∧
    ((ij1.tick T).purgeStale Dir.ingress).lineReady = none ∧
    ((ij1.tick T).purgeStale Dir.ingress).recircReady = none ∧
    ((ij1.tick T).purgeStale Dir.ingress).injectReady = some (fr, [3]) ∧
    rj0.faults.haltFe = false ∧
    ((rj0.tick T).purgeStale Dir.ingress).bodyEmpty = false ∧
    ((rj0.tick T).purgeStale Dir.ingress).pickPipe Dir.ingress = some 0 ∧
    ((rj0.tick T).purgeStale Dir.ingress).lineReady = none ∧
    ((rj0.tick T).purgeStale Dir.ingress).recircReady = some frc ∧
    ((rj0.tick T).purgeStale Dir.ingress).injectReady = some (fr, [3]) ∧
    re1.faults.haltFe = false ∧
    ((re1.tick T).purgeStale Dir.egress).pickPipe Dir.egress = some (((d0.tick T).pickPipe Dir.egress).getD 0) ∧
    ((re1.tick T).purgeStale Dir.egress).flow.egressIn = [] ∧
    ((re1.tick T).purgeStale Dir.egress).flow.recircE = [frc] ∧
    d0.pickPipe Dir.ingress = some 0 ∧
    fr.pass = 0 ∧
    d0.dealtNow T < 2 := by
  refine ⟨?_, ?_, ?_, ?_, ?_, ?_, ?_, ?_, ?_, ?_, ?_, ?_, ?_, ?_, ?_, ?_, ?_, ?_, ?_, ?_⟩ <;> decide +kernel

/-- What the clauses of `ReorderUnitKeepsOrder` suppose, met by concrete states. -/
theorem witness_ReorderUnitKeepsOrder :
    RR.faults.haltFe = false ∧
    (∀ (e : RoEntry), List.find? (fun e => e.dom == T) RR.flow.ro = some e → e.res = Settle.waiting) ∧
    (∀ e ∈ RR.flow.ro, e.dom = T → e.res.hasFrame = false) ∧
    O1.faults.haltFe = false ∧
    O1.flow.ro = [{ dom := 4, seq := 3, res := Settle.waiting, at_ := 0 : RoEntry },
    { dom := 4, seq := 4, res := res2, at_ := 5 : RoEntry }] ∧
    res2.hasFrame = true ∧
    5 + (O1.tick T).obj 16384 1 * Config.ns ≤ (O1.tick T).clock.now ∧
    O2.faults.haltFe = false ∧
    (List.find? (fun e => e.dom == 4) O2.flow.ro = some ro0) ∧
    ro0.res ≠ Settle.waiting ∧
    O2.flow.ro.length = 1 + 1 := by
  refine ⟨?_, ?_, ?_, ?_, ?_, ?_, ?_, ?_, ?_, ?_, ?_⟩ <;> decide +kernel

end C05b

namespace C08

def T : Nat := W.T

def Tz : Nat := W.T + 3000 * Config.sec

def RR := W.run

def fr : Frame := { lineFrame 4 0 (zeros 70) 5 none with src := 4 }

def x1 : ToTm := { frame := fr, kind := 1, dest := 1024, mirror := 0, pid := none }

def A1b : State := { RR with flow := { RR.flow with toTm := [x1] } }

def A1c := A1b.setNodeRec (nodeKey 5 1024) 0

def A1e := A1b.setObj (0x5020 + recProfile (A1b.qrec 1024)) 2 0

def places (n : Nat) : List Place := (List.range 6).map (fun i => .die (n + i))

def mkP (i : Nat) (q : Nat) (at_ : Nat) (l : List Place) : Pkt := ⟨i, q, zeros 100, 100, false, false, none, false, 0, 0, at_, 0, 4, 0, 5, none, 0, none, 1, l⟩

def p8 : Pkt := mkP 0 1024 276447232 (places 0)

def rest8 : List Pkt := [mkP 1 1024 276447232 (places 6), mkP 2 1024 276447232 (places 12)]

def mq (n : Nat) (f : Que → Que) (s : State) : State := s.setQue (f (s.que n))

def A4 : State := { mq 1024 (fun q => { q with pkts := p8 :: rest8 }) RR with buf := { RR.buf with cells := [0, 6, 12].flatMap (fun n => chainCells 0 1 [n, n+1, n+2, n+3, n+4, n+5]) } }

def A5 : State := let s := (A4.setObj 0x5000 6 16).setObj 0x5000 5 8; { s with faults := { s.faults with ctls := [] } }

def C1 : State := { RR with buf := { RR.buf with cells := [⟨0, 7, 1, 1, true, false, 0⟩] } }

def cl : Cell := ⟨0, 7, 1, 1, true, false, 0⟩

def clb : Cell := { cl with count := 2 }

def C2 : State := { C1 with buf := { C1.buf with cells := [clb] } }

def XO : State := { (((RR.setObj 0x3004 1 1).setObj 0x5084 3 255).setPort { RR.port 4 with link := 1 }) with buf := { RR.buf with xoff := [(4, 2, 5)] } }

def q0 : Fin 524288 := 1024

def e0 : Fin 524288 := 0

def b7 : Block := ⟨5, 1, 1, 1, 0, 0, 1024⟩

def A6 : State := { mq 1024 (fun q => { q with pkts := [mkP 0 1024 276447232 (places 0 ++ places 6), mkP 1 1024 276447232 [.block 5 0]] }) RR with buf := { RR.buf with blocks := [b7] } }

def A7 := A6.setObj 0x5000 5 64

def A9 : State := { A4 with fabric := { A4.fabric with txs := [⟨1,0,0,none,[⟨0,1024,zeros 400,true,false,none,0,none,some p8,0⟩],[]⟩] } }

def G1 := mq 0 (fun q => { q with srcs := [(0,0),(3,7)], lastSrc := 0, out := 0 }) RR

def G2 := mq 0 (fun q => { q with srcs := [(0,0),(3,7)], lastSrc := 3, out := 64, outAt := 5 }) RR

def G3 := mq 0 (fun q => { q with out := 64, outAt := 1000*Config.sec }) { RR with sched := { RR.sched with grantRot := 0, grantAt := (RR.tick T).tmcCycle, grantCount := 4 } }

def G4 : State := { G1 with sched := { G1.sched with grantAt := (RR.tick T).tmcCycle, grantCount := 4 } }

def F1 := mq 1024 (fun q => { q with on := true, onAt := 5}) A4

def F2 := mq 1024 (fun q => { q with on := true, onAt := 1000*Config.sec}) A4

def pl : List Pkt := [mkP 0 0 0 [.die 0], mkP 1 0 0 [.die 6]]

def H1 := mq 0 (fun q => { q with pkts := pl, locals := pl }) RR

def PH3 : State := { RR with sched := { RR.sched with portSt := [(5,1)], portHold := [(5, T)] } }

def SM := ((RR.setObj 0x5311 1 1).setObj 0x5311 2 1000000).setObj 0x5311 4 1

def SM2 := (SM.setObj 0x5312 1 1).setObj 0x5312 2 999999937

def gc (x : Nat) : GratChange := ⟨4, x, true, ⟨1, [(1,1000)], 0, 0, 1⟩⟩

def GC1 : State := { RR with gates := { RR.gates with pending := [gc 5] } }

def GC2 : State := { RR with gates := { RR.gates with pending := [gc (2^90)] } }

def up : State := (RR.setObj 0x3000 1 1).setPort { RR.port 0 with link := 1 }

def bt : State := { RR with dev := { RR.dev with st := .boot } }

def plr : List Pkt := [mkP 0 0 999999999999999 [.die 0]]

def U0 := mq 0 (fun q => { q with pkts := pl }) up

def U1 := mq 0 (fun q => { q with pkts := plr }) up

def picks (s : State) (t : Tick) := (((s.tick t).zeroDeficits 0 (((s.tick t).leaves 0).filter ((s.tick t).eligible 0))).choose 0 4 (nodeKey 1 0) (((s.tick t).leaves 0).filter ((s.tick t).eligible 0))).getD (⟨0, [], p8⟩, 0, [])

def lf0 : Leaf := (picks U1 T).1

def lf1 : Leaf := (picks U0 Tz).1

def p1 : Pkt := mkP 0 0 0 [.die 0]

def C3 : State := { RR with buf := { RR.buf with blocks := [b7] } }

def XO2 : State := { XO with buf := { XO.buf with xoff := [(4, 2, T)] } }

def xr : ToTm := { x1 with pid := some 3 }

def xp : ToTm := { x1 with kind := 8, dest := 3 }

def Ar : State := { A4 with flow := { A4.flow with toTm := [xr] } }

def Ap : State := { RR with flow := { RR.flow with toTm := [xp] } }

def Aq : State := { A1b with buf := { A1b.buf with granted := [2^90, 0, 0, 0] } }

def xc : ToTm := { x1 with frame := { fr with data := zeros 3000 } }

def Ac : State := { (RR.setObj 0x5084 1 1).setObj 0x5000 8 4 with flow := { RR.flow with toTm := [xc] } }

def AH : State := { A5 with buf := { A5.buf with hbmAll := 2^120, hbmRead := 2^120 } }

def A7h : State := { A7 with buf := { A7.buf with hbmRead := 2^120 } }

def cs5 : List (List Nat) := [[12, 13, 14, 15, 16, 17]]

def A5c : State := { A5 with faults := { A5.faults with ctls := List.replicate 24 ⟨true, 0, true⟩ } }

def xt : TxPkt := ((A9.tick T).txOf 1024).getD ⟨0,1024,[],false,false,none,0,none,none,0⟩

def pbad : Pkt := { mkP 0 0 999999999999999 [.die 0] with bad := true }

def UB := mq 0 (fun q => { q with pkts := [pbad] }) up

def lfB : Leaf := (picks UB T).1

def UC : State := { U1 with sched := { U1.sched with coreAt := (U1.tick T).coreCycle, coreCount := 1000 } }

def V7 := (mq 0 (fun q => { q with bal := 4000, locals := pl.take 1 }) RR).setNodeRec (nodeKey 5 0) (setBits (RR.qrec 0) 153 151 7)

def V8 : State := mq 0 (fun q => { q with locals := [{ (mkP 0 0 ((V7.tick T).ns32) [.die 0]) with bad := true }] }) V7

def V7z : State := ((V7.tick Tz).txStep).getD RR

/-- What the clauses of `BufferUnitsAreFreedAndHandedOver` suppose, met by concrete states. -/
theorem witness_BufferUnitsAreFreedAndHandedOver_a :
    XO2.buf.block T = none ∧
    XO2.faults.haltFe = false ∧
    (List.find? (fun x => x.1 == 4 && x.2.1 == 2) XO2.buf.xoff = some (4, 2, T)) ∧
    ((XO2.tick T).portRate 4 = 0 ∨ ((XO2.tick T).clock.now - T) * 2 * (XO2.tick T).portRate 4 < (XO2.tick T).obj (20608 + 4)
    7 * 512 * Config.ns) ∧
    Pool.ingress ≠ Pool.hbm ∧
    C3.buf.cell (unitKind (poolCode Pool.ingress)) T = none ∧
    C1.buf.cell (unitKind (poolCode Pool.ingress)) 7 = some cl ∧
    cl.count ≠ 0 ∧
    cl.owner ≠ T ∧
    cl.owner = 1 ∧
    cl.count = 1 ∧
    C2.buf.cell (unitKind (poolCode Pool.ingress)) 7 = some clb ∧
    clb.owner = 1 ∧
    1 < clb.count := by
  refine ⟨?_, ?_, ?_, ?_, ?_, ?_, ?_, ?_, ?_, ?_, ?_, ?_, ?_, ?_⟩ <;> decide +kernel

/-- What the clauses of `BufferUnitsAreFreedAndHandedOver` suppose, met by concrete states. -/
theorem witness_BufferUnitsAreFreedAndHandedOver_b :
    C3.buf.block 5 = some b7 ∧
    b7.owner ≠ T ∧
    b7.owner = 1 ∧
    (Pool.hbm = Pool.hbm ∨ (1 : Fin 8) = (0 : Fin 8) ∨ (1 : Fin 8) = (7 : Fin 8) ∨ T = 0 ∨ 4095 < T) ∧
    (1 : Fin 8) ≠ (0 : Fin 8) ∧
    (1 : Fin 8) ≠ (7 : Fin 8) ∧
    1 ≤ 7 ∧
    7 ≤ 4095 ∧
    cl.owner ≠ 2 ∧
    (C3.faults.haltFe = true ∨ List.find? (fun x => x.1 == 4 && x.2.1 == 1) C3.buf.xoff = none) ∧
    XO.faults.haltFe = false ∧
    (List.find? (fun x => x.1 == 4 && x.2.1 == 2) XO.buf.xoff = some (4, 2, 5)) ∧
    (XO.tick T).portRate 4 ≠ 0 ∧
    (XO.tick T).obj (20608 + 4) 7 * 512 * Config.ns ≤ ((XO.tick T).clock.now - 5) * 2 * (XO.tick T).portRate 4 := by
  refine ⟨?_, ?_, ?_, ?_, ?_, ?_, ?_, ?_, ?_, ?_, ?_, ?_, ?_, ?_⟩ <;> decide +kernel

/-- What the clauses of `PacketsAreAdmittedEvictedAndFetched` suppose, met by concrete states. -/
theorem witness_PacketsAreAdmittedEvictedAndFetched_2_a :
    A5c.faults.haltTm = false ∧
    recEgress ((A5c.tick T).qrec q0.val) = false ∧
    (A5c.tick T).evictOk q0.val = true ∧
    ((if ((A5c.tick T).runRest ((A5c.tick T).que q0.val).pkts).isEmpty = true then (A5c.tick T).runRest ((A5c.tick T).que
    q0.val).locals else (A5c.tick T).runRest ((A5c.tick T).que q0.val).pkts) ≠ [] ∨ (A5c.tick T).evictDue 0 ((A5c.tick
    T).que q0.val).pkts = true) ∧
    (eights (dieCells (if (if ((A5c.tick T).runRest ((A5c.tick T).que q0.val).pkts).isEmpty = true then (A5c.tick T).runRest
    ((A5c.tick T).que q0.val).locals else (A5c.tick T).runRest ((A5c.tick T).que q0.val).pkts).isEmpty = true then (A5c.tick
    T).runOf ((A5c.tick T).obj 20480 5) ((A5c.tick T).que q0.val).pkts 0 false else if ((A5c.tick T).runRest ((A5c.tick
    T).que q0.val).pkts).isEmpty = true then (A5c.tick T).runRest ((A5c.tick T).que q0.val).locals else (A5c.tick T).runRest
    ((A5c.tick T).que q0.val).pkts)).length (dieCells (if (if ((A5c.tick T).runRest ((A5c.tick T).que q0.val).pkts).isEmpty
    = true then (A5c.tick T).runRest ((A5c.tick T).que q0.val).locals else (A5c.tick T).runRest ((A5c.tick T).que
    q0.val).pkts).isEmpty = true then (A5c.tick T).runOf ((A5c.tick T).obj 20480 5) ((A5c.tick T).que q0.val).pkts 0 false
    else if ((A5c.tick T).runRest ((A5c.tick T).que q0.val).pkts).isEmpty = true then (A5c.tick T).runRest ((A5c.tick T).que
    q0.val).locals else (A5c.tick T).runRest ((A5c.tick T).que q0.val).pkts)) = [cs5.headD []]) ∧
    (A5c.tick T).hbmFull = false ∧
    (A5c.tick T).allocBusy 2 = false ∧
    (∀ i < 4, (A5c.tick T).ctlOut (19 + i) = true) ∧
    (A5c.tick T).prefetchDue ((A5c.tick T).que q0.val).pkts = none ∧
    (A5c.tick T).prefetchDue ((A5c.tick T).que q0.val).locals = none ∧
    A9.faults.haltTm = false ∧
    recEgress ((A9.tick T).qrec q0.val) = false ∧
    ((A9.tick T).evictOk q0.val = false ∨ (if ((A9.tick T).runRest ((A9.tick T).que q0.val).pkts).isEmpty = true then
    (A9.tick T).runRest ((A9.tick T).que q0.val).locals else (A9.tick T).runRest ((A9.tick T).que q0.val).pkts) = [] ∧
    (A9.tick T).evictDue 0 ((A9.tick T).que q0.val).pkts = false) ∧
    (A9.tick T).txOf q0.val = some xt ∧
    A5.faults.haltTm = false ∧
    recEgress ((A5.tick T).qrec q0.val) = false ∧
    (A5.tick T).evictOk q0.val = true := by
  refine ⟨?_, ?_, ?_, ?_, ?_, ?_, ?_, ?_, ?_, ?_, ?_, ?_, ?_, ?_, ?_, ?_, ?_⟩ <;> decide +kernel

/-- What the clauses of `PacketsAreAdmittedEvictedAndFetched` suppose, met by concrete states. -/
theorem witness_PacketsAreAdmittedEvictedAndFetched_2_b :
    ((if ((A5.tick T).runRest ((A5.tick T).que q0.val).pkts).isEmpty = true then (A5.tick T).runRest ((A5.tick T).que
    q0.val).locals else (A5.tick T).runRest ((A5.tick T).que q0.val).pkts) ≠ [] ∨ (A5.tick T).evictDue 0 ((A5.tick T).que
    q0.val).pkts = true) ∧
    (eights (dieCells (if (if ((A5.tick T).runRest ((A5.tick T).que q0.val).pkts).isEmpty = true then (A5.tick T).runRest
    ((A5.tick T).que q0.val).locals else (A5.tick T).runRest ((A5.tick T).que q0.val).pkts).isEmpty = true then (A5.tick
    T).runOf ((A5.tick T).obj 20480 5) ((A5.tick T).que q0.val).pkts 0 false else if ((A5.tick T).runRest ((A5.tick T).que
    q0.val).pkts).isEmpty = true then (A5.tick T).runRest ((A5.tick T).que q0.val).locals else (A5.tick T).runRest ((A5.tick
    T).que q0.val).pkts)).length (dieCells (if (if ((A5.tick T).runRest ((A5.tick T).que q0.val).pkts).isEmpty = true then
    (A5.tick T).runRest ((A5.tick T).que q0.val).locals else (A5.tick T).runRest ((A5.tick T).que q0.val).pkts).isEmpty =
    true then (A5.tick T).runOf ((A5.tick T).obj 20480 5) ((A5.tick T).que q0.val).pkts 0 false else if ((A5.tick T).runRest
    ((A5.tick T).que q0.val).pkts).isEmpty = true then (A5.tick T).runRest ((A5.tick T).que q0.val).locals else (A5.tick
    T).runRest ((A5.tick T).que q0.val).pkts)) = [cs5.headD []]) ∧
    (A5.tick T).hbmFull = false ∧
    (A5.tick T).allocBusy 2 = false ∧
    ((A5.tick T).grantUnits 1 0 25165824 1).1.isSome = true ∧
    AH.faults.haltTm = false ∧
    recEgress ((AH.tick T).qrec q0.val) = false ∧
    (AH.tick T).evictOk q0.val = true ∧
    ((if ((AH.tick T).runRest ((AH.tick T).que q0.val).pkts).isEmpty = true then (AH.tick T).runRest ((AH.tick T).que
    q0.val).locals else (AH.tick T).runRest ((AH.tick T).que q0.val).pkts) ≠ [] ∨ (AH.tick T).evictDue 0 ((AH.tick T).que
    q0.val).pkts = true) ∧
    ((AH.tick T).hbmFull = true ∨ (AH.tick T).allocBusy 2 = true) ∧
    A7.faults.haltTm = false ∧
    recEgress ((A7.tick T).qrec q0.val) = false ∧
    (A7.tick T).prefetchDue ((A7.tick T).que q0.val).pkts = some 5 ∧
    (A7.tick T).prefetchDue ((A7.tick T).que q0.val).locals = none ∧
    (A7.tick T).ctlOut (19 + 5 % 128 / 32) = false ∧
    (A7.tick T).hbmReadFull = false ∧
    (A7.tick T).buf.block 5 = some b7 := by
  refine ⟨?_, ?_, ?_, ?_, ?_, ?_, ?_, ?_, ?_, ?_, ?_, ?_, ?_, ?_, ?_, ?_, ?_⟩ <;> decide +kernel

/-- What the clauses of `PacketsAreAdmittedEvictedAndFetched` suppose, met by concrete states. -/
theorem witness_PacketsAreAdmittedEvictedAndFetched_2_c :
    (A7.tick T).allocBusy 0 = false ∧
    ((A7.tick T).allocCells 0 ((A7.tick T).blockPlaces q0.val 5).length b7.owner).1.isSome = true ∧
    A7h.faults.haltTm = false ∧
    recEgress ((A7h.tick T).qrec q0.val) = false ∧
    (A7h.tick T).prefetchDue ((A7h.tick T).que q0.val).pkts = some 5 ∧
    (A7h.tick T).prefetchDue ((A7h.tick T).que q0.val).locals = none ∧
    ((A7h.tick T).ctlOut (19 + 5 % 128 / 32) = true ∨ (A7h.tick T).hbmReadFull = true) ∧
    RR.faults.haltTm = false ∧
    recEgress ((RR.tick T).qrec q0.val) = false ∧
    (RR.tick T).txOf q0.val = none ∧
    ((RR.tick T).que q0.val).pkts = [] ∧
    A4.faults.haltTm = false ∧
    recEgress ((A4.tick T).qrec q0.val) = false ∧
    (A4.tick T).txOf q0.val = none ∧
    ((A4.tick T).que q0.val).pkts = p8 :: rest8 := by
  refine ⟨?_, ?_, ?_, ?_, ?_, ?_, ?_, ?_, ?_, ?_, ?_, ?_, ?_, ?_, ?_⟩ <;> decide +kernel

/-- What the clauses of `PacketsAreAdmittedEvictedAndFetched` suppose, met by concrete states. -/
theorem witness_PacketsAreAdmittedEvictedAndFetched_1_a :
    RR.faults.haltTm = false ∧
    RR.flow.toTm = [] ∧
    Ar.faults.haltTm = false ∧
    Ar.flow.toTm = [xr] ∧
    xr.pid = some 3 ∧
    Ap.faults.haltTm = false ∧
    Ap.flow.toTm = [xp] ∧
    xp.pid = none ∧
    xp.kind = 8 ∧
    (({ Ap.tick 3 with flow := ({ Ap.flow with toTm := [] } : Machine.Flow) } : State)).allocBusy 0 = false ∧
    Aq.faults.haltTm = false ∧
    Aq.flow.toTm = [x1] ∧
    x1.pid = none ∧
    ((({ Aq.tick 3 with flow := ({ Aq.flow with toTm := [] } : Machine.Flow) } : State)).allocBusy (if x1.kind = 9 then 1
    else 0) = true) ∧
    Ac.faults.haltTm = false ∧
    Ac.flow.toTm = [xc] ∧
    xc.pid = none := by
  refine ⟨?_, ?_, ?_, ?_, ?_, ?_, ?_, ?_, ?_, ?_, ?_, ?_, ?_, ?_, ?_, ?_, ?_⟩ <;> decide +kernel

/-- What the clauses of `PacketsAreAdmittedEvictedAndFetched` suppose, met by concrete states. -/
theorem witness_PacketsAreAdmittedEvictedAndFetched_1_b :
    xc.kind = 1 ∧
    xc.mirror = 0 ∧
    (({ Ac.tick T with flow := ({ Ac.flow with toTm := [] } : Machine.Flow) } : State)).allocBusy 0 = false ∧
    (128 ≤ xc.frame.src ∨ (({ Ac.tick T with flow := ({ Ac.flow with toTm := [] } : Machine.Flow) } : State)).pfcOn
    xc.frame.src xc.frame.prio = false) ∧
    (({ Ac.tick T with flow := ({ Ac.flow with toTm := [] } : Machine.Flow) } : State)).elimStream xc.dest = none ∧
    recEnabled ((({ Ac.tick T with flow := ({ Ac.flow with toTm := [] } : Machine.Flow) } : State)).qrec xc.dest) = true ∧
    (({ Ac.tick T with flow := ({ Ac.flow with toTm := [] } : Machine.Flow) } : State)).verdict 0 xc.dest
    ((xc.frame.data.length + 32 + 255) / 256) xc.frame.dp 0 none = Verdict.accept ∧
    ((({ Ac.tick T with flow := ({ Ac.flow with toTm := [] } : Machine.Flow) } : State)).allocCells 0 ((xc.frame.data.length
    + 32 + 255) / 256) 1).1.isSome = true ∧
    (xc.frame.inject.isNone && decide (xc.frame.src < 128) &&
    (({ Ac.tick T with flow := ({ Ac.flow with toTm := [] } : Machine.Flow) } : State)).obj (20608 + xc.frame.src) 1 == 1 &&
    !(({ Ac.tick T with flow := ({ Ac.flow with toTm := [] } : Machine.Flow) } : State)).queueGated xc.dest && decide
    ((({ Ac.tick T with flow := ({ Ac.flow with toTm := [] } : Machine.Flow) } : State)).startBytes < xc.frame.data.length))
    = true ∧
    A1b.faults.haltTm = false ∧
    A1b.flow.toTm = [x1] ∧
    x1.kind = 1 ∧
    x1.mirror = 0 ∧
    (({ A1b.tick T with flow := ({ A1b.flow with toTm := [] } : Machine.Flow) } : State)).allocBusy 0 = false ∧
    (128 ≤ x1.frame.src ∨ (({ A1b.tick T with flow := ({ A1b.flow with toTm := [] } : Machine.Flow) } : State)).pfcOn
    x1.frame.src x1.frame.prio = false) ∧
    (({ A1b.tick T with flow := ({ A1b.flow with toTm := [] } : Machine.Flow) } : State)).elimStream x1.dest = none ∧
    recEnabled ((({ A1b.tick T with flow := ({ A1b.flow with toTm := [] } : Machine.Flow) } : State)).qrec x1.dest) = true := by
  refine ⟨?_, ?_, ?_, ?_, ?_, ?_, ?_, ?_, ?_, ?_, ?_, ?_, ?_, ?_, ?_, ?_, ?_⟩ <;> decide +kernel

/-- What the clauses of `PacketsAreAdmittedEvictedAndFetched` suppose, met by concrete states. -/
theorem witness_PacketsAreAdmittedEvictedAndFetched_1_c :
    (({ A1b.tick T with flow := ({ A1b.flow with toTm := [] } : Machine.Flow) } : State)).verdict 0 x1.dest
    ((x1.frame.data.length + 32 + 255) / 256) x1.frame.dp 0 none = Verdict.accept ∧
    ((({ A1b.tick T with flow := ({ A1b.flow with toTm := [] } : Machine.Flow) } : State)).allocCells 0
    ((x1.frame.data.length + 32 + 255) / 256) 1).1.isSome = true ∧
    (x1.frame.inject.isNone && decide (x1.frame.src < 128) &&
    (({ A1b.tick T with flow := ({ A1b.flow with toTm := [] } : Machine.Flow) } : State)).obj (20608 + x1.frame.src) 1 == 1
    && !(({ A1b.tick T with flow := ({ A1b.flow with toTm := [] } : Machine.Flow) } : State)).queueGated x1.dest && decide
    ((({ A1b.tick T with flow := ({ A1b.flow with toTm := [] } : Machine.Flow) } : State)).startBytes <
    x1.frame.data.length)) = false ∧
    A1c.faults.haltTm = false ∧
    A1c.flow.toTm = [x1] ∧
    (({ A1c.tick 3 with flow := ({ A1c.flow with toTm := [] } : Machine.Flow) } : State)).allocBusy 0 = false ∧
    (128 ≤ x1.frame.src ∨ (({ A1c.tick 3 with flow := ({ A1c.flow with toTm := [] } : Machine.Flow) } : State)).pfcOn
    x1.frame.src x1.frame.prio = false) ∧
    (({ A1c.tick 3 with flow := ({ A1c.flow with toTm := [] } : Machine.Flow) } : State)).elimStream x1.dest = none ∧
    recEnabled ((({ A1c.tick 3 with flow := ({ A1c.flow with toTm := [] } : Machine.Flow) } : State)).qrec x1.dest) = false ∧
    A1e.faults.haltTm = false ∧
    A1e.flow.toTm = [x1] ∧
    (({ A1e.tick 3 with flow := ({ A1e.flow with toTm := [] } : Machine.Flow) } : State)).allocBusy 0 = false ∧
    (128 ≤ x1.frame.src ∨ (({ A1e.tick 3 with flow := ({ A1e.flow with toTm := [] } : Machine.Flow) } : State)).pfcOn
    x1.frame.src x1.frame.prio = false) ∧
    (({ A1e.tick 3 with flow := ({ A1e.flow with toTm := [] } : Machine.Flow) } : State)).elimStream x1.dest = none ∧
    recEnabled ((({ A1e.tick 3 with flow := ({ A1e.flow with toTm := [] } : Machine.Flow) } : State)).qrec x1.dest) = true ∧
    (({ A1e.tick 3 with flow := ({ A1e.flow with toTm := [] } : Machine.Flow) } : State)).verdict 0 x1.dest
    ((x1.frame.data.length + 32 + 255) / 256) x1.frame.dp 0 none = Verdict.refuse := by
  refine ⟨?_, ?_, ?_, ?_, ?_, ?_, ?_, ?_, ?_, ?_, ?_, ?_, ?_, ?_, ?_, ?_⟩ <;> decide +kernel

/-- What the clauses of `CreditSweepsSamplesAndGates` suppose, met by concrete states. -/
theorem witness_CreditSweepsSamplesAndGates_1 :
    RR.faults.haltTm = false ∧
    ((RR.tick T).que e0.val).srcs = [] ∧
    G1.faults.haltTm = false ∧
    nextSource ((G1.tick T).que e0.val).srcs ((G1.tick T).que e0.val).lastSrc = some (3, 7) ∧
    (G1.tick T).grantNext = some e0.val ∧
    (G1.tick T).grantsNow < 4 ∧
    G2.faults.haltTm = false ∧
    0 < ((G2.tick T).que e0.val).out ∧
    ((G2.tick T).que e0.val).outAt + (G2.tick T).obj 20737 4 * Config.us ≤ (G2.tick T).clock.now ∧
    G3.faults.haltTm = false ∧
    0 < ((G3.tick T).que e0.val).out ∧
    (G3.tick T).clock.now < ((G3.tick T).que e0.val).outAt + (G3.tick T).obj 20737 4 * Config.us ∧
    G4.faults.haltTm = false ∧
    nextSource ((G4.tick T).que e0.val).srcs ((G4.tick T).que e0.val).lastSrc = some (3, 7) ∧
    ((G4.tick T).grantNext ≠ some e0.val ∨ 4 ≤ (G4.tick T).grantsNow) ∧
    F1.faults.haltTm = false ∧
    ((F1.tick T).que q0.val).on = true ∧
    ((F1.tick T).que q0.val).bal < (allCells ((F1.tick T).voq q0.val)).cast ∧
    ((F1.tick T).que q0.val).onAt + (F1.tick T).obj 20737 3 * Config.us ≤ (F1.tick T).clock.now ∧
    F2.faults.haltTm = false ∧
    ((F2.tick T).que q0.val).on = true ∧
    ((F2.tick T).que q0.val).bal < (allCells ((F2.tick T).voq q0.val)).cast ∧
    (F2.tick T).clock.now < ((F2.tick T).que q0.val).onAt + (F2.tick T).obj 20737 3 * Config.us := by
  refine ⟨?_, ?_, ?_, ?_, ?_, ?_, ?_, ?_, ?_, ?_, ?_, ?_, ?_, ?_, ?_, ?_, ?_, ?_, ?_, ?_, ?_, ?_, ?_⟩ <;> decide +kernel

/-- What the clauses of `CreditSweepsSamplesAndGates` suppose, met by concrete states. -/
theorem witness_CreditSweepsSamplesAndGates_2_a :
    SM2.faults.haltTm = false ∧
    (SM2.tick T).expiredHeads ((SM2.tick T).que q0.val).pkts = [] ∧
    SM2.Calm ∧
    (SM2.tick T).obj (21264 + 1) 1 ≠ 0 ∧
    timeToNs (SM2.tick T).time80 % (SM2.tick T).obj (21264 + 1) 2 = 0 ∧
    nget SM2.sched.sampAt 1 0 ≠ timeToNs (SM2.tick T).time80 + 1 ∧
    (SM2.tick T).obj (21264 + 1) 4 = 1 ∧
    ((SM2.tick T).obj (21264 + 2) 1 = 0 ∨ timeToNs (SM2.tick T).time80 % (SM2.tick T).obj (21264 + 2) 2 ≠ 0 ∨ nget
    SM2.sched.sampAt 2 0 = timeToNs (SM2.tick T).time80 + 1) ∧
    A4.faults.haltTm = false ∧
    (A4.tick Tz).expiredHeads ((A4.tick Tz).que q0.val).pkts ≠ [] ∧
    PH3.faults.haltTm = false ∧
    (PH3.tick T).portState 5 = 1 ∧
    (PH3.tick T).tmcCycle ≤ nget (PH3.tick T).sched.portHold 5 0 / Config.tmc := by
  refine ⟨?_, ?_, ?_, ?_, ?_, ?_, ?_, ?_, ?_, ?_, ?_, ?_, ?_⟩ <;> decide +kernel

/-- What the clauses of `CreditSweepsSamplesAndGates` suppose, met by concrete states. -/
theorem witness_CreditSweepsSamplesAndGates_2_b :
    (PH3.tick Tz).portState 5 = 1 ∧
    nget (PH3.tick Tz).sched.portHold 5 0 / Config.tmc < (PH3.tick Tz).tmcCycle ∧
    H1.faults.haltTm = false ∧
    (H1.tick Tz).expiredHeads ((H1.tick Tz).que e0.val).locals ≠ [] ∧
    GC1.faults.haltTm = false ∧
    GC1.Calm ∧
    GC1.gates.change 4 = some (gc 5) ∧
    (gc 5).x ≤ timeToNs (GC1.tick T).time80 ∧
    GC2.faults.haltTm = false ∧
    GC2.Calm ∧
    GC2.gates.change 4 = some (gc (2 ^ 90)) ∧
    timeToNs (GC2.tick T).time80 < (gc (2 ^ 90)).x := by
  refine ⟨?_, ?_, ?_, ?_, ?_, ?_, ?_, ?_, ?_, ?_, ?_, ?_⟩ <;> decide +kernel

/-- What the clauses of `SchedulerAndFabricServe` suppose, met by concrete states. -/
theorem witness_SchedulerAndFabricServe_a :
    RR.faults.haltTm = false ∧
    RR.faults.haltFe = false ∧
    RR.dev.st ≠ DevState.boot ∧
    RR.dev.st ≠ DevState.init ∧
    (RR.tick T).outletOpen 0 = true ∧
    nget RR.sched.portNext 0 0 ≤ (RR.tick T).clock.now ∧
    (RR.tick T).tmcOpen 0 = true ∧
    (((RR.tick T).gateChecks 0).zeroDeficits 0 (List.filter (((RR.tick T).gateChecks 0).eligible 0) (((RR.tick T).gateChecks
    0).leaves 0))).choose 0 4 (nodeKey 1 0) (List.filter (((RR.tick T).gateChecks 0).zeroDeficits 0 (List.filter (((RR.tick
    T).gateChecks 0).eligible 0) (((RR.tick T).gateChecks 0).leaves 0))).servable (List.filter (((RR.tick T).gateChecks
    0).eligible 0) (((RR.tick T).gateChecks 0).leaves 0))) = none ∧
    bt.faults.haltTm = false ∧
    (bt.faults.haltFe = true ∨ bt.dev.st = DevState.boot ∨ bt.dev.st = DevState.init ∨ (bt.tick T).outletOpen 0 = false ∨
    (bt.tick T).clock.now < nget bt.sched.portNext 0 0 ∨ (bt.tick T).tmcOpen 0 = false) ∧
    UB.faults.haltTm = false ∧
    UB.faults.haltFe = false ∧
    UB.dev.st ≠ DevState.boot ∧
    UB.dev.st ≠ DevState.init ∧
    (UB.tick T).outletOpen 0 = true ∧
    nget UB.sched.portNext 0 0 ≤ (UB.tick T).clock.now ∧
    (UB.tick T).tmcOpen 0 = true ∧
    (((((UB.tick T).gateChecks 0).zeroDeficits 0 (List.filter (((UB.tick T).gateChecks 0).eligible 0) (((UB.tick
    T).gateChecks 0).leaves 0))).choose 0 4 (nodeKey 1 0) (List.filter (((UB.tick T).gateChecks 0).zeroDeficits 0
    (List.filter (((UB.tick T).gateChecks 0).eligible 0) (((UB.tick T).gateChecks 0).leaves 0))).servable (List.filter
    (((UB.tick T).gateChecks 0).eligible 0) (((UB.tick T).gateChecks 0).leaves 0)))).map (fun x => x.1.pkt) = some lfB.pkt) ∧
    (((UB.tick T).gateChecks 0).zeroDeficits 0 (List.filter (((UB.tick T).gateChecks 0).eligible 0) (((UB.tick T).gateChecks
    0).leaves 0))).pktExpired lfB.pkt = false ∧
    lfB.pkt.bad = true ∧
    UC.faults.haltTm = false ∧
    UC.faults.haltFe = false := by
  refine ⟨?_, ?_, ?_, ?_, ?_, ?_, ?_, ?_, ?_, ?_, ?_, ?_, ?_, ?_, ?_, ?_, ?_, ?_, ?_, ?_, ?_, ?_⟩ <;> decide +kernel

/-- What the clauses of `SchedulerAndFabricServe` suppose, met by concrete states. -/
theorem witness_SchedulerAndFabricServe_b :
    UC.dev.st ≠ DevState.boot ∧
    UC.dev.st ≠ DevState.init ∧
    (UC.tick T).outletOpen 0 = true ∧
    nget UC.sched.portNext 0 0 ≤ (UC.tick T).clock.now ∧
    (UC.tick T).tmcOpen 0 = true ∧
    (((((UC.tick T).gateChecks 0).zeroDeficits 0 (List.filter (((UC.tick T).gateChecks 0).eligible 0) (((UC.tick
    T).gateChecks 0).leaves 0))).choose 0 4 (nodeKey 1 0) (List.filter (((UC.tick T).gateChecks 0).zeroDeficits 0
    (List.filter (((UC.tick T).gateChecks 0).eligible 0) (((UC.tick T).gateChecks 0).leaves 0))).servable (List.filter
    (((UC.tick T).gateChecks 0).eligible 0) (((UC.tick T).gateChecks 0).leaves 0)))).map (fun x => x.1.pkt) = some lf0.pkt) ∧
    (((UC.tick T).gateChecks 0).zeroDeficits 0 (List.filter (((UC.tick T).gateChecks 0).eligible 0) (((UC.tick T).gateChecks
    0).leaves 0))).pktExpired lf0.pkt = false ∧
    lf0.pkt.bad = false ∧
    ((((UC.tick T).gateChecks 0).zeroDeficits 0 (List.filter (((UC.tick T).gateChecks 0).eligible 0) (((UC.tick
    T).gateChecks 0).leaves 0))).outlet 0 / 256 ≠ 3) ∧
    ((((UC.tick T).gateChecks 0).zeroDeficits 0 (List.filter (((UC.tick T).gateChecks 0).eligible 0) (((UC.tick
    T).gateChecks 0).leaves 0))).coreOpen = false ∨ 32768 < (((UC.tick T).gateChecks 0).zeroDeficits 0 (List.filter
    (((UC.tick T).gateChecks 0).eligible 0) (((UC.tick T).gateChecks 0).leaves 0))).reserveHeld + cellsOf lf0.pkt.len) ∧
    (UC.tick Tz).outletOpen 0 = true ∧
    nget UC.sched.portNext 0 0 ≤ (UC.tick Tz).clock.now ∧
    (UC.tick Tz).tmcOpen 0 = true ∧
    (((((UC.tick Tz).gateChecks 0).zeroDeficits 0 (List.filter (((UC.tick Tz).gateChecks 0).eligible 0) (((UC.tick
    Tz).gateChecks 0).leaves 0))).choose 0 4 (nodeKey 1 0) (List.filter (((UC.tick Tz).gateChecks 0).zeroDeficits 0
    (List.filter (((UC.tick Tz).gateChecks 0).eligible 0) (((UC.tick Tz).gateChecks 0).leaves 0))).servable (List.filter
    (((UC.tick Tz).gateChecks 0).eligible 0) (((UC.tick Tz).gateChecks 0).leaves 0)))).map (fun x => x.1.pkt) = some
    lf0.pkt) ∧
    (((UC.tick Tz).gateChecks 0).zeroDeficits 0 (List.filter (((UC.tick Tz).gateChecks 0).eligible 0) (((UC.tick
    Tz).gateChecks 0).leaves 0))).pktExpired lf0.pkt = false ∧
    ((((UC.tick Tz).gateChecks 0).zeroDeficits 0 (List.filter (((UC.tick Tz).gateChecks 0).eligible 0) (((UC.tick
    Tz).gateChecks 0).leaves 0))).outlet 0 / 256 = 3 ∨ (((UC.tick Tz).gateChecks 0).zeroDeficits 0 (List.filter (((UC.tick
    Tz).gateChecks 0).eligible 0) (((UC.tick Tz).gateChecks 0).leaves 0))).coreOpen = true ∧ (((UC.tick Tz).gateChecks
    0).zeroDeficits 0 (List.filter (((UC.tick Tz).gateChecks 0).eligible 0) (((UC.tick Tz).gateChecks 0).leaves
    0))).reserveHeld + cellsOf lf0.pkt.len ≤ 32768) ∧
    U0.faults.haltTm = false ∧
    U0.faults.haltFe = false ∧
    U0.dev.st ≠ DevState.boot ∧
    U0.dev.st ≠ DevState.init ∧
    (U0.tick Tz).outletOpen 0 = true ∧
    nget U0.sched.portNext 0 0 ≤ (U0.tick Tz).clock.now := by
  refine ⟨?_, ?_, ?_, ?_, ?_, ?_, ?_, ?_, ?_, ?_, ?_, ?_, ?_, ?_, ?_, ?_, ?_, ?_, ?_, ?_, ?_, ?_⟩ <;> decide +kernel

/-- What the clauses of `SchedulerAndFabricServe` suppose, met by concrete states. -/
theorem witness_SchedulerAndFabricServe_c :
    (U0.tick Tz).tmcOpen 0 = true ∧
    (((((U0.tick Tz).gateChecks 0).zeroDeficits 0 (List.filter (((U0.tick Tz).gateChecks 0).eligible 0) (((U0.tick
    Tz).gateChecks 0).leaves 0))).choose 0 4 (nodeKey 1 0) (List.filter (((U0.tick Tz).gateChecks 0).zeroDeficits 0
    (List.filter (((U0.tick Tz).gateChecks 0).eligible 0) (((U0.tick Tz).gateChecks 0).leaves 0))).servable (List.filter
    (((U0.tick Tz).gateChecks 0).eligible 0) (((U0.tick Tz).gateChecks 0).leaves 0)))).map (fun x => x.1.pkt) = some
    lf1.pkt) ∧
    (((U0.tick Tz).gateChecks 0).zeroDeficits 0 (List.filter (((U0.tick Tz).gateChecks 0).eligible 0) (((U0.tick
    Tz).gateChecks 0).leaves 0))).pktExpired p1 = true ∧
    RR.dev.st.inService = true ∧
    (RR.tick T).pinSyncAll.cutUnits.txStep = none ∧
    bt.dev.st.inService = false ∧
    (V7.tick T).faults.haltTm = false ∧
    (V7.tick T).dev.st.inService = true ∧
    (((V7.tick T).tick Tz).pinSyncAll.cutUnits.txStep).isSome = true ∧
    V7z.txStep = none ∧
    (0 < ((V7.tick T).tick Tz).pinSyncAll.cutUnits.fabric.backlog + sumOf (fun q => sumOf (fun p => p.len / 32 + 3) (q.pkts
    ++ q.locals)) ((V7.tick T).tick Tz).pinSyncAll.cutUnits.sched.ques) ∧
    (V7.tick Tz).dealClass 8 = none ∧
    (V7.tick Tz).txPick 7 = some 0 ∧
    ((V7.tick Tz).txStep).isSome = true ∧
    (V7.tick Tz).voq 0 = [p1] ∧
    (V7.tick Tz).pktExpired p1 = true ∧
    (V8.tick T).dealClass 8 = none ∧
    (V8.tick T).txPick 7 = some 0 ∧
    ((V8.tick T).txStep).isSome = true ∧
    (V8.tick T).voq 0 = [(V8.que 0).locals.headD p1] ∧
    (V8.tick T).pktExpired ((V8.que 0).locals.headD p1) = false ∧
    ((V8.que 0).locals.headD p1).bad = true := by
  refine ⟨?_, ?_, ?_, ?_, ?_, ?_, ?_, ?_, ?_, ?_, ?_, ?_, ?_, ?_, ?_, ?_, ?_, ?_, ?_, ?_, ?_, ?_⟩ <;> decide +kernel

end C08

namespace C12

def T : Nat := W.T

def B (l : List Nat) : List Byte := l.map byteOf

def pr (st pst : PairSt) (f : Pair → Pair := id) : State := { ((W.run.setObj 0x6800 2 7).setObj 0x6800 3 5) with dev := { W.run.dev with st := if st = .standby ∨ st = .isolated then .standby else if st = .sync then .sync else .run }, pair := f { Pair.none_ with st := st, partnerSt := pst, lastTick := 1 } }

def ck (claim st flags unit seq : Nat) : List Byte := B [0x40] ++ zeros 7 ++ B [claim, st, 4, flags] ++ beBytes 2 unit ++ beBytes 2 seq ++ zeros 248

def it (kind q arg : Nat) : List Byte := B [0xC0] ++ zeros 7 ++ B [kind, 0] ++ beBytes 2 224 ++ beBytes 4 q ++ beBytes 8 arg ++ zeros 240

def a1 := pr .active .active

def a2 := pr .active .standby (fun p => { p with request := true, rank := 3, rankOne := 1, items := [(1, zeros 3)] })

def i1 := pr .isolated .unpaired

def i2 := pr .isolated .isolated

def b1 := pr .standby .active (fun p => { p with mirrored := [] })

def b2 := { pr .standby .active (fun p => { p with mirrored := [3] }) with tx := { W.run.tx with work := [⟨3, [], [], none, none, [], 0, 1, 5, []⟩] } }

def b3 := b1.setObj 0x6800 4 1

def y1 := pr .sync .active

def sv (f : Survey → Survey) : State := { W.run with survey := f W.run.survey }

def v1 := sv (fun s => { s with waitFrom := some 5, levels := [(0x2005, 2)] })

def v2 := sv (fun s => { s with waitFrom := some (1000 * Config.sec), levels := [(0x6005, 2)], avsFe := { s.avsFe with tries := 3 }  })

def v3 := (sv (fun s => { s with levels := [(0x2005, 2)], avsFe := { s.avsFe with raised := some (1000*Config.sec) }, avsTm := {s.avsTm with tries := 1}, day := 2 }))

def v4 := { v1 with record := { v1.record with mem := { v1.record.mem with margin := { v1.record.mem.margin with railFe := 750, railTm := 750 }, survey := { v1.record.mem.survey with present := true }, spares := { v1.record.mem.spares with spent := [(2*65536+5, 16),(10*65536, 64)], banksRelaid := [1,2], wires := [7] } } } }

def v5 := { v1 with record := { v1.record with mem := { v1.record.mem with margin := { v1.record.mem.margin with railFe := 750, railTm := 750 }, survey := { v1.record.mem.survey with present := true }, spares := { v1.record.mem.spares with spent := [(2*65536+5, 16)], banksRelaid := [1] } } } }

def v6 := { v3 with record := v5.record }

def st : State := let s := (pr .active .active).setObjI 0x6900 2 3 (2^127+2^125+256*2^77+2*2^67); s.setStream { s.stream 3 with takeAny := false, last := 5 }

def bsy : State := { W.run with dict := { W.run.dict with slots := W.run.dict.slots.set 8 ⟨9, 1, 0x7000, 0xC, selfId, 0, 294, 0, 0, zeros 12, 0, false, dailyArg⟩ } }

def occ : State := { W.run with dict := { W.run.dict with slots := [8,9,10,11].foldl (fun l i => l.set i ⟨i, 1, 0x6800, 0xB, selfId, 0, 294, 0, 0, zeros 12, 0, false, resyncArg⟩) W.run.dict.slots } }

def v7 := sv (fun s => { s with levels := [(0x6005, 2)] })

def v8 : State := { v5 with survey := { v5.survey with avsFe := { v5.survey.avsFe with tries := 1 } } }

def i4 : State := { i1 with pair := { i1.pair with pSeq := some 1 } }

def pnd : State := { W.run with survey := { W.run.survey with pend := true } }

def rep1 : State := { W.run with survey := { W.run.survey with repairs := [(2,5)] } }

def y2 : State := let s := y1; { s with dict := { s.dict with slots := s.dict.slots.set 8 ⟨9, 1, 0x6800, 0xB, selfId, 0, 157, 0, 0, zeros 12, 0, false, resyncArg⟩ } }

def fl : State := { b1 with tx := { b1.tx with work := (List.range 64).map (fun i => ⟨100+i, [], [], none, none, [], 0, 1, 5, []⟩) } }

def mr (op tag : Nat) : List Byte := B [0xC0] ++ zeros 7 ++ B [1, 0] ++ beBytes 2 192 ++ beBytes 4 1 ++ beBytes 8 (7*2^32 + tag) ++ B [op] ++ zeros 191

def jr (st n : Nat) : JRec := ⟨77, st, 0, 0, 0, 0x2000, n, 0, 0, 0, 0, 0⟩

def tref : List Byte := B [0,0x30] ++ beBytes 4 5 ++ B [0,0]

def pay : List Byte := beBytes 8 (2^63 + 9)

def bw : State := { b1 with tx := { b1.tx with commit := 4, journal := [jr 1 3], work := [⟨77, [], [], none, none, [], 1000*Config.sec, 0, 0, []⟩], held := [(4, 1048576)] }, flow := { b1.flow with recircI := [{ lineFrame 4 0 (zeros 60) 5 none with tag := 3 }] } }

def mw : List Byte := B [0xC0] ++ zeros 7 ++ B [1, 0] ++ beBytes 2 192 ++ beBytes 4 1 ++ beBytes 8 (7*2^32 + 77) ++ txnRecord 2 false 77 tref pay

def ac : Nat := match ((b1.tick T).txMirror 7 (B [9] ++ zeros 191)).2 with | .abort c => c | _ => 0

def mnt : State := { W.run with dev := { W.run.dev with st := .maint } }

/-- What the clauses of `ReadingsAndPasses` suppose, met by concrete states. -/
theorem witness_ReadingsAndPasses_a :
    (pnd.tick T).passDue = true ∧
    pnd.survey.pend = true ∧
    pnd.survey.waitFrom = none ∧
    ((W.run.tick T).readingOk T = false ∨ T / 4096 = 4 ∨ T / 4096 = 7) ∧
    (W.run.tick T).readingOk 8197 = true ∧
    (8197 / 4096 = 1 ∨ 8197 / 4096 = 2) ∧
    W.run.record.mem.survey.present = false ∧
    (W.run.tick T).readingOk 24581 = true ∧
    (24581 / 4096 = 3 ∨ 24581 / 4096 = 6) ∧
    (W.run.tick T).passDue = true ∧
    W.run.survey.pend = false ∧
    (W.run.tick T).passReached.survey.pend = true ∧
    (∀ (a : Tick), (W.run.tick T).passReached.survey.waitFrom = some a → (W.run.tick T).clock.now < a + 3600 * Config.sec) ∧
    (W.run.tick T).passRuns = false ∧
    (W.run.dev.st = DevState.run ∨ W.run.dev.st = DevState.degraded ∨ W.run.dev.st = DevState.standby) ∧
    (W.run.tick T).freeSlot true = some 8 ∧
    W.run.dev.st ≠ DevState.boot ∧
    W.run.dev.st ≠ DevState.init ∧
    W.run.dev.st ≠ DevState.halt ∧
    (bsy.tick T).passReached.survey.pend = true ∧
    ((¬∀ (a : Tick), (bsy.tick T).passReached.survey.waitFrom = some a → (bsy.tick T).clock.now < a + 3600 * Config.sec) ∨
    (bsy.tick T).passRuns = true) ∧
    (bsy.record.mem.survey.present = true ∨ (bsy.tick T).passRuns = true ∨ bsy.dev.st = DevState.boot ∨ bsy.dev.st =
    DevState.init ∨ bsy.dev.st = DevState.halt) := by
  refine ⟨?_, ?_, ?_, ?_, ?_, ?_, ?_, ?_, ?_, ?_, ?_, ?_, ?_, ?_, ?_, ?_, ?_, ?_, ?_, ?_, ?_, ?_⟩ <;> decide +kernel

/-- What the clauses of `ReadingsAndPasses` suppose, met by concrete states. -/
theorem witness_ReadingsAndPasses_b :
    (occ.tick T).passReached.survey.pend = true ∧
    (∀ (a : Tick), (occ.tick T).passReached.survey.waitFrom = some a → (occ.tick T).clock.now < a + 3600 * Config.sec) ∧
    (occ.tick T).passRuns = false ∧
    (occ.dev.st = DevState.run ∨ occ.dev.st = DevState.degraded ∨ occ.dev.st = DevState.standby) ∧
    (occ.tick T).freeSlot true = none ∧
    v1.survey.waitFrom = some 5 ∧
    (v1.tick T).clock.now < 5 + 3600 * Config.sec ∧
    5 + 3600 * Config.sec ≤ (v1.tick (T + 3600 * Config.sec)).clock.now ∧
    (v4.tick T).readingOk 8197 = true ∧
    8197 / 4096 = 2 ∧
    v4.record.mem.survey.present = true ∧
    (mnt.tick 4100).readingOk 20481 = true ∧
    20481 / 4096 = 5 ∧
    (mnt.tick 4100).passReached.survey.pend = true ∧
    (∀ (a : Tick), (mnt.tick 4100).passReached.survey.waitFrom = some a → (mnt.tick 4100).clock.now < a + 3600 * Config.sec) ∧
    (mnt.tick 4100).passRuns = false ∧
    (¬(mnt.dev.st = DevState.run ∨ mnt.dev.st = DevState.degraded ∨ mnt.dev.st = DevState.standby)) ∧
    (v3.tick 4100).passDue = false ∧
    (v3.tick 4100).passReached.survey.pend = false ∧
    (v4.tick 4100).readingOk 4100 = true ∧
    4100 / 4096 = 1 := by
  refine ⟨?_, ?_, ?_, ?_, ?_, ?_, ?_, ?_, ?_, ?_, ?_, ?_, ?_, ?_, ?_, ?_, ?_, ?_, ?_, ?_, ?_⟩ <;> decide +kernel

/-- What the clauses of `RemediesAndRepairs` suppose, met by concrete states. -/
theorem witness_RemediesAndRepairs_1_a :
    rep1.dev.st ≠ DevState.boot ∧
    rep1.dev.st ≠ DevState.init ∧
    (rep1.avs (dieCode Die.fe)).tries = 0 ∧
    rep1.survey.retires = [] ∧
    (rep1.tick T).nextRepair (dieCode Die.fe) = some (2, 5) ∧
    ((rep1.avs (dieCode Die.fe)).tries = 0 ∨ (rep1.tick T).clock.now < (rep1.avs (dieCode Die.fe)).at_ + Config.ms) ∧
    (rep1.avs (dieCode Die.tm)).tries = 0 ∧
    (rep1.tick T).nextRepair (dieCode Die.tm) = none ∧
    (rep1.tick T).waiters (dieCode Die.tm) = [] ∧
    v7.dev.st ≠ DevState.boot ∧
    v7.dev.st ≠ DevState.init ∧
    (v7.avs (dieCode Die.fe)).tries = 0 ∧
    v7.survey.retires = [] ∧
    (v7.tick T).nextRepair (dieCode Die.fe) = none ∧
    (v7.tick T).waiters (dieCode Die.fe) = [24581] ∧
    24581 / 4096 = 6 ∧
    nget (v7.tick T).record.mem.margin.laneSteps (24581 % 4096) 0 < 7 ∧
    (v8.dev.st = DevState.boot ∨ v8.dev.st = DevState.init ∨ (v8.avs (dieCode Die.fe)).tries ≠ 0) ∧
    (v8.avs (dieCode Die.fe)).tries ≠ 0 ∧
    (v8.avs (dieCode Die.fe)).at_ + Config.ms ≤ (v8.tick T).clock.now ∧
    avsOk ((v8.tick T).railPlan (dieCode Die.fe)) none = false ∧
    (v8.avs (dieCode Die.fe)).tries < 3 ∧
    avsOk ((v8.tick T).railPlan (dieCode Die.fe)) (some 750) = true ∧
    (v2.avs (dieCode Die.fe)).tries ≠ 0 := by
  refine ⟨?_, ?_, ?_, ?_, ?_, ?_, ?_, ?_, ?_, ?_, ?_, ?_, ?_, ?_, ?_, ?_, ?_, ?_, ?_, ?_, ?_, ?_, ?_, ?_⟩ <;> decide +kernel

/-- What the clauses of `RemediesAndRepairs` suppose, met by concrete states. -/
theorem witness_RemediesAndRepairs_1_b :
    (v2.avs (dieCode Die.fe)).at_ + Config.ms ≤ (v2.tick T).clock.now ∧
    avsOk ((v2.tick T).railPlan (dieCode Die.fe)) none = false ∧
    3 ≤ (v2.avs (dieCode Die.fe)).tries ∧
    v4.dev.st ≠ DevState.boot ∧
    v4.dev.st ≠ DevState.init ∧
    (v4.avs (dieCode Die.fe)).tries = 0 ∧
    v4.survey.retires = [] ∧
    (v4.tick T).nextRepair (dieCode Die.fe) = none ∧
    (v4.tick T).waiters (dieCode Die.fe) = [8197] ∧
    8197 / 4096 = 2 ∧
    benchDie 8197 = dieCode Die.fe ∧
    (v4.tick T).railPlan (dieCode Die.fe) + 5 ≤ (v4.tick T).railCeiling (dieCode Die.fe) ∧
    (v4.avs (dieCode Die.fe)).stuck = false ∧
    (∀ (r : Tick), (v4.avs (dieCode Die.fe)).raised = some r → r + 100 * Config.ms ≤ (v4.tick T).clock.now) ∧
    v6.dev.st ≠ DevState.boot ∧
    v6.dev.st ≠ DevState.init ∧
    (v6.avs (dieCode Die.fe)).tries = 0 ∧
    v6.survey.retires = [] ∧
    (v6.tick T).nextRepair (dieCode Die.fe) = none ∧
    (v6.tick T).waiters (dieCode Die.fe) = [8197] ∧
    (v6.tick T).railPlan (dieCode Die.fe) + 5 ≤ (v6.tick T).railCeiling (dieCode Die.fe) ∧
    (v6.avs (dieCode Die.fe)).stuck = false ∧
    (v6.avs (dieCode Die.fe)).raised = some (1000 * Config.sec) ∧
    (v6.tick T).clock.now < 1000 * Config.sec + 100 * Config.ms := by
  refine ⟨?_, ?_, ?_, ?_, ?_, ?_, ?_, ?_, ?_, ?_, ?_, ?_, ?_, ?_, ?_, ?_, ?_, ?_, ?_, ?_, ?_, ?_, ?_, ?_⟩ <;> decide +kernel

/-- What the clauses of `ClaimCellsAreSentAndMovePairs` suppose, met by concrete states. -/
theorem witness_ClaimCellsAreSentAndMovePairs_a :
    (i1.tick T).claimsRun = true ∧
    (i1.tick T).coreCycle % 256 = 0 ∧
    (i1.tick T).coreCycle / 256 ≠ i1.pair.lastTick ∧
    (ck 20 1 0 7 1).length = 264 ∧
    i1.pair.st ≠ PairSt.unpaired ∧
    cellKind (ck 20 1 0 7 1) = 1 ∧
    beAt (List.drop 8 (ck 20 1 0 7 1)) 4 2 % 512 = (i1.tick T).partner ∧
    claimBad (List.drop 8 (ck 20 1 0 7 1)) = true ∧
    (ck 20 4 0 7 1).length = 264 ∧
    cellKind (ck 20 4 0 7 1) = 1 ∧
    beAt (List.drop 8 (ck 20 4 0 7 1)) 4 2 % 512 = (i1.tick T).partner ∧
    claimBad (List.drop 8 (ck 20 4 0 7 1)) = false ∧
    (0 < match i1.pair.pSeq with | some q => (beAt (List.drop 8 (ck 20 4 0 7 1)) 6 2 + 65536 - q) % 65536 | none => 1) ∧
    ((match i1.pair.pSeq with | some q => (beAt (List.drop 8 (ck 20 4 0 7 1)) 6 2 + 65536 - q) % 65536 | none => 1) < 32768) ∧
    i1.pair.st = PairSt.isolated ∧
    ((i1.tick T).noteClaimCell (List.drop 8 (ck 20 4 0 7 1))).pair.pClaim % 16 < (i1.tick T).obj 26624 3 ∧
    ((i1.tick T).noteClaimCell (List.drop 8 (ck 20 4 0 7 1))).dev.st.inService = true ∧
    ((i1.tick T).noteClaimCell (List.drop 8 (ck 20 4 0 7 1))).pair.partnerSt = PairSt.isolated ∧
    i1.pair.incomplete = false ∧
    (ck 36 1 0 7 1).length = 264 ∧
    cellKind (ck 36 1 0 7 1) = 1 := by
  refine ⟨?_, ?_, ?_, ?_, ?_, ?_, ?_, ?_, ?_, ?_, ?_, ?_, ?_, ?_, ?_, ?_, ?_, ?_, ?_, ?_, ?_⟩ <;> decide +kernel

/-- What the clauses of `ClaimCellsAreSentAndMovePairs` suppose, met by concrete states. -/
theorem witness_ClaimCellsAreSentAndMovePairs_b :
    beAt (List.drop 8 (ck 36 1 0 7 1)) 4 2 % 512 = (i1.tick T).partner ∧
    claimBad (List.drop 8 (ck 36 1 0 7 1)) = false ∧
    (0 < match i1.pair.pSeq with | some q => (beAt (List.drop 8 (ck 36 1 0 7 1)) 6 2 + 65536 - q) % 65536 | none => 1) ∧
    ((match i1.pair.pSeq with | some q => (beAt (List.drop 8 (ck 36 1 0 7 1)) 6 2 + 65536 - q) % 65536 | none => 1) < 32768) ∧
    ((i1.tick T).noteClaimCell (List.drop 8 (ck 36 1 0 7 1))).pair.pClaim % 16 ≠ (i1.tick T).obj 26624 3 ∧
    ((i1.tick T).noteClaimCell (List.drop 8 (ck 36 1 0 7 1))).dev.st.inService = true ∧
    ((i1.tick T).noteClaimCell (List.drop 8 (ck 36 1 0 7 1))).pair.partnerSt = PairSt.active ∧
    i4.pair.st ≠ PairSt.unpaired ∧
    beAt (List.drop 8 (ck 20 4 0 7 1)) 4 2 % 512 = (i4.tick T).partner ∧
    ((match i4.pair.pSeq with | some q => (beAt (List.drop 8 (ck 20 4 0 7 1)) 6 2 + 65536 - q) % 65536 | none => 1) = 0 ∨ 32768 ≤ match i4.pair.pSeq with | some q => (beAt (List.drop 8 (ck 20 4 0 7 1)) 6 2 + 65536 - q) % 65536 | none => 1) ∧
    ((W.run.tick T).claimsRun = false ∨ (W.run.tick T).coreCycle % 256 ≠ 0 ∨ (W.run.tick T).coreCycle / 256 =
    W.run.pair.lastTick) ∧
    (ck 37 1 0 7 1).length = 264 ∧
    (W.run.pair.st = PairSt.unpaired ∨ cellKind (ck 37 1 0 7 1) ≠ 1) ∧
    a1.pair.st ≠ PairSt.unpaired ∧
    cellKind (ck 37 1 0 7 1) = 1 ∧
    beAt (List.drop 8 (ck 37 1 0 7 1)) 4 2 % 512 = (a1.tick T).partner ∧
    claimBad (List.drop 8 (ck 37 1 0 7 1)) = false ∧
    (0 < match a1.pair.pSeq with | some q => (beAt (List.drop 8 (ck 37 1 0 7 1)) 6 2 + 65536 - q) % 65536 | none => 1) ∧
    ((match a1.pair.pSeq with | some q => (beAt (List.drop 8 (ck 37 1 0 7 1)) 6 2 + 65536 - q) % 65536 | none => 1) < 32768) ∧
    a1.pair.st = PairSt.active ∧
    ((a1.tick T).noteClaimCell (List.drop 8 (ck 37 1 0 7 1))).pair.partnerSt = PairSt.active := by
  refine ⟨?_, ?_, ?_, ?_, ?_, ?_, ?_, ?_, ?_, ?_, ?_, ?_, ?_, ?_, ?_, ?_, ?_, ?_, ?_, ?_, ?_⟩ <;> decide +kernel

/-- What the clauses of `ClaimCellsAreSentAndMovePairs` suppose, met by concrete states. -/
theorem witness_ClaimCellsAreSentAndMovePairs_c :
    ((a1.tick T).noteClaimCell (List.drop 8 (ck 37 1 0 7 1))).claimNo < ((a1.tick T).noteClaimCell (List.drop 8 (ck 37 1 0 7
    1))).pair.pClaim ∧
    (ck 20 2 4 8 1).length = 264 ∧
    cellKind (ck 20 2 4 8 1) = 1 ∧
    beAt (List.drop 8 (ck 20 2 4 8 1)) 4 2 % 512 ≠ (a1.tick T).partner ∧
    (ck 20 2 4 7 1).length = 264 ∧
    a2.pair.st ≠ PairSt.unpaired ∧
    cellKind (ck 20 2 4 7 1) = 1 ∧
    beAt (List.drop 8 (ck 20 2 4 7 1)) 4 2 % 512 = (a2.tick T).partner ∧
    claimBad (List.drop 8 (ck 20 2 4 7 1)) = false ∧
    (0 < match a2.pair.pSeq with | some q => (beAt (List.drop 8 (ck 20 2 4 7 1)) 6 2 + 65536 - q) % 65536 | none => 1) ∧
    ((match a2.pair.pSeq with | some q => (beAt (List.drop 8 (ck 20 2 4 7 1)) 6 2 + 65536 - q) % 65536 | none => 1) < 32768) ∧
    a2.pair.st = PairSt.active ∧
    ((a2.tick T).noteClaimCell (List.drop 8 (ck 20 2 4 7 1))).pair.partnerSt ≠ PairSt.active ∧
    a2.pair.request = true ∧
    bit ((a2.tick T).noteClaimCell (List.drop 8 (ck 20 2 4 7 1))).pair.pFlags 2 = true ∧
    beAt (List.drop 8 (ck 37 1 0 7 1)) 4 2 % 512 = (i1.tick T).partner ∧
    (0 < match i1.pair.pSeq with | some q => (beAt (List.drop 8 (ck 37 1 0 7 1)) 6 2 + 65536 - q) % 65536 | none => 1) ∧
    ((match i1.pair.pSeq with | some q => (beAt (List.drop 8 (ck 37 1 0 7 1)) 6 2 + 65536 - q) % 65536 | none => 1) < 32768) ∧
    ((i1.tick T).noteClaimCell (List.drop 8 (ck 37 1 0 7 1))).pair.pClaim % 16 = (i1.tick T).obj 26624 3 ∧
    b1.pair.st ≠ PairSt.unpaired ∧
    beAt (List.drop 8 (ck 37 1 0 7 1)) 4 2 % 512 = (b1.tick T).partner := by
  refine ⟨?_, ?_, ?_, ?_, ?_, ?_, ?_, ?_, ?_, ?_, ?_, ?_, ?_, ?_, ?_, ?_, ?_, ?_, ?_, ?_, ?_⟩ <;> decide +kernel

/-- What the clauses of `ClaimCellsAreSentAndMovePairs` suppose, met by concrete states. -/
theorem witness_ClaimCellsAreSentAndMovePairs_d :
    (0 < match b1.pair.pSeq with | some q => (beAt (List.drop 8 (ck 37 1 0 7 1)) 6 2 + 65536 - q) % 65536 | none => 1) ∧
    ((match b1.pair.pSeq with | some q => (beAt (List.drop 8 (ck 37 1 0 7 1)) 6 2 + 65536 - q) % 65536 | none => 1) < 32768) ∧
    b1.pair.st = PairSt.standby ∧
    ((b1.tick T).noteClaimCell (List.drop 8 (ck 37 1 0 7 1))).pair.partnerSt = PairSt.active ∧
    (ck 19 4 0 7 1).length = 264 ∧
    cellKind (ck 19 4 0 7 1) = 1 ∧
    beAt (List.drop 8 (ck 19 4 0 7 1)) 4 2 % 512 = (b1.tick T).partner ∧
    claimBad (List.drop 8 (ck 19 4 0 7 1)) = false ∧
    (0 < match b1.pair.pSeq with | some q => (beAt (List.drop 8 (ck 19 4 0 7 1)) 6 2 + 65536 - q) % 65536 | none => 1) ∧
    ((match b1.pair.pSeq with | some q => (beAt (List.drop 8 (ck 19 4 0 7 1)) 6 2 + 65536 - q) % 65536 | none => 1) < 32768) ∧
    ((b1.tick T).noteClaimCell (List.drop 8 (ck 19 4 0 7 1))).pair.partnerSt ≠ PairSt.active ∧
    ((b1.tick T).noteClaimCell (List.drop 8 (ck 19 4 0 7 1))).pair.released = false ∧
    y1.pair.st ≠ PairSt.unpaired ∧
    beAt (List.drop 8 (ck 19 4 0 7 1)) 4 2 % 512 = (y1.tick T).partner ∧
    (0 < match y1.pair.pSeq with | some q => (beAt (List.drop 8 (ck 19 4 0 7 1)) 6 2 + 65536 - q) % 65536 | none => 1) ∧
    ((match y1.pair.pSeq with | some q => (beAt (List.drop 8 (ck 19 4 0 7 1)) 6 2 + 65536 - q) % 65536 | none => 1) < 32768) ∧
    y1.pair.st = PairSt.sync ∧
    ((y1.tick T).noteClaimCell (List.drop 8 (ck 19 4 0 7 1))).pair.partnerSt ≠ PairSt.active := by
  refine ⟨?_, ?_, ?_, ?_, ?_, ?_, ?_, ?_, ?_, ?_, ?_, ?_, ?_, ?_, ?_, ?_, ?_, ?_⟩ <;> decide +kernel

/-- What the clauses of `PairTimersAndTransferItems` suppose, met by concrete states. -/
theorem witness_PairTimersAndTransferItems_1_a :
    (W.run.pair.st = PairSt.unpaired ∨ W.run.pair.partnerSt = PairSt.unpaired ∨ (W.run.tick T).clock.now < W.run.pair.pAt +
    1184 * Config.core) ∧
    (W.run.pair.st ≠ PairSt.isolated ∨ W.run.pair.partnerSt ≠ PairSt.unpaired ∨ (W.run.tick T).obj 26624 4 ≠ 0 ∨
    W.run.pair.incomplete = true ∨ (W.run.tick T).clock.now < W.run.pair.lostAt + (W.run.tick T).obj 26624 5 * Config.ms) ∧
    (W.run.pair.request = false ∨ (W.run.tick T).clock.now < W.run.pair.requestAt + Config.sec) ∧
    (W.run.pair.st ≠ PairSt.active ∨ W.run.pair.rank ≤ 2 ∨ W.run.pair.partnerSt = PairSt.unpaired ∨ W.run.pair.rankOne = 0 ∨
    (W.run.tick T).clock.now < W.run.pair.rankOne - 1 + 6 * Config.ms) ∧
    (W.run.pair.items = [] ∨ (W.run.tick T).clock.now < W.run.pair.ackAt + 1024 * Config.core) ∧
    (W.run.pair.st ≠ PairSt.sync ∨ (W.run.tick T).resyncSlot.isSome = true) ∧
    W.run.faults.haltTm = false ∧
    (bit ((W.run.tick T).objI 26880 2 3) 127 = false ∨ bit ((W.run.tick T).objI 26880 2 3) 125 = false ∨ (W.run.stream
    3).takeAny = true ∨ (W.run.tick T).clock.now < (W.run.stream 3).last + bits ((W.run.tick T).objI 26880 2 3) 76 67 *
    Config.ms) ∧
    a1.pair.st ≠ PairSt.unpaired ∧
    a1.pair.partnerSt ≠ PairSt.unpaired ∧
    a1.pair.pAt + 1184 * Config.core ≤ (a1.tick T).clock.now ∧
    a1.pair.st = PairSt.active ∧
    a2.pair.request = true ∧
    a2.pair.requestAt + Config.sec ≤ (a2.tick T).clock.now ∧
    a2.pair.st = PairSt.active ∧
    2 < a2.pair.rank ∧
    a2.pair.partnerSt ≠ PairSt.unpaired ∧
    a2.pair.rankOne ≠ 0 := by
  refine ⟨?_, ?_, ?_, ?_, ?_, ?_, ?_, ?_, ?_, ?_, ?_, ?_, ?_, ?_, ?_, ?_, ?_, ?_⟩ <;> decide +kernel

/-- What the clauses of `PairTimersAndTransferItems` suppose, met by concrete states. -/
theorem witness_PairTimersAndTransferItems_1_b :
    a2.pair.rankOne - 1 + 6 * Config.ms ≤ (a2.tick T).clock.now ∧
    a2.pair.items ≠ [] ∧
    a2.pair.ackAt + 1024 * Config.core ≤ (a2.tick T).clock.now ∧
    i1.pair.st = PairSt.isolated ∧
    i1.pair.partnerSt = PairSt.unpaired ∧
    (i1.tick T).dev.st.inService = true ∧
    (i1.tick T).obj 26624 4 = 0 ∧
    i1.pair.incomplete = false ∧
    i1.pair.lostAt + (i1.tick T).obj 26624 5 * Config.ms ≤ (i1.tick T).clock.now ∧
    i2.pair.st ≠ PairSt.unpaired ∧
    i2.pair.partnerSt ≠ PairSt.unpaired ∧
    i2.pair.pAt + 1184 * Config.core ≤ (i2.tick T).clock.now ∧
    i2.pair.st = PairSt.isolated ∧
    b1.pair.st ≠ PairSt.unpaired ∧
    b1.pair.partnerSt ≠ PairSt.unpaired ∧
    b1.pair.pAt + 1184 * Config.core ≤ (b1.tick T).clock.now ∧
    b1.pair.st = PairSt.standby ∧
    (b1.tick T).obj 26624 4 = 0 := by
  refine ⟨?_, ?_, ?_, ?_, ?_, ?_, ?_, ?_, ?_, ?_, ?_, ?_, ?_, ?_, ?_, ?_, ?_, ?_⟩ <;> decide +kernel

/-- What the clauses of `PairTimersAndTransferItems` suppose, met by concrete states. -/
theorem witness_PairTimersAndTransferItems_1_c :
    b3.pair.st ≠ PairSt.unpaired ∧
    b3.pair.partnerSt ≠ PairSt.unpaired ∧
    b3.pair.pAt + 1184 * Config.core ≤ (b3.tick T).clock.now ∧
    b3.pair.st = PairSt.standby ∧
    (b3.tick T).obj 26624 4 ≠ 0 ∧
    y1.pair.st ≠ PairSt.unpaired ∧
    y1.pair.partnerSt ≠ PairSt.unpaired ∧
    y1.pair.pAt + 1184 * Config.core ≤ (y1.tick T).clock.now ∧
    y1.pair.st = PairSt.sync ∧
    (y1.tick T).resyncSlot = none ∧
    (y1.tick T).freeSlot true = some 8 ∧
    st.faults.haltTm = false ∧
    bit ((st.tick T).objI 26880 2 3) 127 = true ∧
    bit ((st.tick T).objI 26880 2 3) 125 = true ∧
    (st.stream 3).takeAny = false ∧
    (st.stream 3).last + bits ((st.tick T).objI 26880 2 3) 76 67 * Config.ms ≤ (st.tick T).clock.now := by
  refine ⟨?_, ?_, ?_, ?_, ?_, ?_, ?_, ?_, ?_, ?_, ?_, ?_, ?_, ?_, ?_, ?_⟩ <;> decide +kernel

/-- What the clauses of `PairTimersAndTransferItems` suppose, met by concrete states. -/
theorem witness_PairTimersAndTransferItems_2_a :
    mw ≠ [] ∧
    bw.pair.st = PairSt.standby ∧
    beAt (List.drop 8 mw) 4 4 = (bw.pair.got + 1) % 2 ^ 32 ∧
    beAt (List.drop 8 mw) 0 1 = 1 ∧
    (((if beAt (bytesAt (List.take (min 240 (beAt (List.drop 8 mw) 2 2)) (List.drop 16 (List.drop 8 mw))) 0 192) 0 1 = 1
    then (bw.tick 8).setPair (({ bw.pair with mirrored := bw.pair.mirrored ++ [beAt (List.drop 8 mw) 8 8 % 2 ^ 32] } :
    Pair)) else bw.tick 8).txMirror (beAt (List.drop 8 mw) 8 8 / 2 ^ 32 % 65536) (bytesAt (List.take (min 240 (beAt
    (List.drop 8 mw) 2 2)) (List.drop 16 (List.drop 8 mw))) 0 192)).2 = TxAns.wait) ∧
    mr 1 9 ≠ [] ∧
    beAt (List.drop 8 (mr 1 9)) 4 4 = (bw.pair.got + 1) % 2 ^ 32 ∧
    beAt (List.drop 8 (mr 1 9)) 0 1 = 1 ∧
    (((if beAt (bytesAt (List.take (min 240 (beAt (List.drop 8 (mr 1 9)) 2 2)) (List.drop 16 (List.drop 8 (mr 1 9)))) 0 192)
    0 1 = 1 then (bw.tick 8).setPair
    (({ bw.pair with mirrored := bw.pair.mirrored ++ [beAt (List.drop 8 (mr 1 9)) 8 8 % 2 ^ 32] } : Pair)) else bw.tick
    8).txMirror (beAt (List.drop 8 (mr 1 9)) 8 8 / 2 ^ 32 % 65536) (bytesAt (List.take (min 240 (beAt (List.drop 8 (mr 1 9))
    2 2)) (List.drop 16 (List.drop 8 (mr 1 9)))) 0 192)).2 = TxAns.done) ∧
    mr 9 4 ≠ [] ∧
    beAt (List.drop 8 (mr 9 4)) 4 4 = (bw.pair.got + 1) % 2 ^ 32 ∧
    beAt (List.drop 8 (mr 9 4)) 0 1 = 1 ∧
    (((if beAt (bytesAt (List.take (min 240 (beAt (List.drop 8 (mr 9 4)) 2 2)) (List.drop 16 (List.drop 8 (mr 9 4)))) 0 192)
    0 1 = 1 then (bw.tick 8).setPair
    (({ bw.pair with mirrored := bw.pair.mirrored ++ [beAt (List.drop 8 (mr 9 4)) 8 8 % 2 ^ 32] } : Pair)) else bw.tick
    8).txMirror (beAt (List.drop 8 (mr 9 4)) 8 8 / 2 ^ 32 % 65536) (bytesAt (List.take (min 240 (beAt (List.drop 8 (mr 9 4))
    2 2)) (List.drop 16 (List.drop 8 (mr 9 4)))) 0 192)).2 = TxAns.abort ac) ∧
    it 4 1 0 ≠ [] ∧
    beAt (List.drop 8 (it 4 1 0)) 4 4 = (bw.pair.got + 1) % 2 ^ 32 ∧
    (beAt (List.drop 8 (it 4 1 0)) 0 1 = 0 ∨ 3 ≤ beAt (List.drop 8 (it 4 1 0)) 0 1) ∧
    it 2 1 1 ≠ [] ∧
    beAt (List.drop 8 (it 2 1 1)) 4 4 = (bw.pair.got + 1) % 2 ^ 32 ∧
    beAt (List.drop 8 (it 2 1 1)) 0 1 = 2 ∧
    (bw.tick 8).markerWaits = false ∧
    bw.pair.mirrored = [] := by
  refine ⟨?_, ?_, ?_, ?_, ?_, ?_, ?_, ?_, ?_, ?_, ?_, ?_, ?_, ?_, ?_, ?_, ?_, ?_, ?_, ?_, ?_⟩ <;> decide +kernel

/-- What the clauses of `PairTimersAndTransferItems` suppose, met by concrete states. -/
theorem witness_PairTimersAndTransferItems_2_b :
    it 5 2 3 ≠ [] ∧
    (bw.pair.st = PairSt.standby ∨ bw.pair.st = PairSt.sync) ∧
    beAt (List.drop 8 (it 5 2 3)) 4 4 ≠ (bw.pair.got + 1) % 2 ^ 32 ∧
    y2.pair.st = PairSt.sync ∧
    beAt (List.drop 8 (it 4 1 0)) 4 4 = (y2.pair.got + 1) % 2 ^ 32 ∧
    (y2.tick 8).syncBroken = false ∧
    beAt (List.drop 8 (it 4 1 0)) 0 1 = 4 ∧
    y2.pair.syncEnd = none ∧
    it 3 1 5 ≠ [] ∧
    beAt (List.drop 8 (it 3 1 5)) 4 4 = (y2.pair.got + 1) % 2 ^ 32 ∧
    beAt (List.drop 8 (it 3 1 5)) 0 1 = 3 ∧
    y2.pair.syncEnd ≠ some (y2.tick 8).tx.commit ∧
    it 5 1 0 ≠ [] ∧
    beAt (List.drop 8 (it 5 1 0)) 4 4 = (y2.pair.got + 1) % 2 ^ 32 ∧
    beAt (List.drop 8 (it 5 1 0)) 0 1 = 5 ∧
    beAt (List.drop 8 (it 5 1 0)) 8 8 = (y2.tick 8).tx.commit ∧
    (y2.tick 8).resyncSlot = some 8 ∧
    it 5 1 3 ≠ [] ∧
    beAt (List.drop 8 (it 5 1 3)) 4 4 = (y2.pair.got + 1) % 2 ^ 32 ∧
    beAt (List.drop 8 (it 5 1 3)) 0 1 = 5 ∧
    beAt (List.drop 8 (it 5 1 3)) 8 8 ≠ (y2.tick 8).tx.commit := by
  refine ⟨?_, ?_, ?_, ?_, ?_, ?_, ?_, ?_, ?_, ?_, ?_, ?_, ?_, ?_, ?_, ?_, ?_, ?_, ?_, ?_, ?_⟩ <;> decide +kernel

/-- What the clauses of `PairTimersAndTransferItems` suppose, met by concrete states. -/
theorem witness_PairTimersAndTransferItems_2_c :
    fl.pair.st = PairSt.standby ∧
    beAt (List.drop 8 (it 2 1 1)) 4 4 = (fl.pair.got + 1) % 2 ^ 32 ∧
    (fl.tick 8).markerWaits = true ∧
    W.run.pair.st = PairSt.unpaired ∧
    (a1.pair.st = PairSt.active ∨ a1.pair.st = PairSt.isolated) ∧
    b2.pair.st = PairSt.standby ∧
    beAt (List.drop 8 (it 2 1 1)) 4 4 = (b2.pair.got + 1) % 2 ^ 32 ∧
    (b2.tick 8).markerWaits = false ∧
    b2.pair.mirrored = [3] ∧
    beAt (List.drop 8 (it 2 1 1)) 8 8 = b2.tx.commit + 1 ∧
    (((b2.tick 8).tx.staged.all fun w => w.tag != 3) = false) ∧
    it 2 1 2 ≠ [] ∧
    beAt (List.drop 8 (it 2 1 2)) 4 4 = (b2.pair.got + 1) % 2 ^ 32 ∧
    beAt (List.drop 8 (it 2 1 2)) 0 1 = 2 ∧
    (beAt (List.drop 8 (it 2 1 2)) 8 8 ≠ b2.tx.commit + 1 ∨ ((b2.tick 8).tx.staged.all fun w => w.tag != 3) = true) ∧
    y1.pair.st = PairSt.sync ∧
    beAt (List.drop 8 (it 5 1 0)) 4 4 = (y1.pair.got + 1) % 2 ^ 32 ∧
    (y1.tick 8).syncBroken = false ∧
    beAt (List.drop 8 (it 5 1 0)) 8 8 = (y1.tick 8).tx.commit ∧
    (y1.tick 8).resyncSlot = none := by
  refine ⟨?_, ?_, ?_, ?_, ?_, ?_, ?_, ?_, ?_, ?_, ?_, ?_, ?_, ?_, ?_, ?_, ?_, ?_, ?_, ?_⟩ <;> decide +kernel

end C12

namespace C03

def T : Nat := W.T

def T9 : Nat := W.T + 9000 * Config.sec

def RR := W.run

def B (l : List Nat) : List Byte := l.map byteOf

def ob (s : State) : State := (((s.setObj 0x2020 2 0x0A000002).setObj 0x2020 9 100).setObj 0x2020 7 60).setObj 0x2021 2 77

def R0 := ob RR

def pr : Peer := ⟨1, 0x0A000001, 700⟩

def hello : List Byte := B [0x50,0x4F,1,1] ++ zeros 8 ++ B [2] ++ zeros 19 ++ zeros 32

def key : List Byte := leBytes 32 77

def h0 : PopHs := ⟨9, 2, B (List.range 16), zeros 16, pr, 1000 * Config.sec⟩

def pp (f : Machine.Pop → Machine.Pop) (s : State := R0) : State := { s with dict := { s.dict with pop := f s.dict.pop } }

def H1 := pp (fun p => { p with hs := [h0] })

def mkd (ty sid seq : Nat) (body : List Byte) : List Byte := popDgram ty sid seq body key

def proof : List Byte := mkd 3 9 0 (B (List.range 16) ++ zeros 16)

def x0 : PopSess := { sid := 9, role := 2, key := key, label := 0, peer := pr, high := 5, seen := [5], held := [(5, [zeros 50])], queue := [], acc := [], txSeq := 0, last := 1000*Config.sec }

def S1 := pp (fun p => { p with sess := [some x0, none, none, none] })

def close : List Byte := mkd 0x20 9 0 []

def rep : List Byte := mkd 0x10 9 5 (zeros 12)

def req : List Byte := mkd 0x10 9 6 (zeros 12)

def hl : List (List Byte) := [zeros 50]

def small : List Byte := zeros 20

def large : List Byte := zeros 1473

def badf : List Byte := zeros 44

def own4 : Nat := 0x0A000002

def rq : Req := (RR.tick T).mkReq .mailbox 0 2 7 0x2021 2 [] none none

def df : Deferred := ⟨rq, 0x2021, 2, [0], [1], false, [0], 0⟩

def D1 : State := { RR with dict := { RR.dict with deferred := [df] } }

def v32 : List Byte := leBytes 32 5

def u1 (f : Machine.Session → Machine.Session) : State := { RR with update := { RR.update with sess := f RR.update.sess } }

def V1 : State := u1 (fun x => { x with st := 1, holder := (RR.tick T).requesterOf .mailbox, recv := 70000, len := 70000, lastReq := 1000*Config.sec })

def js : JSlot := ⟨7, 0, 0x9000, 3, 0x2000, 0, 3, 0, 0, zeros 12, 0, false, 1⟩

def sl (l : List (Nat × JSlot)) (s : State := RR) : State := l.foldl (fun s e => s.setSlot e.1 e.2) s

def V2 : State := sl [(0, js)] (u1 (fun x => { x with st := 2 }))

def V3 : State := sl [(0, { js with cancel := true, steps := 1 })] (u1 (fun x => { x with st := 2 }))

def J0 := RR

def J1 := sl [(0, js)]

def J2 := sl [(7, { js with idx := 0x6800, sub := 0xB })]

def J3 := sl [(7, { js with state := 2 })]

def J4 := sl [(8, { js with state := 2, final := 5 })]

def lock : State := { RR with fuses := { RR.fuses with debugLock := true } }

/-- What the clauses of `PopHandshakeOpensASession` suppose, met by concrete states. -/
theorem witness_PopHandshakeOpensASession_1 :
    TakesDatagram (R0.tick T) pr ∧
    PopForm hello 1 ∧
    hello.length = 64 ∧
    beAt hello 4 4 = 0 ∧
    List.drop 32 hello = zeros 32 ∧
    (R0.tick T).popRate.2.popRefusal (beAt (List.drop 12 (List.take 32 hello)) 0 1) = none := by
  refine ⟨?_, ?_, ?_, ?_, ?_, ?_⟩ <;> decide +kernel

/-- What the clauses of `PopHandshakeOpensASession` suppose, met by concrete states. -/
theorem witness_PopHandshakeOpensASession_2 :
    TakesDatagram (H1.tick T) pr ∧
    PopForm proof 3 ∧
    (List.find? (fun h => h.sid == beAt proof 4 4 && decide ((H1.tick T).popRate.2.clock.now < h.at_ + 2 * Config.sec))
    (H1.tick T).popRate.2.dict.pop.hs = some h0) ∧
    List.drop (proof.length - 32) proof = hmac256 ((H1.tick T).popRate.2.popKey h0.role) (List.take (proof.length - 32)
    proof) ∧
    List.drop 12 (List.take (proof.length - 32) proof) = h0.peerNonce ++ h0.partNonce ∧
    (H1.tick T).popRate.2.popRefusal h0.role = none ∧
    (List.find? (fun i => ((H1.tick T).popRate.2.popSess i).isNone) (List.range 4) = some 0) := by
  refine ⟨?_, ?_, ?_, ?_, ?_, ?_, ?_⟩ <;> decide +kernel

/-- What the clauses of `PopSessionTakesItsDatagrams` suppose, met by concrete states. -/
theorem witness_PopSessionTakesItsDatagrams :
    TakesDatagram (S1.tick T) pr ∧
    PopForm close 32 ∧
    (S1.tick T).popRate.2.popSlotOf (beAt close 4 4) = some (0 : Fin 4) ∧
    (S1.tick T).popRate.2.popSess 0 = some x0 ∧
    List.drop (close.length - 32) close = hmac256 x0.key (List.take (close.length - 32) close) ∧
    PopForm rep 16 ∧
    (S1.tick T).popRate.2.popSlotOf (beAt rep 4 4) = some (0 : Fin 4) ∧
    List.drop (rep.length - 32) rep = hmac256 x0.key (List.take (rep.length - 32) rep) ∧
    x0.high < 4294967295 ∧
    beAt rep 8 4 ≤ x0.high ∧
    x0.seen.contains (beAt rep 8 4) = true ∧
    (List.find? (fun e => e.1 == beAt rep 8 4) x0.held = some (beAt rep 8 4, hl)) ∧
    PopForm req 16 ∧
    (S1.tick T).popRate.2.popSlotOf (beAt req 4 4) = some (0 : Fin 4) ∧
    List.drop (req.length - 32) req = hmac256 x0.key (List.take (req.length - 32) req) ∧
    x0.high < beAt req 8 4 ∧
    beAt req 8 4 < 4294967295 ∧
    x0.queue = [] ∧
    (S1.tick T).popRate.2.unanswered (Path.pop (0 : Fin 4)) = 0 ∧
    (List.drop 12 (List.take (req.length - 32) req)).length = 12 + leAt (List.drop 12 (List.take (req.length - 32) req)) 8 2 := by
  refine ⟨?_, ?_, ?_, ?_, ?_, ?_, ?_, ?_, ?_, ?_, ?_, ?_, ?_, ?_, ?_, ?_, ?_, ?_, ?_, ?_⟩ <;> decide +kernel

/-- What the clauses of `PopDiscardsTimersAndKeys` suppose, met by concrete states. -/
theorem witness_PopDiscardsTimersAndKeys_1 :
    TakesDatagram (R0.tick T) pr ∧
    small.length < 44 ∧
    1472 < large.length ∧
    44 ≤ badf.length ∧
    badf.length ≤ 1472 ∧
    List.take 3 badf ≠ [80, 79, 1] := by
  refine ⟨?_, ?_, ?_, ?_, ?_, ?_⟩ <;> decide +kernel

/-- What the clauses of `PopDiscardsTimersAndKeys` suppose, met by concrete states. -/
theorem witness_PopDiscardsTimersAndKeys_2 :
    S1.Calm ∧
    S1.pathsLive = true ∧
    own4 ≠ 0 ∧
    own4 = S1.ownAddress NeighbourMsg.arp ∧
    S1.dict.pop.sess.getD 0 none = some x0 ∧
    x0.last + S1.obj 8224 7 * Config.sec ≤ (S1.tick T9).clock.now ∧
    S1.dict.deferred = [] ∧
    S1.tx.waits = [] ∧
    S1.update.sess.holder ≠ 12288 + 0 := by
  refine ⟨?_, ?_, ?_, ?_, ?_, ?_, ?_, ?_, ?_⟩ <;> decide +kernel

/-- What the clauses of `PopDiscardsTimersAndKeys` suppose, met by concrete states. -/
theorem witness_PopDiscardsTimersAndKeys_3 :
    (RR.tick T).Ready Path.mailbox ∧
    RR.record.divergent = false ∧
    RR.dev.st ≠ DevState.halt ∧
    v32.length = 32 ∧
    ((if (1 : Fin 3) = (2 : Fin 3) then 3 else 2) ≤ (RR.tick T).roleOf Path.mailbox) ∧
    (D1.tick T).serves = true ∧
    D1.dict.deferred = [df] ∧
    df.answer = [0] ∧
    df.idx = 8225 ∧
    1 ≤ df.sub ∧
    df.sub ≤ 3 ∧
    df.oldVal ≠ df.newVal := by
  refine ⟨?_, ?_, ?_, ?_, ?_, ?_, ?_, ?_, ?_, ?_, ?_, ?_⟩ <;> decide +kernel

/-- What the clauses of `SteppedOperationsStartStepAndEnd` suppose, met by concrete states. -/
theorem witness_SteppedOperationsStartStepAndEnd_1 :
    (V1.tick T).Ready Path.mailbox ∧
    V1.dev.st ≠ DevState.halt ∧
    2 ≤ (V1.tick T).roleOf Path.mailbox ∧
    V1.update.sess.st = 1 ∧
    V1.update.sess.holder = (V1.tick T).requesterOf Path.mailbox ∧
    V1.update.sess.recv = V1.update.sess.len ∧
    V1.freeSlot false = some 0 := by
  refine ⟨?_, ?_, ?_, ?_, ?_, ?_, ?_⟩ <;> decide +kernel

/-- What the clauses of `SteppedOperationsStartStepAndEnd` suppose, met by concrete states. -/
theorem witness_SteppedOperationsStartStepAndEnd_2 :
    (V2.tick T).serves = true ∧
    V2.slotOf 7 = some 0 ∧
    (V2.slot 0).isOpen = true ∧
    (V2.slot 0).idx = 36864 ∧
    (V2.slot 0).sub = 3 ∧
    V2.update.sess.st = 2 ∧
    (V2.tick T).nextTurn = some (3, Turn.step 0) ∧
    (V2.slot 0).cancel = false ∧
    (V2.slot 0).steps + 1 < (V2.slot 0).planned ∧
    (V3.tick T).serves = true ∧
    V3.slotOf 7 = some 0 ∧
    (V3.slot 0).isOpen = true ∧
    (V3.slot 0).idx = 36864 ∧
    (V3.slot 0).sub = 3 ∧
    V3.update.sess.st = 2 ∧
    (V3.tick T).nextTurn = some (3, Turn.step 0) ∧
    (V3.slot 0).cancel = true := by
  refine ⟨?_, ?_, ?_, ?_, ?_, ?_, ?_, ?_, ?_, ?_, ?_, ?_, ?_, ?_, ?_, ?_, ?_⟩ <;> decide +kernel

/-- What the clauses of `SlotsAreCancelledAcknowledgedAndFreed` suppose, met by concrete states. -/
theorem witness_SlotsAreCancelledAcknowledgedAndFreed_1 :
    (J0.tick T).Ready Path.mailbox ∧
    J0.dev.st ≠ DevState.halt ∧
    2 ≤ (J0.tick T).roleOf Path.mailbox ∧
    (leBytes 2 7).length = 2 ∧
    J0.slotOf (leNat (leBytes 2 7)) = none ∧
    (J1.tick T).Ready Path.mailbox ∧
    J1.dev.st ≠ DevState.halt ∧
    2 ≤ (J1.tick T).roleOf Path.mailbox ∧
    J1.slotOf (leNat (leBytes 2 7)) = some 0 ∧
    (J1.slot 0).isOpen = true ∧
    (J1.slot 0).fixed = false ∧
    ((J1.slot 0).isOpen = true ∨ 8 ≤ 0) ∧
    (J2.tick T).Ready Path.mailbox ∧
    J2.dev.st ≠ DevState.halt ∧
    2 ≤ (J2.tick T).roleOf Path.mailbox ∧
    J2.slotOf (leNat (leBytes 2 7)) = some 7 ∧
    (J2.slot 7).isOpen = true ∧
    (J2.slot 7).fixed = true ∧
    (J3.tick T).Ready Path.mailbox ∧
    J3.dev.st ≠ DevState.halt ∧
    2 ≤ (J3.tick T).roleOf Path.mailbox ∧
    J3.slotOf (leNat (leBytes 2 7)) = some 7 ∧
    (J3.slot 7).isOpen = false ∧
    7 < 8 := by
  refine ⟨?_, ?_, ?_, ?_, ?_, ?_, ?_, ?_, ?_, ?_, ?_, ?_, ?_, ?_, ?_, ?_, ?_, ?_, ?_, ?_, ?_, ?_, ?_, ?_⟩ <;> decide +kernel

/-- What the clauses of `SlotsAreCancelledAcknowledgedAndFreed` suppose, met by concrete states. -/
theorem witness_SlotsAreCancelledAcknowledgedAndFreed_2 :
    J4.Calm ∧
    8 ≤ 8 ∧
    (J4.slot 8).handle ≠ 0 ∧
    2 ≤ (J4.slot 8).state ∧
    (J4.slot 8).final + 60 * Config.sec ≤ (J4.tick T).clock.now ∧
    7 < 8 ∧
    TapInstr.bypass ≠ TapInstr.idcode ∧
    J4.fuses.debugLock = false ∧
    lock.Calm ∧
    lock.fuses.debugLock = true := by
  refine ⟨?_, ?_, ?_, ?_, ?_, ?_, ?_, ?_, ?_, ?_⟩ <;> decide +kernel

end C03

namespace C04b

def RR := W.run

def fr : Frame := lineFrame 4 0 (zeros 70) 5 none

def c0 : Ctx := { RR.mkCtx .ingress 0 fr with hv := zeros 640, id := 9, skip := false, stage := 3, bundle := some 1, started := false, bundles := 16 }

def C1 : State := { RR with flow := { RR.flow with ctxs := [c0] } }

def hc : State := { C1 with faults := { C1.faults with haltFe := true } }

def oc : OpCtl := ⟨9, 1, none⟩

def on : OpCtl := ⟨9, 1, some (3, true)⟩

def off_ : OpCtl := ⟨10, 0, none⟩

def c1 : Ctx := (c0.enterBundle 1).getD c0

def c2 : Ctx := (c0.enterBundle 1).getD c0

def i1 : Instr := .dropReq on

def i2 : Instr := .end_ off_

/-- What the clauses of `StageOpWritesItsPlace` suppose, met by concrete states. -/
theorem witness_StageOpWritesItsPlace :
    C1.OpEnters oc c1 ∧
    c1.condOk oc.cond = true := by
  refine ⟨?_, ?_⟩ <;> decide +kernel

/-- What the clauses of `StageOpMarksItsContextOrDoesNothing` suppose, met by concrete states. -/
theorem witness_StageOpMarksItsContextOrDoesNothing_1 :
    C1.OpEnters oc c1 ∧
    c1.condOk oc.cond = true ∧
    tableKind 80 = 3 ∧
    ((match c1.dir with | Dir.ingress => C1.flow.learnI | Dir.egress => C1.flow.learnE).length < 4096) := by
  refine ⟨?_, ?_, ?_, ?_⟩ <;> decide +kernel

/-- What the clauses of `StageOpMarksItsContextOrDoesNothing` suppose, met by concrete states. -/
theorem witness_StageOpMarksItsContextOrDoesNothing_2 :
    stageCtl i1 = some on ∧
    C1.OpEnters on c2 ∧
    c2.condOk on.cond = false ∧
    stageCtl i2 = some off_ ∧
    (((C1.flow.ctx off_.ctx).bind fun c => c.enterBundle off_.bundle.val) = none) ∧
    hc.faults.haltFe = true := by
  refine ⟨?_, ?_, ?_, ?_, ?_, ?_⟩ <;> decide +kernel

end C04b

namespace C07b

def T : Nat := W.T

def RR := W.run

def jr (st n : Nat) : JRec := ⟨77, st, 0, 0, 0, 0x2000, n, 0, 0, 0, 0, 0⟩

def wk (k : Nat) : TxWork := ⟨77, [], [], none, none, [], 1000*Config.sec, k, 0, []⟩

def tx (f : Tx → Tx) (s : State := RR) : State := { s with tx := f s.tx }

def O1 := tx (fun x => { x with journal := [jr 1 3], work := [wk 0] })

def hd : List Byte := zeros 32

/-- What the clauses of `TransactionRecordsAreLaid` suppose, met by concrete states. -/
theorem witness_TransactionRecordsAreLaid :
    (O1.tick T).Ready Path.mailbox ∧
    2 ≤ (O1.tick T).roleOf Path.mailbox ∧
    77 < 2 ^ 32 ∧
    ((O1.tick T).begun Path.mailbox).pairTakesNone = false ∧
    ((O1.tick T).begun Path.mailbox).dev.st.takesRecords = true ∧
    ((O1.tick T).begun Path.mailbox).tx.workOf 77 = some (wk 0) ∧
    ((O1.tick T).begun Path.mailbox).tx.rec_ 77 = some (jr 1 3) ∧
    (jr 1 3).state = 1 ∧
    (jr 1 3).records < 65536 ∧
    1 < 256 ∧
    0 < 65536 ∧
    ((O1.tick T).begun Path.mailbox).txFormFault (txnRecord 4 true 77 ([byteOf 3, byteOf 1] ++ beBytes 2 0) hd) = none ∧
    gratFault 3 1 0 (txParse (txnRecord 4 true 77 ([byteOf 3, byteOf 1] ++ beBytes 2 0) hd)).payload = none ∧
    ((((O1.tick T).begun Path.mailbox).tx.holder 77 fun x => x.grats.any fun g => g.port == 3) = none) ∧
    (∀ (w : TxWork),
    { ((O1.tick T).begun Path.mailbox) with tx := (((O1.tick T).begun Path.mailbox).tx.modWork 77 fun x => ({ { x with grats := x.grats ++ [{ port := 3, part := 1, first := 0, payload := (txParse (txnRecord 4 true 77 ([byteOf 3, byteOf 1] ++ beBytes 2 0) hd)).payload : PGrat }] : TxWork } with last := ((O1.tick T).begun Path.mailbox).clock.now, recs := x.recs ++ [txnRecord 4 true 77 ([byteOf 3, byteOf 1] ++ beBytes 2 0) hd] } : TxWork)).modRec 77 fun r => ({ { r with flags := setBit r.flags 2 true : JRec } with records := r.records + 1 } : JRec) : State }.tx.workOf
    77 = some w →
    { ((O1.tick T).begun Path.mailbox) with tx := (((O1.tick T).begun Path.mailbox).tx.modWork 77 fun x => ({ { x with grats := x.grats ++ [{ port := 3, part := 1, first := 0, payload := (txParse (txnRecord 4 true 77 ([byteOf 3, byteOf 1] ++ beBytes 2 0) hd)).payload : PGrat }] : TxWork } with last := ((O1.tick T).begun Path.mailbox).clock.now, recs := x.recs ++ [txnRecord 4 true 77 ([byteOf 3, byteOf 1] ++ beBytes 2 0) hd] } : TxWork)).modRec 77 fun r => ({ { r with flags := setBit r.flags 2 true : JRec } with records := r.records + 1 } : JRec) : State }.keystoneFault
    w = none) := by
  refine ⟨?_, ?_, ?_, ?_, ?_, ?_, ?_, ?_, ?_, ?_, ?_, ?_, ?_, ?_, ?_⟩ <;> decide +kernel

end C07b

namespace C14

def T : Nat := W.T

def B (l : List Nat) : List Byte := l.map byteOf

def N : State := { W.run with pcie := { W.run.pcie with memory := false } }

def ch (k : Nat) (f : Chan → Chan) (s : State := W.run) : State := s.mapChan k f

def c1 := ch 3 (fun c => { c with cfg := 0x40000000, head := 0, tail := 1, en := true, stopped := true, stopIdx := 15 })

def c2 := ch 3 (fun c => { c with cfg := 0x40000000, head := 0, tail := 1, en := true })

def ds (op arg len : Nat) (fl : Nat := 0) (own : Bool := true) : Desc := { control := op * 2^24 + fl, length := len, addr := 0x1000, arg := arg, status := if own then 2^31 else 0 }

def db (d : Desc) : List Byte := leBytes 4 d.control ++ leBytes 4 d.length ++ leBytes 8 d.addr ++ leBytes 8 d.arg ++ zeros 4 ++ leBytes 4 d.status

def xf (op arg len : Nat) (fl : Nat := 0) : Xfer := { ch := 3, idx := 0, desc := ds op arg len fl, moved := 0, err := 0, trunc := false, wdrn := false, ended := false, begun := false, lockFrom := none, lockTry := 0, firstAt := none, cells := [], mark := 0 }

def en (x : Xfer) (s : State := c2) : State := s.setXfer 0 x

def X1 := xf 1 0 64

def X2 := xf 2 0 96

def X2b := { xf 2 0 96 with begun := true }

def X2c := xf 2 0 16

def X3 := xf 3 0 64

def X3b := { xf 3 0 64 with firstAt := some 5 }

def X3c := { xf 3 0 64 with firstAt := some (1000*Config.sec) }

def X10b := { xf 0x10 0 192 with moved := 192 }

def X11 := xf 0x11 (0x12) 64

def X12 := xf 0x12 5 256

def X13 := xf 0x13 5 256

def X14 := xf 0x14 5 128

def X15 := xf 0x15 5 128

def X20 := xf 0x20 5 32

def X21 := xf 0x21 5 32

def XL := { xf 0x13 5 256 8 with lockFrom := some 5 }

def XL2 := { xf 0x13 5 256 8 with lockFrom := some (1000*Config.sec), lockTry := 1000*Config.sec }

def XL3 := { xf 0x13 5 256 8 with lockFrom := some (1000*Config.sec), lockTry := 5 }

def XW := { xf 1 0 64 with begun := true }

def cOff := (ch 3 (fun c => c))

def S1 := en X1 { c2 with flow := { c2.flow with punts := [{ cls := 0, bytes := zeros 60, cells := [] : Punt }] } }

def S1b := en X1 { c2 with flow := { c2.flow with punts := [{ cls := 0, bytes := zeros 80, cells := [] : Punt }] } }

def S3 := en X3 { c2 with lines := { c2.lines with stamps := [zeros 32, zeros 32] } }

def inj : List Byte := B [1,2,3,0] ++ zeros 4 ++ B [0,64,0,0] ++ zeros 84

def inj1 : List Byte := B [1,1,0,0] ++ zeros 4 ++ B [0,64,0,0] ++ zeros 84

def hold (x : Xfer) (t : LockTarget) : State := let s := en x; s.setTables (s.tables.lock t (.dma 0) 5)

def bt : State := { W.run with dev := { W.run.dev with st := .boot } }

def g1 := (W.run.setObj 0xA000 6 1).setObj 0xA000 9 4

def g2 := { g1 with pcie := { g1.pcie with snapEnd := 2000*Config.sec } }

def um := W.run.setObj 0xA000 4 1

def X10c := xf 0x10 0 16

def rec16 : List Byte := B [1,0,0,0] ++ beBytes 4 77 ++ zeros 8

def p60 : Punt := { cls := 0, bytes := zeros 60, cells := [] }

def p80 : Punt := { cls := 0, bytes := zeros 80, cells := [] }

def QN : State := (en X2b).setNodeRec (nodeKey 5 0) 0

def X11p := xf 0x11 0x30 64

def pz : State := let s := en X11p; s.setTables (s.tables.setLine 0x30 0 true false)

def hb := hold X13 (bucketTarget 5)

def hc := hold X15 (blockTarget 5)

def mal : List Byte := db (ds 0x7F 0 64)

def nown : List Byte := db (ds 1 0 64 0 false)

def umOn := um.setObj 0xA000 4 0xFFF

def QF : State := (en X2).setObj 0x5000 2 0xC0000

def QB : State := let s := en X2; { s with buf := { s.buf with granted := [0, 9000000000000000, 0, 0] } }

def recB : List Byte := B [9,0,0,0] ++ beBytes 4 77 ++ zeros 8

def b16 : State := ((en X10c).tick T).hostRead 0x1000 16

def cB : Nat := match (b16.txRecord (engineId 0) recB).2 with | .abort c => c | _ => 0

def tref : List Byte := B [0,0x30] ++ beBytes 4 5 ++ B [0,0]

def pay : List Byte := beBytes 8 (2^63 + 9)

def X10w := xf 0x10 0 24

def recW : List Byte := B [2,0,0,8] ++ beBytes 4 77 ++ tref ++ pay

def jr (st n : Nat) : JRec := ⟨77, st, 0, 0, 0, 0x2010, n, 0, 0, 0, 0, 0⟩

def SW : State := let b := en X10w; { b with tx := { b.tx with commit := 4, journal := [jr 1 3], work := [⟨77, [], [], none, none, [], 1000*Config.sec, 0, 0, []⟩], held := [(4, 1048576)] }, flow := { b.flow with recircI := [{ lineFrame 4 0 (zeros 60) 5 none with tag := 3 }] } }

def nob : State := let s := hb; s.setObj 0x4610 1 0

def lk : State := c2.setTables (c2.tables.lock (bucketTarget 5) .window 5)

def aq : List Byte := db (ds 0x12 5 256 8)

def aq2 : List Byte := db (ds 0x10 0 16 8)

def X2m := { xf 2 0 96 with begun := true, mark := 0 }

def X2n := { xf 2 0 96 with begun := true, mark := 2^20 }

def XS := { xf 0x21 5 32 with begun := true, mark := 0 }

def ss (n : Nat) (s : State) : State := s.setObj 0x5310 5 n

def t0 : Nat := 1000 * Config.sec

def g4 := g1.setObj 0xA000 0xA 1

def ig (k : Nat) (s : State := c2) : State := { s with dict := { s.dict with pop := { s.dict.pop with ignored := [(ignoreKey k, 2000*Config.sec)] } } }

def dn : Option (List Byte) := none

def d3 : List Byte := B [3,0,0,0]

def d4 : List Byte := B [6,0,0,0]

def MM : State := { W.run with dict := { W.run.dict with mbx := { W.run.dict.mbx with done := true } } }

/-- What the clauses of `ChannelRegistersResetsAndCounterReads` suppose, met by concrete states. -/
theorem witness_ChannelRegistersResetsAndCounterReads_1_a :
    N.pcie.memory = false ∧
    (W.run.tick T).memOk 8224 = true ∧
    ((W.run.tick T).chan 3).size ≤ T % 65536 ∧
    ((W.run.tick T).chan 3).en = false ∧
    131072 < T + T ∧
    0 + 0 ≤ 131072 ∧
    ¬(65536 ≤ 0 ∧ 0 + 0 ≤ 77824) ∧
    ¬(32768 ≤ 0 ∧ 0 + 0 ≤ 33792) ∧
    ¬(36864 ≤ 0 ∧ 0 + 0 ≤ 36872) ∧
    0 ≠ 4 ∧
    0 % 65536 < ((W.run.tick T).chan 3).size ∧
    (c1.tick T).memOk 8224 = true ∧
    ((c1.tick T).chan 3).en = true ∧
    (ig 8224).pcie.memory = true ∧
    ((ig 8224).tick T).memOk 8224 = false ∧
    (c2.tick 4).memOk 8224 = true ∧
    4 + 4 ≤ 131072 ∧
    ¬(65536 ≤ 4 ∧ 4 + 4 ≤ 77824) ∧
    ¬(32768 ≤ 4 ∧ 4 + 4 ≤ 33792) ∧
    ¬(36864 ≤ 4 ∧ 4 + 4 ≤ 36872) ∧
    dn = none ∧
    4 % 4 = 0 := by
  refine ⟨?_, ?_, ?_, ?_, ?_, ?_, ?_, ?_, ?_, ?_, ?_, ?_, ?_, ?_, ?_, ?_, ?_, ?_, ?_, ?_, ?_, ?_⟩ <;> decide +kernel

/-- What the clauses of `ChannelRegistersResetsAndCounterReads` suppose, met by concrete states. -/
theorem witness_ChannelRegistersResetsAndCounterReads_1_b :
    (c2.tick 4).register 4 = some 4 ∧
    (c2.tick 4).register 4 ≠ none ∧
    1 + 4 ≤ 131072 ∧
    ¬(65536 ≤ 1 ∧ 1 + 4 ≤ 77824) ∧
    ¬(32768 ≤ 1 ∧ 1 + 4 ≤ 33792) ∧
    ¬(36864 ≤ 1 ∧ 1 + 4 ≤ 36872) ∧
    (1 % 4 ≠ 0 ∨ (c2.tick 4).register 1 = none) ∧
    32768 ≤ 32784 ∧ 32784 + 4 ≤ 33792 ∧
    36864 ≤ 36868 ∧ 36868 + 4 ≤ 36872 ∧
    65536 ≤ 65552 ∧ 65552 + 4 ≤ 77824 ∧
    65552 < 69632 ∧
    65536 ≤ 73728 ∧ 73728 + 4 ≤ 77824 ∧
    bit (leNat d3) 0 = true ∧
    bit (leNat d4) 0 = false ∧
    (MM.tick 4).memOk 8224 = true ∧
    65536 ≤ 73732 ∧ 73732 + 4 ≤ 77824 ∧
    (MM.tick 4).memOk 8192 = true ∧
    65536 ≤ 73744 ∧ 73744 + 4 ≤ 77824 ∧
    69632 ≤ 73744 ∧
    73744 ≠ 73728 ∧
    73744 ≠ 73732 := by
  refine ⟨?_, ?_, ?_, ?_, ?_, ?_, ?_, ?_, ?_, ?_, ?_, ?_, ?_, ?_, ?_, ?_, ?_, ?_, ?_, ?_, ?_⟩ <;> decide +kernel

/-- What the clauses of `DescriptorsAndDmaOps` suppose, met by concrete states. -/
theorem witness_DescriptorsAndDmaOps_1_a :
    W.run.faults.haltTm = false ∧
    (((W.run.tick T).engine 0).xfer ≠ none ∨ (W.run.tick T).sourceHeld 13 (engineId 0) = true ∨ (W.run.tick T).nextChan 0 =
    none) ∧
    ((W.run.tick T).engine 0).xfer = none ∧
    c2.faults.haltTm = false ∧
    ((c2.tick T).engine 0).xfer = none ∧
    (c2.tick T).sourceHeld 13 (engineId 0) = false ∧
    (c2.tick T).nextChan 0 = some 3 ∧
    { control := leAt nown 0 4, length := leAt nown 4 4, addr := leAt nown 8 8, arg := leAt nown 16 8, status := leAt nown 28 4 : Desc }.own
    = false ∧
    { control := leAt mal 0 4, length := leAt mal 4 4, addr := leAt mal 8 8, arg := leAt mal 16 8, status := leAt mal 28 4 : Desc }.own
    = true ∧
    ({ control := leAt mal 0 4, length := leAt mal 4 4, addr := leAt mal 8 8, arg := leAt mal 16 8, status := leAt mal 28 4 : Desc }.acq
    = false ∨
    { control := leAt mal 0 4, length := leAt mal 4 4, addr := leAt mal 8 8, arg := leAt mal 16 8, status := leAt mal 28 4 : Desc }.malformed
    ((c2.tick T).chan 3).kind = true) ∧
    { control := leAt aq 0 4, length := leAt aq 4 4, addr := leAt aq 8 8, arg := leAt aq 16 8, status := leAt aq 28 4 : Desc }.own
    = true ∧
    { control := leAt aq 0 4, length := leAt aq 4 4, addr := leAt aq 8 8, arg := leAt aq 16 8, status := leAt aq 28 4 : Desc }.acq
    = true ∧
    { control := leAt aq 0 4, length := leAt aq 4 4, addr := leAt aq 8 8, arg := leAt aq 16 8, status := leAt aq 28 4 : Desc }.malformed
    ((c2.tick T).chan 3).kind = false ∧
    { control := leAt aq 0 4, length := leAt aq 4 4, addr := leAt aq 8 8, arg := leAt aq 16 8, status := leAt aq 28 4 : Desc }.target
    = some (bucketTarget 5) ∧
    ((c2.tick T).tables.lock (bucketTarget 5) (Holder.dma (0 : Fin 4)) (c2.tick T).clock.now).holds (bucketTarget 5)
    (Holder.dma (0 : Fin 4)) = true ∧
    { control := leAt aq2 0 4, length := leAt aq2 4 4, addr := leAt aq2 8 8, arg := leAt aq2 16 8, status := leAt aq2 28 4 : Desc }.own
    = true ∧
    { control := leAt aq2 0 4, length := leAt aq2 4 4, addr := leAt aq2 8 8, arg := leAt aq2 16 8, status := leAt aq2 28 4 : Desc }.acq
    = true ∧
    { control := leAt aq2 0 4, length := leAt aq2 4 4, addr := leAt aq2 8 8, arg := leAt aq2 16 8, status := leAt aq2 28 4 : Desc }.malformed
    ((c2.tick T).chan 3).kind = false ∧
    { control := leAt aq2 0 4, length := leAt aq2 4 4, addr := leAt aq2 8 8, arg := leAt aq2 16 8, status := leAt aq2 28 4 : Desc }.target
    = none ∧
    lk.faults.haltTm = false := by
  refine ⟨?_, ?_, ?_, ?_, ?_, ?_, ?_, ?_, ?_, ?_, ?_, ?_, ?_, ?_, ?_, ?_, ?_, ?_, ?_, ?_⟩ <;> decide +kernel

/-- What the clauses of `DescriptorsAndDmaOps` suppose, met by concrete states. -/
theorem witness_DescriptorsAndDmaOps_1_b :
    ((lk.tick T).engine 0).xfer = none ∧
    (lk.tick T).sourceHeld 13 (engineId 0) = false ∧
    (lk.tick T).nextChan 0 = some 3 ∧
    { control := leAt aq 0 4, length := leAt aq 4 4, addr := leAt aq 8 8, arg := leAt aq 16 8, status := leAt aq 28 4 : Desc }.malformed
    ((lk.tick T).chan 3).kind = false ∧
    ((lk.tick T).tables.lock (bucketTarget 5) (Holder.dma (0 : Fin 4)) (lk.tick T).clock.now).holds (bucketTarget 5)
    (Holder.dma (0 : Fin 4)) = false ∧
    (en X1).faults.haltTm = false ∧
    (((en X1).tick T).engine 0).xfer = some X1 ∧
    X1.ended = false ∧
    (X1.ended = true ∨ HostErr.completion ≠ HostErr.none) ∧
    X1.lockFrom = none ∧
    (X1.begun = false ∨ X1.wdrn = true ∨ X1.desc.op ≠ 1 ∧ X1.desc.op ≠ 2 ∧ X1.desc.op ≠ 33) ∧
    (en X2m QN).faults.haltTm = false ∧
    (((en X2m QN).tick T).engine 0).xfer = some X2m ∧
    X2m.begun = true ∧
    X2m.wdrn = false ∧
    X2m.desc.op = 2 ∧
    X2m.ended = false ∧
    X2m.mark < 2 ^ 20 ∧
    ((en X2m QN).tick T).noInject X2m.mark = true ∧
    (en X2n).faults.haltTm = false := by
  refine ⟨?_, ?_, ?_, ?_, ?_, ?_, ?_, ?_, ?_, ?_, ?_, ?_, ?_, ?_, ?_, ?_, ?_, ?_, ?_, ?_⟩ <;> decide +kernel

/-- What the clauses of `DescriptorsAndDmaOps` suppose, met by concrete states. -/
theorem witness_DescriptorsAndDmaOps_1_c :
    (((en X2n).tick T).engine 0).xfer = some X2n ∧
    X2n.begun = true ∧
    X2n.wdrn = false ∧
    X2n.desc.op = 2 ∧
    (X2n.ended = true ∨ 2 ^ 20 ≤ X2n.mark ∨ ((en X2n).tick T).noInject X2n.mark = false) ∧
    (ss 9 (en XS)).faults.haltTm = false ∧
    (((ss 9 (en XS)).tick T).engine 0).xfer = some XS ∧
    XS.begun = true ∧
    XS.wdrn = false ∧
    XS.desc.op = 33 ∧
    5 < 8388608 ∧
    XS.mark + 5 < ((ss 9 (en XS)).tick T).obj (21264 + XS.desc.arg / 2 ^ 60) 5 ∧
    (XS.mark + 5 + 8388608 - XS.desc.arg % 8388608) % 8388608 < XS.desc.length / 16 ∧
    (en XS).faults.haltTm = false ∧
    (((en XS).tick T).engine 0).xfer = some XS ∧
    ((en XS).tick T).obj (21264 + XS.desc.arg / 2 ^ 60) 5 ≤ XS.mark ∧
    (en XL).faults.haltTm = false ∧
    (((en XL).tick T).engine 0).xfer = some XL ∧
    XL.lockFrom = some 5 ∧
    5 + 100 * Config.us ≤ ((en XL).tick T).clock.now := by
  refine ⟨?_, ?_, ?_, ?_, ?_, ?_, ?_, ?_, ?_, ?_, ?_, ?_, ?_, ?_, ?_, ?_, ?_, ?_, ?_, ?_⟩ <;> decide +kernel

/-- What the clauses of `DescriptorsAndDmaOps` suppose, met by concrete states. -/
theorem witness_DescriptorsAndDmaOps_1_d :
    (en XL2).faults.haltTm = false ∧
    (((en XL2).tick T).engine 0).xfer = some XL2 ∧
    XL2.lockFrom = some (1000 * Config.sec) ∧
    ((en XL2).tick T).clock.now < 1000 * Config.sec + 100 * Config.us ∧
    ((en XL2).tick T).clock.now < XL2.lockTry + Config.us ∧
    (en XL3).faults.haltTm = false ∧
    (((en XL3).tick T).engine 0).xfer = some XL3 ∧
    XL3.lockFrom = some (1000 * Config.sec) ∧
    ((en XL3).tick T).clock.now < 1000 * Config.sec + 100 * Config.us ∧
    XL3.lockTry + Config.us ≤ ((en XL3).tick T).clock.now ∧
    (en XW).faults.haltTm = false ∧
    (((en XW).tick T).engine 0).xfer = some XW ∧
    XW.begun = true ∧
    XW.wdrn = false ∧
    XW.desc.op = 1 ∧
    (((en XW).tick T).chan XW.ch).en = true ∧
    (en X3).faults.haltTm = false ∧
    (((en X3).tick T).engine 0).xfer = some X3 ∧
    X3.desc.op = 3 ∧
    X3.ended = false := by
  refine ⟨?_, ?_, ?_, ?_, ?_, ?_, ?_, ?_, ?_, ?_, ?_, ?_, ?_, ?_, ?_, ?_, ?_, ?_, ?_, ?_⟩ <;> decide +kernel

/-- What the clauses of `DescriptorsAndDmaOps` suppose, met by concrete states. -/
theorem witness_DescriptorsAndDmaOps_1_e :
    X3.lockFrom = none ∧
    X3.firstAt = none ∧
    (en X3b).faults.haltTm = false ∧
    (((en X3b).tick T).engine 0).xfer = some X3b ∧
    X3b.desc.op = 3 ∧
    X3b.ended = false ∧
    X3b.lockFrom = none ∧
    X3b.firstAt = some 5 ∧
    5 + 100 * Config.us ≤ ((en X3b).tick T).clock.now ∧
    (en X3c).faults.haltTm = false ∧
    (((en X3c).tick T).engine 0).xfer = some X3c ∧
    X3c.desc.op = 3 ∧
    X3c.ended = false ∧
    X3c.lockFrom = none ∧
    X3c.firstAt = some (1000 * Config.sec) ∧
    ((en X3c).tick T).clock.now < 1000 * Config.sec + 100 * Config.us ∧
    (en XW cOff).faults.haltTm = false ∧
    (((en XW cOff).tick T).engine 0).xfer = some XW ∧
    (((en XW cOff).tick T).chan XW.ch).en = false := by
  refine ⟨?_, ?_, ?_, ?_, ?_, ?_, ?_, ?_, ?_, ?_, ?_, ?_, ?_, ?_, ?_, ?_, ?_, ?_, ?_⟩ <;> decide +kernel

/-- What the clauses of `DescriptorsAndDmaOps` suppose, met by concrete states. -/
theorem witness_DescriptorsAndDmaOps_2_a :
    S1.faults.haltTm = false ∧
    ((S1.tick T).engine 0).xfer = some X1 ∧
    X1.ended = false ∧
    X1.lockFrom = none ∧
    X1.desc.op = 1 ∧
    (S1.tick T).puntOf ((S1.tick T).chan X1.ch).ring = some p60 ∧
    p60.bytes.length ≤ X1.desc.length ∧
    S1b.faults.haltTm = false ∧
    ((S1b.tick T).engine 0).xfer = some X1 ∧
    (S1b.tick T).puntOf ((S1b.tick T).chan X1.ch).ring = some p80 ∧
    X1.desc.length < p80.bytes.length ∧
    (en X2c).faults.haltTm = false ∧
    (((en X2c).tick T).engine 0).xfer = some X2c ∧
    X2c.ended = false ∧
    X2c.lockFrom = none ∧
    X2c.desc.op = 2 ∧
    X2c.desc.length < 32 ∧
    (en X2).faults.haltTm = false ∧
    (((en X2).tick T).engine 0).xfer = some X2 ∧
    X2.ended = false ∧
    X2.lockFrom = none := by
  refine ⟨?_, ?_, ?_, ?_, ?_, ?_, ?_, ?_, ?_, ?_, ?_, ?_, ?_, ?_, ?_, ?_, ?_, ?_, ?_, ?_, ?_⟩ <;> decide +kernel

/-- What the clauses of `DescriptorsAndDmaOps` suppose, met by concrete states. -/
theorem witness_DescriptorsAndDmaOps_2_b :
    X2.desc.op = 2 ∧
    injectBad (bytesAt inj 0 X2.desc.length) = false ∧ X2.desc.length = 32 + beAt (bytesAt inj 0 X2.desc.length) 8 2 ∧
    beAt (bytesAt inj 0 X2.desc.length) 1 1 = 2 ∧
    ((if X2.begun = true then (en X2).tick T else ((en X2).tick T).hostRead X2.desc.addr X2.desc.length).allocBusy 1 =
    false) ∧
    (((if X2.begun = true then (en X2).tick T else ((en X2).tick T).hostRead X2.desc.addr X2.desc.length).allocCells 1
    (cellsOf (beAt (bytesAt inj 0 X2.desc.length) 8 2)) 5).1.isSome = true) ∧
    injectBad (bytesAt inj1 0 X2.desc.length) = false ∧ X2.desc.length = 32 + beAt (bytesAt inj1 0 X2.desc.length) 8 2 ∧
    beAt (bytesAt inj1 0 X2.desc.length) 1 1 = 1 ∧
    ((if X2.begun = true then (en X2).tick T else ((en X2).tick T).hostRead X2.desc.addr X2.desc.length).noInject (beAt
    (bytesAt inj1 0 X2.desc.length) 4 4) = false) ∧
    (((if X2.begun = true then (en X2).tick T else ((en X2).tick T).hostRead X2.desc.addr X2.desc.length).admitInject (beAt
    (bytesAt inj1 0 X2.desc.length) 4 4) (bytesAt (bytesAt inj1 0 X2.desc.length) 32 (beAt (bytesAt inj1 0 X2.desc.length) 8
    2)) (bytesAt (bytesAt inj1 0 X2.desc.length) 16 16) (beAt (bytesAt inj1 0 X2.desc.length) 10 1) (if bit (beAt (bytesAt
    inj1 0 X2.desc.length) 3 1) 0 = true then some (beAt (bytesAt inj1 0 X2.desc.length) 12 4) else none)).1 = true) ∧
    32 ≤ X2.desc.length ∧
    injectBad (bytesAt (zeros 96) 0 X2.desc.length) = true ∧
    injectBad (bytesAt (inj.set 9 (byteOf 65)) 0 X2.desc.length) = false ∧
    X2.desc.length ≠ 32 + beAt (bytesAt (inj.set 9 (byteOf 65)) 0 X2.desc.length) 8 2 ∧
    (en X2b QN).faults.haltTm = false ∧
    (((en X2b QN).tick T).engine 0).xfer = some X2b ∧
    X2b.ended = false ∧
    X2b.lockFrom = none ∧
    X2b.desc.op = 2 ∧
    injectBad (bytesAt inj1 0 X2b.desc.length) = false ∧ X2b.desc.length = 32 + beAt (bytesAt inj1 0 X2b.desc.length) 8 2 ∧
    beAt (bytesAt inj1 0 X2b.desc.length) 1 1 = 1 ∧
    X2b.begun = true := by
  refine ⟨?_, ?_, ?_, ?_, ?_, ?_, ?_, ?_, ?_, ?_, ?_, ?_, ?_, ?_, ?_, ?_, ?_, ?_, ?_, ?_, ?_⟩ <;> decide +kernel

/-- What the clauses of `DescriptorsAndDmaOps` suppose, met by concrete states. -/
theorem witness_DescriptorsAndDmaOps_2_c :
    ((if X2b.begun = true then (en X2b QN).tick T else ((en X2b QN).tick T).hostRead X2b.desc.addr X2b.desc.length).noInject
    (beAt (bytesAt inj1 0 X2b.desc.length) 4 4) = true) ∧
    QF.faults.haltTm = false ∧
    ((QF.tick T).engine 0).xfer = some X2 ∧
    ((if X2.begun = true then QF.tick T else (QF.tick T).hostRead X2.desc.addr X2.desc.length).allocBusy 1 = false) ∧
    (((if X2.begun = true then QF.tick T else (QF.tick T).hostRead X2.desc.addr X2.desc.length).allocCells 1 (cellsOf (beAt
    (bytesAt inj 0 X2.desc.length) 8 2)) 5).1.isNone = true) ∧
    QB.faults.haltTm = false ∧
    ((QB.tick T).engine 0).xfer = some X2 ∧
    ((if X2.begun = true then QB.tick T else (QB.tick T).hostRead X2.desc.addr X2.desc.length).allocBusy 1 = true) ∧
    ((if X2.begun = true then QB.tick T else (QB.tick T).hostRead X2.desc.addr X2.desc.length).noInject (beAt (bytesAt inj1
    0 X2.desc.length) 4 4) = false) ∧
    (((if X2.begun = true then QB.tick T else (QB.tick T).hostRead X2.desc.addr X2.desc.length).admitInject (beAt (bytesAt
    inj1 0 X2.desc.length) 4 4) (bytesAt (bytesAt inj1 0 X2.desc.length) 32 (beAt (bytesAt inj1 0 X2.desc.length) 8 2))
    (bytesAt (bytesAt inj1 0 X2.desc.length) 16 16) (beAt (bytesAt inj1 0 X2.desc.length) 10 1) (if bit (beAt (bytesAt inj1
    0 X2.desc.length) 3 1) 0 = true then some (beAt (bytesAt inj1 0 X2.desc.length) 12 4) else none)).1 = false) ∧
    (en X2 QN).faults.haltTm = false ∧
    (((en X2 QN).tick T).engine 0).xfer = some X2 ∧
    X2.begun = false ∧
    ((if X2.begun = true then (en X2 QN).tick T else ((en X2 QN).tick T).hostRead X2.desc.addr X2.desc.length).noInject
    (beAt (bytesAt inj1 0 X2.desc.length) 4 4) = true) ∧
    (en X3).faults.haltTm = false ∧
    (((en X3).tick T).engine 0).xfer = some X3 ∧
    X3.ended = false ∧
    X3.lockFrom = none ∧
    X3.desc.op = 3 ∧
    min (en X3).lines.stamps.length ((X3.desc.length - X3.moved) / 32) = 0 ∧
    S3.faults.haltTm = false := by
  refine ⟨?_, ?_, ?_, ?_, ?_, ?_, ?_, ?_, ?_, ?_, ?_, ?_, ?_, ?_, ?_, ?_, ?_, ?_, ?_, ?_, ?_⟩ <;> decide +kernel

/-- What the clauses of `DescriptorsAndDmaOps` suppose, met by concrete states. -/
theorem witness_DescriptorsAndDmaOps_2_d :
    ((S3.tick T).engine 0).xfer = some X3 ∧
    min S3.lines.stamps.length ((X3.desc.length - X3.moved) / 32) ≠ 0 ∧
    (en X10b).faults.haltTm = false ∧
    (((en X10b).tick T).engine 0).xfer = some X10b ∧
    X10b.ended = false ∧
    X10b.lockFrom = none ∧
    X10b.desc.op = 16 ∧
    List.drop X10b.moved (bytesAt rec16 0 X10b.desc.length) = [] ∧
    (en X10c).faults.haltTm = false ∧
    (((en X10c).tick T).engine 0).xfer = some X10c ∧
    X10c.ended = false ∧
    X10c.lockFrom = none ∧
    X10c.desc.op = 16 ∧
    X10c.moved = 0 ∧
    rec16.length = X10c.desc.length ∧
    0 < X10c.desc.length ∧
    X10c.desc.length = 16 + beAt rec16 2 2 ∧
    ((if X10c.desc.length < 16 + beAt rec16 2 2 then (if X10c.begun = true then (en X10c).tick T else ((en X10c).tick
    T).hostRead X10c.desc.addr X10c.desc.length).refuse (beAt rec16 4 4) (151060480 + if beAt rec16 0 1 = 0 ∨ 6 < beAt rec16
    0 1 then 0 else if 1 < beAt rec16 1 1 ∨ beAt rec16 1 1 = 1 ∧ ¬(2 ≤ beAt rec16 0 1 ∧ beAt rec16 0 1 ≤ 4) then 1 else 2)
    else (if X10c.begun = true then (en X10c).tick T else ((en X10c).tick T).hostRead X10c.desc.addr
    X10c.desc.length).txRecord (engineId 0) (List.take (16 + beAt rec16 2 2) rec16)).2 = TxAns.done) ∧
    recB.length = X10c.desc.length ∧
    ((if X10c.desc.length < 16 + beAt recB 2 2 then (if X10c.begun = true then (en X10c).tick T else ((en X10c).tick
    T).hostRead X10c.desc.addr X10c.desc.length).refuse (beAt recB 4 4) (151060480 + if beAt recB 0 1 = 0 ∨ 6 < beAt recB 0
    1 then 0 else if 1 < beAt recB 1 1 ∨ beAt recB 1 1 = 1 ∧ ¬(2 ≤ beAt recB 0 1 ∧ beAt recB 0 1 ≤ 4) then 1 else 2) else
    (if X10c.begun = true then (en X10c).tick T else ((en X10c).tick T).hostRead X10c.desc.addr X10c.desc.length).txRecord
    (engineId 0) (List.take (16 + beAt recB 2 2) recB)).2 = TxAns.abort cB) ∧
    SW.faults.haltTm = false := by
  refine ⟨?_, ?_, ?_, ?_, ?_, ?_, ?_, ?_, ?_, ?_, ?_, ?_, ?_, ?_, ?_, ?_, ?_, ?_, ?_, ?_, ?_⟩ <;> decide +kernel

/-- What the clauses of `DescriptorsAndDmaOps` suppose, met by concrete states. -/
theorem witness_DescriptorsAndDmaOps_2_e :
    ((SW.tick T).engine 0).xfer = some X10w ∧
    X10w.ended = false ∧
    X10w.lockFrom = none ∧
    X10w.desc.op = 16 ∧
    X10w.moved = 0 ∧
    recW.length = X10w.desc.length ∧
    0 < X10w.desc.length ∧
    16 + beAt recW 2 2 ≤ X10w.desc.length ∧
    ((if X10w.desc.length < 16 + beAt recW 2 2 then (if X10w.begun = true then SW.tick T else (SW.tick T).hostRead
    X10w.desc.addr X10w.desc.length).refuse (beAt recW 4 4) (151060480 + if beAt recW 0 1 = 0 ∨ 6 < beAt recW 0 1 then 0
    else if 1 < beAt recW 1 1 ∨ beAt recW 1 1 = 1 ∧ ¬(2 ≤ beAt recW 0 1 ∧ beAt recW 0 1 ≤ 4) then 1 else 2) else (if
    X10w.begun = true then SW.tick T else (SW.tick T).hostRead X10w.desc.addr X10w.desc.length).txRecord (engineId 0)
    (List.take (16 + beAt recW 2 2) recW)).2 = TxAns.wait) ∧
    (en X11).faults.haltTm = false ∧
    (((en X11).tick T).engine 0).xfer = some X11 ∧
    X11.ended = false ∧
    X11.lockFrom = none ∧
    X11.desc.op = 17 ∧
    (((List.map (fun x => X11.desc.arg / 65536 % 2 ^ 32 + x) (List.range (X11.desc.length / entryBytes (X11.desc.arg %
    65536)))).any fun i => ((en X11).tick T).tables.poisoned (X11.desc.arg % 65536) (((en X11).tick T).tables.lineOf
    (X11.desc.arg % 65536) i)) = false) ∧
    pz.faults.haltTm = false ∧
    ((pz.tick T).engine 0).xfer = some X11p ∧
    X11p.ended = false ∧
    X11p.lockFrom = none ∧
    X11p.desc.op = 17 ∧
    (((List.map (fun x => X11p.desc.arg / 65536 % 2 ^ 32 + x) (List.range (X11p.desc.length / entryBytes (X11p.desc.arg %
    65536)))).any fun i => (pz.tick T).tables.poisoned (X11p.desc.arg % 65536) ((pz.tick T).tables.lineOf (X11p.desc.arg %
    65536) i)) = true) := by
  refine ⟨?_, ?_, ?_, ?_, ?_, ?_, ?_, ?_, ?_, ?_, ?_, ?_, ?_, ?_, ?_, ?_, ?_, ?_, ?_, ?_, ?_⟩ <;> decide +kernel

/-- What the clauses of `DescriptorsAndDmaOps` suppose, met by concrete states. -/
theorem witness_DescriptorsAndDmaOps_2_f :
    (en X12).faults.haltTm = false ∧
    (((en X12).tick T).engine 0).xfer = some X12 ∧
    X12.ended = false ∧
    X12.lockFrom = none ∧
    X12.desc.op = 18 ∧
    (en X13).faults.haltTm = false ∧
    (((en X13).tick T).engine 0).xfer = some X13 ∧
    X13.ended = false ∧
    X13.lockFrom = none ∧
    X13.desc.op = 19 ∧
    ((en X13).tick T).bucketTable X13.desc.arg ≠ none ∧
    ((en X13).tick T).tables.holds (bucketTarget X13.desc.arg) (Holder.dma (0 : Fin 4)) = false ∧
    hb.faults.haltTm = false ∧
    ((hb.tick T).engine 0).xfer = some X13 ∧
    (hb.tick T).tables.holds (bucketTarget X13.desc.arg) (Holder.dma (0 : Fin 4)) = true ∧
    nob.faults.haltTm = false ∧
    ((nob.tick T).engine 0).xfer = some X13 ∧
    (nob.tick T).bucketTable X13.desc.arg = none ∧
    (en X14).faults.haltTm = false ∧
    (((en X14).tick T).engine 0).xfer = some X14 ∧
    X14.ended = false := by
  refine ⟨?_, ?_, ?_, ?_, ?_, ?_, ?_, ?_, ?_, ?_, ?_, ?_, ?_, ?_, ?_, ?_, ?_, ?_, ?_, ?_, ?_⟩ <;> decide +kernel

/-- What the clauses of `DescriptorsAndDmaOps` suppose, met by concrete states. -/
theorem witness_DescriptorsAndDmaOps_2_g :
    X14.lockFrom = none ∧
    X14.desc.op = 20 ∧
    (en X15).faults.haltTm = false ∧
    (((en X15).tick T).engine 0).xfer = some X15 ∧
    X15.ended = false ∧
    X15.lockFrom = none ∧
    X15.desc.op = 21 ∧
    ((en X15).tick T).tables.holds (blockTarget X15.desc.arg) (Holder.dma (0 : Fin 4)) = false ∧
    hc.faults.haltTm = false ∧
    ((hc.tick T).engine 0).xfer = some X15 ∧
    (hc.tick T).tables.holds (blockTarget X15.desc.arg) (Holder.dma (0 : Fin 4)) = true ∧
    (en X20).faults.haltTm = false ∧
    (((en X20).tick T).engine 0).xfer = some X20 ∧
    X20.ended = false ∧
    X20.lockFrom = none ∧
    X20.desc.op = 32 ∧
    (en X21).faults.haltTm = false ∧
    (((en X21).tick T).engine 0).xfer = some X21 ∧
    X21.ended = false ∧
    X21.lockFrom = none ∧
    X21.desc.op = 33 := by
  refine ⟨?_, ?_, ?_, ?_, ?_, ?_, ?_, ?_, ?_, ?_, ?_, ?_, ?_, ?_, ?_, ?_, ?_, ?_, ?_, ?_, ?_⟩ <;> decide +kernel

/-- What the clauses of `ChannelRegistersResetsAndCounterReads` suppose, met by concrete states. -/
theorem witness_ChannelRegistersResetsAndCounterReads_2_a :
    (∀ (e : Fin 4), (W.run.engine e.val).xfer = none) ∧
    W.run.pcie.engines.length = 4 ∧
    W.run.dev.st ≠ DevState.boot ∧
    (W.run.tick t0).memOk 8226 = true ∧
    65536 < t0 + t0 ∧
    0 + 0 ≤ 65536 ∧
    (0 ≠ 8 ∨ 0 % 8 ≠ 0 ∨ 6144 ≤ 0 ∨ bit ((W.run.tick t0).obj 40960 4) (0 / 512) = false) ∧
    ((W.run.tick t0).obj 40960 6 = 0 ∨ timeToNs (W.run.tick t0).time80 % ((W.run.tick t0).obj 40960 7 * 1000) ≠ 0 ∨
    W.run.pcie.snapAt = timeToNs (W.run.tick t0).time80 + 1) ∧
    N.pcie.memory = false ∧
    bt.dev.st = DevState.boot ∧
    (ig 8226).pcie.memory = true ∧
    ((ig 8226).tick t0).memOk 8226 = false ∧
    (g1.tick t0).obj 40960 6 ≠ 0 ∧
    timeToNs (g1.tick t0).time80 % ((g1.tick t0).obj 40960 7 * 1000) = 0 ∧
    g1.pcie.snapAt ≠ timeToNs (g1.tick t0).time80 + 1 ∧
    g1.pcie.snapEnd ≤ (g1.tick t0).clock.now := by
  refine ⟨?_, ?_, ?_, ?_, ?_, ?_, ?_, ?_, ?_, ?_, ?_, ?_, ?_, ?_, ?_, ?_⟩ <;> decide +kernel

/-- What the clauses of `ChannelRegistersResetsAndCounterReads` suppose, met by concrete states. -/
theorem witness_ChannelRegistersResetsAndCounterReads_2_b :
    ((g1.tick t0).obj 40960 10 = 0 ∨ (g1.pcie.snap + 1) % (g1.tick t0).obj 40960 10 ≠ 0) ∧
    (g2.tick t0).obj 40960 6 ≠ 0 ∧
    timeToNs (g2.tick t0).time80 % ((g2.tick t0).obj 40960 7 * 1000) = 0 ∧
    g2.pcie.snapAt ≠ timeToNs (g2.tick t0).time80 + 1 ∧
    (g2.tick t0).clock.now < g2.pcie.snapEnd ∧
    (g4.tick t0).obj 40960 6 ≠ 0 ∧
    timeToNs (g4.tick t0).time80 % ((g4.tick t0).obj 40960 7 * 1000) = 0 ∧
    g4.pcie.snapAt ≠ timeToNs (g4.tick t0).time80 + 1 ∧
    g4.pcie.snapEnd ≤ (g4.tick t0).clock.now ∧
    (g4.tick t0).obj 40960 10 ≠ 0 ∧
    (g4.pcie.snap + 1) % (g4.tick t0).obj 40960 10 = 0 ∧
    (umOn.tick t0).memOk 8226 = true ∧
    0 % 8 = 0 ∧
    0 < 6144 ∧
    bit ((umOn.tick t0).obj 40960 4) (0 / 512) = true := by
  refine ⟨?_, ?_, ?_, ?_, ?_, ?_, ?_, ?_, ?_, ?_, ?_, ?_, ?_, ?_, ?_⟩ <;> decide +kernel

end C14

namespace C12b

def T : Nat := W.T

def sv (f : Survey → Survey) : State := { W.run with survey := f W.run.survey }

def v1 := sv (fun s => { s with waitFrom := some 5, levels := [(0x2005, 2)] })

def v4 := { v1 with record := { v1.record with mem := { v1.record.mem with margin := { v1.record.mem.margin with railFe := 750, railTm := 750 }, survey := { v1.record.mem.survey with present := true }, spares := { v1.record.mem.spares with spent := [(2*65536+5, 16),(10*65536, 64)], banksRelaid := [1,2], wires := [7] } } } }

def v5 := { v1 with record := { v1.record with mem := { v1.record.mem with margin := { v1.record.mem.margin with railFe := 750, railTm := 750 }, survey := { v1.record.mem.survey with present := true }, spares := { v1.record.mem.spares with spent := [(2*65536+5, 16)], banksRelaid := [1] } } } }

def v7 : State := { v5 with record := { v5.record with mem := { v5.record.mem with spares := { v5.record.mem.spares with spent := [(2*65536+1,16),(2*65536+5,16),(3*65536+5,4),(4*65536+5,4),(5*65536+5,2),(6*65536+5,8),(6*65536+200,8),(7*65536+5,2),(10*65536, 64),(11*65536+3,2048)], banksRelaid := [1] } } } }

def v9 : State := { v7 with tables := { v7.tables with relaying := [(5,0)] } }

def r11 : Nat := ((List.range 100000).find? (fun r => groupStack r == 3)).getD 0

def rep1 : State := { W.run with survey := { W.run.survey with repairs := [(2,5)] } }

def rt (s : State) : State := { s with survey := { s.survey with avsFe := { s.survey.avsFe with tries := 1 } } }

def rep2 := rt rep1

/-- What the clauses of `RemediesAndRepairs` suppose, met by concrete states. -/
theorem witness_RemediesAndRepairs_2_a :
    (isRow T T = false ∨ T = 10 ∧ v7.record.mem.spares.wires.contains T = true) ∧
    isRow 2 T = true ∧
    ¬(2 = 10 ∧ v7.record.mem.spares.wires.contains T = true) ∧
    (2, T) ∉ v7.survey.repairs ∧
    ((if 2 = 10 then decide (16 < (List.filter (fun f => decide ((v7.tick T).clock.now < f.at_ + Config.sec))
    ({ code := 2, row := T, at_ := (v7.tick T).clock.now, hard := true : Find } :: List.filter (fun f => f.code == 2 &&
    f.row == T) (List.filter (fun f => decide ((v7.tick T).clock.now < f.at_ + 86400 * Config.sec))
    v7.survey.finds))).length) else decide (2 ≤ ({ code := 2, row := T, at_ := (v7.tick T).clock.now, hard := true : Find }
    :: List.filter (fun f => f.code == 2 && f.row == T) (List.filter (fun f => decide ((v7.tick T).clock.now < f.at_ + 86400
    * Config.sec)) v7.survey.finds)).length) || ({ code := 2, row := T, at_ := (v7.tick T).clock.now, hard := true : Find }
    :: List.filter (fun f => f.code == 2 && f.row == T) (List.filter (fun f => decide ((v7.tick T).clock.now < f.at_ + 86400
    * Config.sec)) v7.survey.finds)).any fun x => x.hard) = true) ∧
    ({ { (v7.tick T) with survey := ({ v7.survey with finds := { code := 2, row := T, at_ := (v7.tick T).clock.now, hard := true : Find } :: List.filter (fun f => decide ((v7.tick T).clock.now < f.at_ + 86400 * Config.sec)) v7.survey.finds } : Survey) : State } with survey := ({ { (v7.tick T) with survey := ({ v7.survey with finds := { code := 2, row := T, at_ := (v7.tick T).clock.now, hard := true : Find } :: List.filter (fun f => decide ((v7.tick T).clock.now < f.at_ + 86400 * Config.sec)) v7.survey.finds } : Survey) : State }.survey with repairs := v7.survey.repairs ++ [(2, T)] } : Survey) : State }.repairReady
    2 T = true) ∧
    ((if 2 = 10 then decide (16 < (List.filter (fun f => decide ((v7.tick T).clock.now < f.at_ + Config.sec))
    ({ code := 2, row := T, at_ := (v7.tick T).clock.now, hard := false : Find } :: List.filter (fun f => f.code == 2 &&
    f.row == T) (List.filter (fun f => decide ((v7.tick T).clock.now < f.at_ + 86400 * Config.sec))
    v7.survey.finds))).length) else decide (2 ≤ ({ code := 2, row := T, at_ := (v7.tick T).clock.now, hard := false : Find }
    :: List.filter (fun f => f.code == 2 && f.row == T) (List.filter (fun f => decide ((v7.tick T).clock.now < f.at_ + 86400
    * Config.sec)) v7.survey.finds)).length) || ({ code := 2, row := T, at_ := (v7.tick T).clock.now, hard := false : Find }
    :: List.filter (fun f => f.code == 2 && f.row == T) (List.filter (fun f => decide ((v7.tick T).clock.now < f.at_ + 86400
    * Config.sec)) v7.survey.finds)).any fun x => x.hard) = false) ∧
    2 ≠ 10 ∧
    v7.spareLeft 2 (spareUnit 2 T) = false ∧
    2 ≤ 3 ∧
    v7.record.mem.spares.banksRelaid.contains (spareUnit 2 T) = false ∧
    (∀ x ∈ v7.tables.relaying, x.1 ≠ spareUnit 2 T) ∧
    v7.record.mem.spares.banksRelaid.length + v7.tables.relaying.length < 2 ∧
    isRow 2 2 = true ∧
    v7.spareLeft 2 (spareUnit 2 2) = true ∧
    isRow 5 5 = true ∧
    5 ≠ 10 := by
  refine ⟨?_, ?_, ?_, ?_, ?_, ?_, ?_, ?_, ?_, ?_, ?_, ?_, ?_, ?_, ?_, ?_, ?_⟩ <;> decide +kernel

/-- What the clauses of `RemediesAndRepairs` suppose, met by concrete states. -/
theorem witness_RemediesAndRepairs_2_b :
    v7.spareLeft 5 (spareUnit 5 5) = false ∧
    (5 = 4 ∨ 5 = 5) ∧
    isRow 6 5 = true ∧
    6 ≠ 10 ∧
    v7.spareLeft 6 (spareUnit 6 5) = false ∧
    (6 = 6 ∨ 6 = 7) ∧
    v9.spareLeft 2 (spareUnit 2 T) = false ∧
    (v9.record.mem.spares.banksRelaid.contains (spareUnit 2 T) = true ∨ ∃ x ∈ v9.tables.relaying, x.1 = spareUnit 2 T) ∧
    isRow 10 2 = true ∧
    v9.record.mem.spares.wires.contains 2 = false ∧
    v9.spareLeft 10 (spareUnit 10 2) = false ∧
    v4.spareLeft 2 (spareUnit 2 T) = false ∧
    v4.record.mem.spares.banksRelaid.contains (spareUnit 2 T) = false ∧
    (∀ x ∈ v4.tables.relaying, x.1 ≠ spareUnit 2 T) ∧
    2 ≤ v4.record.mem.spares.banksRelaid.length + v4.tables.relaying.length ∧
    isRow 11 r11 = true ∧
    11 ≠ 10 := by
  refine ⟨?_, ?_, ?_, ?_, ?_, ?_, ?_, ?_, ?_, ?_, ?_, ?_, ?_, ?_, ?_, ?_, ?_⟩ <;> decide +kernel

/-- What the clauses of `RemediesAndRepairs` suppose, met by concrete states. -/
theorem witness_RemediesAndRepairs_2_c :
    v7.spareLeft 11 (spareUnit 11 r11) = false ∧
    isRow 2 5 = true ∧
    ¬(2 = 10 ∧ rep1.record.mem.spares.wires.contains 5 = true) ∧
    (2, 5) ∈ rep1.survey.repairs ∧
    (rep1.tick T).repairReady 2 5 = true ∧
    ¬(2 = 10 ∧ rep2.record.mem.spares.wires.contains T = true) ∧
    (2, T) ∉ rep2.survey.repairs ∧
    ((if 2 = 10 then decide (16 < (List.filter (fun f => decide ((rep2.tick T).clock.now < f.at_ + Config.sec))
    ({ code := 2, row := T, at_ := (rep2.tick T).clock.now, hard := true : Find } :: List.filter (fun f => f.code == 2 &&
    f.row == T) (List.filter (fun f => decide ((rep2.tick T).clock.now < f.at_ + 86400 * Config.sec))
    rep2.survey.finds))).length) else decide (2 ≤
    ({ code := 2, row := T, at_ := (rep2.tick T).clock.now, hard := true : Find } :: List.filter (fun f => f.code == 2 &&
    f.row == T) (List.filter (fun f => decide ((rep2.tick T).clock.now < f.at_ + 86400 * Config.sec))
    rep2.survey.finds)).length) || ({ code := 2, row := T, at_ := (rep2.tick T).clock.now, hard := true : Find } ::
    List.filter (fun f => f.code == 2 && f.row == T) (List.filter (fun f => decide ((rep2.tick T).clock.now < f.at_ + 86400
    * Config.sec)) rep2.survey.finds)).any fun x => x.hard) = true) ∧
    ({ { (rep2.tick T) with survey := ({ rep2.survey with finds := { code := 2, row := T, at_ := (rep2.tick T).clock.now, hard := true : Find } :: List.filter (fun f => decide ((rep2.tick T).clock.now < f.at_ + 86400 * Config.sec)) rep2.survey.finds } : Survey) : State } with survey := ({ { (rep2.tick T) with survey := ({ rep2.survey with finds := { code := 2, row := T, at_ := (rep2.tick T).clock.now, hard := true : Find } :: List.filter (fun f => decide ((rep2.tick T).clock.now < f.at_ + 86400 * Config.sec)) rep2.survey.finds } : Survey) : State }.survey with repairs := rep2.survey.repairs ++ [(2, T)] } : Survey) : State }.repairReady
    2 T = false) ∧
    ¬(2 = 10 ∧ rep2.record.mem.spares.wires.contains 5 = true) ∧
    (2, 5) ∈ rep2.survey.repairs ∧
    (rep2.tick T).repairReady 2 5 = false ∧
    isRow 10 10 = true ∧
    W.run.record.mem.spares.wires.contains 10 = false ∧
    W.run.spareLeft 10 (spareUnit 10 10) = true := by
  refine ⟨?_, ?_, ?_, ?_, ?_, ?_, ?_, ?_, ?_, ?_, ?_, ?_, ?_, ?_, ?_⟩ <;> decide +kernel

end C12b

end Sys2Proof.Tests
end

section
/-! PROOFS. The scope of the dictionary: a request to an index or a sub-index that the manual does not define (R4, R702). -/

namespace Sys2Proof.Machine

/-! ### Undefined objects (R4) -/

/-- An undefined index: class 0x01, reason 0x01, with the index as detail. -/
theorem findObject_eq_inr_of_objTop {idx : Nat} (sub : Nat) (h : objTop idx = none) :
    findObject idx sub = .inr (abortCode 1 1 idx) := by
  simp [findObject, h]

/-- An undefined sub-index of a defined index: class 0x01, reason 0x02, with the sub-index as detail. -/
theorem findObject_eq_inr_of_objDesc {idx sub : Nat} (ht : (objTop idx).isSome = true) (hd : objDesc idx sub = none) :
    findObject idx sub = .inr (abortCode 1 2 sub) := by
  have hn : (objTop idx).isNone = false := by simpa using ht
  simp [findObject, hn, hd]

/-- The object that takes the chunks of an image is defined. -/
theorem findObject_chunk_isLeft : (findObject 0x9000 2).isLeft = true := by decide

/-- A request to an undefined object is no chunk, so R621 never makes it wait. -/
theorem State.noChunk_of_undefined (s : State) {op idx sub c : Nat} (hi : idx < 65536) (hsub : sub < 256)
    (hf : findObject idx sub = .inr c) : s.noChunk op idx sub := by
  by_cases hchunk : idx = 0x9000 ∧ sub = 2
  · obtain ⟨rfl, rfl⟩ := hchunk
    have hleft := findObject_chunk_isLeft
    rw [hf] at hleft
    cases hleft
  · have hne : idx ≠ 0x9000 ∨ sub ≠ 2 := not_and_or.1 hchunk
    rw [← Nat.mod_eq_of_lt hi, ← Nat.mod_eq_of_lt hsub] at hne
    exact .inr (.inr hne)

/-! ### Requests as a path brings them -/

section reqOn
variable (s : State) (p : Path) (op tag idx sub : Nat) (val : List Byte)

@[simp] theorem State.reqOn_bad : (s.reqOn p op tag idx sub val).bad = none := rfl
@[simp] theorem State.reqOn_refuse : (s.reqOn p op tag idx sub val).refuse = none := rfl
theorem State.reqOn_idx (hi : idx < 65536) : (s.reqOn p op tag idx sub val).idx = idx := Nat.mod_eq_of_lt hi
theorem State.reqOn_sub (hsub : sub < 256) : (s.reqOn p op tag idx sub val).sub = sub := Nat.mod_eq_of_lt hsub

end reqOn

/-! ### Service of a request to an undefined object -/

/-- A well-formed request to an undefined object ends at step 2 of R702, whatever its operation: only the lock of the update
session has noted it (R617). -/
theorem State.serveReq_undefined (s : State) {r : Req} {c : Nat}
    (hl : s.update.sess.holder = 0 ∨ s.clock.now < s.update.sess.lastReq + 60 * Config.sec)
    (hr : r.refuse = none) (hb : r.bad = none) (hf : findObject r.idx r.sub = .inr c) :
    s.serveReq r = (s.noteHolder r, .abort c) := by
  unfold State.serveReq
  rw [State.lockExpiry_live s hl, hr, hb]
  simp only [hf]

/-- Such a request is answered with its abort, which is counted. -/
theorem State.serve_undefined (s : State) {r : Req} {c : Nat}
    (hl : s.update.sess.holder = 0 ∨ s.clock.now < s.update.sess.lastReq + 60 * Config.sec)
    (hr : r.refuse = none) (hb : r.bad = none) (hf : findObject r.idx r.sub = .inr c) :
    s.serve r = (s.noteHolder r).respondAbort r c false := by
  unfold State.serve
  rw [State.serveReq_undefined s hl hr hb hf]

/-- What a request to an undefined object leaves of a state: on its path it is taken, noted by the lock's holder, counted
among the aborts and answered with the code. -/
def State.abortedOn (s : State) (t : Tick) (p : Path) (tag idx sub code op : Nat) (val : List Byte) : State :=
  ((((s.tick t).begun p).noteHolder ((s.tick t).reqOn p op tag idx sub val)).respondAbort
    ((s.tick t).reqOn p op tag idx sub val) code false).settle

/-- Any operation on an undefined object, on a ready path, is aborted at once. -/
theorem State.at_request_undefined (s : State) {t : Tick} {p : Path} {idx sub c : Nat} (op tag : Nat) (val : List Byte)
    (hready : (s.tick t).Ready p) (hi : idx < 65536) (hsub : sub < 256) (hf : findObject idx sub = .inr c) :
    s.at_ t (fun s => s.request p op tag idx sub val) = s.abortedOn t p tag idx sub c op val := by
  have hlock : ((s.tick t).begun p).update.sess.holder = 0 ∨
      ((s.tick t).begun p).clock.now < ((s.tick t).begun p).update.sess.lastReq + 60 * Config.sec := by
    obtain ⟨-, -, -, -, -, -, -, -, hl⟩ := hready
    rwa [State.begun_sess, State.begun_clock]
  have hfind : findObject ((s.tick t).reqOn p op tag idx sub val).idx ((s.tick t).reqOn p op tag idx sub val).sub =
      .inr c := by
    rwa [State.reqOn_idx _ _ _ _ _ _ _ hi, State.reqOn_sub _ _ _ _ _ _ _ hsub]
  have hserve : (s.tick t).request p op tag idx sub val =
      (((s.tick t).begun p).noteHolder ((s.tick t).reqOn p op tag idx sub val)).respondAbort
        ((s.tick t).reqOn p op tag idx sub val) c false := by
    rw [State.request_ready _ p op tag idx sub val hready (State.noChunk_of_undefined _ hi hsub hf),
      State.serve_undefined _ hlock (State.reqOn_refuse ..) (State.reqOn_bad ..) hfind]
  exact congrArg State.settle hserve

/-- The four rows READ, WRITE, DESCRIBE and NOP on an undefined object. -/
theorem exec_undefined (s : State) {t : Tick} {p : Path} {idx sub c : Nat} (tag : Nat) (val : List Byte)
    (hready : (s.tick t).Ready p) (hi : idx < 65536) (hsub : sub < 256) (hf : findObject idx sub = .inr c) :
    exec (.read t p tag idx sub) s = .next (s.abortedOn t p tag idx sub c 1 []) ∧
      exec (.write t p tag idx sub val) s = .next (s.abortedOn t p tag idx sub c 2 val) ∧
      exec (.describe t p tag idx sub) s = .next (s.abortedOn t p tag idx sub c 3 []) ∧
      exec (.nop t p tag idx sub) s = .next (s.abortedOn t p tag idx sub c 4 []) := by
  have aborts (op : Nat) (v : List Byte) := s.at_request_undefined op tag v hready hi hsub hf
  exact ⟨congrArg Host.Outcome.next (aborts 1 []), congrArg Host.Outcome.next (aborts 2 val),
    congrArg Host.Outcome.next (aborts 3 []), congrArg Host.Outcome.next (aborts 4 [])⟩

/-- Settles O11: step 2 of R702 comes before anything that tells the operations apart, so one service lemma covers the four
rows, for an undefined index and for an undefined sub-index. -/
theorem undefinedObjectIsAborted : Obligations.UndefinedObjectIsAborted := by
  unfold Obligations.UndefinedObjectIsAborted
  intro s t p tag idx sub val hi hsub hready
  refine ⟨fun htop => ?_, fun htop hdesc => ?_⟩
  · exact exec_undefined s tag val hready hi hsub (findObject_eq_inr_of_objTop sub htop)
  · exact exec_undefined s tag val hready hi hsub (findObject_eq_inr_of_objDesc htop hdesc)

end Sys2Proof.Machine
end

section
/-! PROOFS. Counted writes (R72 to R77, R699): a write of the present value spends nothing; any other is refused while the
device record is divergent and once no slot is left. -/

namespace Sys2Proof.Machine

/-! ### Refusals in order -/

@[simp] theorem refuseIf_true (c : Nat) : refuseIf true c = some c := rfl
@[simp] theorem refuseIf_false (c : Nat) : refuseIf false c = none := rfl
@[simp] theorem firstFault_none_cons (l : List (Option Nat)) : firstFault (none :: l) = firstFault l := rfl
@[simp] theorem firstFault_some_cons (c : Nat) (l : List (Option Nat)) : firstFault (some c :: l) = some c := rfl

/-! ### A WRITE served on its path -/

@[simp] theorem State.reqOn_val (s : State) (p : Path) (op tag idx sub : Nat) (val : List Byte) :
    (s.reqOn p op tag idx sub val).val = val := rfl

/-- A WRITE to an object other than those of the update session, on a ready path, is served at once. -/
theorem exec_write_ready (s : State) {t : Tick} {p : Path} {idx sub : Nat} (tag : Nat) (val : List Byte)
    (hready : (s.tick t).Ready p) (hi : idx < 65536) (h9 : idx ≠ 0x9000) :
    exec (.write t p tag idx sub val) s =
      .next ((((s.tick t).begun p).serve ((s.tick t).reqOn p 2 tag idx sub val)).settle) := by
  have hch : (s.tick t).noChunk 2 idx sub := .inr (.inr (.inl (by rwa [Nat.mod_eq_of_lt hi])))
  exact congrArg (fun u => Host.Outcome.next (State.settle u)) (State.request_ready _ p 2 tag idx sub val hready hch)

section serve
variable {s s' : State} {r : Req}

/-- A request done is answered with its value; only a write of a pre-shared key has more follow from it (R60). -/
theorem State.serve_done {v : List Byte} (h : s.serveReq r = (s', .done v)) (hkey : r.idx ≠ 0x2021) :
    s.serve r = s'.respond r 0 v false := by
  have hn : (if r.op = 2 then r.idx else 0) ≠ 0x2021 := by
    split
    · exact hkey
    · decide
  unfold State.serve
  simp only [h, State.keyAnswered, hn, false_and, if_false]

/-- A request refused is answered with its abort code, which is counted. -/
theorem State.serve_abort {c : Nat} (h : s.serveReq r = (s', .abort c)) : s.serve r = s'.respondAbort r c false := by
  simp only [State.serve, h]

/-- A request whose answer waits leaves the others of its datagram (R58). -/
theorem State.serve_later (h : s.serveReq r = (s', .later)) : s.serve r = s'.leaveLate r := by
  simp only [State.serve, h]

end serve

/-! ### The rows of the counted objects -/

/-- Every counted object has a row of counted access. -/
theorem objDesc_counted_acc {idx : Nat} {d : ObjDesc} (hlo : 0x1200 ≤ idx) (hhi : idx ≤ 0x1205)
    (hd : objDesc idx 1 = some d) : d.acc = 5 := by
  have rows : ∀ i < 6, (objDesc (0x1200 + i) 1).map (·.acc) = some 5 := by decide
  have hrow := rows (idx - 0x1200) (by omega)
  rw [Nat.add_sub_cancel' hlo, hd] at hrow
  exact Option.some.inj hrow

/-- The indices of the counted objects are defined. -/
theorem objTop_counted_isSome {idx : Nat} (hlo : 0x1200 ≤ idx) (hhi : idx ≤ 0x1205) : (objTop idx).isSome = true := by
  have tops : ∀ i < 6, (objTop (0x1200 + i)).isSome = true := by decide
  have htop := tops (idx - 0x1200) (by omega)
  rwa [Nat.add_sub_cancel' hlo] at htop

/-! ### What a counted write looks at

Neither the instant nor the turn of the path enters the checks of R699. -/

section checks
variable (s : State) (t : Tick) (p : Path) (idx v : Nat) (b : List Byte)

theorem State.tick_countedValueFault : (s.tick t).countedValueFault idx v b = s.countedValueFault idx v b := by
  unfold State.tick; split <;> rfl
theorem State.begun_countedValueFault : (s.begun p).countedValueFault idx v b = s.countedValueFault idx v b := by
  cases p <;> rfl
theorem State.tick_countedEqual : (s.tick t).countedEqual idx v = s.countedEqual idx v := by
  unfold State.tick; split <;> rfl
theorem State.begun_countedEqual : (s.begun p).countedEqual idx v = s.countedEqual idx v := by
  cases p <;> rfl
theorem State.tick_countedFault : (s.tick t).countedFault idx v = s.countedFault idx v := by
  unfold State.tick; split <;> rfl
theorem State.begun_countedFault : (s.begun p).countedFault idx v = s.countedFault idx v := by
  cases p <;> rfl

end checks

section faults
variable {s : State} {idx : Nat} (v : Nat)
  (hhalt : s.dev.st ≠ .halt) (hunit : idx = 0x1203 → s.dev.st = .ready ∨ s.dev.st = .maint)
  (hpass : idx = 0x1204 → s.passRuns = false)
include hhalt hunit hpass

/-- The checks of the state passed, the divergent record, the slot of a re-take and the budget are looked at in this order
(R699). -/
theorem State.countedFault_admitted : s.countedFault idx v = firstFault [
    refuseIf s.record.divergent (abortCode 4 2 s.dev.st.code),
    refuseIf (idx == 0x1204 && (s.freeSlot false).isNone) (abortCode 5 1 0),
    refuseIf (s.slotsLeft idx == 0 || (idx == 0x1205 && v == 0)) (abortCode 6 1 0),
    refuseIf (idx == 0x1200 && decide (s.slotsLeft idx < v - s.fuses.floor)) (abortCode 6 2 (s.slotsLeft idx))] := by
  have hstate : (s.dev.st == .halt || (idx == 0x1203 && s.dev.st != .ready && s.dev.st != .maint)) = false := by
    by_cases hi : idx = 0x1203
    · rcases hunit hi with h | h <;> simp [h]
    · simp [hhalt, hi]
  have hrun : (idx == 0x1204 && s.passRuns) = false := by
    by_cases hi : idx = 0x1204
    · simp [hpass hi]
    · simp [hi]
  unfold State.countedFault
  simp only [hstate, hrun, refuseIf_false, firstFault_none_cons]

/-- While the device record is divergent the write is refused (R74). -/
theorem State.countedFault_divergent (hdiv : s.record.divergent = true) :
    s.countedFault idx v = some (abortCode 4 2 s.dev.st.code) := by
  rw [State.countedFault_admitted v hhalt hunit hpass, hdiv, refuseIf_true, firstFault_some_cons]

/-- With no slot left the write is refused (R76). -/
theorem State.countedFault_spent (hdiv : s.record.divergent = false)
    (hfree : idx = 0x1204 → (s.freeSlot false).isSome = true) (hleft : s.slotsLeft idx = 0) :
    s.countedFault idx v = some (abortCode 6 1 0) := by
  have hslot : (idx == 0x1204 && (s.freeSlot false).isNone) = false := by
    by_cases hi : idx = 0x1204
    · simp [hfree hi]
    · simp [hi]
  have hspent : (s.slotsLeft idx == 0 || (idx == 0x1205 && v == 0)) = true := by simp [hleft]
  rw [State.countedFault_admitted v hhalt hunit hpass, hdiv, hslot, hspent, refuseIf_false, refuseIf_false, refuseIf_true,
    firstFault_none_cons, firstFault_none_cons, firstFault_some_cons]

end faults

/-! ### A counted write whose value checks are passed -/

section write
variable {s : State} {r : Req} (hv : s.countedValueFault r.idx (leNat r.val) r.val = none)
include hv

/-- A write that equals the present value spends nothing (R73). -/
theorem State.countedWrite_equal (heq : s.countedEqual r.idx (leNat r.val) = true) : s.countedWrite r = s.countedKept r := by
  simp only [State.countedWrite, hv, heq, if_true]

/-- Any other write ends at the first check of R699 that refuses it, and leaves the state as it was. -/
theorem State.countedWrite_refused {c : Nat} (hne : s.countedEqual r.idx (leNat r.val) = false)
    (hc : s.countedFault r.idx (leNat r.val) = some c) : s.countedWrite r = (s, .abort c) := by
  simp only [State.countedWrite, hv, hne, hc, Bool.false_eq_true, if_false]

end write

/-- A write that spends nothing waits for the record in flash to hold its entry of the change record (R77). -/
theorem State.countedKept_later {s : State} (r : Req) (hdiv : s.record.divergent = false) :
    s.countedKept r = (s.defer r (s.valueBytes r.idx r.sub) r.val true [0], .later) := by
  simp only [State.countedKept, hdiv, Bool.false_eq_true, if_false]

/-- While the record is divergent a write that spends nothing enters the change record at once (R77). -/
theorem State.countedKept_done {s : State} (r : Req) (hdiv : s.record.divergent = true) :
    s.countedKept r = (s.logChange s.time80 r.requester r.role r.label r.idx r.sub true (s.valueBytes r.idx r.sub) r.val,
      .done []) := by
  simp only [State.countedKept, hdiv, if_true]

/-! ### A counted write on a ready path -/

section ready
variable {s : State} {t : Tick} {p : Path} {idx : Nat} {val : List Byte} {d : ObjDesc} (tag : Nat)
  (hready : (s.tick t).Ready p) (hlo : 0x1200 ≤ idx) (hhi : idx ≤ 0x1205) (hd : objDesc idx 1 = some d)
  (hrole : d.role ≤ (s.tick t).roleOf p) (hvalue : ((s.tick t).begun p).valueFault d idx 1 val = none)
include hready hlo hhi hd hrole hvalue

/-- A WRITE of a counted object whose role and value are good is the object's counted write (R699). -/
theorem State.serveReq_counted : ((s.tick t).begun p).serveReq ((s.tick t).reqOn p 2 tag idx 1 val) =
    ((s.tick t).begun p).countedWrite ((s.tick t).reqOn p 2 tag idx 1 val) := by
  obtain ⟨-, -, -, -, -, -, -, -, hlock⟩ := hready
  rw [← State.begun_sess _ p, ← State.begun_clock _ p] at hlock
  have hacc : d.acc = 5 := objDesc_counted_acc hlo hhi hd
  have hrw : d.acc ≠ 1 := by omega
  have hidx := State.reqOn_idx (s.tick t) p 2 tag idx 1 val (by omega)
  rw [State.serveReq_write _ _ d hlock rfl rfl rfl (by omega) (by rw [hidx]; exact objTop_counted_isSome hlo hhi)
      (by rw [hidx]; exact hd),
    State.serveObject_write _ _ d rfl hrw hrole (by omega) (by rw [hidx]; exact hvalue)]
  exact if_pos hacc

variable (hcounted : s.countedValueFault idx (leNat val) val = none)
include hcounted

/-- A counted write of the present value is kept out of the fuses (R73). -/
theorem State.serveReq_countedKept (heq : s.countedEqual idx (leNat val) = true) :
    ((s.tick t).begun p).serveReq ((s.tick t).reqOn p 2 tag idx 1 val) =
      ((s.tick t).begun p).countedKept ((s.tick t).reqOn p 2 tag idx 1 val) := by
  have hidx := State.reqOn_idx (s.tick t) p 2 tag idx 1 val (by omega)
  rw [State.serveReq_counted tag hready hlo hhi hd hrole hvalue]
  refine State.countedWrite_equal ?_ ?_
  · rwa [hidx, State.reqOn_val, State.begun_countedValueFault, State.tick_countedValueFault]
  · rwa [hidx, State.reqOn_val, State.begun_countedEqual, State.tick_countedEqual]

/-- A counted write of another value that a check of R699 refuses is answered with the abort of that check. -/
theorem exec_counted_refused {c : Nat} (hne : s.countedEqual idx (leNat val) = false)
    (hc : s.countedFault idx (leNat val) = some c) :
    exec (.write t p tag idx 1 val) s =
      .next ((((s.tick t).begun p).respondAbort ((s.tick t).reqOn p 2 tag idx 1 val) c false).settle) := by
  have hidx := State.reqOn_idx (s.tick t) p 2 tag idx 1 val (by omega)
  rw [exec_write_ready s tag val hready (by omega) (by omega)]
  refine congrArg (fun u => Host.Outcome.next (State.settle u)) (State.serve_abort ?_)
  rw [State.serveReq_counted tag hready hlo hhi hd hrole hvalue]
  refine State.countedWrite_refused ?_ ?_ ?_
  · rwa [hidx, State.reqOn_val, State.begun_countedValueFault, State.tick_countedValueFault]
  · rwa [hidx, State.reqOn_val, State.begun_countedEqual, State.tick_countedEqual]
  · rwa [hidx, State.reqOn_val, State.begun_countedFault, State.tick_countedFault]

/-- A counted write of the present value is answered once flash holds its entry of the change record (R73, R77). -/
theorem exec_counted_equal_later (heq : s.countedEqual idx (leNat val) = true) (hdiv : s.record.divergent = false) :
    exec (.write t p tag idx 1 val) s = .next (s.writeLater t p tag idx 1 val true [0] (fun u => u)) := by
  have hdiv' : ((s.tick t).begun p).record.divergent = false := by rwa [State.begun_record, State.tick_record]
  have hkept := State.serveReq_countedKept tag hready hlo hhi hd hrole hvalue hcounted heq
  rw [State.countedKept_later _ hdiv', State.reqOn_idx _ _ _ _ _ _ _ (by omega)] at hkept
  rw [exec_write_ready s tag val hready (by omega) (by omega), State.serve_later hkept]
  rfl

/-- While the device record is divergent it is done at once, with its entry made (R73, R77). -/
theorem exec_counted_equal_done (heq : s.countedEqual idx (leNat val) = true) (hdiv : s.record.divergent = true) :
    exec (.write t p tag idx 1 val) s = .next (s.writeDone t p tag idx 1 val (fun u =>
      u.logChange u.time80 ((s.tick t).requesterOf p) ((s.tick t).roleOf p) ((s.tick t).labelOf p) idx 1 true
        (u.valueBytes idx 1) val)) := by
  have hdiv' : ((s.tick t).begun p).record.divergent = true := by rwa [State.begun_record, State.tick_record]
  have hidx := State.reqOn_idx (s.tick t) p 2 tag idx 1 val (by omega)
  have hkept := State.serveReq_countedKept tag hready hlo hhi hd hrole hvalue hcounted heq
  rw [State.countedKept_done _ hdiv', hidx] at hkept
  rw [exec_write_ready s tag val hready (by omega) (by omega), State.serve_done hkept (by omega)]
  rfl

end ready

/-- Settles O14: on a ready path the request reaches the counted write of its object, which keeps the value when it is equal,
and else ends at the first refusal of R699. -/
theorem countedWriteEqualOrRefused : Obligations.CountedWriteEqualOrRefused := by
  unfold Obligations.CountedWriteEqualOrRefused
  intro s t p tag idx val d hready hlo hhi hd hrole hvalue hcounted v aborts
  have refused {c : Nat} (hne : s.countedEqual idx v = false) (hc : s.countedFault idx v = some c) : aborts c :=
    exec_counted_refused tag hready hlo hhi hd hrole hvalue hcounted hne hc
  refine ⟨fun heq => ⟨?_, ?_⟩, fun hne hhalt hunit hpass => ⟨fun hdiv => ?_, fun hdiv hfree hleft => ?_⟩⟩
  · exact exec_counted_equal_later tag hready hlo hhi hd hrole hvalue hcounted heq
  · exact exec_counted_equal_done tag hready hlo hhi hd hrole hvalue hcounted heq
  · exact refused hne (State.countedFault_divergent v hhalt hunit hpass hdiv)
  · exact refused hne (State.countedFault_spent v hhalt hunit hpass hdiv hfree hleft)

end Sys2Proof.Machine
end

section
/-! PROOFS. A cold reset prevails over a warm one (R636): the pin WRST_N is ignored, the state of a cold reset by RST_N stands
once the command is settled, and the later of two state commands asks for a reset only when it is the cold one. That R636
holds of commands whose reset has not begun, and of a low of RST_N from 1 µs on, is the model's reading. -/

namespace Sys2Proof.Machine

/-! ### WRST_N while it is ignored -/

/-- Neither the instant of a command enters what makes the part ignore WRST_N. -/
@[simp] theorem State.tick_wrstIgnored (s : State) (t : Tick) : (s.tick t).wrstIgnored = s.wrstIgnored := by
  simp [State.wrstIgnored]

/-- A pulse on an ignored WRST_N is no reset, whatever its length (R636). -/
theorem State.wrstLow_ignored {s : State} (held : Nat) (h : s.wrstIgnored = true) : s.wrstLow held = s := by
  simp [State.wrstLow, h]

/-- The row WRST_N_LOW on an ignored pin lets the instant pass and nothing else. -/
theorem exec_wrstNLow_ignored {s : State} (t : Tick) (held : Nat) (h : s.wrstIgnored = true) :
    exec (.wrstNLow t held) s = .next (s.tick t).settle := by
  have hlow : (s.tick t).wrstLow held = s.tick t := State.wrstLow_ignored held (by rwa [State.tick_wrstIgnored])
  exact congrArg (fun u => Host.Outcome.next (State.settle u)) hlow

/-- With RST_N or PWRGD low the part ignores WRST_N. -/
theorem State.wrstIgnored_of_low {s : State} (h : s.dev.rstN = false ∨ s.dev.pwrgd = false) : s.wrstIgnored = true := by
  rcases h with h | h <;> simp [State.wrstIgnored, h]

/-- While a cold reset holds, or waits for its work, the part ignores WRST_N. -/
theorem State.wrstIgnored_of_cold {s : State} (hwarm : s.dev.warm = false)
    (h : s.dev.phase = .held ∨ s.dev.phase = .finishing) : s.wrstIgnored = true := by
  rcases h with h | h <;> simp [State.wrstIgnored, hwarm, h]

/-! ### The cold reset of RST_N -/

/-- After a cold reset nothing is left of what earlier commands called for. -/
theorem State.beginReset_cold_calm (s : State) (cause : Nat) : (s.beginReset false cause).Calm := by
  refine ⟨rfl, ?_, rfl, rfl, ?_, rfl, rfl, rfl, ?_, ?_⟩
  · exact fun _ hp => absurd hp List.not_mem_nil
  · exact fun _ hn => absurd hn List.not_mem_nil
  · exact fun hst => nomatch hst
  · exact fun _ hl => absurd hl List.not_mem_nil

/-- So only the words of the sideband follow from it. -/
theorem State.beginReset_cold_settle (s : State) (cause : Nat) :
    (s.beginReset false cause).settle = (s.beginReset false cause).sideWords := by
  rw [State.settle_calm _ (s.beginReset_cold_calm cause)]
  exact State.devSync_outOfService _ rfl

/-- A low of RST_N that is no glitch begins a cold reset of cause 0x02, whatever reset runs (R635). -/
theorem State.rstLow_resets {s : State} {held : Nat} (hheld : Config.us ≤ held) (hrst : s.dev.rstN = true)
    (hpwr : s.dev.pwrgd = true) : s.rstLow held = (s.setPins false s.dev.wrstN true).beginReset false 2 := by
  have hlong : ¬ held < Config.us := Nat.not_lt.2 hheld
  simp [State.rstLow, State.setPins, hlong, hrst, hpwr]

/-- What the row RST_N_LOW leaves: the cold reset and the words of the sideband. -/
theorem exec_rstNLow_resets {s : State} (t : Tick) {held : Nat} (hheld : Config.us ≤ held) (hrst : s.dev.rstN = true)
    (hpwr : s.dev.pwrgd = true) : exec (.rstNLow t held) s =
      .next (((s.tick t).setPins false s.dev.wrstN true).beginReset false 2).sideWords := by
  have hlow : (s.tick t).rstLow held = ((s.tick t).setPins false s.dev.wrstN true).beginReset false 2 := by
    rw [State.rstLow_resets hheld (by rwa [State.tick_dev]) (by rwa [State.tick_dev]), State.tick_dev]
  rw [← State.beginReset_cold_settle, ← hlow]
  rfl

/-! ### State commands -/

@[simp] theorem State.begun_dev (s : State) (p : Path) : (s.begun p).dev = s.dev := by cases p <;> rfl
@[simp] theorem State.begun_faults (s : State) (p : Path) : (s.begun p).faults = s.faults := by cases p <;> rfl

/-- The device state and an object are written in either order. -/
theorem State.setObj_dev_comm (s : State) (idx sub v : Nat) (d : Dev) :
    ({ s.setObj idx sub v with dev := d } : State) = ({ s with dev := d } : State).setObj idx sub v := by
  unfold State.setObj State.setObjI
  split <;> rfl

theorem leNat_singleton (c : Byte) : leNat [c] = c.toNat := by simp [leNat]

/-- The row of the state command 0x1100:02 (R655). -/
def stateCmdDesc : ObjDesc := ⟨0x1100, 0x1100, 0x2, 0x2, 2, 1, 6, .volatile, 2, .range 1 6, [], 0x0⟩

@[simp] theorem stateCmdDesc_len : stateCmdDesc.len = 1 := rfl
@[simp] theorem stateCmdDesc_states : stateCmdDesc.states = [] := rfl
theorem objDesc_stateCmd : objDesc 0x1100 2 = some stateCmdDesc := by decide
theorem objTop_stateCmd : (objTop 0x1100).isSome = true := by decide
theorem waitsForFlash_stateCmd : waitsForFlash 0x1100 2 = false := by decide

/-- A state command of the table passes the checks of R702 for a maintainer, where its row of R655 allows it. -/
theorem State.admits_stateCmd {s : State} {p : Path} {c : Byte} (hrole : 2 ≤ s.roleOf p)
    (hrange : 1 ≤ c.toNat ∧ c.toNat ≤ 6) (hok : s.stateCmdOk c.toNat = true) : s.admits p 0x1100 2 [c] = true := by
  have hin : ¬ (c.toNat < 1 ∨ 6 < c.toNat) := by omega
  have hlegal : legalFault stateCmdDesc c.toNat = none := by
    simp only [legalFault, stateCmdDesc, hin, decide_false, refuseIf_false]
  refine (State.admits_iff s p 0x1100 2 [c] stateCmdDesc objDesc_stateCmd).2 ⟨by decide, hrole, ?_, ?_, ?_⟩
  · simp [State.valueFault, State.ownFault, leNat_singleton, hlegal]
  · simp [State.devFault, State.haltRefuses]
  · simp [State.stateFault, leNat_singleton, hok]

/-- A state command on a ready path is done at once: its value is written and its row of R655 carried out. -/
theorem State.at_stateCmd {s : State} {t : Tick} {p : Path} (tag : Nat) {c : Byte} {f : State → State}
    (hready : (s.tick t).Ready p) (hrole : 2 ≤ (s.tick t).roleOf p) (hrange : 1 ≤ c.toNat ∧ c.toNat ≤ 6)
    (hok : ((s.tick t).begun p).stateCmdOk c.toNat = true)
    (hf : (((s.tick t).begun p).setObj 0x1100 2 c.toNat).stateCmd c.toNat = f ((s.tick t).begun p)) :
    s.at_ t (fun s => s.request p 2 tag 0x1100 2 [c]) = s.writeDone t p tag 0x1100 2 [c] f := by
  refine State.at_write_done s hready (by decide) (by decide) (by decide) (by decide) (by decide) (by decide)
    objDesc_stateCmd objTop_stateCmd (by decide) ?_ ?_ rfl waitsForFlash_stateCmd
  · exact State.admits_stateCmd (by rwa [State.begun_roleOf]) hrange hok
  · rw [leNat_singleton, ← hf]
    rfl

/-- A cold reset asked for replaces a warm one that has not begun (R636). -/
theorem State.stateCmd_cold_over_warm {s : State} {t0 : Tick} (h : s.dev.cmd = some (5, t0)) :
    s.stateCmd 6 = { s with dev := { s.dev with cmd := some (6, s.clock.now + Config.ms) } } := by
  simp [State.stateCmd, h]

/-- A warm reset asked for does not replace a cold one that has not begun (R636). -/
theorem State.stateCmd_warm_under_cold {s : State} {t0 : Tick} (h : s.dev.cmd = some (6, t0)) : s.stateCmd 5 = s := by
  simp [State.stateCmd, h]

/-- The row COLD_RESET_COMMAND while a warm reset waits: the cold one waits in its place, 1 ms from now. -/
theorem exec_coldResetCommand_over_warm {s : State} {t : Tick} {p : Path} (tag : Nat) {t0 : Tick}
    (hready : (s.tick t).Ready p) (hrole : 2 ≤ (s.tick t).roleOf p) (hcmd : s.dev.cmd = some (5, t0)) :
    exec (.coldResetCommand t p tag) s = .next (s.writeDone t p tag 0x1100 2 [6] (fun v => ({ v with dev := { v.dev with
      cmd := some (6, (s.tick t).clock.now + Config.ms) } } : State).setObj 0x1100 2 6)) := by
  refine congrArg Host.Outcome.next (State.at_stateCmd (c := 6) tag hready hrole (by decide) rfl ?_)
  have hwait : (((s.tick t).begun p).setObj 0x1100 2 6).dev.cmd = some (5, t0) := by simpa using hcmd
  refine (State.stateCmd_cold_over_warm hwait).trans ?_
  rw [State.setObj_dev_comm, State.setObj_dev, State.setObj_clock, State.begun_clock]

/-- The row WARM_RESET_COMMAND while a cold reset waits: the value is written, the cold reset still waits for its time. -/
theorem exec_warmResetCommand_under_cold {s : State} {t : Tick} {p : Path} (tag : Nat) {t0 : Tick}
    (hready : (s.tick t).Ready p) (hrole : 2 ≤ (s.tick t).roleOf p) (hcmd : s.dev.cmd = some (6, t0))
    (htrip : s.faults.tripped = false) : exec (.warmResetCommand t p tag) s =
      .next (s.writeDone t p tag 0x1100 2 [5] (fun v => v.setObj 0x1100 2 5)) := by
  have hok : ((s.tick t).begun p).stateCmdOk 5 = true := by simp [State.stateCmdOk, htrip]
  have hwait : (((s.tick t).begun p).setObj 0x1100 2 5).dev.cmd = some (6, t0) := by simpa using hcmd
  exact congrArg Host.Outcome.next
    (State.at_stateCmd (c := 5) tag hready hrole (by decide) hok (State.stateCmd_warm_under_cold hwait))

/-- Settles O59: the part ignores WRST_N under RST_N, under PWRGD and in a cold reset; RST_N resets it in every state, and a
cold reset leaves it calm, so its state stands; of the two reset commands only the cold one displaces the other. -/
theorem coldResetPrevails : Obligations.ColdResetPrevails := by
  unfold Obligations.ColdResetPrevails
  intro s t held u
  refine ⟨fun hlow => ?_, fun hwarm hphase => ?_, fun hheld hrst hpwr => ?_, fun p tag hready hrole => ⟨?_, ?_⟩⟩
  · exact exec_wrstNLow_ignored t held (State.wrstIgnored_of_low hlow)
  · exact exec_wrstNLow_ignored t held (State.wrstIgnored_of_cold hwarm hphase)
  · exact ⟨_, exec_rstNLow_resets t hheld hrst hpwr, rfl, rfl, rfl, rfl⟩
  · exact fun t0 hcmd => exec_coldResetCommand_over_warm tag hready hrole hcmd
  · exact fun t0 hcmd htrip => exec_warmResetCommand_under_cold tag hready hrole hcmd htrip

end Sys2Proof.Machine
end

section
/-! PROOFS. Every step keeps the followed states (R473, R481, R495, R550, R591, R655): what a command leaves is settled, and a
settled state is followed whatever it was; a stage operation changes nothing that the followed states speak of. -/

namespace Sys2Proof.Machine

/-! ### What settling the device state leaves as it is -/

@[simp] theorem Sideband.take_safe (x : Sideband) (permit : Bool) (commit : Nat) : (x.take permit commit).safe = x.safe := by
  unfold Sideband.take; split <;> rfl

/-- Claim cells stop in HALT and in BOOT, which are no states of service (R474). -/
theorem DevState.not_halt_of_inService {d : DevState} (h : d.inService = true) :
    (d != .halt) = true ∧ (d != .boot) = true := by
  cases d <;> simp_all [DevState.inService]

@[simp] theorem State.sideWords_claimHead (s : State) : s.sideWords.claimHead = s.claimHead := rfl

@[simp] theorem State.sideWords_claimsRun (s : State) : s.sideWords.claimsRun = s.claimsRun := by
  simp [State.claimsRun, State.sideWords_eq]

/-- Between two states of service claim cells go on as before. -/
theorem State.enter_claimsRun (s : State) {d : DevState} (hs : s.dev.st.inService = true) (hd : d.inService = true) :
    (s.enter d).claimsRun = s.claimsRun := by
  obtain ⟨hhalt, hboot⟩ := DevState.not_halt_of_inService hs
  obtain ⟨hhalt', hboot'⟩ := DevState.not_halt_of_inService hd
  simp only [State.claimsRun, State.enter_st, State.enter_pair, State.enter_sbFe, State.enter_sbTm, State.enter_faults,
    hhalt, hboot, hhalt', hboot']

@[simp] theorem State.devSync_claimHead (s : State) : s.devSync.claimHead = s.claimHead := by
  unfold State.devSync
  split <;> simp

@[simp] theorem State.devSync_claimsRun (s : State) : s.devSync.claimsRun = s.claimsRun := by
  unfold State.devSync
  split
  next hs => rw [State.sideWords_claimsRun, State.enter_claimsRun s hs (s.pairDev_inService _)]
  next => rw [State.sideWords_claimsRun]

@[simp] theorem State.devSync_pcie (s : State) : s.devSync.pcie = s.pcie := by
  unfold State.devSync
  split
  next => exact State.enter_pcie s _
  next => rfl

/-- A device state in service that has been settled is the one called for (R481, R655). -/
theorem State.devSync_st (s : State) (h : s.devSync.dev.st.inService = true) :
    s.devSync.dev.st = s.devSync.pairDev s.devSync.degraded := by
  unfold State.devSync at h ⊢
  split
  next => simp
  next hout => simp [hout] at h

/-! ### What ends in SYNC and what claim cells leave as it is -/

/-- Timestamp records wait only while a channel takes them (R591); what the channels serve stands in the channels and the
engines alone. -/
def State.StampsTaken (s : State) : Prop := s.lines.stamps ≠ [] → s.stampChan ≠ none

theorem State.StampsTaken.of_eq {s u : State} (h : s.StampsTaken) (hl : u.lines = s.lines) (hp : u.pcie = s.pcie) :
    u.StampsTaken := by
  have hc : u.stampChan = s.stampChan := by
    simp only [State.stampChan, State.chanServes, State.chan, State.engine, hp]
  unfold State.StampsTaken
  rwa [hl, hc]

/-- Records that find no channel are dropped (R591). -/
theorem State.stampPurge_stampsTaken (s : State) : s.stampPurge.StampsTaken := by
  unfold State.StampsTaken
  cases hchan : s.stampChan with
  | none =>
    have hgone : s.stampPurge.lines.stamps = [] := by
      unfold State.stampPurge
      simp only [hchan]
      split <;> simp_all
    exact fun hsome => absurd hgone hsome
  | some k =>
    unfold State.stampPurge
    simp only [hchan]
    split <;> simp [hchan]

/-- Waiting records, channels and engines are left as they are. -/
abbrev State.SameRecords (s u : State) : Prop := u.lines = s.lines ∧ u.pcie = s.pcie

theorem State.SameRecords.trans {s u v : State} (h : s.SameRecords u) (h' : u.SameRecords v) : s.SameRecords v :=
  ⟨h'.1.trans h.1, h'.2.trans h.2⟩

theorem State.abandon_sameRecords (s : State) (tag cause result : Nat) : s.SameRecords (s.abandon tag cause result) := by
  unfold State.abandon
  split
  next => exact ⟨rfl, rfl⟩
  next => exact ⟨State.msix_lines _ 1, State.msix_pcie _ 1⟩

theorem foldl_sameRecords {α : Type} (f : State → α → State) (h : ∀ (u : State) a, u.SameRecords (f u a))
    (l : List α) (s : State) : s.SameRecords (l.foldl f s) := by
  induction l generalizing s with
  | nil => exact ⟨rfl, rfl⟩
  | cons a l ih => exact (h s a).trans (ih (f s a))

theorem State.dropMirrored_sameRecords (s : State) : s.SameRecords s.dropMirrored := by
  refine foldl_sameRecords _ (fun u tag => ?_) s.pair.mirrored s
  split
  next => exact u.abandon_sameRecords tag 6 0
  next => exact ⟨rfl, rfl⟩

theorem State.stepsTo_sameRecords (s : State) (i n : Nat) (mark : List Byte) : s.SameRecords (s.stepsTo i n mark) := by
  unfold State.stepsTo
  split <;> exact ⟨rfl, rfl⟩

theorem State.syncFail_sameRecords (s : State) : s.SameRecords s.syncFail := by
  have hend : s.SameRecords (match s.resyncSlot with | some i => s.endOp i 3 0 | none => s) := by
    split <;> exact ⟨rfl, rfl⟩
  exact hend.trans (State.dropMirrored_sameRecords _)

theorem State.syncCheck_sameRecords (s : State) : s.SameRecords s.syncCheck := by
  unfold State.syncCheck
  split
  next => exact ⟨rfl, rfl⟩
  next =>
    split
    next =>
      split
      next i _ => exact s.stepsTo_sameRecords i 157 _
      next => exact ⟨rfl, rfl⟩
    next =>
      split
      next => exact s.syncFail_sameRecords
      next => exact ⟨rfl, rfl⟩

theorem State.claimSync_sameRecords (s : State) : s.SameRecords s.claimSync := by
  unfold State.claimSync
  split <;> exact ⟨rfl, rfl⟩

/-! ### A settled state is followed -/

/-- A member still in SYNC has not reached its sync end (R495). -/
theorem State.syncCheck_syncEnd (s : State) (h : s.syncCheck.pair.st = .sync) :
    s.syncCheck.pair.syncEnd ≠ some s.syncCheck.tx.commit := by
  unfold State.syncCheck at h ⊢
  split at h
  next hst => exact absurd h hst
  next =>
    split at h
    next => exact nomatch h
    next hend =>
      split at h
      next => exact nomatch h
      next => simp_all

theorem State.claimSync_syncEnd (s : State) : s.claimSync.pair.st = s.pair.st ∧ s.claimSync.pair.syncEnd = s.pair.syncEnd ∧
    s.claimSync.tx = s.tx := by
  unfold State.claimSync
  split <;> exact ⟨rfl, rfl, rfl⟩

/-- The claim cell last sent carries what the present one would (R473). -/
theorem State.claimSync_lastCell (s : State) (h : s.claimSync.claimsRun = true) :
    s.claimSync.pair.lastCell = s.claimSync.claimHead := by
  unfold State.claimSync at h ⊢
  split at h
  next hsent => rw [if_pos hsent]; rfl
  next hkept =>
    rw [if_neg hkept]
    by_contra hne
    exact hkept ⟨h, fun e => hne e.symm⟩

/-- Whatever a command leaves, what follows from it leaves a followed state. -/
theorem State.settle_followed (s : State) : s.settle.Followed := by
  unfold State.settle
  generalize s.deficitSync.react.laneWatch.react.puntPurge = u
  obtain ⟨_, _, _, _, hpair, htx, _, _, _⟩ := u.stampPurge.syncCheck.claimSync.devSync_keeps
  obtain ⟨hst, hend, hcommit⟩ := u.stampPurge.syncCheck.claimSync_syncEnd
  refine ⟨State.devSync_st _, fun hrun => ?_, fun hsync => ?_, ?_⟩
  · rw [State.devSync_claimsRun] at hrun
    rw [State.devSync_claimHead, hpair]
    exact State.claimSync_lastCell _ hrun
  · rw [hpair, hst] at hsync
    rw [hpair, htx, hend, hcommit]
    exact State.syncCheck_syncEnd _ hsync
  · obtain ⟨hlines, hpcie⟩ := (u.stampPurge.syncCheck_sameRecords).trans (State.claimSync_sameRecords _)
    exact (u.stampPurge_stampsTaken).of_eq ((State.devSync_keeps _).2.2.1.trans hlines) ((State.devSync_pcie _).trans hpcie)

/-! ### Rows that settle -/

/-- Every row but a stage operation settles what it leaves. -/
theorem exec_settles (i : Instr) (s : State) (h : stageCtl i = none) : ∃ u : State, exec i s = .next u.settle := by
  cases i <;> simp [stageCtl] at h <;> exact ⟨_, rfl⟩

/-! ### Stage operations -/

/-- Two states that agree in everything a followed state is about. -/
structure State.SameFollowed (s u : State) : Prop where
  dev : u.dev = s.dev
  pair : u.pair = s.pair
  commit : u.tx.commit = s.tx.commit
  records : s.SameRecords u
  degraded : u.degraded = s.degraded
  claimsRun : u.claimsRun = s.claimsRun
  claimHead : u.claimHead = s.claimHead

theorem State.SameFollowed.refl (s : State) : s.SameFollowed s := ⟨rfl, rfl, rfl, ⟨rfl, rfl⟩, rfl, rfl, rfl⟩

theorem State.Followed.of_same {s u : State} (h : s.Followed) (e : s.SameFollowed u) : u.Followed := by
  obtain ⟨hst, hcell, hend, hstamps⟩ := h
  obtain ⟨edev, epair, ecommit, ⟨elines, epcie⟩, edegraded, eruns, ehead⟩ := e
  refine ⟨?_, ?_, ?_, State.StampsTaken.of_eq hstamps elines epcie⟩
  · have hp : u.pairDev u.degraded = s.pairDev s.degraded := by simp only [State.pairDev, epair, edegraded]
    rwa [edev, hp]
  · rwa [eruns, ehead, epair]
  · rwa [epair, ecommit]

/-- A key other than the one set reads as before, in any map, when the value set is no default: nothing is taken out. -/
theorem nget_nset_of_ne_default {k j v d : Nat} (e : Nat) (hj : j ≠ k) (hv : v ≠ d) :
    ∀ m : NMap, nget (nset m k v d) j e = nget m j e
  | [] => by simp [nset, hv, nget, hj.symm]
  | (a, w) :: r => by
    have ih := nget_nset_of_ne_default e hj hv r
    simp only [nset, hv, if_false]
    split
    next hlt =>
      have below (hjk : j < k) : a ≠ j ∧ j < a := by omega
      by_cases hjk : j < k
      · simp [nget, hj.symm, hjk, below hjk]
      · simp [nget, hj.symm, hjk]
    next =>
      split
      next hka => subst hka; simp [nget, hj.symm]
      next => simp only [nget, ih]

/-- An object whose key is another keeps its value when an object is set to a value that is no default. -/
theorem State.setObjI_objI_ne (s : State) {i n k v idx sub inst : Nat} (hkey : objKey idx sub inst ≠ objKey i n k)
    (hv : v ≠ objDfltI i n k) : (s.setObjI i n k v).objI idx sub inst = s.objI idx sub inst := by
  unfold State.setObjI State.objI
  cases objClass i n <;> cases objClass idx sub <;> simp [nget_nset_of_ne_default _ hkey hv]

/-- A notification that finds its queue full is counted at 0x4600:01; every other object keeps its value. -/
theorem State.bump_learnDrop_objI (s : State) {idx sub inst : Nat} (hkey : objKey idx sub inst ≠ objKey 0x4600 1 0) :
    (s.bump 0x4600 1).objI idx sub inst = s.objI idx sub inst := by
  have hdflt : objDfltI 0x4600 1 0 = 0 := by decide
  refine State.setObjI_objI_ne s hkey ?_
  rw [hdflt, counterMax]
  split <;> omega

@[simp] theorem State.bump_learnDrop_record (s : State) : (s.bump 0x4600 1).record = s.record := by
  have hcls : objClass 0x4600 1 = .counter := by decide
  simp [State.bump, State.bumpI, State.setObjI, hcls]

theorem sumOf_congr {α : Type} {f g : α → Nat} : ∀ {l : List α}, (∀ a ∈ l, f a = g a) → sumOf f l = sumOf g l
  | [], _ => rfl
  | a :: l, h => by
    have hhead := h a (by simp)
    have htail : sumOf f l = sumOf g l := sumOf_congr (fun b hb => h b (by simp [hb]))
    simp only [sumOf, hhead, htail]

theorem State.bump_learnDrop_same (s : State) : s.SameFollowed (s.bump 0x4600 1) := by
  have hmode : ∀ p ∈ List.range 128, (s.bump 0x4600 1).obj (0x3000 + p) 1 = s.obj (0x3000 + p) 1 := fun p hp =>
    s.bump_learnDrop_objI (by have := List.mem_range.1 hp; simp only [objKey]; omega)
  have hobj : ∀ {idx sub : Nat}, objKey idx sub 0 ≠ objKey 0x4600 1 0 → (s.bump 0x4600 1).obj idx sub = s.obj idx sub :=
    fun h => s.bump_learnDrop_objI h
  have hrate : (s.bump 0x4600 1).lineRate = s.lineRate := by
    refine sumOf_congr (fun p hp => ?_)
    simp only [State.servedRate, State.portRate, hmode p hp, State.bump_dict]
  have hup : (s.bump 0x4600 1).portsUp = s.portsUp := by
    unfold State.portsUp
    rw [Bool.eq_iff_iff, List.all_eq_true, List.all_eq_true]
    exact forall₂_congr fun p hp => by rw [hmode p hp]; simp [State.linkUp, State.port]
  refine ⟨by simp, by simp, by simp, ⟨by simp, by simp⟩, ?_, ?_, ?_⟩
  · have hfloor := hobj (idx := 0x7200) (sub := 1) (by decide)
    have hblocks := hobj (idx := 0x7200) (sub := 2) (by decide)
    have hlanes := hobj (idx := 0x6000) (sub := 4) (by decide)
    simp only [State.degraded, State.pipesInService, State.lanesLeft, State.lanesNeeded, hrate, hfloor, hblocks, hlanes,
      State.bump_learnDrop_record, State.bump_faults, State.bump_survey]
    rfl
  · simp [State.claimsRun]
  · have hmember := hobj (idx := 0x6800) (sub := 3) (by decide)
    simp only [State.claimHead, State.claimNo, State.claimFlags, State.handoverReady, hup, hmember, State.bump_pair,
      State.bump_tx]

theorem State.setCtx_same (s : State) (c : Ctx) : s.SameFollowed (s.setCtx c) :=
  ⟨rfl, rfl, rfl, ⟨rfl, rfl⟩, rfl, rfl, rfl⟩

theorem State.queueLearn_same (s : State) (dir : Dir) (n : Learn) : s.SameFollowed (s.queueLearn dir n) := by
  unfold State.queueLearn
  cases dir <;>
  · simp only
    split
    next => exact ⟨rfl, rfl, rfl, ⟨rfl, rfl⟩, rfl, rfl, rfl⟩
    next => exact s.bump_learnDrop_same

theorem State.SameFollowed.trans {s u v : State} (h : s.SameFollowed u) (h' : u.SameFollowed v) : s.SameFollowed v :=
  ⟨h'.dev.trans h.dev, h'.pair.trans h.pair, h'.commit.trans h.commit, h.records.trans h'.records,
    h'.degraded.trans h.degraded, h'.claimsRun.trans h.claimsRun, h'.claimHead.trans h.claimHead⟩

/-- A stage operation is of no account to a followed state when its effect outside its context is not. -/
theorem State.stageOp_same (s : State) (o : OpCtl) (f : State → Ctx → State × Ctx) (h : ∀ c, s.SameFollowed (f s c).1) :
    s.SameFollowed (s.stageOp o f) := by
  unfold State.stageOp
  split
  next => exact .refl s
  next =>
    split
    next => exact .refl s
    next c _ =>
      split
      next => exact (h c).trans (State.setCtx_same _ _)
      next => exact s.setCtx_same c

theorem execLearn_same (o : OpCtl) (n : Nat) (key : List Src) (s : State) :
    ∃ u, execLearn o n key s = .next u ∧ s.SameFollowed u := by
  refine ⟨_, rfl, s.stageOp_same o _ (fun c => ?_)⟩
  simp only
  split
  next => exact s.queueLearn_same c.dir _
  next => exact .refl s

/-- Besides its context a stage operation changes at most the counter pairs, the free values or the learning queues. -/
theorem exec_stage_same (i : Instr) (s : State) (o : OpCtl) (h : stageCtl i = some o) :
    ∃ u, exec i s = .next u ∧ s.SameFollowed u := by
  have ctxOnly (o : OpCtl) (f : Ctx → Ctx) : s.SameFollowed (s.ctxOp o f) := s.stageOp_same o _ (fun _ => .refl s)
  cases i <;> simp [stageCtl] at h
  case learn o n key => exact execLearn_same o n key s
  case count o a b => exact ⟨_, rfl, s.stageOp_same o _ (fun _ => ⟨rfl, rfl, rfl, ⟨rfl, rfl⟩, rfl, rfl, rfl⟩)⟩
  case meter o a d => exact ⟨_, rfl, s.stageOp_same o _ (fun _ => ⟨rfl, rfl, rfl, ⟨rfl, rfl⟩, rfl, rfl, rfl⟩)⟩
  all_goals exact ⟨_, rfl, ctxOnly _ _⟩

/-- Settles O2: a row either settles what it leaves, which makes any state a followed one, or is a stage operation, which
changes nothing that a followed state is about. -/
theorem stepKeepsTheFollowedStates : Obligations.StepKeepsTheFollowedStates := by
  unfold Obligations.StepKeepsTheFollowedStates
  intro s s' hs hstep
  unfold step at hstep
  split at hstep
  next => rwa [← Host.Outcome.next.inj hstep]
  next i rest _ =>
    have hrest : State.Followed { s with pending := rest } := hs
    cases hctl : stageCtl i with
    | none =>
      obtain ⟨u, hu⟩ := exec_settles i { s with pending := rest } hctl
      rw [← Host.Outcome.next.inj (hu.symm.trans hstep)]
      exact u.settle_followed
    | some o =>
      obtain ⟨u, hu, hsame⟩ := exec_stage_same i { s with pending := rest } o hctl
      rw [← Host.Outcome.next.inj (hu.symm.trans hstep)]
      exact hrest.of_same hsame

end Sys2Proof.Machine
end

section
/-! PROOFS. TIME carries its second and a phase adjustment runs out (R7, R450): both are the clock's own advance, which a calm
part takes with no more than the words of the sideband. -/

namespace Sys2Proof.Machine

@[simp] theorem State.devSync_clock (s : State) : s.devSync.clock = s.clock := by
  unfold State.devSync
  split
  next => exact State.enter_clock s _
  next => rfl

@[simp] theorem State.devSync_objs (s : State) : s.devSync.objs = s.objs := by
  unfold State.devSync
  split
  next => exact State.enter_objs s _
  next => rfl

@[simp] theorem State.devSync_outbox (s : State) : s.devSync.outbox = s.outbox := by
  unfold State.devSync
  split
  next => exact State.enter_outbox s _
  next => rfl

/-- A later instant advances the clock. -/
theorem State.tick_clock {s : State} {t : Tick} (h : s.clock.now < t) :
    (s.tick t).clock = s.clock.advance (t - s.clock.now) s.freqAdj (s.obj 0x2100 4) := by
  unfold State.tick
  rw [if_neg (Nat.not_le.2 h)]

/-- With nothing to slew the phase stays (R450). -/
theorem slewPart_zero (limit dt : Nat) : slewPart 0 limit dt = 0 := by
  simp only [slewPart, ge_iff_le, Int.le_refl, if_true]
  omega

/-- A phase within the slew limit is slewed whole (R450). -/
theorem slewPart_all {phase : Int} {limit dt : Nat} (h : phase.natAbs ≤ dt * limit * 1024) :
    slewPart phase limit dt = phase := by
  simp only [slewPart]
  generalize dt * limit * 1024 = m at h ⊢
  split <;> omega

/-- With no adjustment and no phase a clock that runs through one whole second carries it. -/
theorem Clock.advance_carry {c : Clock} {dt limit : Nat} (hphase : c.phase = 0)
    (hlo : 1000000000 * Config.timeFine ≤ c.sub + dt * Config.timeUnit)
    (hhi : c.sub + dt * Config.timeUnit < 2 * (1000000000 * Config.timeFine)) :
    (c.advance dt 0 limit).sec = (c.sec + 1) % 2 ^ 48 ∧
      (c.advance dt 0 limit).sub = c.sub + dt * Config.timeUnit - 1000000000 * Config.timeFine := by
  have hsecond : 0 < 1000000000 * Config.timeFine := by decide
  have hslew : slewPart c.phase limit dt = 0 := by rw [hphase, slewPart_zero]
  have htotal : (((c.sec * (1000000000 * Config.timeFine) + c.sub : Nat) : Int) +
      ((dt : Int) * ((Config.timeUnit : Int) + 0) + 0)).toNat =
        (c.sub + dt * Config.timeUnit - 1000000000 * Config.timeFine) + (c.sec + 1) * (1000000000 * Config.timeFine) := by
    have hrest : (c.sec + 1) * (1000000000 * Config.timeFine) =
      c.sec * (1000000000 * Config.timeFine) + 1000000000 * Config.timeFine := Nat.succ_mul _ _
    rw [Int.add_zero, Int.add_zero, ← Int.natCast_mul, ← Int.natCast_add, Int.toNat_natCast]
    omega
  have hless : c.sub + dt * Config.timeUnit - 1000000000 * Config.timeFine < 1000000000 * Config.timeFine := by omega
  simp only [Clock.advance, hslew, htotal]
  refine ⟨?_, ?_⟩
  · rw [Nat.add_mul_div_right _ _ hsecond, Nat.div_eq_of_lt hless, Nat.zero_add]
  · rw [Nat.add_mul_mod_self_right, Nat.mod_eq_of_lt hless]

/-- A row that lets the instant pass and nothing else, on a calm part. -/
theorem State.tick_settle_calm {s : State} (h : s.Calm) (t : Tick) : (s.tick t).settle = (s.tick t).devSync :=
  State.settle_calm _ (s.tick_calm h t)

/-- A clock that is advanced to a later instant stands there. -/
theorem Clock.advance_now {c : Clock} {t : Tick} (adj : Int) (limit : Nat) (h : c.now < t) :
    (c.advance (t - c.now) adj limit).now = t :=
  Nat.add_sub_of_le (Nat.le_of_lt h)

/-- A phase within the slew limit reads zero after it. -/
theorem Clock.advance_phase {c : Clock} {dt limit : Nat} (adj : Int) (h : c.phase.natAbs ≤ dt * limit * 1024) :
    (c.advance dt adj limit).phase = 0 := by
  show c.phase - slewPart c.phase limit dt = 0
  rw [slewPart_all h, Int.sub_self]

/-- Settles O6: the rows are the passing of their instant, and what passes is the clock's advance. -/
theorem timeCarriesAndSlewEnds : Obligations.TimeCarriesAndSlewEnds := by
  unfold Obligations.TimeCarriesAndSlewEnds
  refine ⟨fun s t hcalm hlater hfreq hphase hlo hhi => ?_, fun s t hcalm hlater hslew => ?_⟩
  · obtain ⟨hsec, hsub⟩ := Clock.advance_carry (limit := s.obj 0x2100 4) hphase hlo hhi
    refine ⟨_, congrArg Host.Outcome.next (State.tick_settle_calm hcalm t), ?_⟩
    rw [State.devSync_clock, State.devSync_objs, State.devSync_outbox, State.tick_clock hlater, hfreq, State.tick_objs,
      State.tick_outbox]
    exact ⟨Clock.advance_now _ _ hlater, hsec, hsub, rfl, rfl, rfl⟩
  · refine ⟨_, congrArg Host.Outcome.next (State.tick_settle_calm hcalm t), ?_⟩
    rw [State.devSync_clock, State.devSync_objs, State.devSync_outbox, State.tick_clock hlater, State.tick_objs,
      State.tick_outbox]
    exact ⟨Clock.advance_now _ _ hlater, Clock.advance_phase _ hslew, rfl, rfl⟩

end Sys2Proof.Machine
end

section
/-! PROOFS. The rows that make one dictionary request: what each asks of its path, and that a path which is ready serves it at
once (R42 to R50). -/

namespace Sys2Proof.Machine

/-- The operations of the rows are those of chapter 2, READ to NOP. -/
theorem rowRequest_op {i : Instr} {w : WireReq} (h : rowRequest i = some w) : w.op ≤ 4 := by
  cases i <;> simp only [rowRequest, Option.some.injEq, reduceCtorEq] at h <;> subst h <;> simp

/-- A row that makes one dictionary request is that request, at its instant. -/
theorem exec_rowRequest {i : Instr} {w : WireReq} (h : rowRequest i = some w) (s : State) :
    exec i s = .next (s.at_ w.t (fun s => s.request w.p w.op w.tag w.idx w.sub w.val)) := by
  cases i <;> simp only [rowRequest, Option.some.injEq, reduceCtorEq] at h <;> subst h <;> rfl

/-- A request row on a ready path, served at once. -/
theorem exec_rowRequest_ready {i : Instr} {w : WireReq} {s : State} (h : rowRequest i = some w)
    (hready : (s.tick w.t).Ready w.p) (hchunk : (s.tick w.t).noChunk w.op w.idx w.sub) :
    exec i s = .next ((((s.tick w.t).begun w.p).serve ((s.tick w.t).reqOn w.p w.op w.tag w.idx w.sub w.val)).settle) := by
  rw [exec_rowRequest h, State.at_, State.request_ready _ _ _ _ _ _ _ hready hchunk]

/-- Settles O7: every row of the kind is its request on its path; the only request that a ready path makes wait is a chunk while
the device record is to be written (R621). -/
theorem readyPathServesAtOnce : Obligations.ReadyPathServesAtOnce := by
  unfold Obligations.ReadyPathServesAtOnce
  intro i w s hrow hready hdirty
  refine exec_rowRequest_ready hrow hready ?_
  have hop : w.op % 256 = w.op := Nat.mod_eq_of_lt (by have := rowRequest_op hrow; omega)
  unfold State.noChunk
  rw [hop, State.tick_record]
  by_contra hwaits
  simp only [not_or, not_not] at hwaits
  obtain ⟨hpending, hwrite, hidx, hsub⟩ := hwaits
  exact hpending (hdirty hwrite hidx hsub)

end Sys2Proof.Machine
end

section
/-! PROOFS. READ, DESCRIBE and NOP of a defined object (chapter 2, R702): they pass steps 1 and 2, change nothing but what the
lock's holder has sent, and are answered at once. -/

namespace Sys2Proof.Machine

/-- An object with a row under a defined index is found. -/
theorem findObject_eq_inl {idx sub : Nat} {d : ObjDesc} (ht : (objTop idx).isSome = true) (hd : objDesc idx sub = some d) :
    findObject idx sub = .inl d := by
  have hn : (objTop idx).isNone = false := by simpa using ht
  simp [findObject, hn, hd]

/-- A path that is ready finds the lock of the update session live. -/
theorem State.Ready.lockLive {s : State} {p : Path} (h : s.Ready p) : (s.begun p).update.sess.holder = 0 ∨
    (s.begun p).clock.now < (s.begun p).update.sess.lastReq + 60 * Config.sec := by
  obtain ⟨-, -, -, -, -, -, -, -, hlock⟩ := h
  rwa [State.begun_sess, State.begun_clock]

section serve
variable {s : State} {r : Req} {d : ObjDesc}
  (hl : s.update.sess.holder = 0 ∨ s.clock.now < s.update.sess.lastReq + 60 * Config.sec)
  (hr : r.refuse = none) (hb : r.bad = none) (hf : findObject r.idx r.sub = .inl d)
include hl hr hb hf

/-- A well-formed request to a defined object passes steps 1 and 2 of R702. -/
theorem State.serveReq_found : s.serveReq r =
    if r.op = 4 then (s.noteHolder r, .done []) else (s.noteHolder r).serveObject d r := by
  unfold State.serveReq
  rw [State.lockExpiry_live s hl, hr, hb]
  simp only [hf]

/-- NOP does nothing (R702). -/
theorem State.serveReq_nop (hop : r.op = 4) : s.serveReq r = (s.noteHolder r, .done []) := by
  rw [State.serveReq_found hl hr hb hf, if_pos hop]

/-- DESCRIBE answers the row, whatever the object's access. -/
theorem State.serveReq_describe (hop : r.op = 3) : s.serveReq r = (s.noteHolder r, .done (describe d)) := by
  rw [State.serveReq_found hl hr hb hf, if_neg (by omega), State.serveObject, if_pos hop]

/-- READ answers the value of an object that is not write-only. -/
theorem State.serveReq_read (hop : r.op = 1) (hacc : d.acc ≠ 3) :
    s.serveReq r = (s.noteHolder r, .done ((s.noteHolder r).valueBytes r.idx r.sub)) := by
  have hopen : (s.noteHolder r).accessFault d r = none := by
    simp [State.accessFault, refuseIf, hop, hacc]
  rw [State.serveReq_found hl hr hb hf, if_neg (by omega), State.serveObject, if_neg (by omega), hopen]
  exact if_pos hop

end serve

/-- A request done that is no WRITE is answered with its value, and nothing follows from the answer. -/
theorem State.serve_done_of_op {s s' : State} {r : Req} {v : List Byte} (h : s.serveReq r = (s', .done v)) (hop : r.op ≠ 2) :
    s.serve r = s'.respond r 0 v false := by
  unfold State.serve
  simp [h, State.keyAnswered, hop]

/-- Settles O8: on a ready path each of the rows is its request, which passes steps 1 and 2 of R702 and is done. -/
theorem readDescribeNopAreAnswered : Obligations.ReadDescribeNopAreAnswered := by
  unfold Obligations.ReadDescribeNopAreAnswered
  intro s t p tag idx sub hi hsub hready u r d hd ht
  have hlock : u.update.sess.holder = 0 ∨ u.clock.now < u.update.sess.lastReq + 60 * Config.sec := hready.lockLive
  have hidx (op : Nat) : (r op).idx = idx := State.reqOn_idx _ _ _ _ _ _ _ hi
  have hsubr (op : Nat) : (r op).sub = sub := State.reqOn_sub _ _ _ _ _ _ _ hsub
  have hfind (op : Nat) : findObject (r op).idx (r op).sub = .inl d := by
    rw [hidx, hsubr]; exact findObject_eq_inl ht hd
  have served {op : Nat} {i : Instr} {v : List Byte} (hrow : rowRequest i = some ⟨t, p, tag, op, idx, sub, []⟩)
      (hop : op % 256 ≠ 2) (hs : u.serveReq (r op) = (u.noteHolder (r op), .done v)) :
      exec i s = .next (((u.noteHolder (r op)).respond (r op) 0 v false).settle) := by
    rw [exec_rowRequest_ready hrow hready (.inr (.inl hop))]
    exact congrArg (fun u => Host.Outcome.next (State.settle u)) (State.serve_done_of_op hs hop)
  refine ⟨?_, ?_, fun hacc => ?_⟩
  · exact served rfl (by decide) (State.serveReq_nop hlock rfl rfl (hfind 4) rfl)
  · exact served rfl (by decide) (State.serveReq_describe hlock rfl rfl (hfind 3) rfl)
  · have hread := State.serveReq_read hlock rfl rfl (hfind 1) rfl hacc
    rw [hidx, hsubr] at hread
    exact served rfl (by decide) hread

end Sys2Proof.Machine
end

section
/-! PROOFS. A WRITE and its checks (R702): the order in which they refuse it, and that one of those which the statement
about its effect counts among the plain ones has an effect of its own. -/

namespace Sys2Proof.Machine

/-! ### The effect of a WRITE -/

/-- A part in READY whose I3C target has its dynamic address. -/
def readyPart : State := { State.reset with
  dev := { State.reset.dev with st := .ready }
  dict := { State.reset.dict with i3c := { State.reset.dict.i3c with dyn := 8 } } }

theorem readyPart_ready : (readyPart.tick 1).Ready .i3c := by decide

/-- The aggregate punt bucket at an instant: R155's rate acts from its write on, so the write settles the bucket first. -/
theorem writtenPuntRate_aggAt : (((readyPart.tick 1).begun .i3c).applyWrite ((readyPart.tick 1).requesterOf .i3c) 0x4300 1
    (leNat [0xE8, 3, 0, 0])).flow.aggAt = 1 := by decide

/-- Refutes O9: 0x4300:01, the aggregate punt rate, lies between 0x4000 and 0x4600, but its write does more than take the value:
it brings the token bucket of R155 to the present instant. -/
theorem not_writeTakesEffectAndIsDone : ¬ Obligations.WriteTakesEffectAndIsDone := by
  unfold Obligations.WriteTakesEffectAndIsDone
  intro h
  obtain ⟨-, htakes⟩ := h readyPart 1 .i3c 0 0x4300 1 [0xE8, 3, 0, 0]
    ⟨0x4300, 0x4300, 1, 1, 4, 4, 2, .kept, 2, .range 1000 20000000, [], 0x1312D00⟩ (by decide) (by decide) readyPart_ready
    (by decide) (by decide) (by decide) (by decide) (by decide) (by decide) (by decide) (by decide)
  have hvalueOnly := congrArg (fun u : State => u.flow.aggAt) (htakes (by decide))
  simp only [writtenPuntRate_aggAt] at hvalueOnly
  exact absurd hvalueOnly (by decide)

/-! ### The refusals of a WRITE, in their order -/

section refusals
variable {s : State} {t : Tick} {p : Path} {idx sub : Nat} {val : List Byte} {d : ObjDesc} (tag : Nat)
  (hi : idx < 65536) (hsub : sub < 256) (hready : (s.tick t).Ready p) (hd : objDesc idx sub = some d)
  (ht : (objTop idx).isSome = true) (h9 : idx ≠ 0x9000)
include hi hsub hready hd ht h9

/-- A WRITE of a defined object outside the update session goes to the object. -/
theorem State.serveReq_write_ready : ((s.tick t).begun p).serveReq ((s.tick t).reqOn p 2 tag idx sub val) =
    ((s.tick t).begun p).serveObject d ((s.tick t).reqOn p 2 tag idx sub val) := by
  have hidx := State.reqOn_idx (s.tick t) p 2 tag idx sub val hi
  have hsubr := State.reqOn_sub (s.tick t) p 2 tag idx sub val hsub
  exact State.serveReq_write _ _ d hready.lockLive rfl rfl rfl (by rwa [hidx]) (by rwa [hidx]) (by rwa [hidx, hsubr])

/-- A WRITE that its object refuses is answered with the abort, which is counted. -/
theorem exec_write_refused {c : Nat} (hc : ((s.tick t).begun p).serveObject d ((s.tick t).reqOn p 2 tag idx sub val) =
    (((s.tick t).begun p), .abort c)) : exec (.write t p tag idx sub val) s =
      .next ((((s.tick t).begun p).respondAbort ((s.tick t).reqOn p 2 tag idx sub val) c false).settle) := by
  rw [exec_write_ready s tag val hready hi h9]
  refine congrArg (fun u => Host.Outcome.next (State.settle u)) (State.serve_abort ?_)
  rw [State.serveReq_write_ready tag hi hsub hready hd ht h9, hc]

end refusals

section object
variable {s : State} {r : Req} {d : ObjDesc} (hop : r.op = 2)
include hop

/-- A refusal of step 3 of R702. -/
theorem State.serveObject_refused {c : Nat} (hc : s.accessFault d r = some c) : s.serveObject d r = (s, .abort c) := by
  unfold State.serveObject
  rw [if_neg (by omega), hc]

theorem State.accessFault_readOnly (ha : d.acc = 1) : s.accessFault d r = some (abortCode 2 1 0) := by
  simp [State.accessFault, hop, ha]

theorem State.accessFault_role (ha : d.acc ≠ 1) (hrole : r.role < d.role) :
    s.accessFault d r = some (abortCode 2 3 d.role) := by
  simp [State.accessFault, hop, ha, hrole]

theorem State.accessFault_none (ha : d.acc ≠ 1) (hrole : d.role ≤ r.role) (hC : r.idx ≠ 0xC000) :
    s.accessFault d r = none := by
  have hlow : ¬ r.role < d.role := by omega
  have hother : (r.idx == 0xC000) = false := by simpa using hC
  simp [State.accessFault, hop, ha, hlow, hother, firstFault]

/-- A refusal of step 4. -/
theorem State.serveObject_badValue {c : Nat} (ha : s.accessFault d r = none) (hc : s.valueFault d r.idx r.sub r.val = some c) :
    s.serveObject d r = (s, .abort c) := by
  unfold State.serveObject
  rw [if_neg (by omega), ha]
  simp only [hop, hc]
  rfl

end object

/-- A plain write that the device state does not allow (R44, R45). -/
theorem State.serveWrite_badState {s : State} {r : Req} {d : ObjDesc} {c : Nat} (h5 : d.acc ≠ 5) (h4 : r.idx ≠ 0x4501)
    (h9 : r.idx ≠ 0x9000) (hC : r.idx ≠ 0xC000) (hc : s.devFault d r.idx r.sub = some c) :
    s.serveWrite d r = (s, .abort c) := by
  simp only [State.serveWrite, h5, h4, h9, hC, State.plainWrite, hc, Option.some_or, false_and, if_false]

/-- HALT refuses every write but the state command and transaction records (R45). -/
theorem State.devFault_halt {s : State} {idx sub : Nat} (d : ObjDesc) (hhalt : s.dev.st = .halt)
    (hcmd : ¬ (idx = 0x1100 ∧ sub = 2)) (h4 : idx ≠ 0x4501) : s.devFault d idx sub = some (abortCode 4 1 9) := by
  have hrefused : s.haltRefuses idx sub = true := by
    simpa [State.haltRefuses, hhalt, h4] using not_and_or.1 hcmd
  simp [State.devFault, hrefused, hhalt, DevState.code]

/-- Settles O10: each check refuses once those before it have passed, and what refuses leaves the state as it was. -/
theorem writeAbortsInOrder : Obligations.WriteAbortsInOrder := by
  unfold Obligations.WriteAbortsInOrder
  intro s t p tag idx sub val d hi hsub hready hd ht h5 h4 h9 hC u aborts
  have hidx := State.reqOn_idx (s.tick t) p 2 tag idx sub val hi
  have hsubr := State.reqOn_sub (s.tick t) p 2 tag idx sub val hsub
  have hrole : ((s.tick t).reqOn p 2 tag idx sub val).role = u.roleOf p := (State.begun_roleOf _ _ _).symm
  have refused {c : Nat} (hc : u.serveObject d ((s.tick t).reqOn p 2 tag idx sub val) = (u, .abort c)) : aborts c :=
    exec_write_refused tag hi hsub hready hd ht h9 hc
  have passed (ha : d.acc ≠ 1) (hr : d.role ≤ u.roleOf p) :
      u.accessFault d ((s.tick t).reqOn p 2 tag idx sub val) = none :=
    State.accessFault_none rfl ha (by rwa [hrole]) (by rwa [hidx])
  refine ⟨fun ha => ?_, fun ha hr => ?_, fun ha hr hlen => ?_, fun ha hr hv hhalt hcmd => ?_⟩
  · exact refused (State.serveObject_refused rfl (State.accessFault_readOnly rfl ha))
  · exact refused (State.serveObject_refused rfl (State.accessFault_role rfl ha (by rwa [hrole])))
  · refine refused (State.serveObject_badValue rfl (passed ha hr) ?_)
    exact if_pos hlen
  · refine refused ?_
    rw [State.serveObject_write _ _ d rfl ha (by rwa [hrole]) (by rwa [hidx]) (by rwa [hidx, hsubr])]
    refine State.serveWrite_badState h5 (by rwa [hidx]) (by rwa [hidx]) (by rwa [hidx]) ?_
    rw [hidx, hsubr]
    exact State.devFault_halt d hhalt hcmd h4

end Sys2Proof.Machine
end

section
/-! PROOFS. The commit of a write that waits (R38, R644): it does more than the statement about it allows. -/

namespace Sys2Proof.Machine

/-- A write in effect that waits for flash. -/
def owedWrite : Deferred :=
  ⟨readyPart.reqOn .i3c 2 0 0x2020 2 [1], 0x2020, 2, [0], [1], false, [0], 0⟩

/-- A part in which a write waits for flash while the fuses of another, which a restart of the service core cut off, still
burn (R72, R75). -/
def burningPart : State := { readyPart with
  dev := { readyPart.dev with burn := some owedWrite }
  dict := { readyPart.dict with deferred := [owedWrite] } }

/-- The fuse burn that a row leaves going on. -/
def outcomeBurn : Out → Option Deferred
  | .next u => u.dev.burn
  | _ => none

/-- Refutes O12: the rewrite of the device record, which the commit makes, also ends a fuse burn that went on meanwhile. -/
theorem not_requestsAreServedAndWritesCommitted : ¬ Obligations.RequestsAreServedAndWritesCommitted := by
  unfold Obligations.RequestsAreServedAndWritesCommitted
  intro h
  obtain ⟨-, hcommit⟩ := h
  have hend := congrArg outcomeBurn (hcommit burningPart 0 owedWrite [] 0 [] (by decide) rfl rfl (by decide) rfl)
  have hover : outcomeBurn (exec (.persistentWriteCommit 0) burningPart) = none := by decide
  rw [hover] at hend
  exact absurd hend (by decide)

end Sys2Proof.Machine
end

section
/-! PROOFS. Counted writes that pass the checks of R699: the value is burned, its slots are spent, and the answer waits for the
change record (R72); the baseline re-take starts its pass (R514). -/

namespace Sys2Proof.Machine

/-! ### The checks passed -/

@[simp] theorem firstFault_nil : firstFault [] = none := rfl

section passed
variable {s : State} {idx v : Nat} (hhalt : s.dev.st ≠ .halt)
  (hunit : idx = 0x1203 → s.dev.st = .ready ∨ s.dev.st = .maint)
  (hpass : idx = 0x1204 → s.passRuns = false) (hdiv : s.record.divergent = false)
  (hfree : idx = 0x1204 → (s.freeSlot false).isSome = true) (hleft : s.slotsLeft idx ≠ 0) (hlock : idx = 0x1205 → v ≠ 0)
  (hrise : idx = 0x1200 → v - s.fuses.floor ≤ s.slotsLeft idx)
include hhalt hunit hpass hdiv hfree hleft hlock hrise

/-- No check of the state, the record and the budget refuses the write (R699). -/
theorem State.countedFault_none : s.countedFault idx v = none := by
  have hslot : (idx == 0x1204 && (s.freeSlot false).isNone) = false := by
    by_cases hi : idx = 0x1204
    · simp [hfree hi]
    · simp [hi]
  have hbudget : (s.slotsLeft idx == 0 || (idx == 0x1205 && v == 0)) = false := by
    by_cases hi : idx = 0x1205
    · simp [hleft, hlock hi]
    · simp [hleft, hi]
  have hfloor : (idx == 0x1200 && decide (s.slotsLeft idx < v - s.fuses.floor)) = false := by
    by_cases hi : idx = 0x1200
    · simp [hrise hi]
    · simp [hi]
  rw [State.countedFault_admitted v hhalt hunit hpass, hdiv, hslot, hbudget, hfloor]
  rfl

end passed

/-! ### The burn -/

section burn
variable {s : State} {r : Req} (hv : s.countedValueFault r.idx (leNat r.val) r.val = none)
  (hne : s.countedEqual r.idx (leNat r.val) = false) (hc : s.countedFault r.idx (leNat r.val) = none)
include hv hne hc

/-- A counted write that changes the value burns it (R72). -/
theorem State.countedWrite_burns (hother : r.idx ≠ 0x1204) : s.countedWrite r =
    (({ s with fuses := s.fuses.burn r.idx (leNat r.val) } : State).defer r (s.valueBytes r.idx r.sub) r.val true [0],
      .later) := by
  simp only [State.countedWrite, hv, hne, hc, Bool.false_eq_true, if_false, if_neg hother]

/-- The baseline re-take burns a slot and starts its stepped operation (R514). -/
theorem State.countedWrite_retakes {i : Nat} (hidx : r.idx = 0x1204) (hslot : s.freeSlot false = some i) : s.countedWrite r =
    (({ s with
        fuses := { s.fuses with retakeSpent := s.fuses.retakeSpent + 1 }
        dict := { s.dict with
          nextHandle := nextHandle s.dict.nextHandle
          slots := s.dict.slots.set i ⟨s.dict.nextHandle, 0, 0x1204, 1, r.requester, 0, 294, 0, 0, zeros 12, 0, false,
            baselineArg⟩ } } : State).defer r (s.valueBytes r.idx r.sub) r.val true ([2] ++ leBytes 2 s.dict.nextHandle),
      .later) := by
  have hslot' : ({ s with fuses := s.fuses.burn r.idx (leNat r.val) } : State).freeSlot false = some i := hslot
  simp only [State.countedWrite, hv, hne, hc, Bool.false_eq_true, if_false, if_pos hidx, State.startOp, hslot']
  rw [hidx]
  rfl

end burn

theorem State.begun_slots (s : State) (p : Path) : (s.begun p).dict.slots = s.dict.slots ∧
    (s.begun p).dict.nextHandle = s.dict.nextHandle := by
  cases p <;> exact ⟨rfl, rfl⟩

theorem State.freeSlot_of_slots {s u : State} (h : u.dict.slots = s.dict.slots) (own : Bool) :
    u.freeSlot own = s.freeSlot own := by
  simp only [State.freeSlot, State.slot, h]

/-! ### A counted write on a ready path -/

/-- The octets of a counted object are checked by length and legal range alone (R32). -/
theorem State.valueFault_counted (s : State) {idx : Nat} {d : ObjDesc} {val : List Byte} (hlo : 0x1200 ≤ idx)
    (hhi : idx ≤ 0x1205) (hlen : val.length = d.len) (hlegal : legalFault d (leNat val) = none) :
    s.valueFault d idx 1 val = none := by
  have hown : s.ownFault idx 1 (leNat val) val = none := by interval_cases idx <;> rfl
  have hidx : ¬ (idx = 0x6800 ∧ 1 = 3) := by omega
  rw [State.valueFault, if_neg (not_not.2 hlen), if_neg hidx, hlegal, hown]
  rfl

section ready
variable {s : State} {t : Tick} {p : Path} {tag idx : Nat} {val : List Byte} {d : ObjDesc} {i : Instr}
  (hrow : rowRequest i = some ⟨t, p, tag, 2, idx, 1, val⟩)
  (hready : (s.tick t).Ready p) (hlo : 0x1200 ≤ idx) (hhi : idx ≤ 0x1205)
include hrow hready hlo hhi

/-- A row of a counted object is served at once. -/
theorem exec_counted_served : exec i s =
    .next ((((s.tick t).begun p).serve ((s.tick t).reqOn p 2 tag idx 1 val)).settle) := by
  have hch : (s.tick t).noChunk 2 idx 1 := .inr (.inr (.inl (by omega)))
  rw [exec_rowRequest_ready hrow hready hch]

variable (hd : objDesc idx 1 = some d) (hrole : d.role ≤ (s.tick t).roleOf p) (hlen : val.length = d.len)
  (hlegal : legalFault d (leNat val) = none) (hcounted : s.countedValueFault idx (leNat val) val = none)
  (hne : s.countedEqual idx (leNat val) = false) (hc : s.countedFault idx (leNat val) = none)
include hd hrole hlen hlegal hcounted hne hc

/-- A counted write that passes its checks burns its value; its answer waits for the change record (R72). -/
theorem exec_counted_burns (hother : idx ≠ 0x1204) : exec i s = .next (s.writeLater t p tag idx 1 val true [0]
    (fun u => { u with fuses := u.fuses.burn idx (leNat val) })) := by
  have hidx := State.reqOn_idx (s.tick t) p 2 tag idx 1 val (by omega)
  have hserve := State.serveReq_counted tag hready hlo hhi hd hrole (State.valueFault_counted _ hlo hhi hlen hlegal)
  rw [State.countedWrite_burns ?_ ?_ ?_ (by omega), hidx] at hserve
  · rw [exec_counted_served hrow hready hlo hhi, State.serve_later hserve]
    rfl
  · rwa [hidx, State.reqOn_val, State.begun_countedValueFault, State.tick_countedValueFault]
  · rwa [hidx, State.reqOn_val, State.begun_countedEqual, State.tick_countedEqual]
  · rwa [hidx, State.reqOn_val, State.begun_countedFault, State.tick_countedFault]

/-- The baseline re-take names its handle in the answer that waits (R514, R699). -/
theorem exec_retake_starts {k : Nat} (hretake : idx = 0x1204) (hslot : s.freeSlot false = some k) :
    exec i s = .next (s.writeLater t p tag idx 1 val true ([2] ++ leBytes 2 s.dict.nextHandle) (fun u => { u with
      fuses := { u.fuses with retakeSpent := u.fuses.retakeSpent + 1 }
      dict := { u.dict with
        nextHandle := nextHandle u.dict.nextHandle
        slots := u.dict.slots.set k ⟨u.dict.nextHandle, 0, 0x1204, 1, (s.tick t).requesterOf p, 0, 294, 0, 0, zeros 12, 0,
          false, baselineArg⟩ } })) := by
  have hidx := State.reqOn_idx (s.tick t) p 2 tag idx 1 val (by omega)
  obtain ⟨hslots, hhandle⟩ := (s.tick t).begun_slots p
  rw [State.tick_dict] at hslots hhandle
  have hserve := State.serveReq_counted tag hready hlo hhi hd hrole (State.valueFault_counted _ hlo hhi hlen hlegal)
  rw [State.countedWrite_retakes ?_ ?_ ?_ (hidx.trans hretake) ((State.freeSlot_of_slots hslots false).trans hslot)] at hserve
  · rw [exec_counted_served hrow hready hlo hhi, State.serve_later hserve, hidx, ← hhandle]
    rfl
  · rwa [hidx, State.reqOn_val, State.begun_countedValueFault, State.tick_countedValueFault]
  · rwa [hidx, State.reqOn_val, State.begun_countedEqual, State.tick_countedEqual]
  · rwa [hidx, State.reqOn_val, State.begun_countedFault, State.tick_countedFault]

end ready

/-- What a write in effect leaves depends on its effect in the one state in which it is served. -/
theorem State.writeLater_congr {s : State} {t : Tick} {p : Path} {tag idx sub : Nat} {val answer : List Byte} {counted : Bool}
    {f g : State → State} (h : f ((s.tick t).begun p) = g ((s.tick t).begun p)) :
    s.writeLater t p tag idx sub val counted answer f = s.writeLater t p tag idx sub val counted answer g := by
  simp only [State.writeLater, h]

theorem State.begun_fuses (s : State) (p : Path) : (s.begun p).fuses = s.fuses := by cases p <;> rfl

/-! ### The rows of the counted objects -/

def floorDesc : ObjDesc := ⟨0x1200, 0x1200, 1, 1, 2, 1, 5, .counted, 2, .range 0 128, [], 0⟩
def imageKeyDesc : ObjDesc := ⟨0x1201, 0x1202, 1, 1, 9, 97, 5, .counted, 2, .any, [], 0⟩
def unitDesc : ObjDesc := ⟨0x1203, 0x1203, 1, 1, 3, 2, 5, .counted, 2, .range 0 511, [], 0⟩
def retakeDesc : ObjDesc := ⟨0x1204, 0x1204, 1, 1, 1, 1, 5, .counted, 2, .bool, [], 0⟩
def debugLockDesc : ObjDesc := ⟨0x1205, 0x1205, 1, 1, 1, 1, 5, .counted, 3, .bool, [], 0⟩

theorem objDesc_floor : objDesc 0x1200 1 = some floorDesc := by decide
theorem objDesc_imageKey : ∀ slot < 2, objDesc (0x1201 + slot) 1 = some imageKeyDesc := by decide
theorem objDesc_unit : objDesc 0x1203 1 = some unitDesc := by decide
theorem objDesc_retake : objDesc 0x1204 1 = some retakeDesc := by decide
theorem objDesc_debugLock : objDesc 0x1205 1 = some debugLockDesc := by decide

theorem legalFault_range {d : ObjDesc} {lo hi v : Nat} (h : d.legal = .range lo hi) (hlo : lo ≤ v) (hhi : v ≤ hi) :
    legalFault d v = none := by
  have hin : ¬ (v < lo ∨ hi < v) := by omega
  simp [legalFault, h, hin]

/-- What every counted write of the statement passes: neither HALT nor a divergent record stops it. -/
theorem State.countedFault_of_left {s : State} {idx v : Nat} (hhalt : s.dev.st ≠ .halt) (hdiv : s.record.divergent = false)
    (hplain : idx ≠ 0x1200 ∧ idx ≠ 0x1203 ∧ idx ≠ 0x1204 ∧ idx ≠ 0x1205) (hleft : s.slotsLeft idx ≠ 0) :
    s.countedFault idx v = none := by
  obtain ⟨h0, h3, h4, h5⟩ := hplain
  exact State.countedFault_none hhalt (absurd · h3) (absurd · h4) hdiv (absurd · h4) hleft (absurd · h5) (absurd · h0)

/-- Settles O13: each row is the counted write of its object, which no check of R699 refuses under the conditions given. -/
theorem countedWritesBurnOrRetake : Obligations.CountedWritesBurnOrRetake := by
  unfold Obligations.CountedWritesBurnOrRetake
  refine ⟨fun s t p tag val hready hdiv hhalt hrole => ⟨?_, ?_, ?_, ?_, ?_⟩,
    fun s t p tag k hready hdiv hhalt hrole hpass hslot hleft => ?_⟩
  · intro hlen hmax hrise hbudget hversion
    have hleft : s.slotsLeft 0x1200 ≠ 0 := by simp only [State.slotsLeft]; omega
    have hc : s.countedFault 0x1200 (leNat val) = none :=
      State.countedFault_none hhalt nofun nofun hdiv nofun hleft nofun (fun _ => hbudget)
    have hv : s.countedValueFault 0x1200 (leNat val) val = none := by
      have hkept : ¬ leNat val < s.fuses.floor := by omega
      simp [State.countedValueFault, hkept, Nat.not_lt.2 hversion]
    have hne : s.countedEqual 0x1200 (leNat val) = false := by
      simp [State.countedEqual, State.countedValue, Nat.ne_of_lt hrise]
    exact exec_counted_burns rfl hready (by decide) (by decide) objDesc_floor hrole hlen
      (legalFault_range rfl (Nat.zero_le _) hmax) hv hne hc (by decide)
  · intro hlen hgood hother hnew hverifies hleft
    have hc : s.countedFault 0x1201 (leNat val) = none :=
      State.countedFault_of_left hhalt hdiv (by decide) (by simp only [State.slotsLeft]; omega)
    have hv : s.countedValueFault 0x1201 (leNat val) val = none := by
      have hsame : (leNat val == s.fuses.key1) = false := by simpa using hother
      simp [State.countedValueFault, hgood, hsame, hverifies]
    have hne : s.countedEqual 0x1201 (leNat val) = false := by
      simp [State.countedEqual, State.countedValue, hnew.symm]
    exact exec_counted_burns rfl hready (by decide) (by decide) (objDesc_imageKey 0 (by decide)) hrole hlen rfl hv hne hc
      (by decide)
  · intro hlen hgood hother hnew hverifies hleft
    have hc : s.countedFault 0x1202 (leNat val) = none :=
      State.countedFault_of_left hhalt hdiv (by decide) (by simp only [State.slotsLeft]; omega)
    have hv : s.countedValueFault 0x1202 (leNat val) val = none := by
      have hsame : (leNat val == s.fuses.key0) = false := by simpa using hother
      simp [State.countedValueFault, hgood, hsame, hverifies]
    have hne : s.countedEqual 0x1202 (leNat val) = false := by
      simp [State.countedEqual, State.countedValue, hnew.symm]
    exact exec_counted_burns rfl hready (by decide) (by decide) (objDesc_imageKey 1 (by decide)) hrole hlen rfl hv hne hc
      (by decide)
  · intro hlen hmax hnew hleft hstate
    have hc : s.countedFault 0x1203 (leNat val) = none :=
      State.countedFault_none hhalt (fun _ => hstate) nofun hdiv nofun (by simp only [State.slotsLeft]; omega) nofun nofun
    have hne : s.countedEqual 0x1203 (leNat val) = false := by
      simp [State.countedEqual, State.countedValue, hnew.symm]
    exact exec_counted_burns rfl hready (by decide) (by decide) objDesc_unit hrole hlen
      (legalFault_range rfl (Nat.zero_le _) hmax) rfl hne hc (by decide)
  · rintro rfl hrole3 hopen hleft
    have hc : s.countedFault 0x1205 (leNat [1]) = none :=
      State.countedFault_none hhalt nofun nofun hdiv nofun (by simp only [State.slotsLeft]; omega) (fun _ => by decide) nofun
    have hne : s.countedEqual 0x1205 (leNat [1]) = false := by
      simp only [State.countedEqual, State.countedValue, hopen]
      decide
    rw [exec_counted_burns rfl hready (by decide) (by decide) objDesc_debugLock hrole3 rfl (by decide) rfl hne hc (by decide)]
    refine congrArg Host.Outcome.next (State.writeLater_congr ?_)
    have hspent : ((s.tick t).begun p).fuses.debugSpent = 0 := by rw [State.begun_fuses, State.tick_fuses, hleft]
    simp only [Fuses.burn, hspent]
  · have hc : s.countedFault 0x1204 (leNat [1]) = none :=
      State.countedFault_none hhalt nofun (fun _ => hpass) hdiv (fun _ => by simp [hslot])
        (by simp only [State.slotsLeft]; omega) nofun nofun
    have hne : s.countedEqual 0x1204 (leNat [1]) = false := rfl
    exact exec_retake_starts rfl hready (by decide) (by decide) objDesc_retake hrole rfl (by decide) rfl hne hc rfl hslot

end Sys2Proof.Machine
end

section
/-! PROOFS. The I3C target and the mailbox (R46 to R50, R704, R705): on a calm part each row is one change of the dictionary's
state or one output. -/

namespace Sys2Proof.Machine

/-! ### Rows on a calm part -/

/-- A row that leaves a calm part calm settles the device state and the words of the sideband alone. -/
theorem next_settle_calm {u v : State} (he : u = v) (hv : v.Calm) : (.next u.settle : Out) = .next v.devSync := by
  rw [he, State.settle_calm v hv]

/-- A row whose effect is known before it settles. -/
theorem next_settle_eq {u v : State} (he : u = v) : (.next u.settle : Out) = .next v.settle := by rw [he]

/-- The dictionary's state is none of what keeps a part from being calm; neither are its outputs. -/
theorem State.Calm.withDict {s : State} (h : s.Calm) (d : Dict) : ({ s with dict := d } : State).Calm := h

theorem State.Calm.out {s : State} (h : s.Calm) (o : Output) : (s.out o).Calm := h

@[simp] theorem State.tick_pathsLive (s : State) (t : Tick) : (s.tick t).pathsLive = s.pathsLive := by
  simp [State.pathsLive]

@[simp] theorem State.tick_i3cLive (s : State) (t : Tick) : (s.tick t).i3cLive = s.i3cLive := by
  simp [State.i3cLive]

@[simp] theorem State.tick_obj (s : State) (t : Tick) (idx sub : Nat) : (s.tick t).obj idx sub = s.obj idx sub := by
  simp [State.obj, State.objI]

/-! ### CCCs -/

theorem State.i3cLive_of {s : State} (hlive : s.pathsLive = true) (hdyn : s.dict.i3c.dyn ≠ 0) : s.i3cLive = true := by
  simp [State.i3cLive, hlive, hdyn]

/-- A CCC that sets the target. -/
theorem State.i3cCcc_live {s : State} (t : Tick) (f : I3c → I3c) (hlive : s.pathsLive = true) :
    (s.tick t).i3cCcc f = { s.tick t with dict := { s.dict with i3c := f s.dict.i3c } } := by
  simp [State.i3cCcc, State.mapI3c, hlive]

/-- A CCC that reads from it. -/
theorem State.i3cGet_live {s : State} (t : Tick) (b : List Byte) (hlive : s.i3cLive = true) :
    (s.tick t).i3cGet b = (s.tick t).out (.i3c b) := by
  simp [State.i3cGet, hlive]

/-- Settles O15: each CCC is one change of the target or one output, which leaves a calm part calm. -/
theorem i3cCommandsActAndAnswer : Obligations.I3cCommandsActAndAnswer := by
  unfold Obligations.I3cCommandsActAndAnswer
  refine ⟨?_, ?_⟩
  · intro s t hcalm hlive becomes
    have hc := s.tick_calm hcalm t
    have sets {i : Instr} (f : I3c → I3c) (hi : exec i s = .next (((s.tick t).i3cCcc f).settle)) :
        becomes i (f s.dict.i3c) :=
      hi.trans (next_settle_calm (State.i3cCcc_live t f hlive) (hc.withDict _))
    refine ⟨fun a hfree => ?_, fun n a hfree hown => ?_, ?_, ?_, ?_, fun n => ?_, fun n => ?_, fun a => ?_⟩
    · exact next_settle_calm (by simp [State.entdaa, State.mapI3c, hlive, hfree]) (hc.withDict _)
    · exact next_settle_calm (by simp [State.setdasa, State.mapI3c, hlive, hfree, hown]) (hc.withDict _)
    · exact sets (fun x => { x with dyn := 0 }) rfl
    · exact sets (fun x => { x with ibi := true }) rfl
    · exact sets (fun x => { x with ibi := false }) rfl
    · exact sets (fun x => { x with mwl := min 1036 n }) rfl
    · exact sets (fun x => { x with mrl := min 1036 n }) rfl
    · exact sets (fun x => { x with action := a.val }) rfl
  · intro s t hcalm hlive hdyn answers
    have hc := s.tick_calm hcalm t
    have hi3c := State.i3cLive_of hlive hdyn
    have gets {i : Instr} {b : List Byte} (hi : exec i s = .next (((s.tick t).i3cGet b).settle)) : answers i b :=
      hi.trans (next_settle_calm (State.i3cGet_live t b hi3c) (hc.out _))
    have reads {i : Instr} (b : I3c → List Byte)
        (hi : exec i s = .next (((s.tick t).i3cGet (b (s.tick t).dict.i3c)).settle)) : answers i (b s.dict.i3c) := by
      rw [State.tick_dict] at hi
      exact gets hi
    refine ⟨gets rfl, gets rfl, gets rfl, reads (fun x => beBytes 2 x.mwl) rfl, reads (fun x => beBytes 2 x.mrl) rfl,
      reads (fun x => [byteOf x.action]) rfl, ?_, fun c => ⟨?_, ?_⟩⟩
    · refine next_settle_calm ?_ ((hc.withDict _).out _)
      simp [State.getStatus, State.i3cGet, State.mapI3c, hi3c, State.out]
    · exact next_settle_calm rfl (hc.out _)
    · exact next_settle_calm rfl hc

end Sys2Proof.Machine
end

section
/-! PROOFS. Private transfers of the I3C target, its reset pattern, and the mailbox (R46 to R50, R705). -/

namespace Sys2Proof.Machine

/-! ### Private reads -/

/-- A read transfer takes the rest of the oldest response when the maximum read length holds it (R47). -/
theorem State.i3cRead_rest {s : State} {r : List Byte} {rest : List (List Byte)} (hlive : s.i3cLive = true)
    (hresp : s.dict.i3c.resp = r :: rest) (hlen : r.length ≤ s.dict.i3c.off + s.dict.i3c.mrl) :
    s.i3cRead = (s.out (.i3c (r.drop s.dict.i3c.off))).mapI3c (fun x => { x with resp := rest, off := 0 }) := by
  have hall : (r.drop s.dict.i3c.off).take s.dict.i3c.mrl = r.drop s.dict.i3c.off :=
    List.take_of_length_le (by rw [List.length_drop]; omega)
  have hlast : r.length ≤ s.dict.i3c.off + (r.drop s.dict.i3c.off).length := by rw [List.length_drop]; omega
  simp only [State.i3cRead, hlive, not_true_eq_false, if_false, hresp, hall, if_pos hlast]

/-- It takes the maximum read length of a longer one. -/
theorem State.i3cRead_part {s : State} {r : List Byte} {rest : List (List Byte)} (hlive : s.i3cLive = true)
    (hresp : s.dict.i3c.resp = r :: rest) (hlen : s.dict.i3c.off + s.dict.i3c.mrl < r.length) :
    s.i3cRead = (s.out (.i3c ((r.drop s.dict.i3c.off).take s.dict.i3c.mrl))).mapI3c
      (fun x => { x with off := x.off + s.dict.i3c.mrl }) := by
  have hpart : ((r.drop s.dict.i3c.off).take s.dict.i3c.mrl).length = s.dict.i3c.mrl := by
    rw [List.length_take, List.length_drop]; omega
  have hmore : ¬ r.length ≤ s.dict.i3c.off + s.dict.i3c.mrl := by omega
  simp only [State.i3cRead, hlive, not_true_eq_false, if_false, hresp, hpart, if_neg hmore]

/-- With no response a read transfer is NACKed. -/
theorem State.i3cRead_none {s : State} (hlive : s.i3cLive = true) (hresp : s.dict.i3c.resp = []) : s.i3cRead = s.out .nack := by
  simp only [State.i3cRead, hlive, not_true_eq_false, if_false, hresp]

/-! ### Private writes -/

@[simp] theorem State.tick_unanswered (s : State) (t : Tick) (p : Path) : (s.tick t).unanswered p = s.unanswered p := by
  cases p <;> simp [State.unanswered, State.pathQueue, State.popSess]

/-- A write transfer that the target can hold is its record, arriving on the path (R48). -/
theorem State.i3cWrite_arrives {s : State} {b : List Byte} (hlive : s.i3cLive = true) (hheard : s.pathIgnored .i3c = false)
    (hlen : b.length ≤ s.dict.i3c.mwl) : s.i3cWrite b true = s.arrive (s.reqOfRecord .i3c 0 b none) := by
  simp [State.i3cWrite, hlive, hheard, Nat.not_lt.2 hlen]

/-- Fewer than four requests unanswered: it joins the queue. -/
theorem State.arrive_i3c {s : State} {r : Req} (hp : r.path = .i3c) (hroom : s.unanswered .i3c < 4) :
    s.arrive r = { s with dict := { s.dict with i3c := { s.dict.i3c with queue := s.dict.i3c.queue ++ [r] } } } := by
  have hfull : s.pathFull .i3c = none := by simp [State.pathFull, hroom]
  simp only [State.arrive, hp, hfull]
  rfl

/-- A fifth is aborted (R48). -/
theorem State.arrive_i3c_full {s : State} {r : Req} (hp : r.path = .i3c) (hfull : 4 ≤ s.unanswered .i3c) :
    s.arrive r = (s.hostMis 0x2030 3 r.requester).respondAbort r (abortCode 8 2 4) false := by
  simp [State.arrive, hp, State.pathFull, hfull]

/-! ### The target reset pattern -/

/-- The front end is reset with nothing else, when no request of it waits for flash or for slots (R705). -/
theorem State.i3cReset_plain {s : State} (hflash : s.dict.deferred = []) (hslots : s.tx.waits = []) :
    s.i3cReset = { s with dict := { s.dict with i3c := { s.dict.i3c with queue := [], resp := [], off := 0 } } } := by
  have htx : ({ s.tx with waits := [] } : Tx) = s.tx := by rw [← hslots]
  simp only [State.i3cReset, State.mapI3c, hslots, List.filter_nil, htx, hflash, List.map_nil]

section pattern
variable {s : State} (found : Found) (hlive : s.pathsLive = true)
include hlive

theorem State.targetReset_one (ha : s.dict.i3c.action = 1) : s.targetReset found = s.i3cReset := by
  simp [State.targetReset, hlive, ha]

theorem State.targetReset_two (ha : s.dict.i3c.action = 2) (ht : s.faults.tripped = false) :
    s.targetReset found = (s.beginReset true 6).startBoot found false := by
  simp [State.targetReset, hlive, ha, ht, State.commandedReset]

theorem State.targetReset_tripped (ha : s.dict.i3c.action = 2) (ht : s.faults.tripped = true) : s.targetReset found = s := by
  simp [State.targetReset, hlive, ha, ht]

/-- Any other action does nothing. -/
theorem State.targetReset_other (h1 : s.dict.i3c.action ≠ 1) (h2 : s.dict.i3c.action ≠ 2) : s.targetReset found = s := by
  unfold State.targetReset
  simp only [hlive, not_true_eq_false, if_false]

end pattern

/-! ### The mailbox -/

/-- The clock never goes back. -/
theorem State.tick_now_le (s : State) (t : Tick) : s.clock.now ≤ (s.tick t).clock.now := by
  unfold State.tick
  split
  next => exact Nat.le_refl _
  next => exact Nat.le_add_right _ _

/-- A source that is not ignored is not ignored later either (R62). -/
theorem State.tick_ignores {s : State} (t : Tick) {key : Nat} (h : s.ignores key = false) : (s.tick t).ignores key = false := by
  have hlater := s.tick_now_le t
  simp only [State.ignores, State.hostKey, State.tick_dict, State.tick_faults, Bool.or_eq_false_iff, List.any_eq_false,
    Bool.and_eq_true, decide_eq_true_eq, not_and, Nat.not_lt] at h ⊢
  exact ⟨fun e he hkey => Nat.le_trans (h.1 e he hkey) hlater, h.2⟩

/-- Memory space stands, so an access that is answered now is answered later (R642). -/
theorem State.tick_memOk {s : State} (t : Tick) {who : Nat} (h : s.memOk who = true) : (s.tick t).memOk who = true := by
  simp only [State.memOk, State.tick_pcie, Bool.and_eq_true, Bool.not_eq_true'] at h ⊢
  exact ⟨h.1, State.tick_ignores t h.2⟩

theorem bytesAt_whole {b : List Byte} {n : Nat} (h : b.length = n) : bytesAt b 0 n = b := by
  subst h
  simp [bytesAt]

section go
variable {s : State} {b : List Byte} (hmem : s.memOk 0x2000 = true) (hlive : s.pathsLive = true)
  (hheard : s.pathIgnored .mailbox = false) (hlen : b.length = 4096)
include hmem hlive hheard hlen

/-- GO on an idle mailbox captures the buffer and its record (R49). -/
theorem State.mbxGo_idle (hidle : s.dict.mbx.busy = false) (hfit : 12 + leAt b 8 2 ≤ 4096) : s.mbxGo b =
    { s with dict := { s.dict with mbx := { s.dict.mbx with
      busy := true, reqBuf := b, req := some (s.reqOfRecord .mailbox 0 (b.take (12 + leAt b 8 2)) none) } } } := by
  obtain ⟨hboot, hclock⟩ := Bool.and_eq_true_iff.1 hlive
  simp at hboot hclock
  simp [State.mbxGo, bytesAt_whole hlen, hmem, hheard, hclock, hboot, hidle, State.mailboxTake, Nat.not_lt.2 hfit]

/-- GO on a busy one overruns (R49). -/
theorem State.mbxGo_busy (hbusy : s.dict.mbx.busy = true) : s.mbxGo b =
    ({ s with dict := { s.dict with mbx := { s.dict.mbx with reqBuf := b, ovr := true } } } : State).hostMis
      0x2030 4 0x2000 := by
  obtain ⟨hboot, hclock⟩ := Bool.and_eq_true_iff.1 hlive
  simp at hboot hclock
  simp [State.mbxGo, bytesAt_whole hlen, hmem, hheard, hclock, hbusy, State.mailboxTake]

end go

/-- Settles O16: each row is one of the transfers above, and a calm part that changes in its dictionary alone stays calm. -/
theorem i3cTransfersResetsAndTheMailbox : Obligations.I3cTransfersResetsAndTheMailbox := by
  unfold Obligations.I3cTransfersResetsAndTheMailbox
  refine ⟨?_, ?_, ?_, ?_⟩
  · intro s t hcalm hlive hdyn
    have hc := s.tick_calm hcalm t
    have hi3c : (s.tick t).i3cLive = true := by rw [State.tick_i3cLive]; exact State.i3cLive_of hlive hdyn
    have hdict := s.tick_dict t
    refine ⟨fun hresp => ?_, fun r rest hresp hlen => ?_, fun r rest hresp hlen => ?_⟩
    · rw [← hdict] at hresp
      exact next_settle_calm (State.i3cRead_none hi3c hresp) (hc.out _)
    · rw [← hdict] at hresp hlen ⊢
      exact next_settle_calm (State.i3cRead_rest hi3c hresp hlen) ((hc.withDict _).out _)
    · rw [← hdict] at hresp hlen ⊢
      exact next_settle_calm (State.i3cRead_part hi3c hresp hlen) ((hc.withDict _).out _)
  · intro s t b hlive hdyn hheard hlen
    have hi3c : (s.tick t).i3cLive = true := by rw [State.tick_i3cLive]; exact State.i3cLive_of hlive hdyn
    rw [← s.tick_dict t] at hlen
    rw [← s.tick_unanswered t, ← s.tick_dict t]
    have harrive := State.i3cWrite_arrives hi3c hheard hlen
    refine ⟨fun hroom hcalm => ?_, fun hfull => ?_⟩
    · exact next_settle_calm (harrive.trans (State.arrive_i3c rfl hroom)) ((s.tick_calm hcalm t).withDict _)
    · exact next_settle_eq (harrive.trans (State.arrive_i3c_full rfl hfull))
  · intro s t found hlive
    rw [← s.tick_pathsLive t] at hlive
    rw [← s.tick_dict t, ← s.tick_faults t, ← s.tick_tx t]
    refine ⟨fun ha hflash hslots => ?_, fun ha ht => ?_, fun ha ht => ?_, fun h1 h2 => ?_⟩
    · exact next_settle_eq ((State.targetReset_one found hlive ha).trans (State.i3cReset_plain hflash hslots))
    · exact next_settle_eq (State.targetReset_two found hlive ha ht)
    · exact next_settle_eq (State.targetReset_tripped found hlive ha ht)
    · exact next_settle_eq (State.targetReset_other found hlive h1 h2)
  · intro s t b hmem
    have hmem' := State.tick_memOk t hmem
    rw [← s.tick_pathsLive t, ← s.tick_dict t]
    refine ⟨fun hcalm hlive hheard hidle hlen hfit => ?_, fun hlive hheard hbusy hlen => ?_, fun done ovr hcalm => ?_⟩
    · exact next_settle_calm (State.mbxGo_idle hmem' hlive hheard hlen hidle hfit) ((s.tick_calm hcalm t).withDict _)
    · exact next_settle_eq (State.mbxGo_busy hmem' hlive hheard hlen hbusy)
    · refine next_settle_calm ?_ ((s.tick_calm hcalm t).withDict _)
      simp [State.mbxClear, hmem']

end Sys2Proof.Machine
end

section
/-! PROOFS. POP (R51 to R62): what the part does with a datagram of each type, and the handshake. -/

namespace Sys2Proof.Machine

/-! ### Datagrams by their type -/

/-- A datagram of the form that every POP datagram has goes to its type, counted against the ceiling (R51, R52, R61). -/
theorem State.popReceive_takes {s : State} {src : Peer} {b : List Byte} {ty : Nat} (h : TakesDatagram s src)
    (hform : PopForm b ty) : s.popReceive src false b = s.popRate.2.popByType src b := by
  obtain ⟨hlive, haddr, hheard, hrate⟩ := h
  obtain ⟨hmin, hmax, hhead, -⟩ := hform
  simp [State.popReceive, hlive, haddr, hheard, hrate, Nat.not_lt.2 hmin, Nat.not_lt.2 hmax, hhead]

section types
variable {s : State} (src : Peer) {b : List Byte}

/-- A HELLO (R53): no session, 20 bytes of body, a check of zeros. -/
theorem State.popByType_hello (hty : beAt b 3 1 = 1) (hlen : b.length = 64) (hsid : beAt b 4 4 = 0)
    (hcheck : b.drop 32 = zeros 32) : s.popByType src b = s.popHello src ((b.take 32).drop 12) := by
  have hbody : ((b.take 32).drop 12).length = 20 := by rw [List.length_drop, List.length_take, hlen]; rfl
  simp only [State.popByType, hty, hlen, hsid, hbody, hcheck, ne_eq, not_true_eq_false, or_self, if_false]

/-- A PROOF of a pending handshake (R54). -/
theorem State.popByType_proof {h : PopHs} (hty : beAt b 3 1 = 3)
    (hpending : s.dict.pop.hs.find? (fun h => h.sid == beAt b 4 4 && decide (s.clock.now < h.at_ + 2 * Config.sec)) = some h) :
    s.popByType src b = s.popProof src h (b.take (b.length - 32)) ((b.take (b.length - 32)).drop 12)
      (b.drop (b.length - 32)) := by
  simp only [State.popByType, hty, hpending]

end types

/-! ### The handshake -/

/-- HELLO of a role that nothing stands against: the challenge, with a session ID and a nonce of the part's own; at most four
handshakes are kept (R53, R54). -/
theorem State.popHello_challenges {s : State} (src : Peer) (body : List Byte) (h : s.popRefusal (beAt body 0 1) = none) :
    s.popHello src body = (({ s with
      freeCtr := s.freeCtr + 2
      dict := { s.dict with pop := { s.dict.pop with
        hs := (if 4 ≤ s.dict.pop.hs.length then s.dict.pop.hs.drop 1 else s.dict.pop.hs) ++
          [⟨Config.freeNat s.freeCtr % 2 ^ 32, beAt body 0 1, bytesAt body 4 16, leBytes 16 (Config.freeNat (s.freeCtr + 1)),
            src, s.clock.now⟩] } } } : State).out
      (.datagram src ([0x50, 0x4F, 1, 2] ++ beBytes 4 (Config.freeNat s.freeCtr % 2 ^ 32) ++ zeros 4 ++
        leBytes 16 (Config.freeNat (s.freeCtr + 1)) ++ zeros 32))) := by
  simp only [State.popHello, h]
  rfl

/-- The session of a handshake opens in the lowest free slot and is accepted (R53, R54). -/
theorem State.popOpen_opens {s : State} (src : Peer) {h : PopHs} {i : Nat} (hok : s.popRefusal h.role = none)
    (hfree : (List.range 4).find? (fun i => (s.popSess i).isNone) = some i) :
    s.popOpen src h = (({ s with dict := { s.dict with pop := { s.dict.pop with
      hs := s.dict.pop.hs.filter (fun x => x.sid != h.sid)
      sess := s.dict.pop.sess.set i (some
        { sid := h.sid, role := h.role, key := sessionKey (s.popKey h.role) h.peerNonce h.partNonce h.sid
          label := s.obj 0x2021 (3 + h.role), peer := src, high := 0, seen := [], held := [], queue := [], acc := []
          txSeq := 0, last := s.clock.now }) } } } : State).out
      (.datagram src (popDgram 4 h.sid 0 [] (sessionKey (s.popKey h.role) h.peerNonce h.partNonce h.sid)))) := by
  have hok' : (s.mapPop (fun p => { p with hs := p.hs.filter (fun x => x.sid != h.sid) })).popRefusal h.role = none := hok
  have hfree' : (List.range 4).find? (fun i =>
      ((s.mapPop (fun p => { p with hs := p.hs.filter (fun x => x.sid != h.sid) })).popSess i).isNone) = some i := hfree
  simp only [State.popOpen, hok', hfree']
  rfl

/-- The ceiling's count changes neither the free values drawn nor the handshakes kept. -/
@[simp] theorem State.popRate_freeCtr (s : State) : s.popRate.2.freeCtr = s.freeCtr := rfl

@[simp] theorem State.popRate_hs (s : State) : s.popRate.2.dict.pop.hs = s.dict.pop.hs := rfl

/-- Settles O17: the datagram goes to its type, HELLO is challenged and PROOF opens the session. -/
theorem popHandshakeOpensASession : Obligations.PopHandshakeOpensASession := by
  unfold Obligations.PopHandshakeOpensASession
  refine ⟨?_, ?_⟩
  · intro s t src b htakes hform hlen hsid hcheck v body role hok sid nonce kept
    have hhello := State.popByType_hello (s := v) src hform.2.2.2 hlen hsid hcheck
    have hctr : v.freeCtr = s.freeCtr := by rw [State.popRate_freeCtr, State.tick_freeCtr]
    have hhs : v.dict.pop.hs = s.dict.pop.hs := by rw [State.popRate_hs, State.tick_dict]
    have hchallenge := State.popHello_challenges (s := v) src body hok
    rw [hctr, hhs] at hchallenge
    exact next_settle_eq ((State.popReceive_takes htakes hform).trans (hhello.trans hchallenge))
  · intro s t src b h i htakes hform v n hpending hcheck hbody hok hfree key
    have hproof := State.popByType_proof (s := v) src hform.2.2.2 hpending
    have hopen : v.popProof src h (b.take n) ((b.take n).drop 12) (b.drop n) = v.popOpen src h := by
      simp only [State.popProof, hcheck, hbody, and_self, if_true]
    exact next_settle_eq ((State.popReceive_takes htakes hform).trans
      (hproof.trans (hopen.trans (State.popOpen_opens src hok hfree))))

end Sys2Proof.Machine
end

section
/-! PROOFS. Datagrams of an open POP session (R55 to R57): a repeated request whose responses are not sent yet. -/

namespace Sys2Proof.Machine

/-- A session that has taken request 1 and sent no response to it yet. -/
def waitingSession : PopSess :=
  { sid := 1, role := 2, key := [], label := 0, peer := ⟨1, 7, 700⟩, high := 1, seen := [1], held := [(1, [])], queue := []
    acc := [], txSeq := 0, last := 0 }

/-- A READY part with IPv4 enabled and that session open. -/
def waitingPart : State :=
  let s := (readyPart.setObj 0x2020 2 1).setObj 0x2020 9 100
  { s with dict := { s.dict with pop := { s.dict.pop with sess := [some waitingSession, none, none, none] } } }

/-- Request 1 again. -/
def repeatedRequest : List Byte := popDgram 0x10 1 1 [] []

/-- The counter of discarded repeats after a row. -/
def outcomeDiscarded : Out → Option Nat
  | .next u => some (u.obj 0x2030 9)
  | _ => none

/-- Refutes O18: a repeated number whose request holds no datagram yet is not answered, but discarded and counted. -/
theorem not_popSessionTakesItsDatagrams : ¬ Obligations.PopSessionTakesItsDatagrams := by
  unfold Obligations.PopSessionTakesItsDatagrams
  intro h
  obtain ⟨-, hrepeat, -⟩ := h waitingPart 1 ⟨1, 7, 700⟩ repeatedRequest 0x10 0 waitingSession (by decide +kernel)
    (by decide +kernel) (by decide +kernel) (by decide +kernel) (by decide +kernel)
  have hsame := congrArg outcomeDiscarded (hrepeat [] rfl (by decide) (by decide +kernel) (by decide +kernel)
    (by decide +kernel))
  have hcounted : outcomeDiscarded (exec (.popRequest 1 ⟨1, 7, 700⟩ repeatedRequest) waitingPart) = some 1 := by
    decide +kernel
  rw [hcounted] at hsame
  exact absurd hsame (by decide +kernel)

end Sys2Proof.Machine
end

section
/-! PROOFS. POP: discards, timers, the neighbour protocols and changes of a pre-shared key (R51 to R62). -/

namespace Sys2Proof.Machine

/-! ### Discards (R52, R61) -/

section discards
variable {s : State} {src : Peer} (b : List Byte) (h : TakesDatagram s src)
include h

/-- A fragment is counted as kind 0x0B. -/
theorem State.popReceive_fragment : s.popReceive src true b = s.popRate.2.hostMis 0x2030 0xB 0x3FFF := by
  obtain ⟨hlive, haddr, hheard, hrate⟩ := h
  simp [State.popReceive, popNobody, hlive, haddr, hheard, hrate]

/-- So is a datagram above the largest length. -/
theorem State.popReceive_long (hlong : 1472 < b.length) :
    s.popReceive src false b = s.popRate.2.hostMis 0x2030 0xB 0x3FFF := by
  obtain ⟨hlive, haddr, hheard, hrate⟩ := h
  simp [State.popReceive, popNobody, hlive, haddr, hheard, hrate, hlong]

/-- One too short for its form, or with another head, is counted as kind 8. -/
theorem State.popReceive_badForm (hmax : b.length ≤ 1472) (hbad : b.length < 44 ∨ b.take 3 ≠ [0x50, 0x4F, 1]) :
    s.popReceive src false b = s.popRate.2.hostMis 0x2030 8 0x3FFF := by
  obtain ⟨hlive, haddr, hheard, hrate⟩ := h
  simp only [State.popReceive, popNobody, hlive, haddr, hheard, hrate, hbad, Nat.not_lt.2 hmax, not_true_eq_false, or_self,
    if_false, if_true, Bool.false_eq_true]

end discards

/-! ### Timers and neighbours -/

/-- A session idle for its timeout closes; nothing of it waits for flash or slots, and it holds no update session (R55). -/
theorem State.popIdle_closes {s : State} {slot : Nat} {x : PopSess} (hsess : s.popSess slot = some x)
    (hidle : x.last + s.obj 0x2020 7 * Config.sec ≤ s.clock.now) (hflash : s.dict.deferred = []) (hslots : s.tx.waits = [])
    (hholder : s.update.sess.holder ≠ 0x3000 + slot) :
    s.popIdle slot = { s with dict := { s.dict with pop := { s.dict.pop with sess := s.dict.pop.sess.set slot none } } } := by
  have htx : ({ s.tx with waits := [] } : Tx) = s.tx := by rw [← hslots]
  simp only [State.popIdle, hsess, if_pos hidle, State.closePop, hslots, hflash, List.filter_nil, List.map_nil, htx,
    if_neg hholder]

/-- The part answers for its own address (R51). -/
theorem State.neighbour_own {s : State} {k : NeighbourMsg} {a : Nat} (src : Peer) (hlive : s.pathsLive = true) (ha : a ≠ 0)
    (hown : a = s.ownAddress k) : s.neighbour k (isV6 k) a src = s.out (.neighbour k src) :=
  if_pos ⟨hlive, rfl, ha, hown⟩

@[simp] theorem State.tick_ownAddress (s : State) (t : Tick) (k : NeighbourMsg) : (s.tick t).ownAddress k = s.ownAddress k := by
  cases k <;> simp [State.ownAddress]

/-! ### Pre-shared keys (R38, R60) -/

/-- The row of a role's pre-shared key: the third is written by the highest role alone. -/
def keyDesc (k : Fin 3) : ObjDesc :=
  ⟨0x2021, 0x2021, if k = 2 then 3 else 1, if k = 2 then 3 else 2, 9, 32, 3, .persistent, if k = 2 then 3 else 2, .any, [], 0⟩

theorem objDesc_key : ∀ k : Fin 3, objDesc 0x2021 (k.val + 1) = some (keyDesc k) := by decide

/-- Outside HALT nothing refuses a key of 32 octets to the role that may write it. -/
theorem State.admits_key {s : State} {p : Path} (k : Fin 3) {val : List Byte} (hhalt : s.dev.st ≠ .halt)
    (hlen : val.length = 32) (hrole : (if k = 2 then 3 else 2) ≤ s.roleOf p) : s.admits p 0x2021 (k.val + 1) val = true := by
  have hst : (s.dev.st == .halt) = false := by simpa using hhalt
  refine (State.admits_iff _ p _ _ val _ (objDesc_key k)).2 ⟨?_, hrole, ?_, ?_, ?_⟩
  · exact (by decide : (3 : Nat) ≠ 1)
  · simp [State.valueFault, State.ownFault, legalFault, keyDesc, hlen]
  · simp [State.devFault, State.haltRefuses, hst, keyDesc, refuseIf]
  · simp [State.stateFault]

/-- A key written takes its value, and its answer waits for flash. -/
theorem exec_popKeyWrite {s : State} {t : Tick} {p : Path} (tag : Nat) (k : Fin 3) {val : List Byte}
    (hready : (s.tick t).Ready p) (hdiv : s.record.divergent = false) (hhalt : s.dev.st ≠ .halt) (hlen : val.length = 32)
    (hrole : (if k = 2 then 3 else 2) ≤ (s.tick t).roleOf p) :
    s.at_ t (fun s => s.request p 2 tag 0x2021 (k.val + 1) val) =
      s.writeLater t p tag 0x2021 (k.val + 1) val false [0] (fun u => u.setObj 0x2021 (k.val + 1) (leNat val)) := by
  have hwaits : ∀ k : Fin 3, waitsForFlash 0x2021 (k.val + 1) = true := by decide
  refine State.at_write_later (s := s) hready (by omega) (by omega) (by omega) (by omega) (by omega) (objDesc_key k)
    (by decide) ?_ ?_ ?_ ?_ (hwaits k) ?_
  · exact (by decide : (3 : Nat) ≠ 5)
  · exact State.admits_key k (by simpa using hhalt) hlen (by rwa [State.begun_roleOf])
  · simp [State.applyWrite, State.inst, State.setObj]
  · simp [State.afterFault]
  · rwa [State.tick_record]

/-- The answer to a change of a key closes the sessions of its role (R60). -/
theorem State.commitWrite_key {s : State} {d : Deferred} {rest : List Deferred} (hserves : s.serves = true)
    (howed : s.dict.deferred = d :: rest) (hans : d.answer = [0]) (hidx : d.idx = 0x2021) (hlo : 1 ≤ d.sub) (hhi : d.sub ≤ 3)
    (hnew : d.oldVal ≠ d.newVal) :
    s.commitWrite = (((({ s with dict := { s.dict with deferred := rest } } : State).logDeferred d).rewriteRecord.respond
      d.req 0 [] true).closeRole d.sub) := by
  have hkey : d.idx = 0x2021 ∧ 1 ≤ d.sub ∧ d.sub ≤ 3 ∧ d.oldVal ≠ d.newVal := ⟨hidx, hlo, hhi, hnew⟩
  have hport : ¬ (0x3000 ≤ d.idx ∧ d.idx ≤ 0x307F ∧ d.sub = 1) := by omega
  simp only [State.commitWrite, hserves, not_true_eq_false, if_false, howed, hans, State.keyAnswered, if_pos hkey,
    State.rateAnswered, if_neg hport]
  rfl

/-- Settles O19: each clause is one of the facts above. -/
theorem popDiscardsTimersAndKeys : Obligations.PopDiscardsTimersAndKeys := by
  unfold Obligations.PopDiscardsTimersAndKeys
  refine ⟨?_, ?_, ?_, ?_⟩
  · intro s t src b htakes v
    refine ⟨?_, fun hlong => ?_, fun hshort => ?_, fun _ hmax hhead => ?_⟩
    · exact next_settle_eq (State.popReceive_fragment b htakes)
    · exact next_settle_eq (State.popReceive_long b htakes hlong)
    · exact next_settle_eq (State.popReceive_badForm b htakes (by omega) (.inl hshort))
    · exact next_settle_eq (State.popReceive_badForm b htakes hmax (.inr hhead))
  · intro s t hcalm
    have hc := s.tick_calm hcalm t
    rw [← s.tick_dict t, ← s.tick_pathsLive t, ← s.tick_tx t, ← s.tick_update t]
    refine ⟨fun sid => ?_, fun ip => ?_, fun i x hsess hidle hflash hslots hholder => ?_, fun k a src hlive ha hown => ?_⟩
    · exact next_settle_calm rfl (hc.withDict _)
    · exact next_settle_calm rfl (hc.withDict _)
    · rw [← s.tick_obj t] at hidle
      exact next_settle_calm (State.popIdle_closes hsess hidle hflash hslots hholder) (hc.withDict _)
    · rw [← s.tick_ownAddress t] at hown
      exact next_settle_calm (State.neighbour_own src hlive ha hown) (hc.out _)
  · intro s t p tag k val hready hdiv hhalt hlen hrole
    exact congrArg Host.Outcome.next (exec_popKeyWrite tag k hready hdiv hhalt hlen hrole)
  · intro s t d rest hserves howed hans hidx hlo hhi hnew
    rw [← s.tick_dict t] at howed ⊢
    exact next_settle_eq (State.commitWrite_key hserves howed hans hidx hlo hhi hnew)

end Sys2Proof.Machine
end

section
/-! PROOFS. A verification asked for while an older one still runs (R67, R69, R622). -/

namespace Sys2Proof.Machine

/-- A READY part whose update session, held by the I3C requester, has received its payload, while the verification of an
earlier session that has closed runs on in slot 1 (R69). -/
def reverifyPart : State := { readyPart with
  dict := { readyPart.dict with
    slots := readyPart.dict.slots.set 1 ⟨9, 1, 0x9000, 3, 0x1000, 0, 3, 1, 1, zeros 12, 0, false, 0⟩ }
  update := { readyPart.update with sess := { readyPart.update.sess with
    st := 1, holder := readyPart.requesterOf .i3c, lastReq := readyPart.clock.now } } }

/-- The handle in the first slot of the journal after a row. -/
def outcomeFirstHandle : Out → Option Nat
  | .next u => some (u.slot 0).handle
  | _ => none

/-- Refutes O20: an open verification holds the object (R67), so a second one is refused with its handle and starts nothing. -/
theorem not_steppedOperationsStartStepAndEnd : ¬ Obligations.SteppedOperationsStartStepAndEnd := by
  unfold Obligations.SteppedOperationsStartStepAndEnd
  intro h
  obtain ⟨hstart, -⟩ := h
  obtain ⟨hverify, -⟩ := hstart reverifyPart 1 .i3c 0 0 (by decide +kernel) (by decide) (by decide) rfl (by decide +kernel)
    (by decide) (by decide)
  have hsame := congrArg outcomeFirstHandle hverify
  have hrefused : outcomeFirstHandle (exec (.verify 1 .i3c 0 [1]) reverifyPart) = some 0 := by decide +kernel
  rw [hrefused] at hsame
  exact absurd hsame (by decide +kernel)

end Sys2Proof.Machine
end

section
/-! PROOFS. The journal's slots (R66, R68) and the test access port (R669). -/

namespace Sys2Proof.Machine

/-! ### CANCEL and ACKNOWLEDGE -/

/-- The rows of CANCEL and ACKNOWLEDGE. -/
def journalDesc (sub : Nat) : ObjDesc := ⟨0xC000, 0xC000, sub, sub, 3, 2, 6, .volatile, sub - 1, .any, [], 0⟩

theorem objDesc_journal : ∀ k < 2, objDesc 0xC000 (k + 2) = some (journalDesc (k + 2)) := by decide

section journal
variable {s : State} {r : Req} (hop : r.op = 2) (hidx : r.idx = 0xC000) (hlo : 2 ≤ r.sub) (hhi : r.sub ≤ 3)
  (hrole : 2 ≤ r.role) (hlen : r.val.length = 2) (hhalt : s.dev.st ≠ .halt)
include hop hidx hlo hhi hrole hlen hhalt

/-- Outside HALT nothing refuses a handle of two octets to a role that may cancel any operation. -/
theorem State.serveObject_journal : s.serveObject (journalDesc r.sub) r =
    if r.sub = 2 then s.cancel (leNat r.val) else s.acknowledge (leNat r.val) := by
  have hgood : s.valueFault (journalDesc r.sub) r.idx r.sub r.val = none := by
    simp [State.valueFault, State.ownFault, legalFault, journalDesc, hlen, hidx]
  have hadmitted : s.accessFault (journalDesc r.sub) r = none := by
    have hhigh : ¬ r.role < r.sub - 1 := by omega
    have hany : ¬ r.role < 2 := by omega
    simp [State.accessFault, hop, journalDesc, hhigh, hany]
  have hwrite : s.serveWrite (journalDesc r.sub) r =
      if r.sub = 2 then s.cancel (leNat r.val) else s.acknowledge (leNat r.val) := by
    simp [State.serveWrite, journalDesc, hidx, hhalt]
  unfold State.serveObject
  rw [hadmitted, hgood, ← hwrite]
  simp [hop]

end journal

section ready
variable {s : State} {t : Tick} {p : Path} {tag sub : Nat} {val : List Byte} {i : Instr}
  (hrow : rowRequest i = some ⟨t, p, tag, 2, 0xC000, sub, val⟩) (hready : (s.tick t).Ready p) (hhalt : s.dev.st ≠ .halt)
  (hrole : 2 ≤ (s.tick t).roleOf p) (hlen : val.length = 2) (hlo : 2 ≤ sub) (hhi : sub ≤ 3)
include hready hhalt hrole hlen hlo hhi

/-- CANCEL and ACKNOWLEDGE reach the journal. -/
theorem State.serveReq_journal : ((s.tick t).begun p).serveReq ((s.tick t).reqOn p 2 tag 0xC000 sub val) =
    if sub = 2 then ((s.tick t).begun p).cancel (leNat val) else ((s.tick t).begun p).acknowledge (leNat val) := by
  have hsub := State.reqOn_sub (s.tick t) p 2 tag 0xC000 sub val (by omega)
  have hdesc : objDesc 0xC000 sub = some (journalDesc sub) := by
    have h := objDesc_journal (sub - 2) (by omega)
    rwa [Nat.sub_add_cancel hlo] at h
  rw [State.serveReq_write_ready tag (by omega) (by omega) hready hdesc (by decide) (by omega)]
  have hserved := State.serveObject_journal (s := (s.tick t).begun p) (r := (s.tick t).reqOn p 2 tag 0xC000 sub val) rfl rfl
    (by rwa [hsub]) (by rwa [hsub]) hrole hlen (by simpa using hhalt)
  rw [hsub] at hserved
  exact hserved

include hrow

/-- One that the journal does. -/
theorem exec_journal_done {f : State → State} (hdone : (if sub = 2 then ((s.tick t).begun p).cancel (leNat val)
    else ((s.tick t).begun p).acknowledge (leNat val)) = (f ((s.tick t).begun p), .done [])) :
    exec i s = .next (s.writeDone t p tag 0xC000 sub val f) := by
  have hserve := State.serveReq_journal (tag := tag) hready hhalt hrole hlen hlo hhi
  rw [hdone] at hserve
  rw [exec_rowRequest_ready hrow hready (.inr (.inr (.inl (show 0xC000 % 65536 ≠ 0x9000 by decide)))),
    State.serve_done hserve (by decide : (0xC000 : Nat) ≠ 0x2021)]
  rfl

/-- One that the journal refuses. -/
theorem exec_journal_refused {c : Nat} (hrefused : (if sub = 2 then ((s.tick t).begun p).cancel (leNat val)
    else ((s.tick t).begun p).acknowledge (leNat val)) = ((s.tick t).begun p, .abort c)) :
    exec i s = .next (((((s.tick t).begun p).bump 0x2030 0xD).respond ((s.tick t).reqOn p 2 tag 0xC000 sub val) 1
      (leBytes 4 c) false).settle) := by
  have hserve := State.serveReq_journal (tag := tag) hready hhalt hrole hlen hlo hhi
  rw [hrefused] at hserve
  rw [exec_rowRequest_ready hrow hready (.inr (.inr (.inl (show 0xC000 % 65536 ≠ 0x9000 by decide)))),
    State.serve_abort hserve]
  rfl

end ready

/-! ### What the journal does -/

theorem State.begun_slot (s : State) (p : Path) (i : Nat) : (s.begun p).slot i = s.slot i := by cases p <;> rfl
theorem State.begun_slotOf (s : State) (p : Path) (h : Nat) : (s.begun p).slotOf h = s.slotOf h := by cases p <;> rfl
@[simp] theorem State.tick_slot (s : State) (t : Tick) (i : Nat) : (s.tick t).slot i = s.slot i := by simp [State.slot]
@[simp] theorem State.tick_slotOf (s : State) (t : Tick) (h : Nat) : (s.tick t).slotOf h = s.slotOf h := by
  simp [State.slotOf]

section slots
variable {s : State} {h i : Nat}

theorem State.cancel_unknown (hi : s.slotOf h = none) : s.cancel h = (s, .abort (abortCode 0xA 2 h)) := by
  simp [State.cancel, hi]

theorem State.acknowledge_unknown (hi : s.slotOf h = none) : s.acknowledge h = (s, .abort (abortCode 0xA 2 h)) := by
  simp [State.acknowledge, hi]

variable (hi : s.slotOf h = some i)
include hi

theorem State.cancel_open (hopen : (s.slot i).isOpen = true) (hfree : (s.slot i).fixed = false) :
    s.cancel h = ((s.setObj 0xC000 2 h).setSlot i { s.slot i with cancel := true }, .done []) := by
  simp [State.cancel, hi, hopen, hfree]

theorem State.cancel_fixed (hopen : (s.slot i).isOpen = true) (hfixed : (s.slot i).fixed = true) :
    s.cancel h = (s, .abort (abortCode 0xA 3 h)) := by
  simp [State.cancel, hi, hopen, hfixed]

theorem State.cancel_final (hfinal : (s.slot i).isOpen = false) : s.cancel h = (s.setObj 0xC000 2 h, .done []) := by
  simp [State.cancel, hi, hfinal]

theorem State.acknowledge_final (hfinal : (s.slot i).isOpen = false) (hhost : i < 8) :
    s.acknowledge h = ((s.setObj 0xC000 3 h).setSlot i JSlot.free, .done []) := by
  simp [State.acknowledge, hi, hfinal, Nat.not_le.2 hhost]

theorem State.acknowledge_refused (hkept : (s.slot i).isOpen = true ∨ 8 ≤ i) :
    s.acknowledge h = (s, .abort (abortCode 0xA 4 h)) := by
  simp [State.acknowledge, hi, hkept]

end slots

/-- A slot of host software never frees itself (R66). -/
theorem State.slotExpire_host (s : State) {i : Nat} (hi : i < 8) : s.slotExpire i = s := if_neg (fun h => by omega)

/-- A slot of the part's own does, 60 s after its final state. -/
theorem State.slotExpire_own {s : State} {i : Nat} (hi : 8 ≤ i) (hheld : (s.slot i).handle ≠ 0) (hfinal : 2 ≤ (s.slot i).state)
    (hpast : (s.slot i).final + 60 * Config.sec ≤ s.clock.now) : s.slotExpire i = s.setSlot i JSlot.free :=
  if_pos ⟨hi, hheld, hfinal, hpast⟩

/-! ### The test access port -/

/-- Without the debug lock, or within its list, the port takes the instruction (R669). -/
theorem State.tapLoad_kept (s : State) {i : TapInstr} (hid : i ≠ .idcode)
    (hkept : s.fuses.debugLock = false ∨ ∀ c, i ≠ .other c) : s.tapLoad i = { s with dev := { s.dev with tap := i } } := by
  have hstays : (s.fuses.debugLock && !tapKept i) = false := by
    rcases hkept with hlock | hlist
    · simp [hlock]
    · cases i with
      | other c => exact absurd rfl (hlist c)
      | _ => simp [tapKept]
  simp [State.tapLoad, hstays, hid]

/-- Settles O21: the journal's rows reach the slot that holds the handle; expiry and the port change one field of a
calm part. -/
theorem slotsAreCancelledAcknowledgedAndFreed : Obligations.SlotsAreCancelledAcknowledgedAndFreed := by
  unfold Obligations.SlotsAreCancelledAcknowledgedAndFreed
  refine ⟨?_, ?_⟩
  · intro s t p tag val hready hhalt hrole hlen h aborts
    have hslotOf : ((s.tick t).begun p).slotOf h = s.slotOf h := by rw [State.begun_slotOf, State.tick_slotOf]
    have hslot (i : Nat) : ((s.tick t).begun p).slot i = s.slot i := by rw [State.begun_slot, State.tick_slot]
    have cancels {f : State → State} (hd : ((s.tick t).begun p).cancel h = (f ((s.tick t).begun p), .done [])) :
        exec (.cancel t p tag val) s = .next (s.writeDone t p tag 0xC000 2 val f) :=
      exec_journal_done rfl hready hhalt hrole hlen (by decide) (by decide) hd
    have acknowledges {f : State → State} (hd : ((s.tick t).begun p).acknowledge h = (f ((s.tick t).begun p), .done [])) :
        exec (.acknowledge t p tag val) s = .next (s.writeDone t p tag 0xC000 3 val f) :=
      exec_journal_done rfl hready hhalt hrole hlen (by decide) (by decide) hd
    have cancelAborts {c : Nat} (hc : ((s.tick t).begun p).cancel h = ((s.tick t).begun p, .abort c)) :
        aborts 2 c (.cancel t p tag val) :=
      exec_journal_refused rfl hready hhalt hrole hlen (by decide) (by decide) hc
    have acknowledgeAborts {c : Nat} (hc : ((s.tick t).begun p).acknowledge h = ((s.tick t).begun p, .abort c)) :
        aborts 3 c (.acknowledge t p tag val) :=
      exec_journal_refused rfl hready hhalt hrole hlen (by decide) (by decide) hc
    refine ⟨fun hnone => ?_, fun i hi => ?_⟩
    · rw [← hslotOf] at hnone
      exact ⟨cancelAborts (State.cancel_unknown hnone), acknowledgeAborts (State.acknowledge_unknown hnone)⟩
    · rw [← hslotOf] at hi
      rw [← hslot i]
      refine ⟨fun hopen hfree => ?_, fun hopen hfixed => ?_, fun hfinal => ?_, fun hfinal hhost => ?_, fun hkept => ?_⟩
      · exact cancels (f := fun u => (u.setObj 0xC000 2 h).setSlot i { ((s.tick t).begun p).slot i with cancel := true })
          (State.cancel_open hi hopen hfree)
      · exact cancelAborts (State.cancel_fixed hi hopen hfixed)
      · exact cancels (f := fun u => u.setObj 0xC000 2 h) (State.cancel_final hi hfinal)
      · exact acknowledges (f := fun u => (u.setObj 0xC000 3 h).setSlot i JSlot.free)
          (State.acknowledge_final hi hfinal hhost)
      · exact acknowledgeAborts (State.acknowledge_refused hi hkept)
  · intro s t hcalm
    have hc := s.tick_calm hcalm t
    rw [← s.tick_dict t, ← s.tick_dev t, ← s.tick_fuses t]
    refine ⟨fun i hown hheld hfinal hpast => ?_, fun i hhost => ?_, ?_, fun i hid hkept => ?_, fun c hlock => ?_⟩
    · rw [← s.tick_slot t] at hheld hfinal hpast
      exact next_settle_calm (State.slotExpire_own hown hheld hfinal hpast) (hc.withDict _)
    · exact next_settle_calm (State.slotExpire_host _ hhost) hc
    · refine next_settle_calm ?_ (State.Calm.out (s := { s.tick t with dev := { (s.tick t).dev with tap := .idcode } }) hc _)
      simp [State.tapLoad, tapKept]
    · exact next_settle_calm (State.tapLoad_kept _ hid hkept) hc
    · refine next_settle_calm (v := { s.tick t with dev := { (s.tick t).dev with tap := .bypass } }) ?_ hc
      simp only [State.tapLoad, hlock, tapKept]
      rfl

end Sys2Proof.Machine
end

section
/-! PROOFS. Stage operations whose condition holds (R93 to R95). -/

namespace Sys2Proof.Machine

/-! ### Operations at work -/

section ops
variable {s : State} {o : OpCtl} {c : Ctx} (henter : s.OpEnters o c) (hcond : c.condOk o.cond = true)
include henter hcond

/-- An operation at work whose condition holds has its effect on the context as the bundle found it. -/
theorem State.stageOp_acts (f : State → Ctx → State × Ctx) : s.stageOp o f = (f s c).1.setCtx (f s c).2 := by
  obtain ⟨hruns, hfound⟩ := henter
  obtain ⟨c₀, hctx, hbundle⟩ := Option.bind_eq_some_iff.1 hfound
  unfold State.stageOp
  simp only [hruns, Bool.false_eq_true, if_false, hctx, hbundle, hcond, if_true]

/-- One that changes its context alone. -/
theorem State.ctxOp_acts (f : Ctx → Ctx) : s.ctxOp o f = s.setCtx (f c) := State.stageOp_acts henter hcond _

end ops

/-- A difference modulo 2^w (R95): the subtrahend's complement is added. -/
theorem ofInt_sub (w x y : Nat) : ofInt w ((x : Int) - (y : Int)) = (x + (2 ^ w - y % 2 ^ w)) % 2 ^ w := by
  have hpos : 0 < 2 ^ w := Nat.two_pow_pos w
  have hle : y % 2 ^ w ≤ 2 ^ w := (Nat.mod_lt y hpos).le
  have hdiv := Nat.div_add_mod y (2 ^ w)
  have hsum : ((x : Int) - y) = ((x + (2 ^ w - y % 2 ^ w) : Nat) : Int) - ((2 ^ w : Nat) : Int) * ((y / 2 ^ w : Nat) + 1) := by
    push_cast [hle]
    have hy : (y : Int) = 2 ^ w * (y / 2 ^ w) + y % 2 ^ w := by exact_mod_cast hdiv.symm
    linarith
  unfold ofInt
  rw [hsum, show ((2 : Int) ^ w) = ((2 ^ w : Nat) : Int) by push_cast; rfl, Int.sub_mul_emod_self_left, ← Int.natCast_mod,
    Int.toNat_natCast]

/-- Settles O22: each operation puts its value where its destination says; a difference is taken modulo the width. -/
theorem stageOpWritesItsPlace : Obligations.StageOpWritesItsPlace := by
  unfold Obligations.StageOpWritesItsPlace
  intro s o c d a b henter hcond x y w writes
  have puts {i : Instr} (v : Ctx → Nat) (hi : exec i s = .next (s.ctxOp o (fun c => c.put d (v c)))) : writes i (v c) :=
    hi.trans (congrArg Host.Outcome.next (State.ctxOp_acts henter hcond _))
  refine ⟨puts (fun c => c.src a) rfl, fun imm => puts (fun _ => imm) rfl,
    puts (fun c => (c.src a + c.src b) % 2 ^ destWidth d) rfl, ?_, puts (fun c => c.src a &&& c.src b) rfl,
    puts (fun c => c.src a ||| c.src b) rfl, puts (fun c => c.src a ^^^ c.src b) rfl,
    fun n => puts (fun c => c.src a * 2 ^ n.val % 2 ^ destWidth d) rfl, fun n => puts (fun c => c.src a / 2 ^ n.val) rfl,
    puts (fun c => min (c.src a) (c.src b)) rfl, puts (fun c => max (c.src a) (c.src b)) rfl,
    fun hi lo => puts (fun c => bits (c.src a) hi lo) rfl,
    fun hi lo => puts (fun c => setBits (placeGet c.hv c.temps d) hi lo (c.src a)) rfl,
    fun l seed => puts (fun c => crc32cSeed seed (l.flatMap c.feed)) rfl, puts (fun _ => s.time80) rfl⟩
  rw [← ofInt_sub]
  exact puts (fun c => ofInt (destWidth d) ((c.src a : Int) - (c.src b : Int))) rfl

end Sys2Proof.Machine
end

section
/-! PROOFS. A SELECT beyond the reads of a pass (R81, R179). -/

namespace Sys2Proof.Machine

/-- A context in its first stage that has issued the four central reads of its pass. -/
def spentCtx : Ctx := { State.reset.mkCtx .ingress 0 (lineFrame 0 0 (zeros 64) 0 none) with
  stage := 1, bundle := some 0, bundles := 1, skip := false, reads := 4 }

/-- A part whose ingress program declares five reads. -/
def fiveReadsPart : State := { State.reset with
  flow := { State.reset.flow with ctxs := [spentCtx] }
  tx := { State.reset.tx with progs := [⟨0, 0, zeros 20 ++ [5]⟩] } }

/-- The operation control of the context's first bundle. -/
def firstBundle : OpCtl := ⟨spentCtx.id, 0, none⟩

/-- The context as its first bundle finds it. -/
def spentCtxAtWork : Ctx := (spentCtx.enterBundle 0).getD spentCtx

/-- The reads that the first context has issued after a row. -/
def outcomeReads : Out → List Nat
  | .next u => u.flow.ctxs.map (·.reads)
  | _ => []

/-- Refutes O24: a pass issues at most four central reads whatever its program declares (R81), so this SELECT does nothing. -/
theorem not_stageOpMarksItsContextOrDoesNothing : ¬ Obligations.StageOpMarksItsContextOrDoesNothing := by
  unfold Obligations.StageOpMarksItsContextOrDoesNothing
  intro h
  obtain ⟨hacts, -⟩ := h
  obtain ⟨-, -, -, -, -, hselect, -⟩ :=
    hacts fiveReadsPart firstBundle spentCtxAtWork (.temp 0) (.imm 0) (.imm 0) (by decide +kernel) rfl
  have hsame := congrArg outcomeReads hselect
  have hnone : outcomeReads (exec (.select firstBundle (.temp 0) (.imm 0) (.imm 0)) fiveReadsPart) = [4] := by decide +kernel
  rw [hnone] at hsame
  exact absurd hsame (by decide +kernel)

end Sys2Proof.Machine
end

section
/-! PROOFS. A frame of the BOND-TF stream while the FE body store has granted its cycle's cells (R87, R267). -/

namespace Sys2Proof.Machine

/-- A READY part with a frame of BOND-TF waiting, whose FE body store has granted the cells of this cycle and many more. -/
def grantedPart : State := { readyPart with
  flow := { readyPart.flow with egressIn := [lineFrame 0 0 (zeros 14) 0 none] }
  buf := { readyPart.buf with granted := readyPart.buf.granted.set 3 1000000 } }

/-- What is left of it once the frame is dealt to the first egress pipeline. -/
def dealtPart : State :=
  let u := (grantedPart.tick 1).purgeStale .egress
  (({ u with flow := { u.flow with egressIn := [] } }.dealTo .egress 16 (lineFrame 0 0 (zeros 14) 0 none) 0).feSettle
    grantedPart.flow).settle

/-- The frames of BOND-TF that wait after a row. -/
def outcomeEgressIn : Out → Option Nat
  | .next u => some u.flow.egressIn.length
  | _ => none

/-- Refutes O25: the frame waits for the allocator's next cycle (R267), though a pipeline could take it. -/
theorem not_framesAreTakenAndDealt : ¬ Obligations.FramesAreTakenAndDealt := by
  unfold Obligations.FramesAreTakenAndDealt
  intro h
  obtain ⟨-, hdeal, -⟩ := h
  obtain ⟨hdirs, -⟩ := hdeal
  obtain ⟨-, hegress, -⟩ := hdirs grantedPart 1 rfl
  obtain ⟨hstream, -⟩ := hegress 16 (by decide +kernel)
  have hdealt : exec (.frameDeal 1 .egress) grantedPart = .next dealtPart := hstream _ [] (by decide +kernel)
  have hsame := congrArg outcomeEgressIn hdealt
  have hwaits : outcomeEgressIn (exec (.frameDeal 1 .egress) grantedPart) = some 1 := by decide +kernel
  rw [hwaits] at hsame
  exact absurd hsame (by decide +kernel)

end Sys2Proof.Machine
end

section
/-! PROOFS. The reorder unit and stale epochs (R101, R104, R109). -/

namespace Sys2Proof.Machine

/-! ### Commands of the FE die's data path -/

/-- A command of the data path of the FE die while it runs (R551). -/
theorem State.on_fe {s : State} (t : Tick) (hruns : s.faults.haltFe = false) (f : State → State) :
    s.on t .fe f = (f (s.tick t)).settle := by
  have hfe : (s.tick t).runs .fe = true := by simp [State.runs, hruns]
  simp only [State.on, State.at_, hfe, if_true]

/-- Its outcome, once its effect on the ticked state is known. -/
theorem next_on_fe {s v : State} (t : Tick) (hruns : s.faults.haltFe = false) {f : State → State} (he : f (s.tick t) = v) :
    (.next (s.on t .fe f) : Out) = .next v.settle := by
  rw [State.on_fe t hruns, he]

/-- No cell of a frame has gone when the frames are those that were there (R258). -/
@[simp] theorem State.feSettle_self (s : State) : s.feSettle s.flow = s := by
  have hnone : (s.flow.frames.flatMap (·.cells)).filter (fun n => !(s.flow.frames.flatMap (·.cells)).contains n) = [] := by
    simp [List.filter_eq_nil_iff]
  unfold State.feSettle
  simp only [hnone, List.isEmpty_nil, if_true]

/-! ### Release (R101) -/

section release
variable {s : State} {dom : Nat}

/-- A domain whose oldest number waits releases nothing. -/
theorem State.releaseLeading_waiting (h : ∀ e, s.flow.ro.find? (fun e => e.dom == dom) = some e → e.res = .waiting) (n : Nat) :
    s.releaseLeading dom n = s := by
  cases n with
  | zero => rfl
  | succ n =>
    unfold State.releaseLeading
    split
    next => rfl
    next e he => rw [if_pos (h e he)]

theorem State.releaseDomain_waiting (h : ∀ e, s.flow.ro.find? (fun e => e.dom == dom) = some e → e.res = .waiting) :
    s.releaseDomain dom = s := by
  rw [State.releaseDomain, State.releaseLeading_waiting h, State.feSettle_self]

/-- One whose oldest number is settled releases it, and then what follows it. -/
theorem State.releaseDomain_settled {e : RoEntry} {n : Nat} (he : s.flow.ro.find? (fun e => e.dom == dom) = some e)
    (hset : e.res ≠ .waiting) (hlen : s.flow.ro.length = n + 1) :
    s.releaseDomain dom = ((({ s with flow := { s.flow with
      ro := dropFirst (fun e => e.dom == dom) s.flow.ro } } : State).releaseOne e.res).releaseLeading
        dom n).feSettle s.flow := by
  rw [State.releaseDomain, hlen, State.releaseLeading, he]
  simp only [if_neg hset]

end release

/-! ### The reorder timeout (R104) -/

section timeout
variable {s : State} {dom : Nat}

/-- Nothing ahead of a completed frame is lost where no number of the domain waits. -/
theorem State.loseAhead_settled (l : List RoEntry) (h : ∀ e ∈ l, e.dom = dom → e.res ≠ .waiting) :
    s.loseAhead dom l = (l, 0) := by
  induction l with
  | nil => rfl
  | cons e r ih =>
    have hkept : ¬ (e.dom = dom ∧ e.res = .waiting ∧ r.any (fun x => x.dom == dom && x.res.hasFrame &&
        decide (x.at_ + s.obj 0x4000 1 * Config.ns ≤ s.clock.now))) := fun hc => h e (by simp) hc.1 hc.2.1
    simp only [State.loseAhead, ih (fun x hx => h x (by simp [hx])), if_neg hkept]

/-- Nor where no frame of the domain is complete. -/
theorem State.loseAhead_frameless (l : List RoEntry) (h : ∀ e ∈ l, e.dom = dom → e.res.hasFrame = false) :
    s.loseAhead dom l = (l, 0) := by
  induction l with
  | nil => rfl
  | cons e r ih =>
    have hnone : r.any (fun x => x.dom == dom && x.res.hasFrame &&
        decide (x.at_ + s.obj 0x4000 1 * Config.ns ≤ s.clock.now)) = false := by
      rw [List.any_eq_false]
      intro x hx hc
      simp only [Bool.and_eq_true, beq_iff_eq] at hc
      rw [h x (by simp [hx]) hc.1.1] at hc
      exact absurd hc.1.2 (by decide)
    simp only [State.loseAhead, ih (fun x hx => h x (by simp [hx])), hnone, Bool.false_eq_true, and_false, if_false]

/-- The number that a completed frame has waited behind is lost. -/
theorem State.loseAhead_one {a b : Nat} {res : Settle} {at_ : Tick} {rest : List RoEntry} (hframe : res.hasFrame = true)
    (hdue : at_ + s.obj 0x4000 1 * Config.ns ≤ s.clock.now) (hrest : ∀ e ∈ rest, e.dom = dom → e.res ≠ .waiting) :
    s.loseAhead dom (⟨dom, a, .waiting, 0⟩ :: ⟨dom, b, res, at_⟩ :: rest) =
      (⟨dom, a, .lost, 0⟩ :: ⟨dom, b, res, at_⟩ :: rest, 1) := by
  have hcomplete : res ≠ .waiting := fun hw => by rw [hw] at hframe; exact absurd hframe (by decide)
  have hbehind := State.loseAhead_settled (s := s) (dom := dom) (⟨dom, b, res, at_⟩ :: rest) (by
    intro e he hd
    rcases List.mem_cons.1 he with rfl | he
    · exact hcomplete
    · exact hrest e he hd)
  rw [State.loseAhead, hbehind]
  simp [hframe, hdue]

theorem State.reorderTimeout_none (h : s.loseAhead dom s.flow.ro = (s.flow.ro, 0)) : s.reorderTimeout dom = s := by
  simp [State.reorderTimeout, h]

theorem State.reorderTimeout_one {ro : List RoEntry} (h : s.loseAhead dom s.flow.ro = (ro, 1)) :
    s.reorderTimeout dom = (({ s with flow := { s.flow with ro := ro } } : State).bumpN 0x4001 2 1).raise
      { cls := 3, level := 1, die := 1, object := 0xFFFFFFFF, value := dom, ctrIdx := 0x4001, ctrSub := 2 } := by
  simp [State.reorderTimeout, h]

end timeout

/-- Settles O27: each row is one of the facts above on the ticked state. -/
theorem reorderUnitKeepsOrder : Obligations.ReorderUnitKeepsOrder := by
  unfold Obligations.ReorderUnitKeepsOrder
  refine ⟨?_, fun _ _ _ => ⟨_, rfl⟩, fun _ _ _ => ⟨_, rfl⟩, fun _ _ _ => ⟨_, rfl⟩⟩
  intro s t dom hruns u
  have hflow : u.flow = s.flow := s.tick_flow t
  rw [← hflow]
  refine ⟨fun hwait => ?_, fun e n he hset hlen => ?_, fun a b res at_ rest hro hframe hdue hrest => ?_, fun hnone => ?_,
    fun dir => ?_⟩
  · exact next_on_fe t hruns (State.releaseDomain_waiting hwait)
  · exact next_on_fe t hruns (State.releaseDomain_settled he hset hlen)
  · exact next_on_fe t hruns (State.reorderTimeout_one (by rw [hro]; exact State.loseAhead_one hframe hdue hrest))
  · exact next_on_fe t hruns (State.reorderTimeout_none (State.loseAhead_frameless _ hnone))
  · exact next_on_fe t hruns rfl

end Sys2Proof.Machine
end

section
/-! PROOFS. What an event raised leaves as it was (R544 to R562): everything but the collector, the device state, counters,
messages and the pair's request. -/

namespace Sys2Proof.Machine

/-- What an event leaves as it was. -/
structure State.SameWork (s u : State) : Prop where
  clock : u.clock = s.clock
  dict : u.dict = s.dict
  fuses : u.fuses = s.fuses
  spares : u.record.mem.spares = s.record.mem.spares
  surveyRec : u.record.mem.survey = s.record.mem.survey
  margin : u.record.mem.margin = s.record.mem.margin
  flow : u.flow = s.flow
  tables : u.tables = s.tables
  tx : u.tx = s.tx
  gates : u.gates = s.gates
  streams : u.streams = s.streams
  buf : u.buf = s.buf
  sched : u.sched = s.sched
  fabric : u.fabric = s.fabric
  lanes : u.lanes = s.lanes
  lines : u.lines = s.lines
  survey : u.survey = s.survey
  pcie : u.pcie = s.pcie
  update : u.update = s.update

theorem State.SameWork.refl (s : State) : s.SameWork s := by constructor <;> rfl

theorem State.SameWork.trans {s u v : State} (h : s.SameWork u) (k : u.SameWork v) : s.SameWork v where
  clock := k.clock.trans h.clock
  dict := k.dict.trans h.dict
  fuses := k.fuses.trans h.fuses
  spares := k.spares.trans h.spares
  surveyRec := k.surveyRec.trans h.surveyRec
  margin := k.margin.trans h.margin
  flow := k.flow.trans h.flow
  tables := k.tables.trans h.tables
  tx := k.tx.trans h.tx
  gates := k.gates.trans h.gates
  streams := k.streams.trans h.streams
  buf := k.buf.trans h.buf
  sched := k.sched.trans h.sched
  fabric := k.fabric.trans h.fabric
  lanes := k.lanes.trans h.lanes
  lines := k.lines.trans h.lines
  survey := k.survey.trans h.survey
  pcie := k.pcie.trans h.pcie
  update := k.update.trans h.update

/-- A change made under a condition. -/
theorem State.SameWork.ite {s u : State} (c : Prop) [Decidable c] (h : s.SameWork u) : s.SameWork (if c then u else s) := by
  split
  · exact h
  · exact .refl s

section parts
variable (s : State)

theorem State.setObjI_sameWork (i n k v : Nat) : s.SameWork (s.setObjI i n k v) := by
  unfold State.setObjI
  split <;> constructor <;> rfl

theorem State.bump_sameWork (i n : Nat) : s.SameWork (s.bump i n) := s.setObjI_sameWork _ _ _ _

theorem State.enter_sameWork (d : DevState) : s.SameWork (s.enter d) := by
  unfold State.enter
  split <;> constructor <;> rfl

theorem State.msix_sameWork (v : Nat) : s.SameWork (s.msix v) := by
  unfold State.msix
  split
  · exact .refl s
  · split <;> constructor <;> rfl

theorem State.ibi_sameWork (d : Nat) : s.SameWork (s.ibi d) := by
  unfold State.ibi
  split <;> constructor <;> rfl

theorem State.enterEvent_sameWork (e : Event) : s.SameWork (s.enterEvent e) := by
  unfold State.enterEvent
  split
  · constructor <;> rfl
  · split
    · constructor <;> rfl
    · exact s.bump_sameWork _ _

theorem State.signal_sameWork (level : Nat) : s.SameWork (s.signal level) := by
  have hpulse : s.SameWork (if 2 ≤ level then s.fltPulse else s) := .ite _ (by constructor <;> rfl)
  exact hpulse.trans (.ite _ ((State.msix_sameWork _ 2).trans (State.ibi_sameWork _ 0x46)))

theorem State.halt_sameWork (die : Nat) : s.SameWork (s.halt die) := by
  unfold State.halt
  dsimp only
  split
  · constructor <;> rfl
  · exact State.SameWork.trans (by constructor <;> rfl) (State.enter_sameWork _ _)

theorem State.levelThree_sameWork : s.SameWork s.levelThree := .ite _ (by constructor <;> rfl)

/-- An event changes the collector, the device state, counters, messages and the pair's request alone. -/
theorem State.raise_sameWork (r : Raise) : s.SameWork (s.raise r) := by
  unfold State.raise
  refine State.SameWork.trans ?_ (State.signal_sameWork _ _)
  refine State.SameWork.trans ?_ (.ite _ (by constructor <;> rfl))
  refine State.SameWork.trans ?_ (.ite _ (State.halt_sameWork _ _))
  refine State.SameWork.trans ?_ (.ite _ (State.levelThree_sameWork _))
  refine State.SameWork.trans ?_ (.ite _ (State.bump_sameWork _ _ _))
  refine State.SameWork.trans ?_ (State.bump_sameWork _ _ _)
  refine State.SameWork.trans ?_ (State.enterEvent_sameWork _ _)
  exact State.SameWork.trans (by constructor <;> rfl) (.ite _ (by constructor <;> rfl))

end parts

end Sys2Proof.Machine
end

section
/-! PROOFS. Pipelines retired, substituted and drained (R106, R119 to R122, R519). -/

namespace Sys2Proof.Machine

/-- A key set to something other than the default of its map reads as set. -/
theorem nget_nset_self {k v d : Nat} (e : Nat) (hv : v ≠ d) (m : NMap) : nget (nset m k v d) k e = v := by
  induction m with
  | nil => simp [nset, hv, nget]
  | cons x r ih =>
    obtain ⟨a, w⟩ := x
    unfold nset
    simp only [if_neg hv]
    split
    next => simp [nget]
    next =>
      split
      next => simp [nget]
      next hlt hne => simp [nget, ih, hlt, Ne.symm hne]

/-! ### What does not touch the pipelines -/

/-- The frames and the use of the pipelines stay as they were. -/
structure State.SamePipes (s u : State) : Prop where
  flow : u.flow = s.flow
  subst : u.record.mem.spares.pipeSubst = s.record.mem.spares.pipeSubst
  retired : u.record.mem.spares.pipeRetired = s.record.mem.spares.pipeRetired

theorem State.SamePipes.refl (s : State) : s.SamePipes s := ⟨rfl, rfl, rfl⟩

theorem State.SamePipes.trans {s u v : State} (h : s.SamePipes u) (k : u.SamePipes v) : s.SamePipes v :=
  ⟨k.flow.trans h.flow, k.subst.trans h.subst, k.retired.trans h.retired⟩

theorem State.SameWork.pipes {s u : State} (h : s.SameWork u) : s.SamePipes u :=
  ⟨h.flow, by rw [h.spares], by rw [h.spares]⟩

/-- So do they through steps that each leave them. -/
theorem State.SamePipes.foldl {α : Type} {f : State → α → State} (hf : ∀ (s : State) (x : α), s.SamePipes (f s x))
    (l : List α) (s : State) : s.SamePipes (l.foldl f s) := by
  induction l generalizing s with
  | nil => exact .refl s
  | cons x r ih => exact (hf s x).trans (ih _)

section leaves
variable (s : State)

theorem State.raise_pipes (r : Raise) : s.SamePipes (s.raise r) := (s.raise_sameWork r).pipes
theorem State.bump_pipes (i n : Nat) : s.SamePipes (s.bump i n) := (s.bump_sameWork i n).pipes

theorem State.logOwn_pipes (i n old new : Nat) : s.SamePipes (s.logOwn i n old new) := by
  constructor <;> simp [State.logOwn, State.logChange, State.mapRec, Rec.addEntry]

theorem State.rewriteRecord_pipes : s.SamePipes s.rewriteRecord := by
  unfold State.rewriteRecord
  dsimp only
  split <;> constructor <;> rfl

theorem State.burnEntry_pipes (kind unit : Nat) : s.SamePipes (s.burnEntry kind unit) := by
  unfold State.burnEntry
  split
  · constructor <;> rfl
  · split
    · exact .refl s
    · exact State.SamePipes.trans (by constructor <;> rfl) (State.raise_pipes _ _)

theorem State.spend_pipes (code unit shown bench errors : Nat) : s.SamePipes (s.spend code unit shown bench errors) := by
  unfold State.spend
  refine State.SamePipes.trans ?_ (State.raise_pipes _ _)
  exact State.SamePipes.trans (by constructor <;> rfl) (State.logOwn_pipes _ _ _ _ _)

theorem State.trimmed_pipes (bench : Nat) : s.SamePipes (s.trimmed bench) := by
  unfold State.trimmed
  split <;> constructor <;> rfl

theorem State.stageEvent_pipes (path bench action code unit errors : Nat) :
    s.SamePipes (s.stageEvent path bench action code unit errors) := by
  unfold State.stageEvent
  exact s.raise_pipes _

end leaves

/-! ### Retirement (R120, R121) -/

/-- A pipeline retired: record, fuse, event; it drains while packets are in its contexts. -/
def State.pipeRetired (s : State) (pl path : Nat) : State :=
  let v := s.mapSpares (fun x => { x with pipeRetired := x.pipeRetired ++ [pl] })
  let w := (((v.logOwn 0x4000 4 s.retiredMap v.retiredMap).burnEntry 0x10 pl).rewriteRecord).unwait
    (fun k => k == waitKey 0xFFFF 0x10 pl || (k / 0x1000 == 1 && k % 0x1000 / 17 == pl))
  (if s.flow.ctxCount pl = 0 then w else w.drainPipe pl 0).stageEvent path 0xFFFF 0x20 0x10 pl 0

section retire
variable {s : State} {pl : Nat} (path : Nat)

/-- The record, the fuses and what waits for the retirement leave the frames where they are. -/
theorem State.retireRecord_flow (map : Nat) (gone : Nat → Bool) :
    ((((s.mapSpares (fun x => { x with pipeRetired := x.pipeRetired ++ [pl] })).logOwn 0x4000 4 s.retiredMap map).burnEntry
      0x10 pl).rewriteRecord.unwait gone).flow = s.flow := by
  have hlog := ((State.logOwn_pipes (s.mapSpares (fun x => { x with pipeRetired := x.pipeRetired ++ [pl] })) 0x4000 4
    s.retiredMap map).trans (State.burnEntry_pipes _ 0x10 pl)).trans (State.rewriteRecord_pipes _)
  exact hlog.flow

theorem State.retirePipe_new (h : s.record.mem.spares.pipeRetired.contains pl = false) :
    s.retirePipe pl path 0xFFFF 0 = s.pipeRetired pl path := by
  simp only [State.retirePipe, h, Bool.false_eq_true, if_false, State.retireRecord_flow, State.pipeRetired]

/-- An empty pipeline does not drain: it is retired at once. -/
theorem State.pipeRetired_flow (hempty : s.flow.ctxCount pl = 0) : (s.pipeRetired pl path).flow = s.flow := by
  simp only [State.pipeRetired, hempty, if_true, State.stageEvent, (State.raise_pipes _ _).flow, State.retireRecord_flow]

/-- So nothing of a drain is complete. -/
theorem State.drainComplete_idle (hidle : nget s.flow.pipeBusy pl 0 = 0) : s.drainComplete pl = s :=
  if_neg (fun h => h.1 hidle)

/-- A pipeline that fails with nothing in its contexts, or once they are dropped, is retired. -/
theorem State.pipeFailure_retires {w : State} (hdrop : s.dropContexts pl = w) (hempty : w.flow.ctxCount pl = 0)
    (hidle : nget w.flow.pipeBusy pl 0 = 0) (hnew : w.record.mem.spares.pipeRetired.contains pl = false) :
    s.pipeFailure pl = w.pipeRetired pl (stagePath pl 0) := by
  rw [State.pipeFailure, hdrop, State.retirePipe_new _ hnew, State.drainComplete_idle]
  rwa [State.pipeRetired_flow _ hempty]

end retire

/-- The pipelines that wait for their retirement, when it is one alone: retired once no other of its direction drains. -/
theorem State.retireNext_one {s : State} {pl : Nat} (hone : s.survey.retires = [pl]) (hfree : s.pipeMoving pl = false)
    (hnew : s.record.mem.spares.pipeRetired.contains pl = false) :
    s.retireNext = ({ s with survey := { s.survey with retires := [] } } : State).pipeRetired pl
      (stagePath pl (s.pipeSubst pl)) := by
  simp only [State.retireNext, hone, List.foldl_cons, List.foldl_nil, hfree, Bool.false_eq_true, if_false]
  have hnone : [pl].filter (fun x => x != pl) = [] := by simp
  rw [hnone]
  exact State.retirePipe_new _ hnew

theorem State.retireNext_waits {s : State} {pl : Nat} (hone : s.survey.retires = [pl]) (hmoves : s.pipeMoving pl = true) :
    s.retireNext = s := by
  simp [State.retireNext, hone, hmoves]

theorem State.retireNext_none {s : State} (hnone : s.survey.retires = []) : s.retireNext = s := by
  simp [State.retireNext, hnone]

/-! ### The contexts of a failed pipeline (R106) -/

/-- None in its contexts: nothing is dropped. -/
theorem State.dropContexts_empty {s : State} {pl : Nat} (hempty : s.flow.ctxCount pl = 0) : s.dropContexts pl = s := by
  have hgone : s.flow.ctxs.filter (fun c => c.pipe == pl) = [] := List.eq_nil_of_length_eq_zero hempty
  have hkept : s.flow.ctxs.filter (fun c => c.pipe != pl) = s.flow.ctxs := by
    rw [List.filter_eq_self]
    intro c hc
    have hother := (List.filter_eq_nil_iff.1 hgone) c hc
    simpa using hother
  simp only [State.dropContexts, hgone, hkept, List.foldl_nil]
  exact State.feSettle_self s

/-- One ingress frame: dropped, counted, its number settled, its cells freed. -/
theorem State.dropContexts_one {s : State} {pl : Nat} {c : Ctx} (hone : s.flow.ctxs.filter (fun c => c.pipe == pl) = [c])
    (hdir : c.dir = .ingress) : s.dropContexts pl =
      ((({ s with flow := { s.flow with ctxs := s.flow.ctxs.filter (fun c => c.pipe != pl) } } : State).bump 0x4001 7).settleSeq
        c.frame.dom c.frame.seq .gone).feSettle s.flow := by
  simp only [State.dropContexts, hone, List.foldl_cons, List.foldl_nil, hdir, if_true]

/-! ### Frees of body cells leave the pipelines (R258) -/

section cells
variable (s : State)

theorem State.badFree_pipes (sub k num : Nat) : s.SamePipes (s.badFree sub k num) := by
  unfold State.badFree State.bufFault
  exact (s.bump_pipes 0x5001 sub).trans (State.raise_pipes _ _)

theorem State.freeUnit_pipes (k num code : Nat) : s.SamePipes (s.freeUnit k num code) := by
  unfold State.freeUnit State.freeBlock State.freeCell
  split
  · split
    · exact s.badFree_pipes _ _ _
    · split
      · exact s.badFree_pipes _ _ _
      · constructor <;> rfl
  · split
    · exact s.badFree_pipes _ _ _
    · split
      · exact s.badFree_pipes _ _ _
      · split
        · exact s.badFree_pipes _ _ _
        · split <;> constructor <;> rfl

theorem State.poolSync_pipes (k : Nat) : s.SamePipes (s.poolSync k) := by
  unfold State.poolSync
  dsimp only
  have hpeak (u : State) (c : Prop) [Decidable c] (i v : Nat) : u.SamePipes (if c then u.setObj i 2 v else u) :=
    (State.SameWork.ite c (u.setObjI_sameWork i 2 0 v)).pipes
  have hlevel (n : List Nat) : s.SamePipes { s with buf := { s.buf with levels := n } } := by constructor <;> rfl
  split
  · exact ((hlevel _).trans (hpeak _ _ _ _)).trans ((State.bump_pipes _ _ _).trans (State.raise_pipes _ _))
  · exact (hlevel _).trans (hpeak _ _ _ _)

theorem State.pfcTimes_pipes (p : Nat) (times : List (Nat × Nat)) : s.SamePipes (s.pfcTimes p times) := by
  refine State.SamePipes.foldl (fun s x => ?_) times s
  split
  · unfold State.pausePrio
    dsimp only
    split <;> constructor <;> rfl
  · exact .refl s

theorem State.pfcLoop_pipes (p : Nat) (again : Bool) (times : List (Nat × Nat)) : s.SamePipes (s.pfcLoop p again times) := by
  unfold State.pfcLoop
  split
  · exact .refl s
  · refine State.SamePipes.trans ?_ (State.pfcTimes_pipes _ _ _)
    split
    · exact .refl s
    · exact ((s.bump_pipes _ _).trans (State.setObjI_sameWork _ _ _ _ _).pipes).trans (State.bump_pipes _ _ _)

theorem State.sendPfc_pipes (port : Nat) (times : List (Nat × Nat)) : s.SamePipes (s.sendPfc port times) := by
  unfold State.sendPfc
  split
  · exact .refl s
  · refine State.SamePipes.trans (u := { s with buf := { s.buf with pfcAt := nset s.buf.pfcAt port (s.tmcCycle + 1) 0 } })
      (by constructor <;> rfl) ?_
    generalize ({ s with buf := { s.buf with pfcAt := nset s.buf.pfcAt port (s.tmcCycle + 1) 0 } } : State) = u
    dsimp only
    split
    · split
      · exact .refl u
      · refine State.SamePipes.trans ?_ (State.pfcLoop_pipes _ _ _ _)
        split
        · constructor <;> rfl
        · exact State.SamePipes.trans (u := u.out (.pfc port times)) (by constructor <;> rfl) (State.bump_pipes _ _ _)
    · split
      · exact .refl u
      · exact State.bump_pipes _ _ _

theorem State.pfcSync_pipes (port : Nat) : s.SamePipes (s.pfcSync port) :=
  State.SamePipes.trans (by constructor <;> rfl) (State.sendPfc_pipes _ _ _)

theorem State.freeCells_pipes (k : Nat) (frees : List (Nat × Nat)) : s.SamePipes (s.freeCells k frees) :=
  ((State.SamePipes.foldl (fun u (f : Nat × Nat) => u.freeUnit_pipes k f.1 f.2) _ s).trans (State.poolSync_pipes _ k)).trans
    (State.SamePipes.foldl State.pfcSync_pipes _ _)

theorem State.feSettle_pipes (old : Flow) : s.SamePipes (s.feSettle old) := by
  unfold State.feSettle
  dsimp only
  split
  · exact .refl s
  · exact s.freeCells_pipes _ _

end cells

/-- A number settled leaves the contexts, the drains and the spares. -/
theorem State.settleSeq_gone (s : State) (dom seq : Nat) : (s.settleSeq dom seq .gone).flow.ctxs = s.flow.ctxs ∧
    (s.settleSeq dom seq .gone).flow.pipeBusy = s.flow.pipeBusy ∧ (s.settleSeq dom seq .gone).record = s.record := by
  have hlate : s.lateFrame .gone = s := rfl
  unfold State.settleSeq
  split
  · split
    · exact ⟨rfl, rfl, rfl⟩
    · rw [hlate]; exact ⟨rfl, rfl, rfl⟩
  · rw [hlate]; exact ⟨rfl, rfl, rfl⟩

/-- What is left of a frame dropped with its pipeline: the other contexts, the drains, the retirements. -/
theorem State.frameDropped_keeps (s : State) (dom seq : Nat) (old : Flow) :
    let w := ((s.bump 0x4001 7).settleSeq dom seq .gone).feSettle old
    w.flow.ctxs = s.flow.ctxs ∧ w.flow.pipeBusy = s.flow.pipeBusy ∧
      w.record.mem.spares.pipeRetired = s.record.mem.spares.pipeRetired := by
  intro w
  have hfreed := ((s.bump 0x4001 7).settleSeq dom seq .gone).feSettle_pipes old
  have hcounted := s.bump_pipes 0x4001 7
  obtain ⟨hctxs, hbusy, hrecord⟩ := (s.bump 0x4001 7).settleSeq_gone dom seq
  refine ⟨?_, ?_, ?_⟩
  · rw [hfreed.flow, hctxs, hcounted.flow]
  · rw [hfreed.flow, hbusy, hcounted.flow]
  · rw [hfreed.retired, hrecord, hcounted.retired]

/-- Without the contexts of a pipeline none of them is left. -/
theorem ctxCount_filtered {f : Flow} {l : List Ctx} {pl : Nat} (h : f.ctxs = l.filter (fun c => c.pipe != pl)) :
    f.ctxCount pl = 0 := by
  simp [Flow.ctxCount, h, List.filter_filter]

/-! ### Substitution (R119) -/

/-- The record and the fuses as a substitution leaves them. -/
def State.substRecorded (s : State) (pl stage bench errors : Nat) : State :=
  let a := s.spend 1 pl (stagePath pl stage) bench errors
  let b := (a.mapSpares (fun p => { p with pipeSubst := nset p.pipeSubst pl (stage + 1) 0 })).mapMargin
    (fun m => { m with stageTrims := nset m.stageTrims (stagePath pl 16) 0 0 })
  ((b.logOwn 0x4000 5 s.substMap b.substMap).burnEntry 1 (stagePath pl stage)).rewriteRecord

section subst
variable (s : State) (pl stage bench errors : Nat)

theorem State.substRecorded_pipes : (s.substRecorded pl stage bench errors).flow = s.flow ∧
    nget (s.substRecorded pl stage bench errors).record.mem.spares.pipeSubst pl 0 = stage + 1 := by
  have hspent := s.spend_pipes 1 pl (stagePath pl stage) bench errors
  unfold State.substRecorded
  generalize s.spend 1 pl (stagePath pl stage) bench errors = a at hspent
  have hb : ((a.mapSpares (fun p => { p with pipeSubst := nset p.pipeSubst pl (stage + 1) 0 })).mapMargin
      (fun m => { m with stageTrims := nset m.stageTrims (stagePath pl 16) 0 0 })).flow = s.flow := hspent.flow
  have hn : nget ((a.mapSpares (fun p => { p with pipeSubst := nset p.pipeSubst pl (stage + 1) 0 })).mapMargin
      (fun m => { m with stageTrims := nset m.stageTrims (stagePath pl 16) 0 0 })).record.mem.spares.pipeSubst pl 0 =
        stage + 1 :=
    nget_nset_self 0 (Nat.succ_ne_zero stage) _
  dsimp only
  generalize ((a.mapSpares (fun p => { p with pipeSubst := nset p.pipeSubst pl (stage + 1) 0 })).mapMargin
      (fun m => { m with stageTrims := nset m.stageTrims (stagePath pl 16) 0 0 })) = b at hb hn
  have hkept := ((b.logOwn_pipes 0x4000 5 s.substMap b.substMap).trans
    (State.burnEntry_pipes _ 1 (stagePath pl stage))).trans (State.rewriteRecord_pipes _)
  exact ⟨hkept.flow.trans hb, by rw [hkept.subst, hn]⟩

theorem State.substitute_pipes : ((s.substRecorded pl stage bench errors).drainPipe pl (stage + 1)).SamePipes
    (s.substitute pl stage bench errors) := by
  simp only [State.substitute, State.substRecorded]
  exact (State.stageEvent_pipes _ _ _ _ _ _ _).trans (State.trimmed_pipes _ _)

/-- SX takes the stage's place at once in the record; the pipeline substitutes when it is empty and drains otherwise. -/
theorem State.substitute_state : (s.substitute pl stage bench errors).pipeSubst pl = stage ∧
    (s.substitute pl stage bench errors).pipeState pl = if s.flow.ctxCount pl = 0 then 2 else 1 := by
  obtain ⟨hflow, hsubst⟩ := s.substRecorded_pipes pl stage bench errors
  have hend := s.substitute_pipes pl stage bench errors
  constructor
  · have hread : nget (s.substitute pl stage bench errors).record.mem.spares.pipeSubst pl 0 = stage + 1 :=
      (congrArg (nget · pl 0) hend.subst).trans hsubst
    simp only [State.pipeSubst, hread]
  · have hbusy (m : NMap) : nget (nset m pl 1 0) pl 0 = 1 := nget_nset_self 0 (by decide) m
    have hmark (m : NMap) : nget (nset m pl (stage + 1) 0) pl 0 = stage + 1 := nget_nset_self 0 (Nat.succ_ne_zero stage) m
    unfold State.pipeState
    rw [hend.flow]
    simp only [State.drainPipe, hflow, hbusy, hmark, Flow.ctxCount]
    split <;> simp_all

end subst

section stage
variable {s : State} {pl : Nat} (stage : Nat) (hfit : s.sxFit pl = true)
  (hnew : s.record.mem.spares.pipeRetired.contains pl = false)
include hfit hnew

theorem State.stageSubstitute_free (hfree : s.pipeMoving pl = false) :
    s.stageSubstitute pl stage = s.substitute pl stage (0x1000 + stagePath pl stage) 0 := by
  simp only [State.stageSubstitute, hfit, hnew, hfree, Bool.false_eq_true, not_false_eq_true, and_self, if_true, if_false]

/-- While another pipeline of the direction drains, what the stage needs waits (R519). -/
theorem State.stageSubstitute_waits (hmoves : s.pipeMoving pl = true) : s.stageSubstitute pl stage =
    { s with faults := { s.faults with waiting := s.faults.waiting ++ [⟨3, stagePath pl stage, 0, 0, false⟩] } } := by
  simp only [State.stageSubstitute, hfit, hnew, hmoves, Bool.false_eq_true, not_false_eq_true, and_self, if_true]

end stage

/-- Settles O28: each row is one of the facts above on the ticked state. -/
theorem pipelinesAreSubstitutedDrainedAndRetired : Obligations.PipelinesAreSubstitutedDrainedAndRetired := by
  unfold Obligations.PipelinesAreSubstitutedDrainedAndRetired
  refine ⟨?_, fun _ _ _ => ⟨_, rfl⟩, fun _ _ _ _ => ⟨_, rfl⟩, fun _ _ _ => ⟨_, rfl⟩, fun _ _ _ => ⟨_, rfl⟩⟩
  intro s t pl hruns u retired
  have hflow : u.flow = s.flow := s.tick_flow t
  have hsurvey : u.survey = s.survey := s.tick_survey t
  rw [← hflow, ← hsurvey]
  refine ⟨fun hnew => ⟨fun hsx hnone => ⟨fun hfree => ?_, fun hmoves => ?_⟩, fun hunused => ?_, fun hempty hidle => ?_,
    fun c hone hdir hidle => ?_, fun k => ⟨fun hfit => ⟨fun hfree => ⟨?_, ?_⟩, fun hmoves => ?_⟩, fun hunfit => ?_⟩⟩,
    fun hfull => ?_, fun hbusy hempty hnone => ?_⟩
  · have hwaits : u.pipeRetire pl.val = ({ u with survey := { u.survey with retires := [pl.val] } } : State).retireNext := by
      simp only [State.pipeRetire, hsx, hnew, hnone, List.contains_nil, Bool.false_eq_true, or_self, if_false, List.nil_append]
    have hback : ({ u with survey := { u.survey with retires := [] } } : State) = u := by rw [← hnone]
    have hretired := State.retireNext_one (s := { u with survey := { u.survey with retires := [pl.val] } }) rfl hfree hnew
    refine next_on_fe t hruns (hwaits.trans (hretired.trans ?_))
    show ({ u with survey := { u.survey with retires := [] } } : State).pipeRetired pl.val
      (stagePath pl.val (u.pipeSubst pl.val)) = _
    rw [hback]
    rfl
  · have hwaits : u.pipeRetire pl.val = ({ u with survey := { u.survey with retires := [pl.val] } } : State).retireNext := by
      simp only [State.pipeRetire, hsx, hnew, hnone, List.contains_nil, Bool.false_eq_true, or_self, if_false, List.nil_append]
    exact next_on_fe t hruns (hwaits.trans (State.retireNext_waits rfl hmoves))
  · exact next_on_fe t hruns (if_pos (.inl hunused))
  · exact next_on_fe t hruns (State.pipeFailure_retires (State.dropContexts_empty hempty) hempty hidle hnew)
  · refine next_on_fe t hruns (State.pipeFailure_retires (State.dropContexts_one hone hdir) ?_ ?_ ?_)
    all_goals
      obtain ⟨hctxs, hbusy, hretired⟩ := State.frameDropped_keeps
        { u with flow := { u.flow with ctxs := u.flow.ctxs.filter (fun c => c.pipe != pl.val) } } c.frame.dom c.frame.seq u.flow
    · exact ctxCount_filtered hctxs
    · rw [hbusy]; exact hidle
    · rw [hretired]; exact hnew
  · exact next_on_fe t hruns (State.stageSubstitute_free k.val hfit hnew hfree)
  · exact u.substitute_state pl.val k.val _ 0
  · exact next_on_fe t hruns (State.stageSubstitute_waits k.val hfit hnew hmoves)
  · exact next_on_fe t hruns (if_neg (fun h => by rw [hunfit] at h; exact absurd h.1 (by decide)))
  · exact next_on_fe t hruns (if_neg (fun h => hfull h.2))
  · refine next_on_fe t hruns ?_
    have hdone : nget u.flow.pipeBusy pl.val 0 ≠ 0 ∧ u.flow.ctxCount pl.val = 0 := ⟨hbusy, hempty⟩
    exact (if_pos hdone).trans (State.retireNext_none hnone)

end Sys2Proof.Machine
end

section
/-! PROOFS. Upkeep of table memory: the scrubber, repair from the backing copy, re-laying (R204 to R211). -/

namespace Sys2Proof.Machine

/-- A command of the FE die's data path is without effect while the die is halted (R551). -/
theorem next_on_fe_halted {s : State} (t : Tick) (hhalt : s.faults.haltFe = true) (f : State → State) :
    (.next (s.on t .fe f) : Out) = .next (s.tick t).settle := by
  have hfe : (s.tick t).runs .fe = false := by simp [State.runs, hhalt]
  simp only [State.on, State.at_, hfe, Bool.false_eq_true, if_false]

/-- A corrected error leaves the tables and the digests. -/
theorem State.corrected_sameWork (s : State) (table line : Nat) : s.SameWork (s.corrected table line) :=
  (s.bump_sameWork 0x4400 5).trans (State.raise_sameWork _ _)

/-! ### A visit to a versioned line -/

section visit
variable (s : State) (table line : Nat)

/-- What a visit found enters the history of its row (R529). -/
theorem State.scrubError_eq (e : MemErr) : s.scrubError table line e =
    if e = .none then s else s.noteError 2 (s.lineRow table line) (e == .uncorrectable) := by
  cases e <;> rfl

/-- An uncorrectable error of the on-die copy poisons the line (R206). -/
theorem State.poison_eq : s.poison table line =
    (s.setTables (s.tables.setLine table line true ((s.tables.lineAt table line).any (·.backingBad)))).raise
      { cls := 2, level := 1, die := 1, object := memObject table line, value := line } := by
  unfold State.poison
  cases s.tables.lineAt table line <;> rfl

/-- What stands of the on-die copy when it could be read. -/
def State.scrubbedOnce (a : MemErr) : State := if a = .corrected then s.corrected table line else s

/-- What stands of both copies when both could be read. -/
def State.scrubbedTwice (a b : MemErr) : State :=
  if b = .corrected then (s.scrubbedOnce table line a).corrected table line else s.scrubbedOnce table line a

theorem State.scrubbedOnce_sameWork (a : MemErr) : s.SameWork (s.scrubbedOnce table line a) :=
  .ite _ (s.corrected_sameWork table line)

theorem State.scrubbedTwice_sameWork (a b : MemErr) : s.SameWork (s.scrubbedTwice table line a b) :=
  (s.scrubbedOnce_sameWork table line a).trans (.ite _ (State.corrected_sameWork _ table line))

theorem State.scrubLine_poisons (b : MemErr) (differ : Option (Nat × Nat)) :
    s.scrubLine table line .uncorrectable b differ = s.poison table line := rfl

section readable
variable {a : MemErr} (ha : a ≠ .uncorrectable)
include ha

/-- An uncorrectable error of the backing copy has that rewritten from the line (R210). -/
theorem State.scrubLine_backing (differ : Option (Nat × Nat)) :
    s.scrubLine table line a .uncorrectable differ = (s.scrubbedOnce table line a).backingError table line := by
  cases a with
  | uncorrectable => exact absurd rfl ha
  | none => rfl
  | corrected => rfl

variable {b : MemErr} (hb : b ≠ .uncorrectable)
include hb

/-- Two intact copies are compared (R209). -/
theorem State.scrubLine_compares (differ : Option (Nat × Nat)) : s.scrubLine table line a b differ =
    differ.elim (s.scrubbedTwice table line a b)
      (fun x => (s.scrubbedTwice table line a b).copyMismatch table line x.1 x.2) := by
  cases a with
  | uncorrectable => exact absurd rfl ha
  | none =>
    cases b with
    | uncorrectable => exact absurd rfl hb
    | none => cases differ <;> rfl
    | corrected => cases differ <;> rfl
  | corrected =>
    cases b with
    | uncorrectable => exact absurd rfl hb
    | none => cases differ <;> rfl
    | corrected => cases differ <;> rfl

end readable
end visit

/-! ### Two intact copies that differ (R209) -/

section mismatch
variable {s : State} {table line die back : Nat}

/-- The on-die copy stays when its stamp alone is one that the digest allows. -/
theorem State.copyMismatch_die (hd : die ≤ nget s.tx.digest (digestSub table) 0)
    (hb : nget s.tx.digest (digestSub table) 0 < back) (h0 : nget s.tx.digest (digestSub table) 0 ≠ 0) :
    s.copyMismatch table line die back = s.setTables (s.tables.saveLine table line) := by
  unfold State.copyMismatch
  dsimp only
  rw [if_neg (by omega), if_neg (by omega)]

/-- The backing copy stays when its stamp alone is. -/
theorem State.copyMismatch_back (hb : back ≤ nget s.tx.digest (digestSub table) 0)
    (hd : nget s.tx.digest (digestSub table) 0 < die) (h0 : nget s.tx.digest (digestSub table) 0 ≠ 0) :
    s.copyMismatch table line die back = s.setTables (s.tables.restoreLine table line) := by
  unfold State.copyMismatch
  dsimp only
  rw [if_neg (by omega), if_pos (by omega)]

/-- The later of the two stays when the digest allows both. -/
theorem State.copyMismatch_both (hd : die ≤ nget s.tx.digest (digestSub table) 0)
    (hb : back ≤ nget s.tx.digest (digestSub table) 0) (h0 : nget s.tx.digest (digestSub table) 0 ≠ 0) :
    s.copyMismatch table line die back =
      if die < back then s.setTables (s.tables.restoreLine table line) else s.setTables (s.tables.saveLine table line) := by
  unfold State.copyMismatch
  dsimp only
  rw [if_neg (by omega)]
  exact if_congr (by omega) rfl rfl

/-- When it allows neither, the on-die copy stays and the line is raised at level F1. -/
theorem State.copyMismatch_neither (h : nget s.tx.digest (digestSub table) 0 = 0 ∨
    nget s.tx.digest (digestSub table) 0 < die ∧ nget s.tx.digest (digestSub table) 0 < back) :
    s.copyMismatch table line die back = (s.setTables (s.tables.saveLine table line)).raise
      { cls := 2, level := 1, die := 1, object := memObject table line, value := line } := by
  unfold State.copyMismatch
  exact if_pos h

end mismatch

/-! ### Repair from the backing copy (R206, R208) -/

section repair
variable {s : State} {table line : Nat}

theorem State.backingRepair_none (h : ∀ l, s.tables.lineAt table line = some l → l.poisoned = false ∨ l.backingBad = true)
    (bad : Bool) : s.backingRepair table line bad = s := by
  unfold State.backingRepair
  split
  next l hl =>
    refine if_pos ?_
    simpa using h l hl
  next => rfl

variable {l : LineState} (hl : s.tables.lineAt table line = some l) (hp : l.poisoned = true) (hb : l.backingBad = false)
include hl hp hb

theorem State.backingRepair_restores :
    s.backingRepair table line false = (s.setTables (s.tables.restoreLine table line)).bump 0x4400 6 := by
  simp [State.backingRepair, hl, hp, hb]

theorem State.backingRepair_bad : s.backingRepair table line true = (s.setTables (s.tables.setLine table line true true)).raise
    { cls := 2, level := 2, die := 1, object := memObject table line, value := line, own := true } := by
  simp [State.backingRepair, hl, hp, hb]

end repair

/-- A line restored is poisoned no more. -/
theorem Tables.restoreLine_clean (t : Tables) (table line : Nat) : (t.restoreLine table line).poisoned table line = false := by
  have hgone : (t.restoreLine table line).lineAt table line = none := by
    simp only [Tables.restoreLine, Tables.setLine, Tables.lineAt, List.find?_eq_none]
    intro l hl
    simpa [imp_iff_not_or] using (List.mem_filter.1 hl).2
  simp [Tables.poisoned, hgone]

/-! ### Re-laying a bank (R211) -/

@[simp] theorem State.tick_openOp (s : State) (t : Tick) (idx sub arg : Nat) :
    (s.tick t).openOp idx sub arg = s.openOp idx sub arg := by simp [State.openOp]

@[simp] theorem State.tick_reserveUsed (s : State) (t : Tick) : (s.tick t).reserveUsed = s.reserveUsed := by
  simp [State.reserveUsed]

@[simp] theorem State.tick_freeSlot (s : State) (t : Tick) (own : Bool) : (s.tick t).freeSlot own = s.freeSlot own := by
  simp [State.freeSlot]

/-- A bank that waits to be re-laid is, by an operation of the part's own, while a slot and the reserve are free. -/
theorem State.bankRelay_starts {s : State} {b i : Nat} (hwaits : s.tables.relaying.any (fun x => x.1 == b) = true)
    (hnone : s.openOp relayIdx relaySub b = none) (hroom : s.reserveUsed < 2) (hslot : s.freeSlot true = some i) :
    s.bankRelay b = { s with dict := { s.dict with
      nextHandle := nextHandle s.dict.nextHandle
      slots := s.dict.slots.set i ⟨s.dict.nextHandle, 0, relayIdx, relaySub, selfId, 0, 128, 0, 0, zeros 12, 0, false, b⟩ } } := by
  simp [State.bankRelay, hwaits, hnone, hroom, State.startOp, hslot, State.setSlot]

/-- Settles O29: each clause is one of the facts above on the ticked state; the scrubber's corrections leave the tables and the
digests that the later checks read. -/
theorem tableMemoryIsScrubbedAndRepaired : Obligations.TableMemoryIsScrubbedAndRepaired := by
  unfold Obligations.TableMemoryIsScrubbedAndRepaired
  refine ⟨?_, fun _ _ _ _ _ => ⟨_, rfl⟩, fun _ _ _ _ _ _ => ⟨_, rfl⟩, fun _ _ _ => ⟨_, rfl⟩⟩
  intro s t n line u
  refine ⟨fun hhalt => ⟨fun _ _ _ _ => ?_, fun _ => ?_, fun _ => ?_⟩, fun hruns => ?_⟩
  · exact next_on_fe_halted t hhalt _
  · exact next_on_fe_halted t hhalt _
  · exact next_on_fe_halted t hhalt _
  have htables : u.tables = s.tables := s.tick_tables t
  intro fixed noted digest
  refine ⟨?_, ?_,
    fun hclean bad => ?_, fun l hl hp hb => ⟨?_, ?_, ?_⟩, fun b i hcalm hwaits hnone hroom hslot => ?_⟩
  · intro a b differ visit once twice saved ends
    refine ⟨fun hother => next_on_fe t hruns ?_, fun hvers => ?_⟩
    · simp only [State.scrub, hother, Bool.false_eq_true, if_false]
      rfl
    have hdigest : nget u.tx.digest (digestSub n) 0 = digest := by rw [State.tick_tx]
    have hone : once = u.scrubbedOnce n line a := rfl
    have htwo : twice = u.scrubbedTwice n line a b := rfl
    have hsame := u.scrubbedTwice_sameWork n line a b
    have hdigest2 : nget twice.tx.digest (digestSub n) 0 = digest := by rw [htwo, hsame.tx, hdigest]
    have htables2 : twice.tables = u.tables := hsame.tables
    have htables1 : once.tables = u.tables := (u.scrubbedOnce_sameWork n line a).tables
    have found {v : State} (hv : u.scrubLine n line a b differ = v) : ends v := by
      refine next_on_fe t hruns ?_
      show u.scrub (.versioned n line) a b differ = noted v n line a
      simp only [State.scrub, hvers, if_true, hv, State.scrubError_eq]
      rfl
    refine ⟨fun ha => ?_, fun ha hb => ?_, fun ha hb => ⟨fun hnone => ?_, fun die back hdiff => ⟨?_, ?_, ?_, ?_⟩⟩⟩
    · subst ha
      exact found ((u.scrubLine_poisons n line b differ).trans (u.poison_eq n line))
    · subst hb
      refine found ((u.scrubLine_backing n line ha differ).trans ?_)
      rw [State.backingError, ← hone, htables1]
    · subst hnone
      exact found (u.scrubLine_compares n line ha hb none)
    all_goals
      subst hdiff
      have hgoes : u.scrubLine n line a b (some (die, back)) = twice.copyMismatch n line die back :=
        u.scrubLine_compares n line ha hb (some (die, back))
    · intro hd hk h0
      refine found (hgoes.trans ?_)
      rw [State.copyMismatch_die (by rwa [hdigest2]) (by rwa [hdigest2]) (by rwa [hdigest2]), htables2]
    · intro hk hd h0
      refine found (hgoes.trans ?_)
      rw [State.copyMismatch_back (by rwa [hdigest2]) (by rwa [hdigest2]) (by rwa [hdigest2]), htables2]
    · intro hd hk h0
      refine found (hgoes.trans ?_)
      rw [State.copyMismatch_both (by rwa [hdigest2]) (by rwa [hdigest2]) (by rwa [hdigest2]), htables2]
    · intro hneither
      refine found (hgoes.trans ?_)
      rw [State.copyMismatch_neither (by rwa [hdigest2]), htables2]
  · intro b back differ tbl
    refine ⟨?_, ?_, ?_⟩
    · exact next_on_fe t hruns rfl
    · exact next_on_fe t hruns rfl
    · exact next_on_fe t hruns rfl
  · rw [← htables] at hclean
    exact next_on_fe t hruns (State.backingRepair_none hclean bad)
  · rw [← htables] at hl
    exact next_on_fe t hruns (State.backingRepair_restores hl hp hb)
  · exact u.tables.restoreLine_clean n line
  · rw [← htables] at hl ⊢
    exact next_on_fe t hruns (State.backingRepair_bad hl hp hb)
  · have hc := s.tick_calm hcalm t
    rw [← htables] at hwaits
    rw [← s.tick_openOp t] at hnone
    rw [← s.tick_reserveUsed t] at hroom
    rw [← s.tick_freeSlot t] at hslot
    rw [← s.tick_dict t]
    refine (next_on_fe t hruns (State.bankRelay_starts hwaits hnone hroom hslot)).trans ?_
    exact next_settle_calm rfl (hc.withDict _)

end Sys2Proof.Machine
end

section
/-! PROOFS. A notification of the learning engine for a number that is no learned table (R186, R187): the counter that it bumps is
then an object of another chapter, and more follows from the bump than the statement allows. -/

namespace Sys2Proof.Machine

/-- The number whose counters stand at the pair's own index, 0x6800. -/
def strayTable : Nat := 0x6800 - 0x4610

/-- A READY part with every controller in service, fabric lane 0 up, and a notification for that number. The list of set objects
does not rise: behind the value 0 of 0x6800:0A, whose Default is 1, stands the sleep of lane 0. -/
def strayPart : State := { readyPart with
  objs := [(objKey 0x6800 0xA 0, 0), (objKey 0x3201 0xC 0x100, 1)]
  lanes := [{ FLane.fresh 0 with bad := false, up := true }]
  faults := { readyPart.faults with ctls := List.replicate 32 ⟨true, 0, false⟩ }
  flow := { readyPart.flow with learnI := [⟨strayTable, 0, 0⟩] } }

/-- The fabric lanes that a row leaves seen as up. -/
def outcomeUp : Out → List Bool
  | .next u => u.lanes.map (·.up)
  | _ => []

/-- Refutes O30: the bump brings 0x6800:0A to its Default, so the sleep of lane 0 shows and the lane's leaving USABLE is noted,
which the state of the statement leaves out. -/
theorem not_learnedTablesLearnAndAge : ¬ Obligations.LearnedTablesLearnAndAge := by
  unfold Obligations.LearnedTablesLearnAndAge
  intro h
  obtain ⟨hcalm, -⟩ := h
  obtain ⟨-, -, hlearn, -⟩ := hcalm strayPart 1 (by decide +kernel) rfl
  obtain ⟨hempty, -⟩ := hlearn ⟨strayTable, 0, 0⟩ [] rfl (by decide +kernel)
  have hsame := congrArg outcomeUp (hempty (by decide +kernel))
  have hdown : outcomeUp (exec (.learnNotification 1 .ingress) strayPart) = [false] := by decide +kernel
  rw [hdown] at hsame
  exact absurd hsame (by decide +kernel)

end Sys2Proof.Machine
end

section
/-! PROOFS. Locks and the table window: the map of BAR1 and what each access does once it reaches the part (R197 to R203, R592,
R593). -/

namespace Sys2Proof.Machine

/-! ### The map of BAR1 -/

theorem windowAt_bucket {b o : Nat} (hb : b < 262144) (ho : o < 256) : windowAt (b * 256 + o) = .bucket b o := by
  have hd : (b * 256 + o) / 256 = b := by omega
  have hm : (b * 256 + o) % 256 = o := by omega
  rw [windowAt, if_pos (by omega), hd, hm]

theorem windowAt_pair {i o : Nat} (hi : i < 16777216) (ho : o < 16) : windowAt (0x4000000 + i * 16 + o) = .pair i o := by
  have hd : (0x4000000 + i * 16 + o - 0x4000000) / 16 = i := by omega
  have hm : (0x4000000 + i * 16 + o - 0x4000000) % 16 = o := by omega
  rw [windowAt, if_neg (by omega), if_pos (by omega), hd, hm]

theorem windowAt_bucketLock {b o : Nat} (hb : b < 262144) (ho : o < 4) :
    windowAt (0x14000000 + 4 * b + o) = .bucketLock b o := by
  have hd : (0x14000000 + 4 * b + o - 0x14000000) / 4 = b := by omega
  have hm : (0x14000000 + 4 * b + o - 0x14000000) % 4 = o := by omega
  rw [windowAt, if_neg (by omega), if_neg (by omega), if_pos (by omega), hd, hm]

theorem windowAt_blockLock {k o : Nat} (hk : k < 2097152) (ho : o < 4) :
    windowAt (0x14100000 + 4 * k + o) = .blockLock k o := by
  have hd : (0x14100000 + 4 * k + o - 0x14100000) / 4 = k := by omega
  have hm : (0x14100000 + 4 * k + o - 0x14100000) % 4 = o := by omega
  rw [windowAt, if_neg (by omega), if_neg (by omega), if_neg (by omega), if_pos (by omega), hd, hm]

theorem windowAt_undefined {a : Nat} (ha : 0x14900000 ≤ a) : windowAt a = .undefined := by
  rw [windowAt, if_neg (by omega), if_neg (by omega), if_neg (by omega), if_neg (by omega)]

theorem inBar_table {a len : Nat} (h : a + len ≤ 2 ^ 29) : inBar 1 a len = true := decide_eq_true h

theorem beyond_table {a len : Nat} (h : 2 ^ 29 < a + len) : inBar 1 a len = false := decide_eq_false (Nat.not_le.mpr h)

theorem bucketTarget_val (b : Fin 262144) : bucketTarget b.val = .bucket b :=
  congrArg LockTarget.bucket (Fin.ofNat_val_eq_self b)

theorem blockTarget_val (k : Fin 2097152) : blockTarget k.val = .block k := congrArg LockTarget.block (Fin.ofNat_val_eq_self k)

/-! ### The locks -/

section locks
variable {tb : Tables} {g : LockTarget}

theorem Tables.lock_free (hfree : tb.lockOf g = none) (who : Holder) (now : Tick) : tb.lock g who now =
    if tb.locks.length < 64 then { tb with locks := tb.locks ++ [⟨g, who, now, [], []⟩] } else tb := by
  simp only [Tables.lock, hfree]

theorem Tables.lock_held {l : Lock} (hl : tb.lockOf g = some l) (who : Holder) (now : Tick) : tb.lock g who now = tb := by
  simp only [Tables.lock, hl]

theorem Tables.holds_free (hfree : tb.lockOf g = none) (who : Holder) : tb.holds g who = false := by
  simp only [Tables.holds, hfree]

theorem Tables.holds_held {l : Lock} (hl : tb.lockOf g = some l) (who : Holder) : tb.holds g who = (l.holder == who) := by
  simp only [Tables.holds, hl]

theorem Tables.unlock_held {l : Lock} (hl : tb.lockOf g = some l) : tb.unlock g =
    { tb.settleCredits l with locks := dropFirst (fun x => x.target == g) tb.locks } := by
  simp only [Tables.unlock, hl]

theorem Tables.lockWord_held {l : Lock} (hl : tb.lockOf g = some l) :
    tb.lockWord g = 2 ^ 31 + holderCode l.holder * 2 ^ 24 := by
  simp only [Tables.lockWord, hl]

theorem Tables.writeLock_acquire (who : Holder) (now : Tick) : tb.writeLock g who now false true = tb.lock g who now := rfl

theorem Tables.writeLock_release (who : Holder) (now : Tick) :
    tb.writeLock g who now true false = if tb.holds g who then tb.unlock g else tb := by
  simp [Tables.writeLock]

end locks

theorem State.lockExpire_free {s : State} {g : LockTarget} (hfree : s.tables.lockOf g = none) : s.lockExpire g = s := by
  simp only [State.lockExpire, hfree]

theorem State.lockExpire_held {s : State} {g : LockTarget} {l : Lock} (hl : s.tables.lockOf g = some l) : s.lockExpire g =
    if l.since + 100 * Config.us < s.clock.now then
      (s.setTables (s.tables.unlock g)).hostMis 0x4600 3 (holderRequester l.holder)
    else s := by
  simp only [State.lockExpire, hl]

/-! ### Accesses to the window -/

section window
variable {s : State} {a : Nat}

theorem State.windowRead_bucket {b o len : Nat} (hw : windowAt a = .bucket b o) (hlen : 0 < len) (hin : o + len ≤ 256) :
    s.windowRead a len = some (bytesAt (s.bucketBytes b) o len) := by
  simp only [State.windowRead, if_neg hlen.ne', hw, if_pos hin]

theorem State.windowRead_pair {i o len : Nat} (hw : windowAt a = .pair i o) (hlen : 0 < len)
    (hin : i % 8 * 16 + o + len ≤ 128) :
    s.windowRead a len = some (bytesAt (s.pairBytes (i - i % 8) 8) (i % 8 * 16 + o) len) := by
  simp only [State.windowRead, if_neg hlen.ne', hw, if_pos hin]

theorem State.windowRead_bucketLock {b o len : Nat} (hw : windowAt a = .bucketLock b o) (hlen : 0 < len) (hin : o + len ≤ 4) :
    s.windowRead a len = some (bytesAt (leBytes 4 (s.tables.lockWord (bucketTarget b))) o len) := by
  simp only [State.windowRead, if_neg hlen.ne', hw, if_pos hin]

theorem State.windowRead_blockLock {k o len : Nat} (hw : windowAt a = .blockLock k o) (hlen : 0 < len) (hin : o + len ≤ 4) :
    s.windowRead a len = some (bytesAt (leBytes 4 (s.tables.lockWord (blockTarget k))) o len) := by
  simp only [State.windowRead, if_neg hlen.ne', hw, if_pos hin]

theorem State.windowRead_undefined {len : Nat} (hw : windowAt a = .undefined) : s.windowRead a len = none := by
  simp only [State.windowRead, hw, ite_self]

theorem State.tableWindow_turned (hmem : s.memOk 0x2021 = false) (len : Nat) (d : List Byte) :
    s.tableWindowRead a len = s.turnedAway ∧ s.tableWindowWrite a d = s.turnedAway := by
  simp [State.tableWindowRead, State.tableWindowWrite, hmem]

section reached
variable (hmem : s.memOk 0x2021 = true)
include hmem

theorem State.tableWindowRead_beyond {len : Nat} (h : inBar 1 a len = false) : s.tableWindowRead a len = s.noBar := by
  simp [State.tableWindowRead, hmem, h]

theorem State.tableWindowWrite_beyond {d : List Byte} (h : inBar 1 a d.length = false) : s.tableWindowWrite a d = s.noBar := by
  simp [State.tableWindowWrite, hmem, h]

theorem State.tableWindowRead_some {len : Nat} {d : List Byte} (hin : inBar 1 a len = true) (hd : s.windowRead a len = some d) :
    s.tableWindowRead a len = s.out (.readData (leNat d) len) := by
  simp [State.tableWindowRead, hmem, hin, hd]

theorem State.tableWindowRead_none {len : Nat} (hin : inBar 1 a len = true) (hd : s.windowRead a len = none) :
    s.tableWindowRead a len = s.completerAbort.hostMis 0x2000 0xD 0x2021 := by
  simp [State.tableWindowRead, hmem, hin, hd]

theorem State.tableWindowWrite_undefined {d : List Byte} (hin : inBar 1 a d.length = true) (hw : windowAt a = .undefined) :
    s.tableWindowWrite a d = s.badWindow := by
  simp [State.tableWindowWrite, hmem, hin, hw]

section octets
variable {d : List Byte} (hd : d ≠ []) (hin : inBar 1 a d.length = true)
include hd hin

theorem State.tableWindowWrite_bucket {b o : Nat} (hw : windowAt a = .bucket b o) : s.tableWindowWrite a d =
    if 32 < o % 32 + d.length then s.badWindow
    else if (s.bucketTable b).isNone then s
    else if ¬ s.tables.holds (bucketTarget b) .window then s.noLock .window
    else s.slotWrite b (o / 32) (leNat (putBytes (leBytes 32 (s.slotRead b (o / 32))) (o % 32) d)) := by
  simp [State.tableWindowWrite, hmem, hin, hw, hd]

theorem State.tableWindowWrite_pair {i o : Nat} (hw : windowAt a = .pair i o) : s.tableWindowWrite a d =
    if 16 < o + d.length then s.badWindow
    else if ¬ s.tables.holds (blockTarget (i / 8)) .window then s.noLock .window
    else s.setTables (s.tables.setPair i (leNat (putBytes (leBytes 16 (s.tables.pair i)) o d))) := by
  simp [State.tableWindowWrite, hmem, hin, hw, hd, counterBlock]

theorem State.tableWindowWrite_bucketLock {b o w : Nat} (hw : windowAt a = .bucketLock b o) (ho : o + d.length ≤ 4)
    (he : (if o = 0 then (d.getD 0 0).toNat else 0) = w) : s.tableWindowWrite a d =
    s.setTables (s.tables.writeLock (bucketTarget b) .window s.clock.now (bit w 1) (bit w 0)) := by
  simp [State.tableWindowWrite, hmem, hin, hw, hd, Nat.not_lt.mpr ho, ← he]

theorem State.tableWindowWrite_blockLock {k o w : Nat} (hw : windowAt a = .blockLock k o) (ho : o + d.length ≤ 4)
    (he : (if o = 0 then (d.getD 0 0).toNat else 0) = w) : s.tableWindowWrite a d =
    s.setTables (s.tables.writeLock (blockTarget k) .window s.clock.now (bit w 1) (bit w 0)) := by
  simp [State.tableWindowWrite, hmem, hin, hw, hd, Nat.not_lt.mpr ho, ← he]

end octets
end reached
end window

/-- The tables are none of what keeps a part from being calm. -/
theorem State.Calm.withTables {s : State} (h : s.Calm) (tb : Tables) : (s.setTables tb).Calm := h

/-- Settles O31: each clause is the rule of its lock or of its place in the map of BAR1, read in the state at the instant. -/
theorem locksGuardTheTableWindow : Obligations.LocksGuardTheTableWindow := by
  unfold Obligations.LocksGuardTheTableWindow
  refine ⟨?_, fun _ _ _ _ => ⟨_, rfl⟩, fun _ _ _ _ => ⟨_, rfl⟩, fun _ _ _ => ⟨_, rfl⟩, fun _ _ _ _ => ⟨_, rfl⟩,
    fun _ _ _ _ => ⟨_, rfl⟩⟩
  intro s t u tb
  have htb : u.tables = tb := s.tick_tables t
  refine ⟨fun g who hc => ?_, fun a len d => ?_, fun hmem => ?_⟩
  · have hu : u.Calm := State.tick_calm s hc t
    have acquires (v : Tables) (hv : tb.lock g who u.clock.now = v) :
        exec (.lockAcquire t g who) s = .next (u.setTables v).devSync :=
      next_settle_calm (show u.setTables (u.tables.writeLock g who u.clock.now false true) = _ by
        rw [Tables.writeLock_acquire, htb, hv]) (hu.withTables v)
    have releases (v : Tables) (hv : (if tb.holds g who then tb.unlock g else tb) = v) :
        exec (.lockRelease t g who) s = .next (u.setTables v).devSync :=
      next_settle_calm (show u.setTables (u.tables.writeLock g who u.clock.now true false) = _ by
        rw [Tables.writeLock_release, htb, hv]) (hu.withTables v)
    have same : u.setTables tb = u := by rw [← htb]; rfl
    refine ⟨fun hfree hroom => ?_, fun hfree hfull => ?_, fun hfree => ⟨?_, ?_, ?_⟩, fun l hl => ⟨?_, ?_, fun hw => ?_,
      fun hw => ?_, fun hyoung => ?_, fun hold => ?_⟩⟩
    · exact acquires _ (by rw [Tables.lock_free hfree, if_pos hroom])
    · rw [acquires tb (by rw [Tables.lock_free hfree, if_neg (Nat.not_lt.mpr hfull)]), same]
    · rw [releases tb (by rw [Tables.holds_free hfree]; rfl), same]
    · exact next_settle_calm (State.lockExpire_free (htb ▸ hfree)) hu
    · simp only [Tables.lockWord, hfree]
    · rw [acquires tb (Tables.lock_held hl who _), same]
    · rw [Tables.lockWord_held hl]
      cases l.holder <;> rfl
    · rw [releases tb (by rw [Tables.holds_held hl, beq_false_of_ne hw]; rfl), same]
    · exact releases _ (by rw [Tables.holds_held hl, hw, beq_self_eq_true, if_pos rfl, Tables.unlock_held hl])
    · exact next_settle_calm ((State.lockExpire_held (htb ▸ hl)).trans (if_neg (Nat.not_lt.mpr hyoung))) hu
    · exact next_settle_eq (((State.lockExpire_held (htb ▸ hl)).trans (if_pos hold)).trans (by rw [htb]))
  · intro reads writes
    have hmemory : u.pcie.memory = s.pcie.memory := by rw [s.tick_pcie t]
    refine ⟨fun hoff => ?_, fun hon hign => ?_, fun hmem => ⟨fun h => ?_, fun h => ?_, fun ha => ⟨fun h => ?_, fun h => ?_⟩⟩⟩
    · have hm : u.memOk 0x2021 = false := by simp only [State.memOk, hmemory, hoff, Bool.false_and]
      have hturn : u.turnedAway = u.out (.pcieStatus 1) := by
        rw [State.turnedAway, hmemory, hoff, if_neg Bool.false_ne_true]
      obtain ⟨hr, hw⟩ := State.tableWindow_turned hm (a := a) len d
      exact ⟨next_settle_eq (hr.trans hturn), next_settle_eq (hw.trans hturn)⟩
    · have hturn : u.turnedAway = u := by rw [State.turnedAway, hmemory, if_pos hon]
      obtain ⟨hr, hw⟩ := State.tableWindow_turned hign (a := a) len d
      exact ⟨next_settle_eq (hr.trans hturn), next_settle_eq (hw.trans hturn)⟩
    · exact next_settle_eq (State.tableWindowRead_beyond hmem (beyond_table h))
    · exact next_settle_eq (State.tableWindowWrite_beyond hmem (beyond_table h))
    · exact next_settle_eq (State.tableWindowRead_none hmem (inBar_table h)
        (State.windowRead_undefined (windowAt_undefined ha)))
    · exact next_settle_eq (State.tableWindowWrite_undefined hmem (inBar_table h) (windowAt_undefined ha))
  · refine ⟨fun b o len hlen hin => ?_, fun b i o d hd hlen => ?_, fun k o len hlen hin => ?_, fun i o d hd hlen => ?_,
      fun b k o len d => ?_⟩
    · exact next_settle_eq (State.tableWindowRead_some hmem (inBar_table (by omega))
        (State.windowRead_bucket (windowAt_bucket b.isLt (by omega)) hlen hin))
    · intro writes
      have hat : windowAt (b.val * 256 + i.val * 32 + o.val) = .bucket b.val (i.val * 32 + o.val) := by
        rw [Nat.add_assoc]; exact windowAt_bucket b.isLt (by omega)
      have hrow : (i.val * 32 + o.val) / 32 = i.val := by omega
      have hoff : (i.val * 32 + o.val) % 32 = o.val := by omega
      have hwrite := State.tableWindowWrite_bucket hmem hd (inBar_table (by omega)) hat
      rw [hrow, hoff] at hwrite
      refine ⟨fun hbig => next_settle_eq (hwrite.trans (if_pos hbig)), fun hin hnone => next_settle_eq (hwrite.trans ?_),
        fun k hin hk => ⟨fun hh => next_settle_eq (hwrite.trans ?_), fun hh => next_settle_eq (hwrite.trans ?_)⟩⟩
      · rw [if_neg (Nat.not_lt.mpr hin), if_pos (by rw [hnone]; rfl)]
      · rw [if_neg (Nat.not_lt.mpr hin), if_neg (by rw [hk]; exact Bool.false_ne_true), htb, if_neg (not_not.mpr hh)]
        simp only [State.slotWrite, State.slotRead, hk, htb]
        rfl
      · rw [if_neg (Nat.not_lt.mpr hin), if_neg (by rw [hk]; exact Bool.false_ne_true), htb,
          if_pos (by rw [hh]; exact Bool.false_ne_true)]
        rfl
    · have hat : windowAt (0x4000000 + k.val * 128 + o) = .pair (8 * k.val + o / 16) (o % 16) := by
        rw [show 0x4000000 + k.val * 128 + o = 0x4000000 + (8 * k.val + o / 16) * 16 + o % 16 by omega]
        exact windowAt_pair (by omega) (by omega)
      have hread := State.windowRead_pair (s := u) (len := len) hat hlen (by omega)
      rw [show 8 * k.val + o / 16 - (8 * k.val + o / 16) % 8 = 8 * k.val by omega,
        show (8 * k.val + o / 16) % 8 * 16 + o % 16 = o by omega] at hread
      exact next_settle_eq (State.tableWindowRead_some hmem (inBar_table (by omega)) hread)
    · intro writes
      have hwrite := State.tableWindowWrite_pair hmem hd (inBar_table (by omega)) (windowAt_pair i.isLt o.isLt)
      refine ⟨fun hbig => next_settle_eq (hwrite.trans (if_pos hbig)), fun hin => ⟨fun hh => next_settle_eq (hwrite.trans ?_),
        fun hh => next_settle_eq (hwrite.trans ?_)⟩⟩
      · rw [if_neg (Nat.not_lt.mpr hin), htb, if_neg (not_not.mpr hh)]
      · rw [if_neg (Nat.not_lt.mpr hin), htb, if_pos (by rw [hh]; exact Bool.false_ne_true)]
        rfl
    · intro word
      have reads {a : Nat} {g : LockTarget} (h4 : a + len ≤ 2 ^ 29)
          (hr : u.windowRead a len = some (bytesAt (leBytes 4 (u.tables.lockWord g)) o.val len)) :
          exec (.tableWindowRead t a len) s =
            .next ((u.out (.readData (leNat (bytesAt (leBytes 4 (tb.lockWord g)) o.val len)) len)).settle) :=
        next_settle_eq ((State.tableWindowRead_some hmem (inBar_table h4) hr).trans (by rw [htb]))
      have hlow : (if o.val = 0 then (d.getD 0 0).toNat else 0) = if o = 0 then (d.headD 0).toNat else 0 := by
        simp only [Fin.val_eq_zero_iff]
        cases d <;> rfl
      refine ⟨⟨fun hlen hin => ?_, fun hd hin => ?_⟩, ⟨fun hlen hin => ?_, fun hd hin => ?_⟩⟩
      · refine reads (by omega) ((State.windowRead_bucketLock (windowAt_bucketLock b.isLt o.isLt) hlen hin).trans ?_)
        rw [bucketTarget_val]
      · refine next_settle_eq ((State.tableWindowWrite_bucketLock hmem hd (inBar_table (by omega))
          (windowAt_bucketLock b.isLt o.isLt) hin hlow).trans ?_)
        rw [bucketTarget_val, htb]
        rfl
      · refine reads (by omega) ((State.windowRead_blockLock (windowAt_blockLock k.isLt o.isLt) hlen hin).trans ?_)
        rw [blockTarget_val]
      · refine next_settle_eq ((State.tableWindowWrite_blockLock hmem hd (inBar_table (by omega))
          (windowAt_blockLock k.isLt o.isLt) hin hlow).trans ?_)
        rw [blockTarget_val, htb]
        rfl

end Sys2Proof.Machine
end

section
/-! PROOFS. Facts about transactions: changing the first of a list that satisfies a predicate, what the keystone's checks look
at, and the parts of a record (R220 to R224, R231). -/

namespace Sys2Proof.Machine

/-! ### The first of a list that satisfies a predicate -/

section lists
variable {α β : Type} {p : α → Bool} {f g : α → α}

theorem modFirst_modFirst (hp : ∀ x, p (f x) = p x) (l : List α) :
    modFirst p g (modFirst p f l) = modFirst p (fun x => g (f x)) l := by
  induction l with
  | nil => rfl
  | cons a l ih =>
    cases ha : p a
    · simp [modFirst, ha, ih]
    · simp [modFirst, ha, hp]

theorem dropFirst_modFirst (hp : ∀ x, p (f x) = p x) (l : List α) : dropFirst p (modFirst p f l) = dropFirst p l := by
  induction l with
  | nil => rfl
  | cons a l ih =>
    cases ha : p a
    · simp [modFirst, dropFirst, ha, ih]
    · simp [modFirst, dropFirst, ha, hp]

theorem find?_modFirst (hp : ∀ x, p (f x) = p x) (l : List α) : (modFirst p f l).find? p = (l.find? p).map f := by
  induction l with
  | nil => rfl
  | cons a l ih =>
    cases ha : p a
    · simp [modFirst, ha, ih]
    · simp [modFirst, ha, hp]

theorem map_modFirst {h : α → β} (hh : ∀ x, h (f x) = h x) (l : List α) : (modFirst p f l).map h = l.map h := by
  induction l with
  | nil => rfl
  | cons a l ih =>
    cases ha : p a
    · simp [modFirst, ha, ih]
    · simp [modFirst, ha, hh]

theorem modFirst_none {l : List α} (h : l.all (fun x => !p x) = true) : modFirst p f l = l := by
  induction l with
  | nil => rfl
  | cons a l ih =>
    obtain ⟨ha, hl⟩ : p a = false ∧ l.all (fun x => !p x) = true := by simpa using h
    simp [modFirst, ha, ih hl]

theorem modFirst_append_last {l : List α} (h : l.find? p = none) {a : α} (ha : p a = true) :
    modFirst p f (l ++ [a]) = l ++ [f a] := by
  induction l with
  | nil => simp [modFirst, ha]
  | cons b l ih =>
    obtain ⟨hb, hl⟩ : p b = false ∧ l.find? p = none := by
      cases hb : p b with
      | true => rw [List.find?_cons_of_pos hb] at h; cases h
      | false => exact ⟨rfl, by rwa [List.find?_cons_of_neg (by simp [hb])] at h⟩
    simp [modFirst, hb, ih hl]

theorem mem_dropFirst {l : List α} {a : α} (h : a ∈ l) (ha : p a = false) : a ∈ dropFirst p l := by
  induction l with
  | nil => cases h
  | cons b l ih =>
    cases hb : p b
    · rcases List.mem_cons.mp h with rfl | hl
      · simp [dropFirst, hb]
      · simp [dropFirst, hb, ih hl]
    · rcases List.mem_cons.mp h with rfl | hl
      · rw [ha] at hb; cases hb
      · simpa [dropFirst, hb] using hl

end lists

/-- No record of a transaction at work gives way in the journal (R247). -/
theorem mem_pushRec {r : JRec} {l : List JRec} (h : r ∈ l) (hopen : r.state < 3) (q : JRec) : r ∈ pushRec q l := by
  unfold pushRec
  split
  · exact List.mem_cons_of_mem _ h
  · exact List.mem_cons_of_mem _ (List.mem_reverse.mpr (mem_dropFirst (List.mem_reverse.mpr h) (by simpa using hopen)))

/-! ### What the keystone's checks look at -/

/-- A transaction's work without its times and the records kept for the mirror. -/
def TxWork.core (w : TxWork) : TxWork := { w with last := 0, recs := [] }

theorem insertStaged_core (w : TxWork) (l : List TxWork) :
    (insertStaged w l).map TxWork.core = insertStaged w.core (l.map TxWork.core) := by
  induction l with
  | nil => rfl
  | cons x l ih =>
    unfold insertStaged
    split
    · rename_i h; simp [TxWork.core, h]
    · rename_i h; simpa [insertStaged, TxWork.core, h] using ih

theorem Tx.staged_core (t : Tx) : t.staged.map TxWork.core =
    ((t.work.map TxWork.core).filter (fun w => w.kseq != 0)).foldr insertStaged [] := by
  unfold Tx.staged
  induction t.work with
  | nil => rfl
  | cons w l ih =>
    cases hk : (w.kseq != 0)
    · simpa [List.filter_cons, hk, TxWork.core] using ih
    · have hk' : (w.core.kseq != 0) = true := hk
      simp only [List.filter_cons, hk, hk', if_true, List.foldr_cons, List.map_cons, insertStaged_core, ih]

theorem State.effective_core {s u : State} (htab : u.tables = s.tables) (hcommit : u.tx.commit = s.tx.commit) (kind : Nat)
    {ws vs : List TxWork} (h : vs.map TxWork.core = ws.map TxWork.core) : u.effective kind vs = s.effective kind ws := by
  have hw : ∀ l : List TxWork, l.reverse.flatMap (fun w => w.writes.filter (fun p => tableKind p.table == kind)) =
      (l.map TxWork.core).reverse.flatMap (fun w => w.writes.filter (fun p => tableKind p.table == kind)) := by
    intro l
    rw [← List.map_reverse, List.flatMap_map]
    rfl
  unfold State.effective
  rw [hw vs, h, ← hw ws, htab, hcommit]

/-- The checks at the keystone look at neither the journal nor the times nor the kept records of a transaction. -/
theorem State.keystoneFault_core (s : State) {x : Tx} (hcommit : x.commit = s.tx.commit)
    (hwork : x.work.map TxWork.core = s.tx.work.map TxWork.core) {w v : TxWork} (hw : v.core = w.core) :
    ({ s with tx := x } : State).keystoneFault v = s.keystoneFault w := by
  have hprog : ({ s with tx := x } : State).progFault = s.progFault := rfl
  have hstaged : (x.staged ++ [v]).map TxWork.core = (s.tx.staged ++ [w]).map TxWork.core := by
    rw [List.map_append, List.map_append, Tx.staged_core, Tx.staged_core, hwork, List.map_singleton, List.map_singleton, hw]
  have heff (kind : Nat) := State.effective_core (s := s) (u := { s with tx := x }) rfl hcommit kind hstaged
  have hI : v.progI = w.progI := by change v.core.progI = w.core.progI; rw [hw]
  have hE : v.progE = w.progE := by change v.core.progE = w.core.progE; rw [hw]
  have hG : v.grats = w.grats := by change v.core.grats = w.core.grats; rw [hw]
  simp only [State.keystoneFault, heff, hprog, hI, hE, hG]

/-! ### The work and the record of a tag changed -/

section tags
variable {x : Tx} {tag : Nat}

theorem Tx.workOf_modWork {f : TxWork → TxWork} (hf : ∀ w, (f w).tag = w.tag) :
    (x.modWork tag f).workOf tag = (x.workOf tag).map f :=
  find?_modFirst (fun w => by rw [hf]) _

theorem Tx.modWork_modWork {f g : TxWork → TxWork} (hf : ∀ w, (f w).tag = w.tag) :
    (x.modWork tag f).modWork tag g = x.modWork tag (fun w => g (f w)) :=
  congrArg (fun l => { x with work := l }) (modFirst_modFirst (fun w => by rw [hf]) _)

theorem Tx.modRec_modRec {f g : JRec → JRec} (hf : ∀ r, (f r).tag = r.tag) :
    (x.modRec tag f).modRec tag g = x.modRec tag (fun r => g (f r)) :=
  congrArg (fun l => { x with journal := l }) (modFirst_modFirst (fun r => by rw [hf]) _)

theorem Tx.modWork_modRec (f : TxWork → TxWork) (g : JRec → JRec) :
    (x.modRec tag g).modWork tag f = (x.modWork tag f).modRec tag g := rfl

/-- Changing a transaction's times or kept records leaves what the other transactions hold. -/
theorem Tx.holder_modWork {f : TxWork → TxWork} (hf : ∀ w, (f w).tag = w.tag) (p : TxWork → Bool) :
    (x.modWork tag f).holder tag p = x.holder tag p := by
  have hfind : ∀ l : List TxWork, (modFirst (fun w => w.tag == tag) f l).find? (fun w => w.tag != tag && p w) =
      l.find? (fun w => w.tag != tag && p w) := by
    intro l
    induction l with
    | nil => rfl
    | cons w l ih =>
      cases hw : (w.tag == tag)
      · simp only [modFirst, hw, Bool.false_eq_true, if_false, List.find?_cons, ih]
      · simp [modFirst, hf, eq_of_beq hw]
  unfold Tx.holder
  rw [show (x.modWork tag f).work = modFirst (fun w => w.tag == tag) f x.work from rfl, hfind]
  rfl

theorem Tx.workSlots_modWork {f : TxWork → TxWork} (hf : ∀ w, (f w).tag = w.tag) :
    (x.modWork tag f).workSlots = x.workSlots := by
  have hsum : ∀ (h : Nat → Nat) (l : List TxWork), sumOf (fun w => h w.tag) (modFirst (fun w => w.tag == tag) f l) =
      sumOf (fun w => h w.tag) l := by
    intro h l
    induction l with
    | nil => rfl
    | cons w l ih => cases hw : (w.tag == tag) <;> simp [modFirst, sumOf, hw, hf, ih]
  exact hsum (fun n => match x.rec_ n with
    | some r => r.shadow
    | none => 0) x.work

end tags

/-! ### The parts of a record -/

theorem bytesAt_getElem? (b : List Byte) (o n i : Nat) :
    (bytesAt b o n)[i]? = if i < n then some (b.getD (o + i) 0) else none := by
  simp only [bytesAt, List.getElem?_append, List.length_take, List.length_drop, List.getElem?_take, List.getElem?_drop,
    List.getElem?_replicate, List.getD_eq_getElem?_getD]
  by_cases hn : i < n <;> by_cases hb : o + i < b.length
  · have : i < min n (b.length - o) := by omega
    simp [this, hn, hb]
  · have h1 : ¬ i < min n (b.length - o) := by omega
    have h2 : i - min n (b.length - o) < n - min n (b.length - o) := by omega
    simp [h1, h2, hn, List.getElem?_eq_none (Nat.not_lt.mp hb)]
  · have h1 : ¬ i < min n (b.length - o) := by omega
    have h2 : ¬ i - min n (b.length - o) < n - min n (b.length - o) := by omega
    simp [h1, h2, hn]
  · have h1 : ¬ i < min n (b.length - o) := by omega
    have h2 : ¬ i - min n (b.length - o) < n - min n (b.length - o) := by omega
    simp [h1, h2, hn]

theorem bytesAt_bytesAt {b : List Byte} {o n m : Nat} (h : o + n ≤ m) : bytesAt (bytesAt b 0 m) o n = bytesAt b o n := by
  refine List.ext_getElem? fun i => ?_
  rw [bytesAt_getElem?, bytesAt_getElem?]
  split
  · rw [List.getD_eq_getElem?_getD, bytesAt_getElem?, if_pos (by omega), Option.getD_some, Nat.zero_add]
  · rfl

theorem bytesAt_length (b : List Byte) (o n : Nat) : (bytesAt b o n).length = n := by simp [bytesAt]

theorem bytesAt_middle (a b c : List Byte) : bytesAt (a ++ (b ++ c)) a.length b.length = b := by
  simp [bytesAt]

theorem leNat_leBytes (w n : Nat) : leNat (leBytes w n) = n % 256 ^ w := by
  induction w generalizing n with
  | zero => simp [leBytes, leNat, Nat.mod_one]
  | succ w ih =>
    have hbyte : (byteOf n).toNat = n % 256 := BitVec.toNat_ofNat ..
    rw [leBytes, leNat, ih, hbyte, Nat.pow_succ', Nat.mod_mul]

theorem beNat_beBytes (w n : Nat) : beNat (beBytes w n) = n % 256 ^ w := by
  rw [beNat, beBytes, List.reverse_reverse, leNat_leBytes]

/-- Octets that are all zero from a place on (R222). -/
theorem firstNonZero_zeros {a : List Byte} (k : Nat) {o : Nat} (n : Nat) (h : a.length ≤ o) :
    firstNonZero (a ++ zeros k) o n = none := by
  have hzero : ∀ i, bytesAt (a ++ zeros k) (o + i) 1 = [0] := by
    intro i
    refine List.ext_getElem? fun j => ?_
    rw [bytesAt_getElem?]
    match j with
    | 0 =>
      rw [if_pos Nat.one_pos, List.getD_eq_getElem?_getD, List.getElem?_append_right (by omega), zeros,
        List.getElem?_replicate]
      split <;> rfl
    | j + 1 => simp
  simp [firstNonZero, hzero]

section txnRecord
variable (kind : Nat) (key : Bool) (txn : Nat) (target payload : List Byte)

theorem txnRecord_at {o n : Nat} (h : o + n ≤ 192) : bytesAt (txnRecord kind key txn target payload) o n =
    bytesAt ([byteOf kind, byteOf (flag key)] ++ beBytes 2 payload.length ++ beBytes 4 txn ++ bytesAt target 0 8 ++
      payload) o n := bytesAt_bytesAt h

theorem txParse_txnRecord_kind : (txParse (txnRecord kind key txn target payload)).kind = kind % 256 := by
  have hat : bytesAt (txnRecord kind key txn target payload) 0 1 = [byteOf kind] := txnRecord_at _ _ _ _ _ (by decide)
  rw [txParse, beAt, hat]
  simp [beNat, leNat, byteOf]

theorem txParse_txnRecord_key : (txParse (txnRecord kind key txn target payload)).key = key := by
  have hat : bytesAt (txnRecord kind key txn target payload) 1 1 = [byteOf (flag key)] :=
    txnRecord_at _ _ _ _ _ (by decide)
  simp only [txParse, beAt, hat]
  cases key <;> rfl

theorem txParse_txnRecord_tag (h : txn < 2 ^ 32) : (txParse (txnRecord kind key txn target payload)).tag = txn := by
  have hat : bytesAt (txnRecord kind key txn target payload) 4 4 = beBytes 4 txn := txnRecord_at _ _ _ _ _ (by decide)
  have hnum : (txParse (txnRecord kind key txn target payload)).tag = beNat (beBytes 4 txn) := congrArg beNat hat
  rw [hnum, beNat_beBytes]
  omega

theorem txParse_txnRecord_target : (txParse (txnRecord kind key txn target payload)).target = bytesAt target 0 8 := by
  have hmid := bytesAt_middle ([byteOf kind, byteOf (flag key)] ++ beBytes 2 payload.length ++ beBytes 4 txn)
    (bytesAt target 0 8) payload
  rw [bytesAt_length, ← List.append_assoc] at hmid
  exact (txnRecord_at _ _ _ _ _ (by decide)).trans hmid

theorem txnRecord_length : (txnRecord kind key txn target payload).length = 192 := bytesAt_length _ _ _

/-- A record without target and payload has the form of its kind (R220, R222). -/
theorem State.txFormFault_bare (s : State) {kind : Nat} (hk : kind = 1 ∨ kind = 5 ∨ kind = 6) :
    s.txFormFault (txnRecord kind false txn (zeros 8) []) = none := by
  have hrec : txnRecord kind false txn (zeros 8) [] = [byteOf kind, 0, 0, 0] ++ beBytes 4 txn ++ zeros 184 := rfl
  have hkind : beAt (txnRecord kind false txn (zeros 8) []) 0 1 = kind := by
    rw [beAt, txnRecord_at _ _ _ _ _ (by decide)]
    rcases hk with rfl | rfl | rfl <;> rfl
  have hflags : beAt (txnRecord kind false txn (zeros 8) []) 1 1 = 0 := by
    rw [beAt, txnRecord_at _ _ _ _ _ (by decide)]
    rfl
  have hlen : beAt (txnRecord kind false txn (zeros 8) []) 2 2 = 0 := by
    rw [beAt, txnRecord_at _ _ _ _ _ (by decide)]
    rfl
  have hzero (o n : Nat) (h : 8 ≤ o) : firstNonZero (txnRecord kind false txn (zeros 8) []) o n = none := by
    rw [hrec]
    exact firstNonZero_zeros 184 n h
  rcases hk with rfl | rfl | rfl <;>
    simp [State.txFormFault, txHeadFault, txLenOk, hkind, hflags, hlen, hzero]

end txnRecord
end Sys2Proof.Machine
end

section
/-! PROOFS. Transaction records of host software: laid, staged, refused, abandoned (R220 to R224, R227 to R231, R247). -/

namespace Sys2Proof.Machine

/-! ### The keystone, and records kept for the mirror -/

/-- A record kept for the mirror in a transaction (R487). -/
def State.keptRec (s : State) (txn : Nat) (bs : List Byte) : State :=
  { s with tx := s.tx.modWork txn (fun x => { x with recs := x.recs ++ [bs] }) }

/-- The keystone noted in the journal record (R231). -/
def State.marked (s : State) (txn : Nat) : State :=
  { s with tx := s.tx.modRec txn (fun r => { r with flags := setBit r.flags 3 true, ktime := s.time80 }) }

/-- A transaction STAGED at the keystone (R224, R232). -/
def State.staging (s : State) (txn : Nat) : State :=
  { s with tx := { ((s.tx.modWork txn (fun x => { x with kseq := s.tx.kseq + 1, kat := s.clock.now })).modRec txn
    (fun r => { r with flags := setBit r.flags 3 true, ktime := s.time80, state := 2 })) with kseq := s.tx.kseq + 1 } }

section keystone
variable {s : State} {txn : Nat} {bs : List Byte} {v w : TxWork}

theorem State.keptRec_fault (hw : v.core = w.core) : (s.keptRec txn bs).keystoneFault v = s.keystoneFault w :=
  State.keystoneFault_core s (x := s.tx.modWork txn (fun x => { x with recs := x.recs ++ [bs] })) rfl
    (map_modFirst (f := fun x : TxWork => { x with recs := x.recs ++ [bs] }) (fun _ => rfl) _) hw

theorem State.marked_fault : (s.marked txn).keystoneFault w = s.keystoneFault w :=
  State.keystoneFault_core s (x := (s.marked txn).tx) rfl rfl rfl

theorem State.keystone_stages (hw : s.tx.workOf txn = some w) (hf : s.keystoneFault w = none) :
    s.keystone txn = (s.staging txn, .done) := by
  have hmark : (s.marked txn).keystoneFault w = none := State.marked_fault.trans hf
  have hrec := Tx.modRec_modRec (x := s.tx.modWork txn (fun x => { x with kseq := s.tx.kseq + 1, kat := s.clock.now }))
    (tag := txn) (f := fun r => { r with flags := setBit r.flags 3 true, ktime := s.time80 })
    (g := fun r => { r with state := 2 }) (fun _ => rfl)
  unfold State.marked at hmark
  simp only [State.keystone, hw, hmark]
  exact congrArg (fun x : Tx => (({ s with tx := { x with kseq := s.tx.kseq + 1 } } : State), TxAns.done)) hrec

theorem State.keystone_fails {a : Nat} (hw : s.tx.workOf txn = some w) (hf : s.keystoneFault w = some a) :
    s.keystone txn = ((s.marked txn).abandon txn 3 a, .abort a) := by
  have hmark : (s.marked txn).keystoneFault w = some a := State.marked_fault.trans hf
  unfold State.marked at hmark
  simp only [State.keystone, hw, hmark]
  rfl

theorem State.keptRec_workOf : (s.keptRec txn bs).tx.workOf txn =
    (s.tx.workOf txn).map (fun x => { x with recs := x.recs ++ [bs] }) :=
  Tx.workOf_modWork (fun _ => rfl)

/-- The record whose keystone stages its transaction is kept before or after, alike. -/
theorem State.keptRec_staging : (s.staging txn).keptRec txn bs = (s.keptRec txn bs).staging txn := by
  have hl := Tx.modWork_modWork (x := s.tx) (tag := txn) (f := fun x => { x with kseq := s.tx.kseq + 1, kat := s.clock.now })
    (g := fun x => { x with recs := x.recs ++ [bs] }) (fun _ => rfl)
  have hr := Tx.modWork_modWork (x := s.tx) (tag := txn) (f := fun x => { x with recs := x.recs ++ [bs] })
    (g := fun x => { x with kseq := s.tx.kseq + 1, kat := s.clock.now }) (fun _ => rfl)
  have hwork := congrArg Tx.work (hl.trans hr.symm)
  exact congrArg (fun l : List TxWork => ({ s.staging txn with tx := { (s.staging txn).tx with work := l } } : State)) hwork

/-- A transaction's kept records go with it. -/
theorem State.keptRec_abandon {cause a : Nat} : ((s.keptRec txn bs).marked txn).abandon txn cause a =
    (s.marked txn).abandon txn cause a := by
  have hdrop : dropFirst (fun w => w.tag == txn) (s.keptRec txn bs).tx.work = dropFirst (fun w => w.tag == txn) s.tx.work :=
    dropFirst_modFirst (f := fun x : TxWork => { x with recs := x.recs ++ [bs] }) (fun _ => rfl) _
  have hmark : ((s.keptRec txn bs).marked txn).tx.work = (s.keptRec txn bs).tx.work := rfl
  simp only [State.abandon, Tx.modRec, hmark, hdrop]
  rfl

/-- A record with the keystone flag, or the keystone record, whose checks pass. -/
theorem State.keystone_kept_stages (hw : (s.keptRec txn bs).tx.workOf txn = some w)
    (hf : (s.keptRec txn bs).keystoneFault w = none) :
    keepRec txn bs (s.keystone txn) = ((s.keptRec txn bs).staging txn, .done) := by
  obtain ⟨v, hv, rfl⟩ := Option.map_eq_some_iff.mp (State.keptRec_workOf ▸ hw)
  rw [State.keptRec_fault (show ({ v with recs := v.recs ++ [bs] } : TxWork).core = v.core from rfl)] at hf
  rw [State.keystone_stages hv hf, ← State.keptRec_staging]
  rfl

/-- The same where a check fails: the transaction ends with the abort. -/
theorem State.keystone_kept_fails {a : Nat} (hw : (s.keptRec txn bs).tx.workOf txn = some w)
    (hf : (s.keptRec txn bs).keystoneFault w = some a) :
    keepRec txn bs (s.keystone txn) = (((s.keptRec txn bs).marked txn).abandon txn 3 a, .abort a) := by
  obtain ⟨v, hv, rfl⟩ := Option.map_eq_some_iff.mp (State.keptRec_workOf ▸ hw)
  rw [State.keptRec_fault (show ({ v with recs := v.recs ++ [bs] } : TxWork).core = v.core from rfl)] at hf
  rw [State.keystone_fails hv hf, State.keptRec_abandon]
  rfl

end keystone

/-! ### A record that is laid -/

section laid
variable {s : State} {txn : Nat} {bs : List Byte} {r : TxRec} {f : TxWork → TxWork} {g : JRec → JRec}

/-- The state of a record laid and kept. -/
def State.laidKept (s : State) (txn : Nat) (bs : List Byte) (f : TxWork → TxWork) (g : JRec → JRec) : State :=
  { s with tx := ((s.tx.modWork txn (fun x => { f x with last := s.clock.now, recs := x.recs ++ [bs] })).modRec txn
    (fun r => { g r with records := r.records + 1 })) }

/-- The transaction's time noted (R224). -/
def State.timed (s : State) (txn : Nat) : State :=
  { s with tx := s.tx.modWork txn (fun w => { w with last := s.clock.now }) }

/-- What is laid in a transaction touches neither its tag, its times nor its kept records. -/
structure Lays (f : TxWork → TxWork) : Prop where
  tag : ∀ x, (f x).tag = x.tag
  recs : ∀ x, (f x).recs = x.recs
  last : ∀ x n, ({ (f { x with last := n }) with last := n } : TxWork) = { f x with last := n }

theorem State.timed_laid_kept (hf : Lays f) : ((s.timed txn).laid txn f g).keptRec txn bs = s.laidKept txn bs f g := by
  have hlaid := Tx.modWork_modWork (x := s.tx) (tag := txn) (f := fun w => { w with last := s.clock.now })
    (g := fun w => { f w with last := s.clock.now }) (fun _ => rfl)
  have hkept := Tx.modWork_modWork (x := s.tx) (tag := txn) (f := fun w => { f w with last := s.clock.now })
    (g := fun x => { x with recs := x.recs ++ [bs] }) hf.tag
  have hsame : (fun w : TxWork => ({ (f { w with last := s.clock.now }) with last := s.clock.now } : TxWork)) =
      fun w => { f w with last := s.clock.now } := funext fun w => hf.last w _
  have hrecs : (fun w : TxWork => ({ f w with last := s.clock.now, recs := (f w).recs ++ [bs] } : TxWork)) =
      fun w => { f w with last := s.clock.now, recs := w.recs ++ [bs] } := funext fun w => by rw [hf.recs w]
  rw [hsame] at hlaid
  rw [hrecs, ← hlaid] at hkept
  have hwork := congrArg Tx.work hkept
  exact congrArg (fun l : List TxWork =>
    ({ s.laidKept txn bs f g with tx := { (s.laidKept txn bs f g).tx with work := l } } : State)) hwork

theorem State.timed_laid_thenKeystone (hf : Lays f) (hkey : r.key = false) :
    keepRec txn bs (((s.timed txn).laid txn f g).thenKeystone r .done) = (s.laidKept txn bs f g, .done) := by
  rw [← State.timed_laid_kept hf]
  simp only [State.thenKeystone, hkey]
  rfl

section flagged
variable (hf : Lays f) (htag : r.tag = txn) (hkey : r.key = true) {w : TxWork}
  (hw : (s.laidKept txn bs f g).tx.workOf txn = some w)
include hf htag hkey hw

theorem State.timed_laid_stages (hfault : (s.laidKept txn bs f g).keystoneFault w = none) :
    keepRec txn bs (((s.timed txn).laid txn f g).thenKeystone r .done) = ((s.laidKept txn bs f g).staging txn, .done) := by
  rw [← State.timed_laid_kept hf] at hw hfault ⊢
  rw [State.thenKeystone, hkey, htag]
  exact State.keystone_kept_stages hw hfault

theorem State.timed_laid_fails {a : Nat} (hfault : (s.laidKept txn bs f g).keystoneFault w = some a) :
    keepRec txn bs (((s.timed txn).laid txn f g).thenKeystone r .done) =
      (((s.laidKept txn bs f g).marked txn).abandon txn 3 a, .abort a) := by
  rw [← State.timed_laid_kept hf] at hw hfault ⊢
  rw [State.thenKeystone, hkey, htag]
  exact State.keystone_kept_fails hw hfault

end flagged

theorem State.laidKept_workOf (hf : Lays f) : (s.laidKept txn bs f g).tx.workOf txn =
    (s.tx.workOf txn).map (fun x => { f x with last := s.clock.now, recs := x.recs ++ [bs] }) :=
  Tx.workOf_modWork hf.tag

end laid

/-! ### A record on its way to its transaction -/

section record
variable {s : State} {who txn : Nat} {bs : List Byte}
  (hform : s.txFormFault bs = none) (hpair : s.pairTakesNone = false) (hst : s.dev.st.takesRecords = true)
  (htag : (txParse bs).tag = txn)
include hform hpair hst htag

/-- A well-formed record in a state that takes records goes to its transaction (R222). -/
theorem State.txRecord_serves : s.txRecord who bs = keepRec txn bs (s.txServe who (txParse bs)) := by
  simp only [State.txRecord, hform, hpair, hst, htag, Bool.false_eq_true, not_true, if_false]

/-- A record for a tag that no journal record has is refused. -/
theorem State.txRecord_unknown (hkind : (txParse bs).kind ≠ 1) (hno : s.tx.rec_ txn = none) :
    s.txRecord who bs = (s, .abort 0x01110000) := by
  rw [State.txRecord_serves hform hpair hst htag]
  simp only [State.txServe, hkind, if_false, Tx.tagFault, htag, hno]
  rfl

/-- A record for an OPEN transaction is acted on. -/
theorem State.txRecord_acts {w : TxWork} {j : JRec} (hkind : (txParse bs).kind ≠ 1) (hw : s.tx.workOf txn = some w)
    (hj : s.tx.rec_ txn = some j) (hopen : j.state = 1) :
    s.txRecord who bs = keepRec txn bs ((s.timed txn).txAct w j.records (txParse bs)) := by
  rw [State.txRecord_serves hform hpair hst htag]
  simp only [State.txServe, hkind, if_false, Tx.tagFault, htag, hj, hw, hopen, if_true]
  rfl

end record

/-- OPEN begins a transaction and is kept as its first record (R224). -/
theorem State.txOpen_kept {s : State} {txn : Nat} {bs : List Byte} (who : Nat) (hw : s.tx.workOf txn = none)
    (hroom : s.tx.work.length < 64) : keepRec txn bs (s.txOpen who txn) = ({ s with tx := { s.tx with
      journal := pushRec ⟨txn, 1, 0, s.tx.freeSlot, 0, who, 0, 0, 0, 0, 0, 0⟩ s.tx.journal
      work := s.tx.work ++ [⟨txn, [], [], none, none, [], s.clock.now, 0, 0, [bs]⟩] } }, .done) := by
  have hnone : (s.tx.workOf txn).isSome = false := by rw [hw]; rfl
  have hnew : modFirst (fun w : TxWork => w.tag == txn) (fun x => { x with recs := x.recs ++ [bs] })
      (s.tx.work ++ [⟨txn, [], [], none, none, [], s.clock.now, 0, 0, []⟩]) =
      s.tx.work ++ [⟨txn, [], [], none, none, [], s.clock.now, 0, 0, [bs]⟩] :=
    modFirst_append_last hw (beq_self_eq_true txn)
  simp only [State.txOpen, hnone, Bool.false_eq_true, if_false, if_neg (Nat.not_le.mpr hroom), keepRec, Tx.modWork, hnew]

theorem State.txServe_open {s : State} {who txn : Nat} {bs : List Byte} {r : TxRec} (hkind : r.kind = 1) (htag : r.tag = txn)
    (hw : s.tx.workOf txn = none) (hroom : s.tx.work.length < 64) :
    keepRec txn bs (s.txServe who r) = keepRec txn bs (s.txOpen who txn) := by
  have hnone : (s.tx.workOf txn).isSome = false := by rw [hw]; rfl
  simp only [State.txServe, hkind, htag, State.txOpen, hnone, Bool.false_eq_true, if_true, if_false,
    if_neg (Nat.not_le.mpr hroom)]

/-! ### A record from its path -/

section answers
variable {s v : State} {r : Req}

theorem State.recordWrite_done (h : s.txRecord r.requester r.val = (v, .done)) : s.recordWrite r = (v, .done []) := by
  simp only [State.recordWrite, h]

theorem State.recordWrite_abort {c : Nat} (h : s.txRecord r.requester r.val = (v, .abort c)) :
    s.recordWrite r = (v, .abort c) := by
  simp only [State.recordWrite, h]

end answers

/-- The row of 0x4501:01, which takes records (R219, R220). -/
def recordObj : ObjDesc := ⟨0x4501, 0x4501, 1, 1, 9, 192, 3, .volatile, 2, .any, [], 0⟩

theorem objDesc_record : objDesc 0x4501 1 = some recordObj := by decide

theorem State.valueFault_record (s : State) {bs : List Byte} (hlen : bs.length = 192) :
    s.valueFault recordObj 0x4501 1 bs = none := by
  simp only [State.valueFault, recordObj, hlen, ne_eq, not_true, if_false]
  rfl

section path
variable {i : Instr} {s : State} {t : Tick} {p : Path} {tag : Nat} {bs : List Byte}
  (hrow : rowRequest i = some ⟨t, p, tag, 2, 0x4501, 1, bs⟩) (hlen : bs.length = 192)
  (hready : (s.tick t).Ready p) (hrole : 2 ≤ (s.tick t).roleOf p)
include hrow hlen hready hrole

/-- A record reaches 0x4501:01 of a ready part. -/
theorem exec_record : exec i s = .next ((((s.tick t).begun p).serve ((s.tick t).reqOn p 2 tag 0x4501 1 bs)).settle) ∧
    ((s.tick t).begun p).serveReq ((s.tick t).reqOn p 2 tag 0x4501 1 bs) =
      ((s.tick t).begun p).recordWrite ((s.tick t).reqOn p 2 tag 0x4501 1 bs) := by
  refine ⟨by rw [exec_rowRequest_ready hrow hready (.inr (.inr (.inl (show 0x4501 % 65536 ≠ 0x9000 by decide))))], ?_⟩
  have hserve := State.serveReq_write_ready (val := bs) tag (by decide : 0x4501 < 65536) (by decide : 1 < 256) hready
    objDesc_record (by decide) (by decide)
  have hwrite := State.serveObject_write (s := (s.tick t).begun p) ((s.tick t).reqOn p 2 tag 0x4501 1 bs) recordObj rfl
    (by decide) hrole (show 0x4501 % 65536 ≠ 0xC000 by decide) (State.valueFault_record _ hlen)
  exact hserve.trans hwrite

theorem exec_record_done {v : State} (h : ((s.tick t).begun p).txRecord ((s.tick t).requesterOf p) bs = (v, .done)) :
    exec i s = .next ((v.respond ((s.tick t).reqOn p 2 tag 0x4501 1 bs) 0 [] false).settle) := by
  obtain ⟨hexec, hserve⟩ := exec_record hrow hlen hready hrole
  rw [hexec]
  refine congrArg (fun u => Host.Outcome.next (State.settle u))
    (State.serve_done (hserve.trans (State.recordWrite_done h)) (show 0x4501 % 65536 ≠ 0x2021 by decide))

theorem exec_record_aborted {v : State} {c : Nat}
    (h : ((s.tick t).begun p).txRecord ((s.tick t).requesterOf p) bs = (v, .abort c)) : exec i s =
      .next (((v.bump 0x2030 0xD).respond ((s.tick t).reqOn p 2 tag 0x4501 1 bs) 1 (leBytes 4 c) false).settle) := by
  obtain ⟨hexec, hserve⟩ := exec_record hrow hlen hready hrole
  rw [hexec]
  refine congrArg (fun u => Host.Outcome.next (State.settle u)) 
    (State.serve_abort (hserve.trans (State.recordWrite_abort h)))

/-- A record that is laid in its transaction, without the keystone flag, with it, and where the keystone fails. -/
theorem exec_record_laid {txn : Nat} {f : TxWork → TxWork} {g : JRec → JRec} {w₀ : TxWork} {k : Bool} (hf : Lays f)
    (hw₀ : ((s.tick t).begun p).tx.workOf txn = some w₀) (htag : (txParse bs).tag = txn) (hk : (txParse bs).key = k)
    (hact : ((s.tick t).begun p).txRecord ((s.tick t).requesterOf p) bs = keepRec txn bs
      (((((s.tick t).begun p).timed txn).laid txn f g).thenKeystone (txParse bs) .done)) :
    let v := ((s.tick t).begun p).laidKept txn bs f g
    let r := (s.tick t).reqOn p 2 tag 0x4501 1 bs
    (k = false → exec i s = .next ((v.respond r 0 [] false).settle)) ∧
      (k = true → (∀ w, v.tx.workOf txn = some w → v.keystoneFault w = none) →
        exec i s = .next (((v.staging txn).respond r 0 [] false).settle)) ∧
      (∀ w a, k = true → v.tx.workOf txn = some w → v.keystoneFault w = some a →
        exec i s = .next (((((v.marked txn).abandon txn 3 a).bump 0x2030 0xD).respond r 1 (leBytes 4 a) false).settle)) := by
  intro v r
  refine ⟨fun hkf => ?_, fun hkt hpass => ?_, fun w a hkt hw hfault => ?_⟩
  · exact exec_record_done hrow hlen hready hrole (hact.trans (State.timed_laid_thenKeystone hf (hk.trans hkf)))
  · have hw : v.tx.workOf txn = _ := (State.laidKept_workOf hf).trans (congrArg _ hw₀)
    exact exec_record_done hrow hlen hready hrole
      (hact.trans (State.timed_laid_stages hf htag (hk.trans hkt) hw (hpass _ hw)))
  · exact exec_record_aborted hrow hlen hready hrole (hact.trans (State.timed_laid_fails hf htag (hk.trans hkt) hw hfault))

end path

/-! ### What each kind of record lays -/

section kinds
variable {s : State} {txn n : Nat} {w : TxWork} {r : TxRec} (htag : w.tag = txn) (hroom : n < 65536)
include htag hroom

theorem State.timed_txWrite (hkind : r.kind = 2)
    (hfree : s.tx.holder txn (fun x => x.writes.any (fun q => q.table == beAt r.target 0 2 &&
      q.key == writeKey (beAt r.target 0 2) r)) = none)
    (hentry : s.entryFault (beAt r.target 0 2) (writeKey (beAt r.target 0 2) r) (beNat r.payload) = none)
    (hslots : w.slotsFor (beAt r.target 0 2) (writeKey (beAt r.target 0 2) r) ≤ s.shadowFree) :
    (s.timed txn).txAct w n r = ((s.timed txn).laid txn
      (fun x => x.lay (beAt r.target 0 2) (writeKey (beAt r.target 0 2) r) (beNat r.payload))
      (fun j => { j with shadow := j.shadow + w.slotsFor (beAt r.target 0 2) (writeKey (beAt r.target 0 2) r) })).thenKeystone
        r .done := by
  have hholder := (Tx.holder_modWork (x := s.tx) (tag := txn) (f := fun w => { w with last := s.clock.now }) (fun _ => rfl)
    (fun x => x.writes.any (fun q => q.table == beAt r.target 0 2 && q.key == writeKey (beAt r.target 0 2) r))).trans hfree
  have hentry' : (s.timed txn).entryFault (beAt r.target 0 2) (writeKey (beAt r.target 0 2) r) (beNat r.payload) = none :=
    hentry
  have hshadow : (s.timed txn).shadowFree = s.shadowFree := congrArg (fun k => 1048576 - k - s.committedSlots)
    (Tx.workSlots_modWork (x := s.tx) (tag := txn) (f := fun w => { w with last := s.clock.now }) (fun _ => rfl))
  have hheld : (s.timed txn).tx.holder txn (fun x => x.writes.any (fun q => q.table == beAt r.target 0 2 &&
      q.key == writeKey (beAt r.target 0 2) r)) = none := hholder
  simp only [State.txAct, hkind, State.txWrite, htag, if_neg (Nat.not_le.mpr hroom), hheld, hentry', hshadow, if_pos hslots]

theorem State.timed_txProgram {dir off : Nat} (hkind : r.kind = 3) (hdir : beAt r.target 0 1 = dir)
    (hoff : beAt r.target 2 4 = off) (hfree : s.tx.holder txn (fun x => (x.prog dir).isSome) = none)
    (hat : off = ((w.prog dir).getD []).length) (hpart : progComplete ((w.prog dir).getD []) = false) :
    (s.timed txn).txAct w n r = ((s.timed txn).laid txn
      (fun x => if dir = 0 then { x with progI := some ((w.prog dir).getD [] ++ r.payload) }
        else { x with progE := some ((w.prog dir).getD [] ++ r.payload) })
      (fun j => { j with flags := setBit j.flags dir true })).thenKeystone r .done := by
  have hheld : (s.timed txn).tx.holder txn (fun x => (x.prog dir).isSome) = none :=
    (Tx.holder_modWork (x := s.tx) (tag := txn) (f := fun w => { w with last := s.clock.now }) (fun _ => rfl) _).trans hfree
  simp only [State.txAct, hkind, State.txProgram, htag, if_neg (Nat.not_le.mpr hroom), hdir, hoff, hheld, ← hat, hpart, ne_eq,
    not_true, Bool.false_eq_true, or_self, if_false]

theorem State.timed_txGrat {port part first : Nat} (hkind : r.kind = 4) (hport : beAt r.target 0 1 = port)
    (hpart : beAt r.target 1 1 = part) (hfirst : beAt r.target 2 2 = first) (hrest : beAt r.target 4 4 = 0)
    (hfault : gratFault port part first r.payload = none)
    (hfree : s.tx.holder txn (fun x => x.grats.any (fun g => g.port == port)) = none) :
    (s.timed txn).txAct w n r = ((s.timed txn).laid txn
      (fun x => { x with grats := x.grats ++ [⟨port, part, first, r.payload⟩] })
      (fun j => { j with flags := setBit j.flags 2 true })).thenKeystone r .done := by
  have hheld : (s.timed txn).tx.holder txn (fun x => x.grats.any (fun g => g.port == port)) = none :=
    (Tx.holder_modWork (x := s.tx) (tag := txn) (f := fun w => { w with last := s.clock.now }) (fun _ => rfl) _).trans hfree
  simp only [State.txAct, hkind, State.txGrat, htag, if_neg (Nat.not_le.mpr hroom), hport, hpart, hfirst, hrest, hfault, hheld,
    ne_eq, not_true, if_false]

end kinds

/-- The first record of the keystone and the ABANDON record name the transaction alone. -/
theorem State.timed_abandon {s : State} {txn : Nat} {bs : List Byte}
    (honly : (dropFirst (fun x => x.tag == txn) s.tx.work).all (fun x => x.tag != txn) = true) :
    keepRec txn bs ((s.timed txn).abandon txn 1 0, .done) = (({ s with tx := { s.tx with
      journal := modFirst (fun r => r.tag == txn) (fun r => { r with state := 4, cause := 1, result := 0, shadow := 0 })
        s.tx.journal
      work := dropFirst (fun x => x.tag == txn) s.tx.work } }.bump 0x4500 8).msix 1, .done) := by
  have hdrop : dropFirst (fun w => w.tag == txn) (s.timed txn).tx.work = dropFirst (fun w => w.tag == txn) s.tx.work :=
    dropFirst_modFirst (f := fun w : TxWork => { w with last := s.clock.now }) (fun _ => rfl) _
  have hsame (x : Tx) (hx : x.work = dropFirst (fun w => w.tag == txn) s.tx.work) :
      x.modWork txn (fun w => { w with recs := w.recs ++ [bs] }) = x := by
    have hnone : modFirst (fun w : TxWork => w.tag == txn) (fun w => { w with recs := w.recs ++ [bs] }) x.work = x.work :=
      modFirst_none (by rw [hx]; exact honly)
    rw [Tx.modWork, hnone]
  have hwork : ((s.timed txn).abandon txn 1 0).tx.work = dropFirst (fun w => w.tag == txn) s.tx.work := by
    rw [← hdrop]
    simp only [State.abandon, Nat.reduceEqDiff, if_false, State.msix_tx, State.bump_tx]
    rfl
  simp only [keepRec, hsame _ hwork]
  rw [← hdrop]
  rfl

theorem State.timed_txKeystone {s : State} {txn n : Nat} {w : TxWork} {r : TxRec} (hkind : r.kind = 5) (htag : r.tag = txn) :
    (s.timed txn).txAct w n r = (s.timed txn).keystone txn := by
  simp only [State.txAct, hkind, htag]

theorem State.timed_txAbandon {s : State} {txn n : Nat} {w : TxWork} {r : TxRec} (hkind : r.kind = 6) (htag : r.tag = txn) :
    (s.timed txn).txAct w n r = ((s.timed txn).abandon txn 1 0, .done) := by
  simp only [State.txAct, hkind, htag]

/-- The keystone record stages a transaction whose checks pass (R231). -/
theorem State.timed_keystone_kept {s : State} {txn : Nat} {bs : List Byte} {w : TxWork} (hw : s.tx.workOf txn = some w)
    (hfault : s.keystoneFault w = none) : keepRec txn bs ((s.timed txn).keystone txn) =
      (({ s with tx := s.tx.modWork txn (fun x => { x with
        last := s.clock.now, recs := x.recs ++ [bs] }) } : State).staging txn,
        .done) := by
  have hkept : (s.timed txn).keptRec txn bs =
      { s with tx := s.tx.modWork txn (fun x => { x with last := s.clock.now, recs := x.recs ++ [bs] }) } :=
    congrArg (fun x : Tx => ({ s with tx := x } : State)) (Tx.modWork_modWork (x := s.tx) (tag := txn)
      (f := fun w => { w with last := s.clock.now }) (g := fun x => { x with recs := x.recs ++ [bs] }) (fun _ => rfl))
  have hwork : ((s.timed txn).keptRec txn bs).tx.workOf txn =
      some { w with last := s.clock.now, recs := w.recs ++ [bs] } := by
    rw [hkept]
    exact (Tx.workOf_modWork (x := s.tx) (tag := txn)
      (f := fun x => { x with last := s.clock.now, recs := x.recs ++ [bs] }) (fun _ => rfl)).trans (congrArg _ hw)
  rw [State.keystone_kept_stages hwork, hkept]
  rw [hkept]
  exact (State.keystoneFault_core s (w := w) (v := { w with last := s.clock.now, recs := w.recs ++ [bs] })
    (x := s.tx.modWork txn (fun x => { x with last := s.clock.now, recs := x.recs ++ [bs] })) rfl
    (map_modFirst (f := fun x : TxWork => { x with last := s.clock.now, recs := x.recs ++ [bs] }) (fun _ => rfl) _) rfl).trans
      hfault

/-- Settles O32: a record of a ready path goes to its transaction; each kind lays, stages, ends or is refused as its own rule
says, and what is kept for the mirror and the notes of time meet no check. -/
theorem transactionRecordsAreLaid : Obligations.TransactionRecordsAreLaid := by
  unfold Obligations.TransactionRecordsAreLaid
  refine ⟨?_, fun _ _ _ _ _ => ⟨_, rfl⟩, fun _ _ _ _ _ _ _ _ => ⟨_, rfl⟩, fun _ _ _ _ _ _ _ _ _ => ⟨_, rfl⟩,
    fun _ _ _ _ _ _ _ _ _ _ => ⟨_, rfl⟩, fun _ _ _ _ _ => ⟨_, rfl⟩, fun _ _ _ _ _ => ⟨_, rfl⟩⟩
  intro s t p tag txn hready hrole htxn u hpair hst who now takes lays stages lands opened staged
  have tagged (kind : Nat) (key : Bool) (target payload : List Byte) :
      (txParse (txnRecord kind key txn target payload)).tag = txn := txParse_txnRecord_tag _ _ _ _ _ htxn
  refine ⟨fun r hr hlive q => mem_pushRec hr hlive q, fun hnone hroom => ?_, fun hnone => ?_, fun w j hw hj hopen => ?_⟩
  · refine exec_record_done rfl (txnRecord_length ..) hready hrole ?_
    rw [State.txRecord_serves (State.txFormFault_bare _ _ (.inl rfl)) hpair hst (tagged _ _ _ _)]
    exact (State.txServe_open (txParse_txnRecord_kind _ _ _ _ _) (tagged _ _ _ _) hnone hroom).trans
      (State.txOpen_kept who hnone hroom)
  · exact exec_record_aborted rfl (txnRecord_length ..) hready hrole (State.txRecord_unknown
      (State.txFormFault_bare _ _ (.inr (.inl rfl))) hpair hst (tagged _ _ _ _) (by rw [txParse_txnRecord_kind]; decide) hnone)
  have hwtag : w.tag = txn := eq_of_beq (List.find?_some (p := fun x : TxWork => x.tag == txn) hw)
  have acts {bs : List Byte} (hform : u.txFormFault bs = none) (htag : (txParse bs).tag = txn)
      (hkind : (txParse bs).kind ≠ 1) :=
    State.txRecord_acts (who := who) hform hpair hst htag hkind hw hj hopen
  refine ⟨fun hfault => ?_, fun honly => ?_, ?_, ?_, ?_⟩
  · refine exec_record_done rfl (txnRecord_length ..) hready hrole ((acts (State.txFormFault_bare _ _ (.inr (.inl rfl)))
      (tagged _ _ _ _) (by rw [txParse_txnRecord_kind]; decide)).trans ?_)
    rw [State.timed_txKeystone (txParse_txnRecord_kind _ _ _ _ _) (tagged _ _ _ _)]
    exact State.timed_keystone_kept hw hfault
  · refine exec_record_done rfl (txnRecord_length ..) hready hrole ((acts (State.txFormFault_bare _ _ (.inr (.inr rfl)))
      (tagged _ _ _ _) (by rw [txParse_txnRecord_kind]; decide)).trans ?_)
    rw [State.timed_txAbandon (txParse_txnRecord_kind _ _ _ _ _) (tagged _ _ _ _)]
    exact State.timed_abandon honly
  · intro hroom k tabref payload bs r n key data hform hfree hentry hslots
    exact exec_record_laid rfl (txnRecord_length ..) hready hrole ⟨fun _ => rfl, fun _ => rfl, fun _ _ => rfl⟩ hw
      (tagged _ _ _ _) (txParse_txnRecord_key _ _ _ _ _)
      ((acts hform (tagged _ _ _ _) (by rw [txParse_txnRecord_kind]; decide)).trans
        (congrArg _ (State.timed_txWrite hwtag hroom (txParse_txnRecord_kind _ _ _ _ _) hfree hentry hslots)))
  · intro hroom k dir off payload bs b hoff hform hfree hat hpart
    have htarget : (txParse bs).target = [byteOf dir.val, 0] ++ beBytes 4 off ++ [0, 0] := txParse_txnRecord_target ..
    have hd : beAt (txParse bs).target 0 1 = dir := by
      rw [htarget]
      exact (beNat_beBytes 1 dir.val).trans (by omega)
    have ho : beAt (txParse bs).target 2 4 = off := by
      rw [htarget]
      exact (beNat_beBytes 4 off).trans (by omega)
    have hact := State.timed_txProgram hwtag hroom (txParse_txnRecord_kind _ _ _ _ _) hd ho hfree hat hpart
    simp only [Fin.val_eq_zero_iff] at hact
    refine exec_record_laid rfl (txnRecord_length ..) hready hrole ⟨fun x => ?_, fun x => ?_, fun x n => ?_⟩ hw (tagged _ _ _ _)
      (txParse_txnRecord_key _ _ _ _ _)
      ((acts hform (tagged _ _ _ _) (by rw [txParse_txnRecord_kind]; decide)).trans (congrArg _ hact))
    all_goals split <;> rfl
  · intro hroom k port part first payload bs r hpart hfirst hform hfault hfree
    have htarget : r.target = [byteOf port.val, byteOf part] ++ beBytes 2 first ++ [0, 0, 0, 0] := txParse_txnRecord_target ..
    have hp : beAt r.target 0 1 = port := by
      rw [htarget]
      exact (beNat_beBytes 1 port.val).trans (by omega)
    have ha : beAt r.target 1 1 = part := by
      rw [htarget]
      exact (beNat_beBytes 1 part).trans (by omega)
    have hf : beAt r.target 2 2 = first := by
      rw [htarget]
      exact (beNat_beBytes 2 first).trans (by omega)
    have hz : beAt r.target 4 4 = 0 := by
      rw [htarget]
      rfl
    exact exec_record_laid rfl (txnRecord_length ..) hready hrole ⟨fun _ => rfl, fun _ => rfl, fun _ _ => rfl⟩ hw
      (tagged _ _ _ _) (txParse_txnRecord_key _ _ _ _ _)
      ((acts hform (tagged _ _ _ _) (by rw [txParse_txnRecord_kind]; decide)).trans
        (congrArg _ (State.timed_txGrat hwtag hroom (txParse_txnRecord_kind _ _ _ _ _) hp ha hf hz hfault hfree)))

end Sys2Proof.Machine
end

section
/-! PROOFS. Commits, records that waited for shadow slots, and transactions left idle (R218, R224, R229, R232 to R235). -/

namespace Sys2Proof.Machine

/-! ### What a commit leaves once the versions are switched -/

/-- The transactions and the versions of every entry are as before. -/
structure State.SameHistory (s v : State) : Prop where
  tx : v.tx = s.tx
  vers : v.tables.vers = s.tables.vers

section history
variable (s : State)

theorem State.SameHistory.refl : s.SameHistory s := ⟨rfl, rfl⟩

theorem State.SameHistory.trans {s v u : State} (h : s.SameHistory v) (g : v.SameHistory u) : s.SameHistory u :=
  ⟨g.tx.trans h.tx, g.vers.trans h.vers⟩

theorem foldl_sameHistory {α : Type} {f : State → α → State} (hf : ∀ (s : State) a, s.SameHistory (f s a)) (l : List α) :
    s.SameHistory (l.foldl f s) := by
  induction l generalizing s with
  | nil => exact .refl s
  | cons a l ih => exact (hf s a).trans (ih _)

theorem State.bump_sameHistory (i n : Nat) : s.SameHistory (s.bump i n) := ⟨State.bump_tx .., by rw [State.bump_tables]⟩

theorem State.setPlaces_sameHistory (l : List RulePlace) :
    s.SameHistory { s with tables := { s.tables with places := l } } := ⟨rfl, rfl⟩

theorem State.moveRules_sameHistory (table src dst : Nat) (l : List RulePlace) :
    s.SameHistory (s.moveRules table src dst l) := by
  refine foldl_sameHistory s (fun s p => ?_) l
  have hb := State.bump_sameHistory { s with tables := s.tables.moveRule table p.slot src dst } 0x4200 4
  exact ⟨hb.tx, hb.vers⟩

theorem State.mergeBucket_sameHistory (table b : Nat) : s.SameHistory (s.mergeBucket table b) := by
  unfold State.mergeBucket
  dsimp only
  split
  · exact .refl s
  · split
    · have hm := State.moveRules_sameHistory s.fresh.2
      exact ⟨(hm _ _ _ _).tx, (hm _ _ _ _).vers⟩
    · exact ⟨rfl, rfl⟩

theorem State.unplaceRule_sameHistory (p : RulePlace) : s.SameHistory (s.unplaceRule p) := by
  have hm := State.mergeBucket_sameHistory { s with tables := s.tables.clearValid p.table p.slot p.bucket } p.table p.bucket
  exact ⟨hm.tx, hm.vers⟩

theorem State.placeRule_sameHistory (table slot : Nat) : s.SameHistory (s.placeRule table slot) := by
  unfold State.placeRule
  dsimp only
  split
  · exact .refl s
  · split
    · exact ⟨rfl, rfl⟩
    · have hm := State.moveRules_sameHistory s.fresh.2
      exact ⟨(hm _ _ _ _).tx, (hm _ _ _ _).vers⟩

theorem State.settlePlaces_sameHistory (w : TxWork) : s.SameHistory (s.settlePlaces w) :=
  (foldl_sameHistory s State.unplaceRule_sameHistory _).trans
    (foldl_sameHistory _ (fun s (p : PWrite) => s.placeRule_sameHistory p.table p.key) _)

theorem State.commitChange_sameHistory (c : GratChange) : s.SameHistory (s.commitChange c) := by
  unfold State.commitChange
  dsimp only
  split
  · exact ⟨State.bump_tx .., by rw [State.bump_tables]⟩
  · exact ⟨rfl, rfl⟩

theorem State.commitGrats_sameHistory (w : TxWork) (n : Nat) : s.SameHistory (s.commitGrats w n) := by
  refine foldl_sameHistory s (fun s port => ?_) _
  show s.SameHistory (match s.gates.changeOf w.grats port n s.time80 with
    | some c => s.commitChange c
    | none => s)
  split
  · exact s.commitChange_sameHistory _
  · exact .refl s

theorem State.countCommit_sameHistory (waits : Nat) : s.SameHistory (s.countCommit waits) := by
  have counts (c : Prop) [Decidable c] (s : State) (n : Nat) : s.SameHistory (if c then s.bump 0x4500 n else s) := by
    split
    · exact s.bump_sameHistory _ _
    · exact .refl s
  exact (((s.bump_sameHistory _ _).trans (counts _ _ _)).trans (counts _ _ _)).trans (counts _ _ _)

theorem State.msix_sameHistory (n : Nat) : s.SameHistory (s.msix n) := ⟨State.msix_tx .., by rw [State.msix_tables]⟩

theorem State.mirrorWork_sameHistory (w : TxWork) (who n : Nat) : s.SameHistory (s.mirrorWork w who n) := by
  unfold State.mirrorWork
  split
  · have hsent := foldl_sameHistory s (f := fun s b => s.sendItem 1 (who * 2 ^ 32 + w.tag) b) (fun _ _ => ⟨rfl, rfl⟩) w.recs
    exact ⟨hsent.tx, hsent.vers⟩
  · exact .refl s

end history

/-! ### The switch of a commit -/

/-- Lifting the poison of what is rewritten leaves the versions. -/
theorem clearPoison_vers (l : List PWrite) (t : Tables) :
    (l.foldl (fun t p => t.clearPoison p.table p.key) t).vers = t.vers := by
  induction l generalizing t with
  | nil => rfl
  | cons p l ih =>
    rw [List.foldl_cons, ih]
    unfold Tables.clearPoison
    dsimp only
    split
    · rfl
    · split
      · rfl
      · split <;> rfl

/-- The versions that a transaction lays down at its commit. -/
def TxWork.newVers (w : TxWork) (n : Nat) : List Ver := w.writes.map (fun p => Ver.mk p.table p.key n p.data)

/-- What a commit switches: the commit number, the digest entries of what it changes, the new versions before the old. -/
theorem State.commitWork_history (s : State) (w : TxWork) : (s.commitWork w).tx.commit = s.tx.commit + 1 ∧
    (s.commitWork w).tx.digest = w.digests.foldl (fun m i => nset m i (s.tx.commit + 1) 0) s.tx.digest ∧
    (s.commitWork w).tables.vers = w.newVers (s.tx.commit + 1) ++ s.tables.vers := by
  have after (x : State) (who n waits : Nat) :
      x.SameHistory ((((((x.settlePlaces w).commitGrats w n).countCommit waits).msix 1).mirrorWork w who n)) :=
    ((((x.settlePlaces_sameHistory w).trans (State.commitGrats_sameHistory _ w n)).trans
      (State.countCommit_sameHistory _ waits)).trans (State.msix_sameHistory _ 1)).trans
        (State.mirrorWork_sameHistory _ w who n)
  unfold State.commitWork
  dsimp only
  refine ⟨?_, ?_, ?_⟩
  · rw [(after _ _ _ _).tx]
  · rw [(after _ _ _ _).tx]; rfl
  · rw [(after _ _ _ _).vers]
    exact congrArg (w.newVers (s.tx.commit + 1) ++ ·) (clearPoison_vers w.writes s.tables)

/-- An entry reads at older commits as before the commit. -/
theorem verAt_newVers_older (w : TxWork) (vs : List Ver) {n c : Nat} (h : c < n) (table key : Nat) :
    verAt (w.newVers n ++ vs) table key c = verAt vs table key c := by
  have hnone : (w.newVers n).find? (fun v => v.table == table && v.key == key && decide (v.commit ≤ c)) = none := by
    rw [List.find?_eq_none]
    intro v hv
    obtain ⟨p, -, rfl⟩ := List.mem_map.mp hv
    simp [Nat.not_le.mpr h]
  rw [verAt, List.find?_append, hnone, Option.none_or, verAt]

/-- An entry that a transaction writes reads as written at its commit. -/
theorem verAt_newVers_written (w : TxWork) (vs : List Ver) (n : Nat) {q : PWrite}
    (h : w.writes.find? (fun x => x.table == q.table && x.key == q.key) = some q) :
    verAt (w.newVers n ++ vs) q.table q.key n = q.data := by
  have hfind : (w.newVers n).find? (fun v => v.table == q.table && v.key == q.key && decide (v.commit ≤ n)) =
      some ⟨q.table, q.key, n, q.data⟩ := by
    have hpred : ((fun v : Ver => v.table == q.table && v.key == q.key && decide (v.commit ≤ n)) ∘
        fun p : PWrite => Ver.mk p.table p.key n p.data) = fun x => x.table == q.table && x.key == q.key := by
      funext x
      simp
    rw [TxWork.newVers, List.find?_map, hpred, h]
    rfl
  rw [verAt, List.find?_append, hfind, Option.some_or]

/-- Every digest entry that a transaction changes reads the commit number. -/
theorem nget_digests {v : Nat} (hv : v ≠ 0) {i : Nat} (l : List Nat) (m : NMap) (h : i ∈ l ∨ nget m i 0 = v) :
    nget (l.foldl (fun m i => nset m i v 0) m) i 0 = v := by
  induction l generalizing m with
  | nil => simpa using h
  | cons j l ih =>
    rw [List.foldl_cons]
    refine ih _ ?_
    by_cases hij : i = j
    · exact .inr (by rw [hij, nget_nset_self 0 hv])
    · refine h.imp (fun hmem => (List.mem_cons.mp hmem).resolve_left hij) (fun hold => ?_)
      rw [nget_nset_of_ne_default 0 hij hv, hold]

/-! ### The row -/

/-- A command of the TM die's data path while the die runs. -/
theorem next_on_tm {s v : State} (t : Tick) (hruns : s.faults.haltTm = false) {f : State → State} (he : f (s.tick t) = v) :
    (.next (s.on t .tm f) : Out) = .next v.settle := by
  have htm : (s.tick t).runs .tm = true := by simp [State.runs, hruns]
  simp only [State.on, State.at_, htm, if_true, he]

section commit
variable {s : State} {w : TxWork} {rest : List TxWork} (hs : s.tx.staged = w :: rest)
include hs

theorem State.commitNext_mirrored (hm : s.pair.mirrored.contains w.tag = true) : s.commitNext = s := by
  simp only [State.commitNext, hs, hm, if_true]

theorem State.commitNext_own (hm : s.pair.mirrored.contains w.tag = false) :
    s.commitNext = if s.waitBits w = 0 then s.commitWork w else s.noteWaits w.tag (s.waitBits w) := by
  simp only [State.commitNext, hs, hm, Bool.false_eq_true, if_false]

end commit

section resume
variable {s v : State} {x : WaitRec} {r : List WaitRec} (hserves : s.serves = true) (hw : s.tx.waits = x :: r)
include hserves hw

theorem State.txnResume_done {q : Req} (h : s.txRecord x.requester x.bytes = (v, .done)) (hq : x.req = some q) :
    s.txnResume = ({ v with tx := { v.tx with waits := r } } : State).respond q 0 [] true := by
  simp only [State.txnResume, State.resumeWait, hserves, hw, h, hq, not_true, if_false]

theorem State.txnResume_waits (h : s.txRecord x.requester x.bytes = (v, .wait)) : s.txnResume = s := by
  simp only [State.txnResume, State.resumeWait, hserves, hw, h, not_true, if_false]

end resume

/-- Settles O33: the clauses of the commit are what the switch lays before the old versions; the others are the two branches of
their rows. -/
theorem transactionsCommitResumeAndEnd : Obligations.TransactionsCommitResumeAndEnd := by
  unfold Obligations.TransactionsCommitResumeAndEnd
  refine ⟨⟨fun s t hruns hfirst => ?_, ?_⟩, ?_, fun _ _ => ⟨_, rfl⟩, fun _ _ _ => ⟨_, rfl⟩, fun _ _ => ⟨_, rfl⟩⟩
  · refine next_on_tm t hruns ?_
    cases hst : s.tx.staged with
    | nil => simp only [State.commitNext, s.tick_tx, hst]
    | cons w rest =>
      rw [hst] at hfirst
      exact State.commitNext_mirrored (by rw [s.tick_tx]; exact hst) (by rw [s.tick_pair]; exact hfirst w rfl)
  · intro s t w rest hruns hst hm u v
    have hnext : u.commitNext = if u.waitBits w = 0 then v else u.noteWaits w.tag (u.waitBits w) :=
      State.commitNext_own (by rw [s.tick_tx]; exact hst) (by rw [s.tick_pair]; exact hm)
    have htx : u.tx = s.tx := s.tick_tx t
    have htab : u.tables = s.tables := s.tick_tables t
    obtain ⟨hcommit, hdigest, hvers⟩ := u.commitWork_history w
    rw [htx] at hcommit hdigest hvers
    rw [htab] at hvers
    refine ⟨fun hnow => ⟨next_on_tm t hruns (hnext.trans (if_pos hnow)), hcommit, fun n key c hc => ?_, fun q hq => ?_,
      fun n hn => ?_⟩, fun hwait => ⟨next_on_tm t hruns (hnext.trans (if_neg hwait)), ?_⟩⟩
    · rw [hvers]
      exact verAt_newVers_older w _ (by omega) n key
    · rw [hvers]
      exact verAt_newVers_written w _ _ hq
    · rw [hdigest]
      exact nget_digests (Nat.succ_ne_zero _) _ _ (.inl hn)
    · change u.tx.commit = s.tx.commit
      rw [htx]
  · intro s t u
    have htx : u.tx = s.tx := s.tick_tx t
    refine ⟨fun x r hserves hw => ⟨fun v q h hq => ?_, fun v h => ?_⟩, fun txn w hw hk => ⟨fun hyoung => ?_, fun hold => ?_⟩⟩
    · exact next_settle_eq (State.txnResume_done hserves (by rw [htx]; exact hw) h hq)
    · exact next_settle_eq (State.txnResume_waits hserves (by rw [htx]; exact hw) h)
    · refine next_settle_eq (u := u.txIdle txn) ?_
      simp only [State.txIdle, htx, hw, if_neg (fun h : w.kseq = 0 ∧ _ => Nat.not_le.mpr hyoung h.2)]
    · refine next_settle_eq (u := u.txIdle txn) ?_
      have hidle : u.txIdle txn = u.abandon txn 4 0 := by simp only [State.txIdle, htx, hw, if_pos (And.intro hk hold)]
      rw [hidle]
      rfl

end Sys2Proof.Machine
end

section
/-! PROOFS. Buffer units: frees, handovers, the account, pauses sent again (R260 to R262, R265, R290). -/

namespace Sys2Proof.Machine

section cells
variable {s : State} {kind n code : Nat}

theorem State.freeCell_free (h : s.buf.cell kind n = none) : s.freeCell kind n code = s.badFree 1 (s.poolOfCell kind n) n := by
  simp only [State.freeCell, h]

variable {c : Cell} (h : s.buf.cell kind n = some c)
include h

theorem State.freeCell_wrong (hc : c.count ≠ 0) (ho : c.owner ≠ code) :
    s.freeCell kind n code = s.badFree 2 (s.poolOfCell kind n) n := by
  simp only [State.freeCell, h, if_neg hc, if_pos ho]

theorem State.freeCell_last (ho : c.owner = code) (hc : c.count = 1) : s.freeCell kind n code = { s with buf := { s.buf with
    cells := dropFirst (fun x => x.pool == kind && x.num == n) s.buf.cells
    charges := if kind = 0 then s.buf.charges.filter (fun x => x.last != n) else s.buf.charges } } := by
  simp only [State.freeCell, h, hc, ho, ne_eq, not_true, if_false, if_true, one_ne_zero]

theorem State.freeCell_shared (ho : c.owner = code) (hc : 1 < c.count) : s.freeCell kind n code = { s with buf := { s.buf with
    cells := modFirst (fun x => x.pool == kind && x.num == n) (fun x => { x with count := x.count - 1 }) s.buf.cells } } := by
  have h0 : c.count ≠ 0 := by omega
  have h1 : c.count ≠ 1 := by omega
  simp only [State.freeCell, h, h0, h1, ho, ne_eq, not_true, if_false]

end cells

section blocks
variable {s : State} {n code : Nat}

theorem State.freeBlock_free (h : s.buf.block n = none) : s.freeBlock n code = s.badFree 1 2 n := by
  simp only [State.freeBlock, h]

theorem State.freeBlock_held {b : Block} (h : s.buf.block n = some b) : s.freeBlock n code =
    if b.owner ≠ code then s.badFree 2 2 n
    else { s with buf := { s.buf with blocks := dropFirst (fun x => x.num == n) s.buf.blocks } } := by
  simp only [State.freeBlock, h]

end blocks

section handover
variable {s : State} {kind n code dst count : Nat}

theorem State.handCell_free (h : s.buf.cell kind n = none) :
    s.handCell kind n code dst count = s.badFree 2 (s.poolOfCell kind n) n := by
  simp only [State.handCell, h]

theorem State.handCell_held {c : Cell} (h : s.buf.cell kind n = some c) : s.handCell kind n code dst count =
    if c.owner = code then { s with buf := { s.buf with
      cells := modFirst (fun x => x.pool == kind && x.num == n) (fun x => { x with
        owner := dst, count := count }) s.buf.cells } }
    else s.badFree 2 (s.poolOfCell kind n) n := by
  simp only [State.handCell, h]

end handover

/-- A pool other than the blocks of HBM is one of cells. -/
theorem poolCode_ne_hbm {pool : Pool} (h : pool ≠ .hbm) : poolCode pool ≠ 2 := by
  cases pool
  · decide
  · decide
  · exact absurd rfl h
  · decide

section pause
variable {s : State} {port prio rate : Nat}

theorem State.pfcRefresh_xon (h : s.buf.xoff.find? (fun x => x.1 == port && x.2.1 == prio) = none) :
    s.pfcRefresh port prio rate = s := by
  simp only [State.pfcRefresh, h]

theorem State.pfcRefresh_xoff {at_ : Tick}
    (h : s.buf.xoff.find? (fun x => x.1 == port && x.2.1 == prio) = some (port, prio, at_)) :
    s.pfcRefresh port prio rate =
      if rate = 0 ∨ (s.clock.now - at_) * 2 * rate < s.obj (0x5080 + port) 7 * 512 * Config.ns then s
      else { s with buf := { s.buf with
        xoff := s.buf.xoff.map (fun (e : Nat × Nat × Tick) =>
          if e.1 = port ∧ e.2.1 = prio then (port, prio, s.clock.now) else e) } }.sendPfc port
          [(prio, s.obj (0x5080 + port) 7)] := by
  simp only [State.pfcRefresh, h]

end pause

/-- Settles O34: the clauses are the branches of a free, of a handover and of a pause sent again. -/
theorem bufferUnitsAreFreedAndHandedOver : Obligations.BufferUnitsAreFreedAndHandedOver := by
  unfold Obligations.BufferUnitsAreFreedAndHandedOver
  refine ⟨?_, fun _ _ _ _ => ⟨_, rfl⟩, fun _ _ _ _ _ _ _ => ⟨_, rfl⟩, fun _ _ _ => ⟨_, rfl⟩, fun _ _ _ _ => ⟨_, rfl⟩⟩
  intro s t u wrong
  have hbuf : u.buf = s.buf := s.tick_buf t
  refine ⟨fun pool frees => ?_, fun v pool n code hpool => ?_, fun v n code => ⟨fun b hb => ⟨fun ho => ?_, fun ho => ?_⟩,
    fun hb => State.freeBlock_free hb⟩, fun pool l count a b => ⟨fun hno => ?_, fun hpool hb0 hb7 hlow hhigh => ?_⟩,
    fun pool => next_settle_eq rfl, fun p c => ⟨fun hno => ?_, fun at_ hruns hx => ⟨fun hrest => ?_, fun hrate hdue => ?_⟩⟩⟩
  · refine next_settle_eq (u := u.freeCells (poolCode pool) frees) ?_
    rw [← hbuf]
    rfl
  · have hcell (w : State) : w.freeUnit (poolCode pool) n code = w.freeCell (unitKind (poolCode pool)) n code :=
      if_neg (poolCode_ne_hbm hpool)
    refine ⟨fun c h ho => ⟨fun hc => (hcell v).trans (State.freeCell_last h ho hc), fun hc =>
      (hcell v).trans (State.freeCell_shared h ho hc)⟩, fun c h hc ho => (hcell v).trans (State.freeCell_wrong h hc ho),
      fun h =>
      (hcell v).trans (State.freeCell_free h)⟩
  · exact (State.freeBlock_held hb).trans (if_neg (not_not.mpr ho))
  · exact (State.freeBlock_held hb).trans (if_pos ho)
  · refine next_settle_eq (if_pos ?_)
    rcases hno with rfl | rfl | rfl | h | h
    · exact .inl rfl
    · exact .inr (.inl rfl)
    · exact .inr (.inr (.inl rfl))
    · exact .inr (.inr (.inr (.inl h)))
    · exact .inr (.inr (.inr (.inr h)))
  · have h0 : b.val ≠ 0 := fun h => hb0 (Fin.ext h)
    have h7 : b.val ≠ 7 := fun h => hb7 (Fin.ext h)
    have hpass : ¬ (poolCode pool = 2 ∨ b.val = 0 ∨ b.val = 7 ∨ count = 0 ∨ 4095 < count) := by
      have := poolCode_ne_hbm hpool
      omega
    refine ⟨next_settle_eq (if_neg hpass), fun v n => ⟨fun c h => ⟨fun ho => ?_, fun ho => ?_⟩, State.handCell_free⟩⟩
    · exact (State.handCell_held h).trans (if_pos ho)
    · exact (State.handCell_held h).trans (if_neg ho)
  · rcases hno with hhalt | hx
    · exact next_on_fe_halted t hhalt _
    · have hsame : u.pfcRefresh p c (u.portRate p) = u := State.pfcRefresh_xon (by rw [hbuf]; exact hx)
      cases hhalt : s.faults.haltFe with
      | true => exact next_on_fe_halted t hhalt _
      | false => exact next_on_fe t hhalt hsame
  · exact next_on_fe t hruns ((State.pfcRefresh_xoff (by rw [hbuf]; exact hx)).trans (if_pos hrest))
  · refine next_on_fe t hruns ((State.pfcRefresh_xoff (by rw [hbuf]; exact hx)).trans ((if_neg ?_).trans (by rw [hbuf])))
    rintro (h | h)
    · exact hrate h
    · exact Nat.not_lt.mpr hdue h

end Sys2Proof.Machine
end

section
/-! PROOFS. Admission to a queue that is disabled, of an inject frame that asks for a timestamp (R303, R458). -/

namespace Sys2Proof.Machine

/-- A frame of ingress-mode inject with token 5, on its way to queue 0. -/
def stampedFrame : ToTm := ⟨{ lineFrame 0 0 (zeros 14) 0 none with token := some 5 }, 1, 0, 0, none⟩

/-- A READY part with queue 0 disabled and that frame waiting. -/
def disabledPart : State := { readyPart with
  sched := { readyPart.sched with recs := [(nodeKey 5 0, 0)] }
  flow := { readyPart.flow with toTm := [stampedFrame] } }

/-- The timestamp records lost that a row leaves counted (0x2003:02). -/
def outcomeLostStamps : Out → Option Nat
  | .next u => some (u.obj 0x2003 2)
  | _ => none

/-- Refutes O35: the packet dropped asked for a timestamp, so its record is made, and is counted lost as no channel takes it;
the statement has the drop at the queue counted alone. -/
theorem not_packetsAreAdmittedEvictedAndFetched : ¬ Obligations.PacketsAreAdmittedEvictedAndFetched := by
  unfold Obligations.PacketsAreAdmittedEvictedAndFetched
  intro h
  obtain ⟨hadmit, -⟩ := h
  obtain ⟨-, hnext⟩ := hadmit disabledPart 1 rfl
  obtain ⟨-, -, -, hqueue⟩ := hnext stampedFrame [] rfl
  obtain ⟨hdisabled, -⟩ := hqueue rfl rfl rfl (by decide +kernel) (by decide +kernel) (by decide +kernel)
  have hsame := congrArg outcomeLostStamps (hdisabled (by decide +kernel))
  have hlost : outcomeLostStamps (exec (.admission 1) disabledPart) = some 1 := by decide +kernel
  rw [hlost] at hsame
  exact absurd hsame (by decide +kernel)

end Sys2Proof.Machine
end

section
/-! PROOFS. Credit, sojourn sweeps, hold timers, samplers and committed graticule changes (R325, R328 to R336, R355). -/

namespace Sys2Proof.Machine

/-! ### A counter of another chapter leaves a calm part calm -/

theorem State.bump_objI_ne {s : State} {i n idx sub inst : Nat} (hd : objDfltI i n 0 = 0)
    (hkey : objKey idx sub inst ≠ objKey i n 0) : (s.bump i n).objI idx sub inst = s.objI idx sub inst := by
  refine State.setObjI_objI_ne s hkey ?_
  rw [hd, counterMax]
  split <;> omega

theorem State.bump_calm {s : State} {i n : Nat} (hs : s.Calm) (hcls : objClass i n = .counter) (hd : objDfltI i n 0 = 0)
    (_hn : n < 256) (_hi : i ≠ 0x3201) : (s.bump i n).Calm := by
  have hrecord : (s.bump i n).record = s.record := by simp [State.bump, State.bumpI, State.setObjI, hcls]
  have hlane (l : Nat) (hl : l < 160) : (s.bump i n).laneState l = s.laneState l := by
    have hobj (sub : Nat) (hsub : sub < 256) : (s.bump i n).objI 0x3201 sub (laneCode l) = s.objI 0x3201 sub (laneCode l) :=
      State.bump_objI_ne hd (by simp only [objKey, laneCode]; split <;> omega)
    simp only [State.laneState, State.lane, State.laneRetired, State.laneContained, State.sourceHeld, State.laneAsleep,
      State.serdes, State.ctlOut, State.bump_lanes, hrecord, State.bump_faults, State.bump_lines, hobj 0xC (by decide),
      hobj 0xD (by decide)]
    rfl
  obtain ⟨htodo, hpaths, hholds, hflt, hnodes, hpunts, hstamps, hpair, hhalt, hlanes⟩ := hs
  refine ⟨by simpa using htodo, by simpa using hpaths, by simpa using hholds, by simpa using hflt, by simpa using hnodes,
    by simpa using hpunts, by simpa using hstamps, by simpa using hpair, by simpa using hhalt, fun l hl hlt => ?_⟩
  have hup : (s.bump i n).lane l.num = s.lane l.num := by simp [State.lane]
  rw [hlane _ hlt, hup]
  exact hlanes l (by simpa using hl) hlt

/-- A row of the TM die that leaves a calm part calm. -/
theorem next_on_tm_calm {s v : State} (t : Tick) (hruns : s.faults.haltTm = false) {f : State → State}
    (he : f (s.tick t) = v) (hv : v.Calm) : (.next (s.on t .tm f) : Out) = .next v.devSync := by
  rw [next_on_tm t hruns he, State.settle_calm v hv]

/-! ### Credit -/

section credit
variable {s : State} {qid : Nat}

theorem State.requestRefresh_due (hon : (s.que qid).on = true) (hbal : (s.que qid).bal < (allCells (s.voq qid) : Int)) :
    s.requestRefresh qid = if (s.que qid).onAt + s.obj 0x5101 3 * Config.us ≤ s.clock.now then
      (s.setQue { s.que qid with onAt := s.clock.now }).sendMsg (s.requestOf qid).1 (ctlMsg 1 0 (s.requestOf qid).2 qid)
    else s := by
  simp only [State.requestRefresh, hon, hbal, true_and]

theorem State.grantNext_grantOk (h : s.grantNext = some qid) : s.grantOk qid = true := by
  have hmem : qid ∈ (s.sched.ques.filter (fun q => !q.srcs.isEmpty && s.grantOk q.qid)).map (·.qid) := by
    unfold State.grantNext at h
    dsimp only at h
    generalize (s.sched.ques.filter (fun q => !q.srcs.isEmpty && s.grantOk q.qid)).map (·.qid) = l at h ⊢
    cases hf : l.find? (fun q => decide (s.sched.grantRot ≤ q)) with
    | some q =>
      rw [hf] at h
      cases h
      exact List.mem_of_find?_eq_some hf
    | none =>
      rw [hf] at h
      exact List.mem_of_head? h
  obtain ⟨q, hq, rfl⟩ := List.mem_map.mp hmem
  exact (Bool.and_eq_true _ _ ▸ (List.mem_filter.mp hq).2).2

theorem State.grantIssue_source {w src : Nat} (h : nextSource (s.que qid).srcs (s.que qid).lastSrc = some (w, src)) :
    s.grantIssue qid = if s.grantNext ≠ some qid ∨ 4 ≤ s.grantsNow then s
      else (({ s with sched := { s.sched with
        grantAt := s.tmcCycle, grantCount := s.grantsNow + 1, grantRot := qid + 1
        granted := (if s.sched.grantAt = s.tmcCycle then s.sched.granted else []) ++
          [(qid, w, src, s.obj 0x5101 2, (s.que qid).lastSrc)] } } : State).setQue
          { s.que qid with
            out := (s.que qid).out + s.obj 0x5101 2
            outAt := if (s.que qid).out = 0 then s.clock.now else (s.que qid).outAt
            lastSrc := w }).sendMsg w (ctlMsg 3 (s.obj 0x5101 2) qid src) := by
  simp only [State.grantIssue, h]

theorem State.grantIssue_none (h : (s.que qid).srcs = []) : s.grantIssue qid = s := by
  have hnone : nextSource (s.que qid).srcs (s.que qid).lastSrc = none := by rw [h]; rfl
  simp only [State.grantIssue, hnone]

theorem State.creditTimeout_out (h : 0 < (s.que qid).out) : s.creditTimeout qid =
    if (s.que qid).outAt + s.obj 0x5101 4 * Config.us ≤ s.clock.now then
      ((s.setQue { s.que qid with out := 0 }).bump 0x5101 9).raise
        { cls := 8, level := 0, object := qid, value := (s.que qid).out, ctrIdx := 0x5101, ctrSub := 9 }
    else s := by
  simp only [State.creditTimeout, h, true_and]

end credit

/-! ### Hold timers and samplers -/

theorem State.holdExpire_held {s : State} {node : Nat} (h : s.portState node = 1) : s.holdExpire node =
    if nget s.sched.portHold node 0 / Config.tmc < s.tmcCycle then
      ((s.setPortState node 2).bumpI 0x5201 7 node 1).flushPort node
    else s := by
  simp only [State.holdExpire, State.holdOver, h, beq_self_eq_true, Bool.true_and, decide_eq_true_eq]

theorem sampler_counter : ∀ k : Fin 16, objClass (0x5310 + k.val) 5 = .counter ∧ objDfltI (0x5310 + k.val) 5 0 = 0 := by
  decide

/-- A round of a sampler for one queue. -/
theorem State.samplerRound_one {s : State} {k : Nat} (hone : s.obj (0x5310 + k) 4 = 1) : s.samplerRound k =
    if s.obj (0x5310 + k) 1 = 0 ∨ timeToNs s.time80 % s.obj (0x5310 + k) 2 ≠ 0 ∨
      nget s.sched.sampAt k 0 = timeToNs s.time80 + 1 then s
    else ({ s with sched := { s.sched with
      sampAt := nset s.sched.sampAt k (timeToNs s.time80 + 1) 0
      samples := nset s.sched.samples (k * 8388608 + s.obj (0x5310 + k) 5 % 8388608) (s.sample (s.obj (0x5310 + k) 3)) 0 } } :
        State).bump (0x5310 + k) 5 := by
  unfold State.samplerRound
  dsimp only
  split
  · rfl
  · change (List.range (s.obj (0x5310 + k) 4)).foldl _ _ = _
    rw [hone]
    rfl

theorem State.gratEffect_due {s : State} {port : Nat} {c : GratChange} (h : s.gates.change port = some c) :
    s.gratEffect port = if timeToNs s.time80 < c.x then s
      else ({ s with gates := { s.gates with
        pending := s.gates.pending.filter (fun d => d.port != port)
        inForce := s.gates.inForce.filter (fun x => x.1 != port) ++ (if c.enable then [(port, c.grat)] else []) } } :
          State).bump 0x5400 5 := by
  simp only [State.gratEffect, h]

/-- Settles O36: each clause is a branch of its row; where the part is calm, a counter leaves it calm. -/
theorem creditSweepsSamplesAndGates : Obligations.CreditSweepsSamplesAndGates := by
  unfold Obligations.CreditSweepsSamplesAndGates
  refine ⟨?_, ?_, fun _ _ _ _ => ⟨_, rfl⟩, fun _ _ _ => ⟨_, rfl⟩, fun _ _ _ => ⟨_, rfl⟩, fun _ _ _ => ⟨_, rfl⟩,
    fun _ _ _ => ⟨_, rfl⟩, fun _ _ _ => ⟨_, rfl⟩, fun _ _ _ => ⟨_, rfl⟩⟩
  · intro s t qid hruns u q
    refine ⟨fun hon hbal => ⟨fun h => ?_, fun h => ?_⟩, fun w src hsrc => ⟨fun h => ?_, fun hturn =>
      ⟨State.grantNext_grantOk hturn, fun hroom => ?_⟩⟩, fun hnone => ?_, fun hout => ⟨fun h => ?_, fun h => ?_⟩⟩
    · exact next_on_tm t hruns ((State.requestRefresh_due hon hbal).trans (if_neg (Nat.not_le.mpr h)))
    · exact next_on_tm t hruns ((State.requestRefresh_due hon hbal).trans (if_pos h))
    · exact next_on_tm t hruns ((State.grantIssue_source hsrc).trans (if_pos h))
    · exact next_on_tm t hruns ((State.grantIssue_source hsrc).trans
        (if_neg (not_or.mpr ⟨not_not.mpr hturn, Nat.not_le.mpr hroom⟩)))
    · exact next_on_tm t hruns (State.grantIssue_none hnone)
    · exact next_on_tm t hruns ((State.creditTimeout_out hout).trans (if_neg (Nat.not_le.mpr h)))
    · exact next_on_tm t hruns ((State.creditTimeout_out hout).trans (if_pos h))
  · intro s t hruns u
    have hsched : u.sched = s.sched := s.tick_sched t
    have hgates : u.gates = s.gates := s.tick_gates t
    refine ⟨fun qid => ⟨fun h => ?_, fun h => ?_, fun h => ?_⟩, fun n hheld => ⟨fun h => ?_, fun h => ?_⟩,
      fun k hc => ⟨fun h => ?_, fun hon hns hnew hone => ?_⟩, fun p c hc hp => ⟨fun h => ?_, fun h => ?_⟩⟩
    · exact next_on_tm t hruns (if_pos h)
    · exact next_on_tm t hruns (if_neg h)
    · exact next_on_tm t hruns (if_neg h)
    · exact next_on_tm t hruns ((State.holdExpire_held hheld).trans (if_neg (Nat.not_lt.mpr h)))
    · exact next_on_tm t hruns ((State.holdExpire_held hheld).trans (if_pos h))
    · exact next_on_tm_calm t hruns (if_pos (by rw [← hsched] at h; exact h)) (s.tick_calm hc t)
    · refine next_on_tm_calm t hruns (((State.samplerRound_one hone).trans (if_neg ?_)).trans (by rw [hsched])) ?_
      · rw [hsched]
        exact not_or.mpr ⟨hon, not_or.mpr ⟨not_not.mpr hns, hnew⟩⟩
      · rw [← hsched]
        exact State.bump_calm (s.tick_calm hc t) (sampler_counter k).1 (sampler_counter k).2 (by decide) (by omega)
    · exact next_on_tm_calm t hruns ((State.gratEffect_due (by rw [hgates]; exact hp)).trans (if_pos h)) (s.tick_calm hc t)
    · refine next_on_tm_calm t hruns (((State.gratEffect_due (by rw [hgates]; exact hp)).trans
        (if_neg (Nat.not_lt.mpr h))).trans (by rw [hgates])) ?_
      exact State.bump_calm (s.tick_calm hc t) (by decide) (by decide) (by decide) (by decide)

end Sys2Proof.Machine
end

section
/-! PROOFS. A decision of a port node and the steps of the fabric transmit (R298, R316 to R321, R326, R332, R353). -/

namespace Sys2Proof.Machine

/-! ### A decision of a port node -/

/-- The state in which a port node chooses: its heads looked at, the deficits of what is not eligible at 0 (R318, R353). -/
def State.choosing (s : State) (node : Nat) : State :=
  (s.gateChecks node).zeroDeficits node (((s.gateChecks node).leaves node).filter ((s.gateChecks node).eligible node))

/-- What a port node chooses then. -/
def State.chosen (s : State) (node : Nat) : Option (Leaf × Nat × List Node) :=
  (s.choosing node).choose node 4 (nodeKey 1 node)
    ((((s.gateChecks node).leaves node).filter ((s.gateChecks node).eligible node)).filter (s.choosing node).servable)

section decision
variable {s : State} {node : Nat} (fuel : Nat)

theorem State.decide_none (h : s.chosen node = none) : s.decide_ node (fuel + 1) = s.choosing node := by
  unfold State.chosen State.choosing at h
  simp only [State.decide_, h]
  rfl

variable {l : Leaf} {len : Nat} {ch : List Node} (h : s.chosen node = some (l, len, ch))
include h

/-- The head chosen is dropped for its sojourn, for a bad tail, waits for the egress pipelines, or is dequeued. -/
theorem State.decide_some : s.decide_ node (fuel + 1) =
    if (s.choosing node).pktExpired l.pkt then
      (((s.choosing node).setQue { (s.choosing node).que l.qid with
        pkts := ((s.choosing node).que l.qid).pkts.tail }).dropExpired l.qid [l.pkt]).decide_ node fuel
    else if l.pkt.bad then
      ((((s.choosing node).setQue { (s.choosing node).que l.qid with
        pkts := ((s.choosing node).que l.qid).pkts.tail }).bump 0x5001 6).release [l.pkt]).decide_ node fuel
    else if (s.choosing node).outlet node / 256 ≠ 3 ∧
        (¬ (s.choosing node).coreOpen ∨ 32768 < (s.choosing node).reserveHeld + cellsOf l.pkt.len) then s.choosing node
    else (((s.choosing node).dequeue node l len ch).dropOversize node).zeroDeficits node
      (((((s.choosing node).dequeue node l len ch).dropOversize node).leaves node).filter
        ((((s.choosing node).dequeue node l len ch).dropOversize node).eligible node)) := by
  unfold State.chosen State.choosing at h
  simp only [State.decide_, h]
  rfl

end decision

/-! ### The fabric transmit -/

theorem State.txRun_idle {s : State} (h : s.txStep = none) (fuel : Nat) : s.txRun fuel = s := by
  cases fuel with
  | zero => rfl
  | succ n => simp only [State.txRun, h]

theorem State.txRun_step {s w : State} (h : s.txStep = some w) {fuel : Nat} (hf : 0 < fuel) :
    s.txRun fuel = w.txRun (fuel - 1) := by
  obtain ⟨n, rfl⟩ := Nat.exists_eq_add_of_lt hf
  simp only [State.txRun, h, Nat.zero_add, Nat.add_sub_cancel]

/-- Without a control cell to deal, the packet that class 7 takes comes first (R326, R374). -/
theorem State.txStep_top {s : State} {q : Nat} (hctl : s.dealClass 8 = none) (hpick : s.txPick 7 = some q) :
    s.txStep = some (s.txTake q) := by
  have hclasses : (List.range 8).reverse = 7 :: (List.range 7).reverse := rfl
  simp only [State.txStep, hctl, hclasses, List.findSome?_cons, hpick]
  rfl

theorem State.txTake_expired {s : State} {q : Nat} {p : Pkt} {l : List Pkt} (h : s.voq q = p :: l)
    (he : s.pktExpired p = true) : s.txTake q = (s.popVoq q).dropExpired q [p] := by
  simp only [State.txTake, h, he, if_true]

theorem State.txTake_bad {s : State} {q : Nat} {p : Pkt} {l : List Pkt} (h : s.voq q = p :: l)
    (he : s.pktExpired p = false) (hbad : p.bad = true) :
    s.txTake q = (((s.popVoq q).bump 0x5001 6).release [p]).creditOff q := by
  simp only [State.txTake, h, he, hbad, Bool.false_eq_true, if_false, if_true]

/-- Settles O37: a decision is the branch of its choice, a transmit the steps that it can make. -/
theorem schedulerAndFabricServe : Obligations.SchedulerAndFabricServe := by
  unfold Obligations.SchedulerAndFabricServe
  refine ⟨⟨?_, ?_, ?_⟩, fun _ _ _ => ⟨_, rfl⟩, fun _ _ => ⟨_, rfl⟩⟩
  · intro s t n hruns u total x ends
    have hdev : u.dev = s.dev := s.tick_dev t
    have hfaults : u.faults = s.faults := s.tick_faults t
    have hsched : u.sched = s.sched := s.tick_sched t
    refine ⟨fun hshut => next_on_tm t hruns (if_pos ?_), ?_⟩
    · rw [show (s.tick t).faults = s.faults from hfaults, show (s.tick t).dev = s.dev from hdev,
        show (s.tick t).sched = s.sched from hsched, hruns]
      simpa using hshut
    · intro hfe hboot hinit hout hpace hcycle live v pick taken
      have hopen : u.schedule n = u.decide_ n (total - 1 + 1) := by
        refine if_neg ?_
        rw [hfaults, hdev, hsched, hruns, hfe, hout, hcycle]
        simp [hboot, hinit, hpace]
      have hends {w : State} (hw : u.decide_ n (total - 1 + 1) = w) : ends w := next_on_tm t hruns (hopen.trans hw)
      refine ⟨fun hnone => hends (State.decide_none _ hnone), fun l len ch hpick => ?_⟩
      have hdecide := State.decide_some (s := u) (total - 1) hpick
      have hkept (h : v.pktExpired l.pkt = false) : ¬ (u.choosing n).pktExpired l.pkt = true :=
        (show (u.choosing n).pktExpired l.pkt = false from h) ▸ Bool.false_ne_true
      refine ⟨fun hlive hgood => ⟨fun hbond hfull => ?_, fun hroom => ?_⟩, fun hexp => hends (hdecide.trans (if_pos hexp)),
        fun hlive hbad => hends (hdecide.trans ((if_neg (hkept hlive)).trans (if_pos hbad)))⟩
      · have hwait : ¬ v.coreOpen = true ∨ 32768 < v.reserveHeld + cellsOf l.pkt.len := hfull.imp (by simp [·]) id
        exact hends (hdecide.trans ((if_neg (hkept hlive)).trans ((if_neg (by rw [hgood]; exact Bool.false_ne_true)).trans
          (if_pos ⟨hbond, hwait⟩))))
      · have hgo : ¬ (v.outlet n / 256 ≠ 3 ∧ (¬ v.coreOpen = true ∨ 32768 < v.reserveHeld + cellsOf l.pkt.len)) := by
          rintro ⟨hbond, hfull⟩
          obtain ⟨hcore, hheld⟩ := hroom.resolve_left hbond
          exact hfull.elim (fun h => h hcore) (fun h => Nat.not_lt.mpr hheld h)
        exact hends (hdecide.trans ((if_neg (hkept hlive)).trans ((if_neg (by rw [hgood]; exact Bool.false_ne_true)).trans
          (if_neg hgo))))
  · intro s t hruns u v ends
    have hdev : u.dev = s.dev := s.tick_dev t
    have hfaults : u.faults = s.faults := s.tick_faults t
    refine ⟨fun hout => next_on_tm t hruns (if_pos ?_), fun hin => ?_⟩
    · rw [State.fabricRuns, show (s.tick t).dev = s.dev from hdev, hout]
      exact Bool.false_ne_true
    · have hserve : u.fabricRuns = true := by rw [State.fabricRuns, hdev, hfaults, hin, hruns]; rfl
      have hrun : u.fabricTransmit =
          v.txRun (v.fabric.backlog + sumOf (fun q => sumOf (fun p => p.len / 32 + 3) (q.pkts ++ q.locals)) v.sched.ques) :=
        if_neg (not_not.mpr hserve)
      refine ⟨fun hidle => next_on_tm t hruns (hrun.trans (State.txRun_idle hidle _)), fun w hstep hidle hfuel =>
        next_on_tm t hruns (hrun.trans ((State.txRun_step hstep hfuel).trans (State.txRun_idle hidle _)))⟩
  · intro s w q hctl hpick hstep
    have hw : s.txTake q = w := Option.some.inj ((State.txStep_top hctl hpick).symm.trans hstep)
    exact ⟨fun p l h he => hw.symm.trans (State.txTake_expired h he),
      fun p l h he hb => hw.symm.trans (State.txTake_bad h he hb)⟩

end Sys2Proof.Machine
end

section
/-! PROOFS. The end of a lane's return hold while a unit of the pinned map has lost its lanes (R390, R393). -/

namespace Sys2Proof.Machine

/-- A READY part with unit 0 in the pinned map, noted with a lane that it no longer has, and fabric lane 0 in its return
hold. -/
def pinnedPart : State := { readyPart.setObj 0x6000 8 128 with
  lanes := [{ FLane.fresh 0 with bad := false, holdEnd := 1, up := true }]
  fabric := { readyPart.fabric with pinLanes := [(0, 1)] }
  faults := { readyPart.faults with ctls := List.replicate 32 ⟨true, 0, false⟩ } }

/-- The changes of pinned units' lanes that a row leaves counted (0x6001:09). -/
def outcomePinChanges : Out → Option Nat
  | .next u => some (u.obj 0x6001 9)
  | _ => none

/-- Refutes O39: with the end of the hold the pinned units are looked at as well, and the change of unit 0 is counted; the
statement has the speed-up floor looked at alone. -/
theorem not_lanesRetireReturnAndFallShort : ¬ Obligations.LanesRetireReturnAndFallShort := by
  unfold Obligations.LanesRetireReturnAndFallShort
  intro h
  obtain ⟨hlanes, -⟩ := h
  obtain ⟨-, -, -, -, -, hhold, -⟩ := hlanes pinnedPart 1 0
  obtain ⟨-, hends⟩ := hhold (by decide +kernel)
  have hsame := congrArg outcomePinChanges (hends (by decide +kernel))
  have hcounted : outcomePinChanges (exec (.laneReturnHoldEnd 1 0) pinnedPart) = some 1 := by decide +kernel
  rw [hcounted] at hsame
  exact absurd hsame (by decide +kernel)

end Sys2Proof.Machine
end

section
/-! PROOFS. Link frames: sent, framed, delivered (R397 to R409, R415, R420, R427, R463, R493). -/

namespace Sys2Proof.Machine

/-! ### Lanes -/

section lanes
variable (s : State)

theorem State.lane_num (n : Nat) : (s.lane n).num = n := by
  unfold State.lane
  cases h : s.lanes.find? (fun l => l.num == n) with
  | some l => exact eq_of_beq (List.find?_some (p := fun l : FLane => l.num == n) h)
  | none => rfl

theorem State.lane_setLane {l : FLane} {n : Nat} (h : l.num = n) : (s.setLane l).lane n = l := by
  have hnone : (s.lanes.filter (fun x => x.num != l.num)).find? (fun x => x.num == n) = none := by
    simp [h]
  rw [State.lane, State.setLane_lanes, List.find?_append, hnone]
  simp [h]

theorem State.lane_of_lanes {s u : State} (h : u.lanes = s.lanes) (n : Nat) : u.lane n = s.lane n := by
  simp only [State.lane, h]

end lanes

/-! ### Releasing the cells of packets leaves the lanes (R258) -/

theorem foldl_lanes {α : Type} {f : State → α → State} (hf : ∀ (s : State) a, (f s a).lanes = s.lanes)
    (l : List α) (s : State) :
    (l.foldl f s).lanes = s.lanes := by
  induction l generalizing s with
  | nil => rfl
  | cons a l ih => rw [List.foldl_cons, ih, hf]

section release
variable (s : State)

@[simp] theorem State.raise_lanes (r : Raise) : (s.raise r).lanes = s.lanes := (s.raise_sameWork r).lanes

@[simp] theorem State.badFree_lanes (sub k n : Nat) : (s.badFree sub k n).lanes = s.lanes := by
  simp [State.badFree, State.bufFault]

@[simp] theorem State.freeCell_lanes (pool n code : Nat) : (s.freeCell pool n code).lanes = s.lanes := by
  unfold State.freeCell
  split
  · simp
  · split
    · simp
    · split
      · simp
      · split <;> rfl

@[simp] theorem State.freeBlock_lanes (n code : Nat) : (s.freeBlock n code).lanes = s.lanes := by
  unfold State.freeBlock
  split
  · simp
  · split
    · simp
    · rfl

@[simp] theorem State.poolSync_lanes (k : Nat) : (s.poolSync k).lanes = s.lanes := by
  unfold State.poolSync
  dsimp only
  split <;> split <;> simp [State.bufFault]

@[simp] theorem State.pfcTimes_lanes (p : Nat) (times : List (Nat × Nat)) : (s.pfcTimes p times).lanes = s.lanes := by
  refine foldl_lanes (fun s x => ?_) times s
  split
  · unfold State.pausePrio
    dsimp only
    split <;> rfl
  · rfl

@[simp] theorem State.pfcLoop_lanes (p : Nat) (again : Bool) (times : List (Nat × Nat)) :
    (s.pfcLoop p again times).lanes = s.lanes := by
  unfold State.pfcLoop
  split
  · rfl
  · split <;> simp

@[simp] theorem State.sendPfc_lanes (port : Nat) (times : List (Nat × Nat)) : (s.sendPfc port times).lanes = s.lanes := by
  unfold State.sendPfc
  split
  · rfl
  · dsimp only
    split
    · split
      · rfl
      · split <;> simp
    · split <;> simp

@[simp] theorem State.pfcSync_lanes (port : Nat) : (s.pfcSync port).lanes = s.lanes := by simp [State.pfcSync]

@[simp] theorem State.pfcSyncAll_lanes (ports : List Nat) : (s.pfcSyncAll ports).lanes = s.lanes :=
  foldl_lanes State.pfcSync_lanes ports s

@[simp] theorem State.sweepBlocks_lanes (qid : Nat) : (s.sweepBlocks qid).lanes = s.lanes :=
  foldl_lanes (fun s (b : Block) => s.freeBlock_lanes b.num b.owner) _ s

@[simp] theorem State.releaseCells_lanes (l : List Pkt) : (s.releaseCells l).lanes = s.lanes := by
  simp only [State.releaseCells, State.pfcSyncAll_lanes, State.poolSync_lanes]
  rw [foldl_lanes State.sweepBlocks_lanes, foldl_lanes]
  intro s x
  cases x with
  | block b i => rfl
  | die n =>
    dsimp only
    split <;> simp

@[simp] theorem State.leave_lanes (l : List Pkt) : (s.leave l).lanes = s.lanes :=
  (State.releaseCells_lanes _ l).trans
    (foldl_lanes (f := fun s p => { s with fabric := s.fabric.forget p.id }) (fun _ _ => rfl) l s)

@[simp] theorem State.pairCells_lanes (lane fuel : Nat) : (s.pairCells lane fuel).2.lanes = s.lanes := by
  induction fuel generalizing s with
  | zero => rfl
  | succ fuel ih =>
    unfold State.pairCells
    dsimp only
    split
    · rfl
    · rw [ih]
      simp [State.txDone]

/-- Cells put together for a pairing lane leave every lane as it is. -/
theorem State.pairSlots_lanes (n : Nat) : (s.pairSlots n).2.lanes = s.lanes := by
  have hdata (v : State) (lane k : Nat) :
      (if v.fabricRuns then v.pairCells lane k else ([], v)).2.lanes = v.lanes := by
    split
    · exact v.pairCells_lanes lane k
    · rfl
  unfold State.pairSlots
  dsimp only
  rw [apply_ite Prod.snd, apply_ite State.lanes]
  refine (ite_eq_left_iff.mpr fun _ => ?_).trans rfl
  exact hdata _ _ _

end release

/-! ### Sending a link frame -/

/-- A lane about to send, its overhead channel bytes taken with frame 0 (R424). -/
def State.sendingLane (s : State) (n : Nat) : FLane :=
  if (s.lane n).frameNo = 0 then { s.lane n with oh0 := s.obj 0x6100 3, oh1 := s.obj 0x6100 4 } else s.lane n

theorem State.sendingLane_num (s : State) (n : Nat) : (s.sendingLane n).num = n := by
  unfold State.sendingLane
  split
  · exact s.lane_num n
  · exact s.lane_num n

section send
variable {s : State} {n : Nat}

/-- Nothing is sent before INIT, nor on a retired lane. -/
theorem State.linkSend_silent (h : s.laneState n = 3 ∧ n < 160 ∨ s.dev.st = .boot) : s.linkSend n = s := if_pos h

variable (hlive : ¬ (s.laneState n = 3 ∧ n < 160 ∨ s.dev.st = .boot))
include hlive

/-- A lane in test mode sends the bits of a frame period of its pattern (R427). -/
theorem State.linkSend_pattern {p : List Bool × Nat} (ht : s.testMode n ≠ 0)
    (hp : prbsBits (s.testMode n) periodBits (s.serdes (laneCode n)).gen = p) :
    s.linkSend n = (s.setSerdes { s.serdes (laneCode n) with gen := p.2 }).laneSend n p.1 := by
  have hpattern : s.patternSend n = (s.setSerdes { s.serdes (laneCode n) with gen := p.2 }).laneSend n p.1 := by
    rw [State.patternSend]
    extract_lets x
    rw [hp]
  exact (if_neg hlive).trans ((if_pos ht).trans hpattern)

variable (ht : s.testMode n = 0)
include ht

theorem State.linkSend_framed : s.linkSend n =
    let v := s.setLane (s.sendingLane n)
    let halted := s.dev.st == .halt || s.faults.haltTm || s.faults.haltFe
    let x := if n < 160 then (if v.lanesBlank then ([], v) else ((s.sendingLane n).slots.map (·.bytes), v))
      else if halted then ([], v) else v.pairSlots n
    let f := linkFrameBits (s.sendingLane n).frameNo (x.2.txOverhead n (v.lanesBlank && (decide (n < 160) || halted))) x.1
    let w := (((x.2.setLane { x.2.lane n with
      frameNo := ((x.2.lane n).frameNo + 1) % 16
      slots := if n < 160 ∧ ¬ v.lanesBlank then (x.2.lane n).slots.drop (x.1.length - f.2.1.length) else (x.2.lane n).slots
      }).laneBump n 0xA f.2.2).laneSend n f.1)
    if n < 160 then (w.bumpN (0x6020 + n) 3 (x.1.length - f.2.1.length)).fabricTransmit else w.pairRest n f.2.1 := by
  rw [State.linkSend, if_neg hlive, if_neg (not_not.mpr ht)]
  rfl

/-- AIS and filler of a fabric lane out of service (R415). -/
theorem State.linkSend_blank (hn : n < 160) (hb : (s.setLane (s.sendingLane n)).lanesBlank = true) : s.linkSend n =
    let v := s.setLane (s.sendingLane n)
    let f := linkFrameBits (s.sendingLane n).frameNo (v.txOverhead n true) []
    (((((v.setLane { v.lane n with frameNo := ((s.sendingLane n).frameNo + 1) % 16 }).laneBump n 0xA f.2.2).laneSend n
      f.1).bumpN (0x6020 + n) 3 0).fabricTransmit) := by
  have hlane := s.lane_setLane (s.sendingLane_num n)
  rw [State.linkSend_framed hlive ht]
  simp only [hn, if_true, hb, hlane, decide_true, Bool.true_or, Bool.and_true, List.length_nil, Nat.zero_sub, not_true,
    and_false, if_false]

/-- A frame of a fabric lane in service, with the cells dealt to it (R397, R402). -/
theorem State.linkSend_fabric (hn : n < 160) (hb : (s.setLane (s.sendingLane n)).lanesBlank = false) : s.linkSend n =
    let v := s.setLane (s.sendingLane n)
    let f := linkFrameBits (s.sendingLane n).frameNo (v.txOverhead n false) ((s.sendingLane n).slots.map (·.bytes))
    let sent := (s.sendingLane n).slots.length - f.2.1.length
    (((((v.setLane { v.lane n with
      frameNo := ((s.sendingLane n).frameNo + 1) % 16, slots := (v.lane n).slots.drop sent }).laneBump n 0xA f.2.2).laneSend n
      f.1).bumpN (0x6020 + n) 3 sent).fabricTransmit) := by
  have hlane := s.lane_setLane (s.sendingLane_num n)
  rw [State.linkSend_framed hlive ht]
  simp only [hn, if_true, hb, hlane, Bool.false_and, List.length_map, Bool.false_eq_true, not_false_eq_true, and_self,
    if_false]

/-- A frame of a pairing lane, with the cells put together for it (R493). -/
theorem State.linkSend_pairing (hn : ¬ n < 160) : s.linkSend n =
    let v := s.setLane (s.sendingLane n)
    let halted := s.dev.st == .halt || s.faults.haltTm || s.faults.haltFe
    let x := if halted then ([], v) else v.pairSlots n
    let f := linkFrameBits (s.sendingLane n).frameNo (x.2.txOverhead n (v.lanesBlank && halted)) x.1
    (((x.2.setLane { x.2.lane n with frameNo := ((s.sendingLane n).frameNo + 1) % 16 }).laneBump n 0xA f.2.2).laneSend n
      f.1).pairRest n f.2.1 := by
  have hlane := s.lane_setLane (s.sendingLane_num n)
  have hkept : (if (s.dev.st == .halt || s.faults.haltTm || s.faults.haltFe) = true then
      ([], s.setLane (s.sendingLane n)) else (s.setLane (s.sendingLane n)).pairSlots n).2.lane n = s.sendingLane n := by
    split
    · exact hlane
    · exact (State.lane_of_lanes (State.pairSlots_lanes _ n) n).trans hlane
  rw [State.linkSend_framed hlive ht]
  simp only [hn, if_false, hkept, decide_false, Bool.false_or, false_and]

end send

/-! ### The bits of a lane (R462, R463) -/

/-- A fabric lane without a loop sends PAM4 levels without a precoder. -/
theorem State.laneSend_fabric (s : State) {n : Nat} (hn : n < 160) (hloop : s.laneLoop (laneCode n) = 0) (bs : List Bool) :
    s.laneSend n bs = s.out (.linkFrame n (pam4 bs)) := by
  have hcode : laneCode n = 0x100 + n := if_pos hn
  have hlevels : s.laneLevels (laneCode n) bs = pam4 bs := if_neg (fun h => absurd h.1 (by omega))
  have hnear (v : State) (h : v.laneLoop (laneCode n) = 0) : v.nearLoop (laneCode n) = false := by simp [State.nearLoop, h]
  simp only [State.laneSend, hloop, OfNat.zero_ne_ofNat, if_false, hlevels]
  rw [hnear (s.out _) hloop, if_neg Bool.false_ne_true]

/-- In a near-end loop the bits at the balls are not taken. -/
theorem State.ballsReceive_near {s : State} {n : Nat} (h : s.nearLoop (laneCode n) = true) (rx : List Bool) :
    s.ballsReceive n rx = s := if_pos h

theorem State.ballsReceive_open {s : State} {n : Nat} (h : s.laneLoop (laneCode n) = 0) (rx : List Bool) :
    s.ballsReceive n rx = s.linkReceive n rx := by
  have hnear : s.nearLoop (laneCode n) = false := by simp [State.nearLoop, h]
  simp only [State.ballsReceive, hnear, Bool.false_eq_true, if_false, h, OfNat.zero_ne_ofNat]

section receive
variable {s : State} {n : Nat} (rx : List Bool)

theorem State.linkReceive_out (h : s.laneOut n = true) : s.linkReceive n rx = s := if_pos h

theorem State.linkReceive_test (h : s.laneOut n = false) (hst : (s.lane n).st = 3) : s.linkReceive n rx = s.checkBits n rx :=
  (if_neg (Bool.eq_false_iff.mp h)).trans (if_pos hst)

/-- The bits received go to the framer; a period begun outside IN FRAME that brings no frame is missed. -/
theorem State.linkReceive_framed (h : s.laneOut n = false) (hst : (s.lane n).st ≠ 3) : s.linkReceive n rx =
    let x := (s.setLane { s.lane n with buf := (s.lane n).buf ++ rx }).framer n
      (2 * ((s.lane n).buf.length + rx.length) + 8) false
    let w := if (s.lane n).st = 2 ∨ x.1 then x.2 else x.2.missedFrame n
    w.setLane (w.lane n).trim := (if_neg (Bool.eq_false_iff.mp h)).trans (if_neg hst)

theorem State.framer_none {k : Nat} {took : Bool} (h : s.framerStep n = none) : s.framer n (k + 1) took = (took, s) := by
  simp only [State.framer, h]

theorem State.framer_some {k : Nat} {took : Bool} {v : State} (h : s.framerStep n = some v) :
    s.framer n (k + 1) took = v.framer n k (took || ((s.lane n).st == 2 && (s.lane n).checked)) := by
  simp only [State.framer, h]

/-- A lane that hunts makes no move while no frame alignment word stands in its bits (R404). -/
theorem State.framerStep_hunting (hst : (s.lane n).st = 0) (h : findFaw (s.lane n).buf 0 = none) : s.framerStep n = none := by
  simp only [State.framerStep, hst, FLane.hunt, h]

theorem State.framerStep_inFrame (hst : (s.lane n).st = 2) : s.framerStep n = s.inFrame n := by
  simp only [State.framerStep, hst]

/-- A period whose word has been checked waits for its bits. -/
theorem State.inFrame_short (hc : (s.lane n).checked = true) (h : (s.lane n).buf.length < periodBits) : s.inFrame n = none := by
  simp only [State.inFrame, hc, not_true, if_false, h, if_true]

theorem State.inFrame_word (hc : (s.lane n).checked = false) (h : (s.lane n).buf = fawBits) :
    s.inFrame n = some (s.setLane { s.lane n with checked := true, fawBad := false, fawRun := 0 }) := by
  have hlen : ¬ (s.lane n).buf.length < 56 := by rw [h]; decide
  have htake : (s.lane n).buf.take 56 = fawBits := by rw [h]; decide
  simp only [State.inFrame, hc, Bool.false_eq_true, not_false_eq_true, if_true, if_neg hlen, htake]

/-- An errored word is counted; up to the third in a row the lane stays in frame (R405). -/
theorem State.inFrame_errored (hc : (s.lane n).checked = false) (hlen : (s.lane n).buf.length = 56)
    (hbad : (s.lane n).buf ≠ fawBits) (hrun : (s.lane n).fawRun < 3) : s.inFrame n =
      some ((s.laneBump n 9 1).setLane { s.lane n with checked := true, fawBad := true, fawRun := (s.lane n).fawRun + 1 }) := by
  have htake : (s.lane n).buf.take 56 = (s.lane n).buf := List.take_of_length_le hlen.le
  have hfour : ¬ (s.lane n).fawRun + 1 = 4 := by omega
  simp only [State.inFrame, hc, Bool.false_eq_true, not_false_eq_true, if_true, if_neg (lt_irrefl 56), hlen, htake, if_neg hbad,
    if_neg hfour]

/-- A lane IN FRAME that has received the word of a period and nothing after it: one move of the framer. -/
theorem State.linkReceive_word {m : FLane} {v : State} (hout : s.laneOut n = false) (hst : (s.lane n).st = 2)
    (hstep : (s.setLane { s.lane n with buf := (s.lane n).buf ++ rx }).inFrame n = some (v.setLane m))
    (hm : m.num = n) (hmst : m.st = 2) (hmc : m.checked = true) (hlen : m.buf.length < periodBits) :
    s.linkReceive n rx = (v.setLane m).setLane m := by
  have hlane := v.lane_setLane hm
  have hbuf := s.lane_setLane (l := { s.lane n with buf := (s.lane n).buf ++ rx }) (s.lane_num n)
  have hmove := (State.framerStep_inFrame (s := s.setLane { s.lane n with buf := (s.lane n).buf ++ rx }) (n := n)
    (by rw [hbuf]; exact hst)).trans hstep
  have hstop : (v.setLane m).framerStep n = none := by
    rw [State.framerStep_inFrame (by rw [hlane]; exact hmst)]
    exact State.inFrame_short (by rw [hlane]; exact hmc) (by rw [hlane]; exact hlen)
  have htrim : m.trim = m := if_neg (by rw [hmst]; decide)
  rw [State.linkReceive_framed rx hout (by rw [hst]; decide), State.framer_some hmove, State.framer_none hstop, hbuf]
  simp only [hst, true_or, if_true, hlane, htrim]

end receive

section missed
variable (s : State) (n : Nat)

theorem State.bumpN_lane (m idx sub k : Nat) : (s.bumpN idx sub k).lane m = s.lane m :=
  State.lane_of_lanes (s.bumpI_lanes idx sub 0 k) m

theorem State.erroredFrame_lane : (s.erroredFrame n).lane n = { s.lane n with errs := (s.lane n).errs + 1 } :=
  (State.bumpN_lane _ n _ _ _).trans (s.lane_setLane (s.lane_num n))

/-- A withheld channel byte leaves the lanes as they are (R426). -/
theorem State.channelByte_lane (m no : Nat) (good : Bool) (b : Byte) : (s.channelByte n no good b).lane m = s.lane m := by
  have hbyte (k : Nat) : (if s.obj 0x6100 (1 + k) = n then (if good then s.out (.ohc k (byteBits b)) else s.bump 0x6100 (5 + k))
      else s).lane m = s.lane m := by
    split
    · split
      · rfl
      · exact State.bumpN_lane s m _ _ _
    · rfl
  unfold State.channelByte
  split
  · exact hbyte _
  · rfl

/-- A missed frame is an errored one, and its number goes by. -/
theorem State.missedFrame_lane : (s.missedFrame n).lane n =
    { s.lane n with errs := (s.lane n).errs + 1, rxNo := ((s.lane n).rxNo + 1) % 16 } := by
  unfold State.missedFrame
  dsimp only
  rw [State.channelByte_lane, State.lane_setLane _ (by rw [s.erroredFrame_lane n]; exact s.lane_num n), s.erroredFrame_lane n]

end missed

/-! ### Delivering a frame (R408, R409) -/

section slip
variable {s : State} {n : Nat}

theorem State.slipDeliver_test (h : s.testMode n ≠ 0) : s.slipDeliver n = s := if_pos h

/-- A fabric lane gives the cells of the frame delivered to cell extraction. -/
theorem State.slipDeliver_fabric {g : List (Option (List Byte))} {v : State} (ht : s.testMode n = 0) (hn : n < 160)
    (h : s.slipOut n = (g, v)) :
    s.slipDeliver n = v.setLane { v.lane n with extracted := (v.lane n).extracted ++ frameCells g } := by
  rw [State.slipDeliver, if_neg (not_not.mpr ht), h]
  exact if_pos hn

theorem State.slipOut_empty (h : (s.lane n).slip = []) : s.slipOut n = ([], s.forcedSlip n 0) := by
  simp only [State.slipOut, h]

variable {f : List (Option (List Byte))} {r : List (List (Option (List Byte)))} (h : (s.lane n).slip = f :: r)
include h

theorem State.slipOut_oldest (hkeep : fillerFrame f = false ∨ 2 < (s.lane n).slip.length ∧ (s.lane n).slip.length < 6) :
    s.slipOut n = (f, s.setLane { s.lane n with slip := r }) := by
  have hdrop : ¬ (6 ≤ (f :: r).length ∧ fillerFrame f = true) := by
    rw [h] at hkeep
    rcases hkeep with hf | ⟨_, hl⟩
    · exact fun hx => absurd hx.2 (by rw [hf]; decide)
    · exact fun hx => absurd hx.1 (by omega)
  have hagain : ¬ ((f :: r).length ≤ 2 ∧ fillerFrame f = true) := by
    rw [h] at hkeep
    rcases hkeep with hf | ⟨hl, _⟩
    · exact fun hx => absurd hx.2 (by rw [hf]; decide)
    · exact fun hx => absurd hx.1 (by omega)
  simp only [State.slipOut, h, if_neg hdrop, if_neg hagain]

theorem State.slipOut_dropped (hf : fillerFrame f = true) (hlen : 6 ≤ (s.lane n).slip.length) :
    s.slipOut n = (r.headD [], (s.setLane { s.lane n with slip := r.tail }).laneBump n 0xB 1) := by
  rw [h] at hlen
  simp only [State.slipOut, h, if_pos (And.intro hlen hf)]

theorem State.slipOut_repeated (hf : fillerFrame f = true) (hlen : (s.lane n).slip.length ≤ 2) :
    s.slipOut n = (f, s.laneBump n 0xB 1) := by
  rw [h] at hlen
  have hdrop : ¬ (6 ≤ (f :: r).length ∧ fillerFrame f = true) := fun hx => absurd hx.1 (by omega)
  simp only [State.slipOut, h, if_neg hdrop, if_pos (And.intro hlen hf)]

end slip

/-- Settles O40: each case of sending, taking and delivering a link frame by its own equation. -/
theorem linkFramesAreSentTakenAndDelivered : Obligations.LinkFramesAreSentTakenAndDelivered := by
  unfold Obligations.LinkFramesAreSentTakenAndDelivered
  refine ⟨?_, ?_, ?_, fun s t lane => ⟨_, rfl⟩, fun s t lane rx => ⟨_, rfl⟩, fun s t lane => ⟨_, rfl⟩⟩
  · intro s t lane u l v next
    have hst : u.dev.st = s.dev.st := congrArg Dev.st (s.tick_dev t)
    have hfaults : u.faults = s.faults := s.tick_faults t
    have hlane : u.lane lane = s.lane lane := State.lane_of_lanes (s.tick_lanes t) lane
    have hl : u.sendingLane lane = l := by
      rw [State.sendingLane, hlane]
    have hv : u.setLane (u.sendingLane lane) = v := congrArg u.setLane hl
    have hlive (hb : s.dev.st ≠ .boot) (hr : lane.val < 160 → u.laneState lane ≠ 3) :
        ¬ (u.laneState lane = 3 ∧ lane.val < 160 ∨ u.dev.st = .boot) := by
      rintro (⟨h3, hn⟩ | hboot)
      · exact hr hn h3
      · exact hb (hst ▸ hboot)
    have hsends {w : State} (h : u.linkSend lane = w) : exec (.linkFrameSend t lane) s = .next w.settle :=
      next_settle_eq h
    refine ⟨?_, ?_, ?_, ?_, ?_⟩
    · intro h
      refine hsends (State.linkSend_silent ?_)
      rcases h with hb | ⟨hn, h3⟩
      · exact .inr (hst.trans hb)
      · exact .inl ⟨h3, hn⟩
    · intro hb ht hr
      exact hsends (State.linkSend_pattern (hlive hb hr) ht rfl)
    · intro hb ht hn hr
      refine ⟨fun hblank => ?_, fun hblank => ?_⟩
      · have h := State.linkSend_blank (hlive hb fun _ => hr) ht hn (by rw [hv]; exact hblank)
        rw [hl] at h
        exact hsends h
      · have h := State.linkSend_fabric (hlive hb fun _ => hr) ht hn (by rw [hv]; exact hblank)
        rw [hl] at h
        exact hsends h
    · intro hb ht hn
      have h := State.linkSend_pairing (hlive hb fun hlt => absurd hn (by omega)) ht (by omega)
      rw [hl, hst, hfaults] at h
      exact hsends h
    · intro bs hn hloop
      exact u.laneSend_fabric hn hloop bs
  · intro s t lane rx u l o takes
    have hl : u.lane lane = l := State.lane_of_lanes (s.tick_lanes t) lane
    have hnum : l.num = lane := s.lane_num lane
    have htakes {w : State} (h : u.ballsReceive lane rx = w) : takes w :=
      next_settle_eq h
    refine ⟨fun hnear => htakes (State.ballsReceive_near hnear rx), fun hloop => ?_⟩
    have hopen {w : State} (h : u.linkReceive lane rx = w) : takes w := htakes ((State.ballsReceive_open hloop rx).trans h)
    refine ⟨fun hout => hopen (State.linkReceive_out rx hout),
      fun hout hst => hopen (State.linkReceive_test rx hout (by rw [hl]; exact hst)), fun hout => ⟨?_, ?_⟩⟩
    · intro hst hfaw w
      have hbuf := u.lane_setLane (l := { l with buf := l.buf ++ rx }) hnum
      have hw := State.missedFrame_lane (u.setLane { l with buf := l.buf ++ rx }) lane
      rw [hbuf] at hw
      refine ⟨hopen (w := w.setLane (w.lane lane).trim) ?_, congrArg FLane.errs hw, congrArg FLane.rxNo hw⟩
      rw [State.linkReceive_framed rx hout (by rw [hl, hst]; decide), hl,
        State.framer_none (State.framerStep_hunting (by rw [hbuf]; exact hst) (by rw [hbuf]; exact hfaw))]
      have hmiss : ¬ (l.st = 2 ∨ false = true) := by rw [hst]; decide
      dsimp only
      rw [if_neg hmiss]
    · intro hst hc hempty hlen
      have hrx : l.buf ++ rx = rx := by rw [hempty]; rfl
      have hbuf := u.lane_setLane (l := { l with buf := rx }) hnum
      have hperiod : rx.length < periodBits := by rw [hlen]; decide
      refine ⟨?_, ?_⟩
      · intro hgood m
        refine hopen (State.linkReceive_word rx hout (by rw [hl]; exact hst) (m := m) ?_ hnum hst rfl hperiod)
        rw [hl, hrx, State.inFrame_word (by rw [hbuf]; exact hc) (by rw [hbuf]; exact hgood), hbuf]
      · intro hbad hrun m
        refine hopen (State.linkReceive_word rx hout (by rw [hl]; exact hst) (m := m) ?_ hnum hst rfl hperiod)
        rw [hl, hrx, State.inFrame_errored (by rw [hbuf]; exact hc) (by rw [hbuf]; exact hlen) (by rw [hbuf]; exact hbad)
          (by rw [hbuf]; exact hrun), hbuf]
        rfl
  · intro s t lane f r u l n gives
    have hl : u.lane lane = l := State.lane_of_lanes (s.tick_lanes t) lane
    have hobj : laneObj lane.val = 0x6120 + lane := if_pos lane.isLt
    have hgives (ht : u.testMode lane = 0) {g : List (Option (List Byte))} {v : State} (h : u.slipOut lane = (g, v)) :
        gives v g := next_settle_eq (State.slipDeliver_fabric ht lane.isLt h)
    refine ⟨fun m hm => next_settle_eq (State.slipDeliver_test hm),
      fun ht h => hgives ht (State.slipOut_empty (by rw [hl]; exact h)), fun ht h => ?_⟩
    have hs : (u.lane lane).slip = f :: r := by rw [hl]; exact h
    refine ⟨fun hkeep => hgives ht ?_, fun hf hlen => hgives ht ?_, fun hf hlen => hgives ht ?_⟩
    · rw [State.slipOut_oldest hs (by rw [hl]; exact hkeep), hl]
    · rw [State.slipOut_dropped hs hf (by rw [hl]; exact hlen), hl, State.laneBump, hobj]
    · rw [State.slipOut_repeated hs hf (by rw [hl]; exact hlen), State.laneBump, hobj]

end Sys2Proof.Machine
end

section
/-! PROOFS. Defects and performance seconds of the lanes (R406, R411, R412, R417, R421 to R423, R427). -/

namespace Sys2Proof.Machine

/-! ### Defects (R411) -/

section defects
variable {s : State} {n : Nat}

/-- LOS outside test mode: the framer begins again, and a first declaration is noted. -/
theorem State.losDeclare_framing (h : (s.lane n).st ≠ 3) : s.losDeclare n =
    (if (s.lane n).los then
      s.setLane ({ s.lane n with detect := false, los := true, buf := [], found := 0 }.goto s.clock.now 0)
    else (s.setLane ({ s.lane n with detect := false, los := true, buf := [], found := 0 }.goto s.clock.now 0)).defectNote
      n).laneSync n := by
  simp only [State.losDeclare, if_neg h]

theorem State.losDeclare_test (h : (s.lane n).st = 3) : s.losDeclare n = s.setLane { s.lane n with detect := false } := by
  simp only [State.losDeclare, h, if_true]

theorem State.lofDeclare_not (h : (s.lane n).st = 2 ∨ (s.lane n).st = 3 ∨ (s.lane n).lof = true ∨
    s.clock.now < max (s.lane n).stAt s.dev.coreBase + lofSpan) : s.lofDeclare n = s := if_pos h

/-- LOF is declared after its frame periods out of frame, and noted only without LOS. -/
theorem State.lofDeclare_declared (hst : (s.lane n).st = 0 ∨ (s.lane n).st = 1) (hlof : (s.lane n).lof = false)
    (ht : max (s.lane n).stAt s.dev.coreBase + lofSpan ≤ s.clock.now) : s.lofDeclare n =
      (if (s.lane n).los then s.setLane { s.lane n with lof := true }
      else (s.setLane { s.lane n with lof := true }).defectNote n).laneSync n := by
  refine if_neg ?_
  rintro (h | h | h | h)
  · omega
  · omega
  · rw [hlof] at h
    exact absurd h (by decide)
  · exact absurd ht (Nat.not_le.mpr h)

theorem State.lofClear_cleared (hlof : (s.lane n).lof = true) (hst : (s.lane n).st = 2)
    (ht : (s.lane n).stAt + lofSpan ≤ s.clock.now) :
    s.lofClear n = (s.setLane { s.lane n with lof := false }).laneSync n := if_pos ⟨hst, hlof, ht⟩

theorem State.lofClear_not (h : (s.lane n).st ≠ 2 ∨ s.clock.now < (s.lane n).stAt + lofSpan) : s.lofClear n = s := by
  refine if_neg ?_
  rintro ⟨hst, _, ht⟩
  rcases h with h | h
  · exact h hst
  · exact absurd ht (Nat.not_le.mpr h)

end defects

/-! ### Performance seconds (R421 to R423) -/

/-- A lane after a second has ended: what was counted in it is cleared. -/
def FLane.ended (l : FLane) (test : Bool) : FLane := { l with errs := 0, forced := 0, forcedRaised := false, tested := test }

/-- The class of a second by its errored frames: 2 an SES, 1 an ES (R421). -/
def FLane.secClass (l : FLane) : Nat := if 1831055 ≤ l.errs then 2 else if l.errs ≠ 0 then 1 else 0

section second
variable {s : State} {n : Nat}

/-- A second in test mode is noted and not counted (R427). -/
theorem State.perfSecond_test (ht : (s.lane n).tested = true ∨ s.testMode n ≠ 0) (hu : (s.lane n).unavail = false)
    (hr : (s.lane n).sesRun < 10) : s.perfSecond n = s.setLane (FLane.ended
      { s.lane n with secs := (s.lane n).secs ++ [(s.clock.sec, 4)] } (s.testMode n != 0)) := by
  have htest : ((s.lane n).tested || s.testMode n != 0) = true := by simpa using ht
  have hrun : ¬ 10 ≤ (s.lane n).sesRun := by omega
  simp only [State.perfSecond, htest, hu, hrun, if_true, Bool.false_eq_true, false_and, if_false, and_false]
  rfl

variable (ht : (s.lane n).tested = false) (hm : s.testMode n = 0)
include ht hm

theorem State.second_counts : ((s.lane n).tested || s.testMode n != 0) = false := by simp [ht, hm]

/-- A second in available time that is no SES. -/
theorem State.perfSecond_good (hu : (s.lane n).unavail = false) (hc : (s.lane n).secClass ≠ 2) :
    s.perfSecond n = s.setLane (FLane.ended { s.lane n with
      secs := (s.lane n).secs ++ [(s.clock.sec, (s.lane n).secClass)], sesRun := 0, okRun := (s.lane n).okRun + 1 }
      (s.testMode n != 0)) := by
  have hcls : (if sesLimit ≤ (s.lane n).errs then 2 else if (s.lane n).errs ≠ 0 then 1 else 0) = (s.lane n).secClass := rfl
  have hten : ¬ 10 ≤ 0 := by decide
  simp only [State.perfSecond, State.second_counts ht hm, Bool.false_eq_true, if_false, hcls, hu, hc, hten, false_and,
      and_false]
  rfl

/-- An SES in available time that is not the tenth in a row. -/
theorem State.perfSecond_severe (hu : (s.lane n).unavail = false) (hc : (s.lane n).secClass = 2) (hr : (s.lane n).sesRun < 9) :
    s.perfSecond n = s.setLane (FLane.ended { s.lane n with
      secs := (s.lane n).secs ++ [(s.clock.sec, 2)], sesRun := (s.lane n).sesRun + 1, okRun := 0 }
      (s.testMode n != 0)) := by
  have hcls : (if sesLimit ≤ (s.lane n).errs then 2 else if (s.lane n).errs ≠ 0 then 1 else 0) = (s.lane n).secClass := rfl
  have hten : ¬ 10 ≤ (s.lane n).sesRun + 1 := by omega
  simp only [State.perfSecond, State.second_counts ht hm, Bool.false_eq_true, if_false, hcls, hu, hc, hten, false_and,
      and_false,
    if_true]
  rfl

/-- The tenth SES in a row begins unavailable time, and marks its ten seconds (R422). -/
theorem State.perfSecond_begins (hu : (s.lane n).unavail = false) (hc : (s.lane n).secClass = 2) (hr : (s.lane n).sesRun = 9) :
    s.perfSecond n = (s.setLane (FLane.ended { s.lane n with
      secs := markLast 10 (fun c => c % 8 + 8) ((s.lane n).secs ++ [(s.clock.sec, 2)])
      sesRun := 10, okRun := 0, unavail := true } (s.testMode n != 0))).laneEvent n 1 0x12 := by
  have hcls : (if sesLimit ≤ (s.lane n).errs then 2 else if (s.lane n).errs ≠ 0 then 1 else 0) = (s.lane n).secClass := rfl
  simp only [State.perfSecond, State.second_counts ht hm, Bool.false_eq_true, if_false, hcls, hu, hc, hr, Nat.reduceAdd,
      le_refl,
    not_false_eq_true, and_self, if_true, false_and]
  rfl

/-- The tenth second in a row that is no SES ends unavailable time, and takes the marks off its ten seconds (R422). -/
theorem State.perfSecond_ends (hu : (s.lane n).unavail = true) (hc : (s.lane n).secClass ≠ 2) (hr : (s.lane n).okRun = 9) :
    s.perfSecond n = s.setLane (FLane.ended { s.lane n with
      secs := markLast 10 (fun c => c % 8) ((s.lane n).secs ++ [(s.clock.sec, (s.lane n).secClass + 8)])
      sesRun := 0, okRun := 10, unavail := false } (s.testMode n != 0)) := by
  have hcls : (if sesLimit ≤ (s.lane n).errs then 2 else if (s.lane n).errs ≠ 0 then 1 else 0) = (s.lane n).secClass := rfl
  simp only [State.perfSecond, State.second_counts ht hm, Bool.false_eq_true, if_false, hcls, hu, hc, hr, Nat.reduceAdd,
      le_refl,
    not_false_eq_true, not_true, and_self, if_true, false_and]
  rfl

end second

section post
variable {s : State} {n : Nat} {e : Tick × Nat} {rest : List (Tick × Nat)} (h : (s.lane n).secs = e :: rest)
include h

/-- Nothing is counted before ten seconds have passed (R423). -/
theorem State.perfPost_none (ht : s.clock.sec < e.1 + 10) : s.perfPost n = s.setLane (s.lane n) := by
  have hdue : ¬ e.1 + 10 ≤ s.clock.sec := Nat.not_le.mpr ht
  simp only [State.perfPost, h, List.takeWhile_cons, hdue, decide_false, Bool.false_eq_true, if_false, List.foldl_nil,
    List.length_nil, List.drop_zero]
  rw [← h]

/-- The second that ended ten seconds ago leaves the list, and is counted by its class. -/
theorem State.perfPost_one (ht : e.1 + 10 ≤ s.clock.sec) (hrest : ∀ f ∈ rest, s.clock.sec < f.1 + 10) :
    s.perfPost n = ((secCounter e.2).elim (s.setLane { s.lane n with secs := rest })
      fun c => (s.setLane { s.lane n with secs := rest }).laneBump n c 1) := by
  have hnone : rest.takeWhile (fun f => decide (f.1 + 10 ≤ s.clock.sec)) = [] := by
    cases rest with
    | nil => rfl
    | cons f r =>
      have hf := hrest f List.mem_cons_self
      exact List.takeWhile_cons_of_neg (by simpa using hf)
  simp only [State.perfPost, h, List.takeWhile_cons, ht, decide_true, if_true, hnone, List.foldl_cons, List.foldl_nil,
    List.length_cons, List.length_nil, List.drop_succ_cons, List.drop_zero]
  cases secCounter e.2 with
  | none => rfl
  | some c => rfl

end post

/-- Settles O41: each defect and each second of a lane by its own equation. -/
theorem defectsAndPerformanceSeconds : Obligations.DefectsAndPerformanceSeconds := by
  unfold Obligations.DefectsAndPerformanceSeconds
  refine ⟨?_, ?_, fun s t n => ⟨_, rfl⟩, fun s t n => ⟨_, rfl⟩, fun s t n => ⟨_, rfl⟩, fun s t n => ⟨_, rfl⟩,
    fun s t n => ⟨_, rfl⟩, fun s t n => ⟨_, rfl⟩⟩
  · intro s t lane u l lost out
    have hl : u.lane lane = l := s.tick_lane t lane
    have hout : { l with detect := false, los := true, buf := [], found := 0 }.goto u.clock.now 0 = out := by
      by_cases hst : l.st = 2
      · simp [FLane.goto, hst, out]
      · simp [FLane.goto, hst, out]
    refine ⟨?_, ?_, ?_, ?_, ?_, ?_, ?_, ?_⟩
    · intro hst hlos
      refine next_settle_eq ((State.losDeclare_framing (by rw [hl]; exact hst)).trans ?_)
      rw [hl, hlos, hout]
      rfl
    · intro hst hlos
      refine next_settle_eq ((State.losDeclare_framing (by rw [hl]; exact hst)).trans ?_)
      rw [hl, hlos, hout]
      rfl
    · intro hst
      refine next_settle_eq ((State.losDeclare_test (by rw [hl]; exact hst)).trans ?_)
      rw [hl]
    · refine next_settle_eq (u := u.losClear lane) ?_
      rw [State.losClear, hl]
    · intro h
      exact next_settle_eq (State.lofDeclare_not (by rw [hl]; exact h))
    · intro hst hlof ht
      refine next_settle_eq ((State.lofDeclare_declared (by rw [hl]; exact hst) (by rw [hl]; exact hlof)
        (by rw [hl]; exact ht)).trans ?_)
      rw [hl, apply_ite (fun v : State => v.laneSync lane)]
    · intro hlof hst ht
      refine next_settle_eq ((State.lofClear_cleared (by rw [hl]; exact hlof) (by rw [hl]; exact hst)
        (by rw [hl]; exact ht)).trans ?_)
      rw [hl]
    · intro h
      exact next_settle_eq (State.lofClear_not (by rw [hl]; exact h))
  · intro s t lane u l ended cls
    have hl : u.lane lane = l := s.tick_lane t lane
    refine ⟨?_, ?_, ?_, ?_⟩
    · intro ht hu hr
      refine next_settle_eq ((State.perfSecond_test (by rw [hl]; exact ht) (by rw [hl]; exact hu)
          (by rw [hl]; exact hr)).trans ?_)
      rw [hl]
      rfl
    · intro ht hm hu
      refine ⟨fun hc => ?_, fun hc hr => ?_, fun hc hr => ?_⟩
      · refine next_settle_eq ((State.perfSecond_good (by rw [hl]; exact ht) hm (by rw [hl]; exact hu)
          (by rw [hl]; exact hc)).trans ?_)
        rw [hl]
        rfl
      · refine next_settle_eq ((State.perfSecond_severe (by rw [hl]; exact ht) hm (by rw [hl]; exact hu)
          (by rw [hl]; exact hc) (by rw [hl]; exact hr)).trans ?_)
        rw [hl]
        rfl
      · refine next_settle_eq ((State.perfSecond_begins (by rw [hl]; exact ht) hm (by rw [hl]; exact hu)
          (by rw [hl]; exact hc) (by rw [hl]; exact hr)).trans ?_)
        rw [hl]
        rfl
    · intro ht hm hu hc hr
      refine next_settle_eq ((State.perfSecond_ends (by rw [hl]; exact ht) hm (by rw [hl]; exact hu)
        (by rw [hl]; exact hc) (by rw [hl]; exact hr)).trans ?_)
      rw [hl]
      rfl
    · intro e rest h
      have hs : (u.lane lane).secs = e :: rest := by rw [hl]; exact h
      refine ⟨fun ht => ?_, ?_⟩
      · refine next_settle_eq ((State.perfPost_none hs ht).trans ?_)
        rw [hl]
      · intro ht hrest v
        have hone := State.perfPost_one hs ht hrest
        rw [hl] at hone
        refine ⟨fun hc => ?_, fun hc => ?_, fun hc => ?_, fun hc => ?_⟩
        · rw [show secCounter e.2 = some 0x10 from if_pos hc] at hone
          exact next_settle_eq hone
        · rw [hc] at hone
          exact next_settle_eq hone
        · rw [hc] at hone
          exact next_settle_eq hone
        · have hnone : secCounter e.2 = none := by
            rcases hc with hc | hc
            · rw [hc]; rfl
            · rw [hc]; rfl
          rw [hnone] at hone
          exact next_settle_eq hone

end Sys2Proof.Machine
end

section
/-! PROOFS. A WRITE of an object whose value simply takes effect (R32, R702): which objects these are, and what the row does. -/

namespace Sys2Proof.Machine

/-- An object whose WRITE is neither counted nor a record, session or journal command, nor a key. -/
def plainObject (idx sub : Nat) : Bool :=
  decide (idx < 65536) && decide (sub < 256) && decide (idx ≠ 0x9000) && decide (idx ≠ 0x4501) && decide (idx ≠ 0xC000) &&
    decide (idx ≠ 0x2021) && (objTop idx).isSome && (objDesc idx sub).any (fun d => decide (d.acc ≠ 5))

/-- A plain object is defined. -/
theorem plainObject_iff (idx sub : Nat) : plainObject idx sub = true ↔
    idx < 65536 ∧ sub < 256 ∧ idx ≠ 0x9000 ∧ idx ≠ 0x4501 ∧ idx ≠ 0xC000 ∧ idx ≠ 0x2021 ∧ (objTop idx).isSome = true ∧
      ∃ d, objDesc idx sub = some d ∧ d.acc ≠ 5 := by
  simp only [plainObject, Bool.and_eq_true, decide_eq_true_eq, Option.any_eq_true, and_assoc]

section plain
variable {s : State} {i : Instr} {t : Tick} {p : Path} {tag idx sub : Nat} {val : List Byte} {f : State → State}
  (hplain : plainObject idx sub = true)
  (hrow : exec i s = .next (s.at_ t (fun s => s.request p 2 tag idx sub val))) (hready : (s.tick t).Ready p)
  (hok : ((s.tick t).begun p).admits p idx sub val = true)
  (hv : ((s.tick t).begun p).applyWrite ((s.tick t).requesterOf p) idx sub (leNat val) =
    f ((s.tick t).begun p))
  (hafter : (f ((s.tick t).begun p)).afterFault idx sub = none)
include hplain hrow hready hok hv hafter

/-- The write of a plain object that is not kept in flash is done at once. -/
theorem exec_plainWrite (hflash : waitsForFlash idx sub = false) :
    exec i s = .next (s.writeDone t p tag idx sub val f) := by
  obtain ⟨hi, hsub, h9, h4, hC, hk, ht, d, hd, h5⟩ := (plainObject_iff idx sub).mp hplain
  rw [hrow, State.at_write_done (f := f) s hready hi hsub h9 h4 hC hk hd ht h5 hok hv hafter hflash]

/-- The write of a plain object that is kept in flash is answered later. -/
theorem exec_flashWrite (hflash : waitsForFlash idx sub = true) (hdiv : s.record.divergent = false) :
    exec i s = .next (s.writeLater t p tag idx sub val false [0] f) := by
  obtain ⟨hi, hsub, h9, h4, hC, _, ht, d, hd, h5⟩ := (plainObject_iff idx sub).mp hplain
  have hsame : (s.tick t).record.divergent = false := by rw [s.tick_record]; exact hdiv
  rw [hrow, State.at_write_later (f := f) s hready hi hsub h9 h4 hC hd ht h5 hok hv hafter hflash hsame]

end plain

/-- Most writes are looked at no more once they have taken effect. -/
theorem State.afterFault_other (s : State) {idx sub : Nat} (h : idx < 0x5000 ∨ 0x5102 ≤ idx ∧ idx < 0x5310 ∨ 0x5320 ≤ idx) :
    s.afterFault idx sub = none := by
  have h1 : ¬ (idx = 0x5000 ∨ (0x5020 ≤ idx ∧ idx ≤ 0x50FF) ∨ idx = 0x5100 ∨ idx = 0x5101) := by omega
  have h2 : ¬ (0x5310 ≤ idx ∧ idx ≤ 0x531F ∧ sub ≤ 4) := by omega
  rw [State.afterFault, if_neg h1, if_neg h2]

/-- The indexes whose writes have an effect of their own, those of ranges apart. -/
def ownEffect : List Nat :=
  [0x1100, 0x1300, 0x2100, 0x3201, 0x5100, 0x5101, 0x5200, 0x6000, 0x6800, 0x6900, 0x7200, 0x8000, 0x8200, 0xA000]

/-- Ports, tables, queues' pools and lanes have effects by ranges. -/
theorem not_mem_ownEffect {idx : Nat} (h : 0x3000 ≤ idx ∧ idx ≤ 0x307F ∨ 0x4000 ≤ idx ∧ idx ≤ 0x50FF ∨
    0x6001 ≤ idx ∧ idx < 0x6800) : idx ∉ ownEffect := by
  intro hmem
  simp only [ownEffect, List.mem_cons, List.not_mem_nil, or_false] at hmem
  omega

section ranges
variable (s : State) (who : Nat) {idx : Nat} (sub v : Nat)

/-- A write outside those indexes acts by the range of its index, and else its object takes the value. -/
theorem State.applyWrite_ranges (h : idx ∉ ownEffect) : s.applyWrite who idx sub v =
    if 0x3000 ≤ idx ∧ idx ≤ 0x307F then s.writePort (idx - 0x3000) sub v
    else if idx = 0x4300 then s.accrueAll.setObj idx sub v
    else if 0x4300 < idx ∧ idx ≤ 0x433F then (s.accrue (idx - 0x4300)).setObj idx sub v
    else if 0x4610 ≤ idx ∧ idx ≤ 0x4617 ∧ (sub = 1 ∨ sub = 5 ∨ sub = 0xC) then s.setLearned (idx - 0x4610) sub v
    else if 0x5000 ≤ idx ∧ idx ≤ 0x50FF then s.writePool idx sub v
    else if 0x6020 ≤ idx ∧ idx < 0x60C0 ∧ sub = 6 then (s.setObj idx sub v).retireCommand (idx - 0x6020) v
    else if 0x6120 ≤ idx ∧ idx < 0x61C0 ∧ sub = 3 then s.setTestMode (idx - 0x6120) v
    else if 0x61C0 ≤ idx ∧ idx ≤ 0x61C1 ∧ sub = 3 then s.setTestMode (idx - 0x61C0 + 160) v
    else s.setObjI idx sub (s.inst idx sub) v := by
  simp only [ownEffect, List.mem_cons, List.not_mem_nil, or_false, not_or] at h
  unfold State.applyWrite
  split
  case h_15 => rfl
  all_goals omega

end ranges

end Sys2Proof.Machine
end

section
/-! PROOFS. Writes of table, queue, node, line and lane objects (R107, R116, R214, R271, R288, R305, R307, R391, R406, R427,
R432, R450, R451, R463 to R466). -/

namespace Sys2Proof.Machine

/-! ### The objects -/

theorem plainObject_learned : ∀ k : Fin 8, ∀ sub ∈ [1, 5, 0xC],
    plainObject (0x4610 + k) sub = true ∧ waitsForFlash (0x4610 + k) sub = false := by decide +kernel

theorem plainObject_profile : ∀ k : Fin 8, ∀ sub : Fin 6,
    plainObject (0x4110 + k) sub = true ∧ waitsForFlash (0x4110 + k) sub = false := by decide +kernel

theorem plainObject_template : ∀ k : Fin 64,
    plainObject (0x4180 + k) 1 = true ∧ waitsForFlash (0x4180 + k) 1 = false := by decide +kernel

theorem plainObject_width : ∀ k : Fin 32,
    plainObject (0x4460 + k) 9 = true ∧ waitsForFlash (0x4460 + k) 9 = false := by decide +kernel

theorem plainObject_retire : ∀ k : Fin 160,
    plainObject (0x6020 + k) 6 = true ∧ waitsForFlash (0x6020 + k) 6 = false := by decide +kernel

theorem plainObject_testMode : ∀ n : Fin 162,
    plainObject (laneObj n) 3 = true ∧ waitsForFlash (laneObj n) 3 = false := by decide +kernel

theorem plainObject_portMode : ∀ n : Fin 128,
    plainObject (0x3000 + n) 1 = true ∧ waitsForFlash (0x3000 + n) 1 = true := by decide +kernel

theorem plainObject_serdes : ∀ sub ∈ [5, 6, 7, 0xB, 0xC, 0xD],
    plainObject 0x3201 sub = true ∧ waitsForFlash 0x3201 sub = false := by decide +kernel

/-- No sub-index of a parser profile above 5 is defined. -/
theorem objDesc_profile {k : Fin 8} {sub : Nat} (h : 6 ≤ sub) : objDesc (0x4110 + k) sub = none := by
  have hrows : ∀ k : Fin 8, ∀ d ∈ objRowsOf (0x4110 + k), d.idxLo ≤ 0x4110 + k → 0x4110 + k ≤ d.idxHi → d.subHi ≤ 5 := by
    decide +kernel
  rw [objDesc, if_neg (by omega), List.find?_eq_none]
  intro d hd hmatch
  simp only [Bool.and_eq_true, decide_eq_true_eq] at hmatch
  obtain ⟨⟨⟨hlo, hhi⟩, _⟩, hsub⟩ := hmatch
  have hle := hrows k d hd hlo hhi
  omega

/-! ### The effects -/

section effects
variable (s : State) (who sub v : Nat)

theorem State.applyWrite_learned (k : Fin 8) (h : sub = 1 ∨ sub = 5 ∨ sub = 0xC) :
    s.applyWrite who (0x4610 + k) sub v = s.setLearned k sub v := by
  rw [s.applyWrite_ranges who sub v (not_mem_ownEffect (by omega)), if_neg (by omega),
    if_neg (by omega), if_neg (by omega), if_pos ⟨by omega, by omega, h⟩, Nat.add_sub_cancel_left]

/-- Objects of chapter 4 that only take the value. -/
theorem State.applyWrite_value {idx : Nat} (h : 0x4110 ≤ idx ∧ idx < 0x4200 ∨ 0x4460 ≤ idx ∧ idx < 0x4480) :
    s.applyWrite who idx sub v = s.setObj idx sub v := by
  have hinst : s.inst idx sub = 0 := by
    unfold State.inst
    split
    case h_10 => rfl
    all_goals omega
  rw [s.applyWrite_ranges who sub v (not_mem_ownEffect (by omega)), if_neg (by omega),
    if_neg (by omega), if_neg (by omega), if_neg (by omega), if_neg (by omega), if_neg (by omega), if_neg (by omega),
    if_neg (by omega), hinst]
  rfl

theorem State.applyWrite_retire (k : Fin 160) :
    s.applyWrite who (0x6020 + k) 6 v = (s.setObj (0x6020 + k) 6 v).retireCommand k v := by
  rw [s.applyWrite_ranges who 6 v (not_mem_ownEffect (by omega)), if_neg (by omega),
    if_neg (by omega), if_neg (by omega), if_neg (by omega), if_neg (by omega), if_pos ⟨by omega, by omega, rfl⟩,
    Nat.add_sub_cancel_left]

theorem State.applyWrite_testMode (n : Fin 162) : s.applyWrite who (laneObj n) 3 v = s.setTestMode n v := by
  by_cases hn : n.val < 160
  · have hobj : laneObj n = 0x6120 + n := if_pos hn
    rw [hobj, s.applyWrite_ranges who 3 v (not_mem_ownEffect (by omega)), if_neg (by omega),
      if_neg (by omega), if_neg (by omega), if_neg (by omega), if_neg (by omega), if_neg (by omega),
      if_pos ⟨by omega, by omega, rfl⟩, Nat.add_sub_cancel_left]
  · have hobj : laneObj n = 0x61C0 + (n - 160) := if_neg hn
    have hlane : 0x61C0 + (n.val - 160) - 0x61C0 + 160 = n := by omega
    rw [hobj, s.applyWrite_ranges who 3 v (not_mem_ownEffect (by omega)), if_neg (by omega),
      if_neg (by omega), if_neg (by omega), if_neg (by omega), if_neg (by omega), if_neg (by omega), if_neg (by omega),
      if_pos ⟨by omega, by omega, rfl⟩, hlane]

theorem State.applyWrite_queueRecord : s.applyWrite who 0x5100 2 v = s.setNodeRec (nodeKey 5 (s.obj 0x5100 1)) v := rfl

theorem State.applyWrite_nodeRecord : s.applyWrite who 0x5200 3 v = s.setNodeRec s.selNode v := rfl

theorem State.applyWrite_outlet : s.applyWrite who 0x5201 2 v = s.setObjI 0x5201 2 (s.obj 0x5201 1) v := rfl

theorem State.applyWrite_phase : s.applyWrite who 0x2100 3 v = (s.setObj 0x2100 3 v).setPhase (toInt 32 v) := rfl

theorem State.applyWrite_step : s.applyWrite who 0x2100 6 v = (s.setObj 0x2100 6 v).setStep v := rfl

theorem State.applyWrite_defaultMap : s.applyWrite who 0x5101 1 1 = (s.setObj 0x5101 1 1).defaultMap := rfl

/-- The partition boundary sets the thresholds of both partitions when it moves (R271). -/
theorem State.applyWrite_boundary : s.applyWrite who 0x5000 2 v =
    if s.obj 0x5000 2 ≠ v then ((s.setObj 0x5000 2 v).poolMarks 0).poolMarks 1 else s.setObj 0x5000 2 v := by
  show (if 2 = 2 ∧ s.obj 0x5000 2 ≠ v then _ else _) = _
  simp only [true_and]

theorem State.applyWrite_portMode (n : Fin 128) : s.applyWrite who (0x3000 + n) 1 v = s.setMode n v := by
  rw [s.applyWrite_ranges who 1 v (not_mem_ownEffect (by omega)),
    if_pos ⟨by omega, by omega⟩, Nat.add_sub_cancel_left]
  rfl

end effects

/-! ### Learned tables (R214) -/

section learned
variable {s : State} {t sub v : Nat}

/-- A learned table written as it is keeps its entries. -/
theorem State.setLearned_same (h : s.obj (0x4610 + t) sub = v) : s.setLearned t sub v = s := if_pos h

/-- Another key width or seed clears the entries of the table written. -/
theorem State.setLearned_key (h : s.obj (0x4610 + t) sub ≠ v) (h1 : sub ≠ 1) :
    s.setLearned t sub v = s.clearLearned (s.setObj (0x4610 + t) sub v) [t] :=
  (if_neg h).trans (congrArg _ (if_neg h1))

/-- Another size clears those of each table that it moves. -/
theorem State.setLearned_size (h : s.obj (0x4610 + t) 1 ≠ v) :
    s.setLearned t 1 v = s.clearLearned (s.setObj (0x4610 + t) 1 v) (movedTables s (s.setObj (0x4610 + t) 1 v) t) := if_neg h

/-- Clearing learned tables by the test of a table's number. -/
theorem State.clearLearned_by (s' : State) {ts : List Nat} {gone : Nat → Bool} (h : ∀ j, ts.contains j = gone j) :
    s.clearLearned s' ts = { s' with tables := { s'.tables with
      learned := s'.tables.learned.filter (fun e => match s.bucketTable (e.1 / 8) with
        | some j => !gone j
        | none => true) } } := by
  simp only [State.clearLearned, h]
  rfl

/-- The tables that a size moves: the one written, and those whose first bucket differs. -/
theorem movedTables_contains (s' : State) (j : Nat) :
    (movedTables s s' t).contains j = decide (j < 8 ∧ (j = t ∨ s.firstBucket j ≠ s'.firstBucket j)) := by
  rw [Bool.eq_iff_iff]
  simp [movedTables]

end learned

/-! ### The default map (R305) -/

/-- Settling a node keeps the part's fuses, and with them its unit number. -/
theorem State.settleNode_fuses (s : State) (k v : Nat) : (s.settleNode k v).fuses = s.fuses := by
  unfold State.settleNode
  dsimp only
  split
  · rfl
  · rfl

/-- Applying the default map settles each node with its record of the part's unit number. -/
theorem State.settleNodes_unit (ks : List Nat) (s : State) :
    ks.foldl (fun s k => s.settleNode k (defaultRec s.unit k)) s =
        ks.foldl (fun w k => w.settleNode k (defaultRec s.unit k)) s ∧
      (ks.foldl (fun s k => s.settleNode k (defaultRec s.unit k)) s).unit = s.unit := by
  induction ks generalizing s with
  | nil => exact ⟨rfl, rfl⟩
  | cons k ks ih =>
    have hunit : (s.settleNode k (defaultRec s.unit k)).unit = s.unit := congrArg Fuses.unit (s.settleNode_fuses k _)
    obtain ⟨hfold, hkept⟩ := ih (s.settleNode k (defaultRec s.unit k))
    rw [hunit] at hfold hkept
    exact ⟨hfold, hkept⟩

theorem State.defaultMap_eq (s : State) : s.defaultMap =
    let w := (s.sched.nodes.map (·.key)).foldl (fun w k => w.settleNode k (defaultRec s.unit k)) s
    { w with sched := { w.sched with recs := [], mapUnit := s.unit } } := by
  obtain ⟨hfold, hkept⟩ := State.settleNodes_unit (s.sched.nodes.map (·.key)) s
  simp only [State.defaultMap, hkept]
  rw [hfold]

/-! ### Lanes (R427, R463 to R466) -/

section lane
variable (s : State) (v : Nat)

/-- A lane's object other than its selector. -/
theorem State.applyWrite_serdes (who : Nat) {sub : Nat} (h : 2 ≤ sub) : s.applyWrite who 0x3201 sub v =
    (s.setObjI 0x3201 sub (s.obj 0x3201 1) v).laneWritten (s.obj 0x3201 1) sub (s.objI 0x3201 sub (s.obj 0x3201 1)) v := by
  show s.writeLane sub v = _
  exact if_neg (by omega)

variable (code old : Nat)

theorem State.laneWritten_loop : s.laneWritten code 5 old v = s.laneChanged code := rfl

theorem State.laneWritten_generator (h : v ≠ old) : s.laneWritten code 6 old v = (s.startPattern code v).laneChanged code :=
  congrArg (State.laneChanged · code) (if_neg h)

theorem State.laneWritten_checker (h : v ≠ old) : s.laneWritten code 7 old v =
    (s.setSerdes { s.serdes code with checkLock := false, check := none }).laneChanged code :=
  congrArg (State.laneChanged · code) (if_neg h)

/-- A generator, a checker or a sleep written as it is changes no more than its object. -/
theorem State.laneWritten_same {sub : Nat} (h : sub = 6 ∨ sub = 7 ∨ sub = 0xC ∨ sub = 0xD) :
    s.laneWritten code sub v v = s.laneChanged code := by
  rcases h with rfl | rfl | rfl | rfl
  · exact congrArg (State.laneChanged · code) (if_pos rfl)
  · exact congrArg (State.laneChanged · code) (if_pos rfl)
  · exact congrArg (State.laneChanged · code) (if_pos rfl)
  · exact congrArg (State.laneChanged · code) (if_pos rfl)

theorem State.laneWritten_clear : s.laneWritten code 0xB old 1 =
    ((s.setObjI 0x3201 9 code 0).setObjI 0x3201 0xA code 0).laneChanged code := rfl

theorem State.laneWritten_keep : s.laneWritten code 0xB old 0 = s.laneChanged code := rfl

theorem State.laneWritten_txSleep : s.laneWritten code 0xC 0 1 =
    (s.setSerdes { s.serdes code with txWaking := false }).laneChanged code := rfl

theorem State.laneWritten_txWake : s.laneWritten code 0xC 1 0 =
    (s.setSerdes { s.serdes code with txWaking := true, txWake := s.clock.now + 2 * Config.us }).laneChanged code := rfl

theorem State.laneWritten_rxSleep : s.laneWritten code 0xD 0 1 =
    (s.setSerdes { s.serdes code with rxWaking := false, locked := false, rxSleepAt := s.clock.now }).laneChanged code := rfl

/-- A receive direction that wakes has longer when it slept long. -/
theorem State.laneWritten_rxWake : s.laneWritten code 0xD 1 0 =
    (s.setSerdes { s.serdes code with
      rxWaking := true
      rxWake := s.clock.now + (if (s.serdes code).rxSleepAt + Config.sec < s.clock.now then 100 * Config.ms
        else 20 * Config.us) }).laneChanged code := by
  have hlong : (if decide ((s.serdes code).rxSleepAt + Config.sec < s.clock.now) = true then 100 * Config.ms
      else 20 * Config.us) = if (s.serdes code).rxSleepAt + Config.sec < s.clock.now then 100 * Config.ms
        else 20 * Config.us := by simp only [decide_eq_true_eq]
  rw [← hlong]
  rfl

end lane

section test
variable (s : State) (n : Nat)

/-- A lane that goes to a state outside IN FRAME. -/
theorem FLane.goto_out (l : FLane) (now : Nat) {st : Nat} (h : st ≠ 2) : l.goto now st = { l with
    st := st, mfSeen := 0, fails := 0, mfTrace := [], lastTrace := [], stAt := if l.st = 2 then now else l.stAt } := by
  have hst : (st == 2) = false := by simpa using h
  by_cases hl : l.st = 2
  · simp [FLane.goto, h, hl]
  · simp [FLane.goto, h, hl]

theorem State.startPattern_clock (code m : Nat) : (s.startPattern code m).clock = s.clock := rfl

/-- A test mode stops the framer (R406, R427). -/
theorem State.setTestMode_on {v : Nat} (hv : v ≠ 0) : s.setTestMode n v =
    ((((s.setObj (laneObj n) 3 v).startPattern (laneCode n) v).setLane
      ({ s.lane n with buf := [], tested := true }.goto s.clock.now 3)).laneSync n) := by
  simp only [State.setTestMode, hv, if_false, State.startPattern_clock, State.setObj_clock]

theorem State.setTestMode_off (hst : (s.lane n).st = 3) : s.setTestMode n 0 =
    ((((s.setObj (laneObj n) 3 0).startPattern (laneCode n) 0).setLane
      ({ s.lane n with buf := [] }.goto s.clock.now 0)).laneSync n) := by
  simp only [State.setTestMode, if_true, hst, State.startPattern_clock, State.setObj_clock]

theorem State.setTestMode_still (hst : (s.lane n).st ≠ 3) : s.setTestMode n 0 =
    (((s.setObj (laneObj n) 3 0).startPattern (laneCode n) 0).setLane (s.lane n)).laneSync n := by
  simp only [State.setTestMode, if_true, hst, if_false]

end test

/-- A lane's SerDes is none of the dictionary's objects. -/
theorem State.serdes_setObjI (s : State) (i n k v code : Nat) : (s.setObjI i n k v).serdes code = s.serdes code := by
  simp only [State.serdes, State.setObjI_lines]

/-- Settles O45: each row is a plain WRITE (`exec_plainWrite`, `exec_flashWrite`) with the effect of its object. -/
theorem tableQueueLineAndLaneWritesAct : Obligations.TableQueueLineAndLaneWritesAct := by
  unfold Obligations.TableQueueLineAndLaneWritesAct
  refine ⟨?_, ?_, fun s t p tag k sub val => ⟨_, rfl⟩, fun s t p tag k sub val => ⟨_, rfl⟩, fun s t p tag k val => ⟨_, rfl⟩,
    fun s t p tag k val => ⟨_, rfl⟩, fun s t p tag val => ⟨_, rfl⟩, fun s t p tag val => ⟨_, rfl⟩,
    fun s t p tag q val => ⟨_, rfl⟩, fun s t p tag val => ⟨_, rfl⟩, fun s t p tag k val => ⟨_, rfl⟩,
    fun s t p tag k val => ⟨_, rfl⟩, fun s t p tag val => ⟨_, rfl⟩, fun s t p tag val => ⟨_, rfl⟩,
    fun s t p tag val => ⟨_, rfl⟩, fun s t p tag val => ⟨_, rfl⟩, fun s t p tag val => ⟨_, rfl⟩,
    fun s t p tag val => ⟨_, rfl⟩, fun s t p tag k val => ⟨_, rfl⟩, fun s t p tag val => ⟨_, rfl⟩,
    fun s t p tag val => ⟨_, rfl⟩⟩
  · intro s t p tag val hready u v acts
    have act {i : Instr} {idx sub : Nat} {w : State} (hobj : plainObject idx sub = true ∧ waitsForFlash idx sub = false)
        (hrow : exec i s = .next (s.at_ t (fun s => s.request p 2 tag idx sub val)))
        (hw : u.applyWrite ((s.tick t).requesterOf p) idx sub v = w) : acts i idx sub w := fun hok hafter =>
      exec_plainWrite (f := fun _ => w) hobj.1 hrow hready hok hw hafter hobj.2
    refine ⟨?_, ?_, ?_, ?_, ?_, ?_, ?_, ?_, ?_⟩
    · intro k sub hsub set keeps
      have hlearned : ∀ w, u.setLearned k sub v = w →
          acts (.learnedTableSizeWrite t p tag k sub val) (0x4610 + k) sub w := fun w hw =>
        act (plainObject_learned k sub (by simpa using hsub)) rfl ((u.applyWrite_learned _ sub v k hsub).trans hw)
      refine ⟨fun h => hlearned _ (State.setLearned_same h), fun h h1 => hlearned _ ?_, fun h h1 => hlearned _ ?_⟩
      · rw [State.setLearned_key h h1]
        exact State.clearLearned_by _ (fun j => by simp)
      · have hset : u.setObj (0x4610 + k) 1 v = set := by rw [← h1]
        rw [h1] at h ⊢
        rw [State.setLearned_size h, hset]
        exact State.clearLearned_by _ (movedTables_contains _)
    · intro k sub hsub hok
      have hdefined : sub < 6 := by
        by_contra hbig
        simp [State.admits, objDesc_profile (k := k) (Nat.le_of_not_lt hbig)] at hok
      exact act (plainObject_profile k ⟨sub, hdefined⟩) rfl (u.applyWrite_value _ sub v (.inl (by omega))) hok
    · intro k
      exact act (plainObject_template k) rfl (u.applyWrite_value _ 1 v (.inl (by omega)))
    · intro k
      exact act (plainObject_width k) rfl (u.applyWrite_value _ 9 v (.inr (by omega)))
    · refine ⟨fun h => act (by decide +kernel) rfl ?_, fun h => act (by decide +kernel) rfl ?_⟩
      · exact (u.applyWrite_boundary _ v).trans (if_neg (not_not.mpr h))
      · exact (u.applyWrite_boundary _ v).trans (if_pos h)
    · intro hv
      refine act (by decide +kernel) rfl ?_
      have hunit : (u.setObj 0x5101 1 1).unit = u.unit := congrArg Fuses.unit (u.setObj_fuses 0x5101 1 1)
      have hsched : (u.setObj 0x5101 1 1).sched = u.sched := u.setObj_sched 0x5101 1 1
      rw [hv, State.applyWrite_defaultMap, State.defaultMap_eq, hunit, hsched]
    · exact act (by decide +kernel) rfl (u.applyWrite_queueRecord _ v)
    · exact act (by decide +kernel) rfl (u.applyWrite_nodeRecord _ v)
    · exact act (by decide +kernel) rfl (u.applyWrite_outlet _ v)
  · intro s t p tag val hready u v acts c x set old
    have act {i : Instr} {idx sub : Nat} {w : State} (hobj : plainObject idx sub = true ∧ waitsForFlash idx sub = false)
        (hrow : exec i s = .next (s.at_ t (fun s => s.request p 2 tag idx sub val)))
        (hrange : idx < 0x5000 ∨ 0x5102 ≤ idx ∧ idx < 0x5310 ∨ 0x5320 ≤ idx)
        (hw : u.applyWrite ((s.tick t).requesterOf p) idx sub v = w) : acts i idx sub w := fun hok =>
      exec_plainWrite (f := fun _ => w) hobj.1 hrow hready hok hw (w.afterFault_other hrange) hobj.2
    have hlane {i : Instr} {sub : Nat} {w : State} (hsub : sub ∈ [5, 6, 7, 0xB, 0xC, 0xD])
        (hrow : exec i s = .next (s.at_ t (fun s => s.request p 2 tag 0x3201 sub val)))
        (hw : (set sub).laneWritten c sub (old sub) v = w) : acts i 0x3201 sub w := by
      have h2 : 2 ≤ sub := by
        simp only [List.mem_cons, List.not_mem_nil, or_false] at hsub
        omega
      exact act (plainObject_serdes sub hsub) hrow (.inl (by decide)) ((u.applyWrite_serdes v _ h2).trans hw)
    have hx (sub : Nat) : (set sub).serdes c = x := u.serdes_setObjI 0x3201 sub c v c
    have hclock (sub : Nat) : (set sub).clock = u.clock := u.setObjI_clock 0x3201 sub c v
    refine ⟨?_, ?_, ?_, ?_, ?_, ?_, ?_, ?_, ?_, ?_, ?_, ?_, ?_, ?_, ?_, ?_, ?_, ?_, ?_⟩
    · intro k
      have hretire := u.applyWrite_retire ((s.tick t).requesterOf p) v k
      refine ⟨fun hv => act (plainObject_retire k) rfl (.inr (.inr (by omega))) (hretire.trans ?_),
        fun hv => act (plainObject_retire k) rfl (.inr (.inr (by omega))) (hretire.trans ?_)⟩
      · rw [hv]
        rfl
      · rw [hv]
        rfl
    · intro n l w
      have hrange : laneObj n < 0x5000 ∨ 0x5102 ≤ laneObj n ∧ laneObj n < 0x5310 ∨ 0x5320 ≤ laneObj n := by
        unfold laneObj
        split
        · omega
        · omega
      have htest : ∀ w, u.setTestMode n v = w → acts (.testMode t p tag n val) (laneObj n) 3 w := fun w hw =>
        act (plainObject_testMode n) rfl hrange ((u.applyWrite_testMode _ v n).trans hw)
      refine ⟨fun hv => htest _ ?_, fun hv hst => htest _ ?_, fun hv hst => htest _ ?_⟩
      · rw [u.setTestMode_on n hv, FLane.goto_out _ _ (by decide)]
      · have hkept : ¬ (l.st = 2) := by rw [hst]; decide
        have hw : w = (u.setObj (laneObj n) 3 0).startPattern (laneCode n) 0 := by
          show (u.setObj (laneObj n) 3 v).startPattern (laneCode n) v = _
          rw [hv]
        rw [hv, hw, u.setTestMode_off n hst, FLane.goto_out _ _ (by decide), if_neg hkept]
      · have hw : w = (u.setObj (laneObj n) 3 0).startPattern (laneCode n) 0 := by
          show (u.setObj (laneObj n) 3 v).startPattern (laneCode n) v = _
          rw [hv]
        rw [hv, hw, u.setTestMode_still n hst]
    · refine act (by decide +kernel) rfl (.inl (by decide)) ((u.applyWrite_phase _ v).trans ?_)
      rw [State.setPhase, u.setObj_clock]
    · refine act (by decide +kernel) rfl (.inl (by decide)) ((u.applyWrite_step _ v).trans ?_)
      rw [State.setStep, u.setObj_clock]
    · exact hlane (by decide) rfl (State.laneWritten_loop _ _ _ _)
    · exact fun hv => hlane (by decide) rfl (State.laneWritten_generator _ _ _ _ hv)
    · exact fun hv => hlane (by decide) rfl (hv ▸ State.laneWritten_same _ _ _ (.inl rfl))
    · exact fun hv => hlane (by decide) rfl ((State.laneWritten_checker _ _ _ _ hv).trans (by rw [hx]))
    · exact fun hv => hlane (by decide) rfl (hv ▸ State.laneWritten_same _ _ _ (.inr (.inl rfl)))
    · exact fun hv => hlane (by decide) rfl (by rw [hv]; exact State.laneWritten_clear _ _ _)
    · exact fun hv => hlane (by decide) rfl (by rw [hv]; exact State.laneWritten_keep _ _ _)
    · exact fun hv => hlane (by decide) rfl (hv ▸ State.laneWritten_same _ _ _ (.inr (.inr (.inl rfl))))
    · exact fun hv => hlane (by decide) rfl (hv ▸ State.laneWritten_same _ _ _ (.inr (.inr (.inr rfl))))
    · exact fun hv ho => hlane (by decide) rfl (by rw [hv, ho, State.laneWritten_txSleep, hx])
    · exact fun hv ho => hlane (by decide) rfl (by rw [hv, ho, State.laneWritten_txWake, hx, hclock])
    · exact fun hv ho => hlane (by decide) rfl (by rw [hv, ho, State.laneWritten_rxSleep, hx, hclock])
    · intro hv ho hlong
      exact hlane (by decide) rfl (by rw [hv, ho, State.laneWritten_rxWake, hx, hclock, if_pos hlong])
    · intro hv ho hshort
      exact hlane (by decide) rfl (by rw [hv, ho, State.laneWritten_rxWake, hx, hclock, if_neg (Nat.not_lt.mpr hshort)])
    · intro n hdiv hok
      exact exec_flashWrite (f := fun w => w.setMode n v) (plainObject_portMode n).1 rfl hready hok (u.applyWrite_portMode
          _ v n)
        (State.afterFault_other _ (.inl (by omega))) (plainObject_portMode n).2 hdiv

end Sys2Proof.Machine
end

section
/-! PROOFS. Writes of pair, fault and state objects (R470, R479, R498, R549, R558, R561, R596, R636, R639, R649, R655). -/

namespace Sys2Proof.Machine

/-! ### The effects -/

section effects
variable (s : State) (who v : Nat)

theorem State.applyWrite_pairing : s.applyWrite who 0x6800 1 v = (s.setObj 0x6800 1 v).setPairing (v == 1) := rfl

theorem State.applyWrite_pairCmd : s.applyWrite who 0x6800 0xB v = (s.setObj 0x6800 0xB v).pairCmd v := rfl

theorem State.applyWrite_floor : s.applyWrite who 0x7200 1 v = (s.setObj 0x7200 1 v).floorWritten v := rfl

theorem State.applyWrite_ackEvent : s.applyWrite who 0x8000 3 v = (s.setObj 0x8000 3 v).ackEvent v who := rfl

theorem State.applyWrite_ackClass : s.applyWrite who 0x8000 4 v = (s.setObj 0x8000 4 v).ackClass v who := rfl

theorem State.applyWrite_fltHold : s.applyWrite who 0x8200 2 v = (s.setObj 0x8200 2 v).fltSync := rfl

theorem State.applyWrite_stateCmd : s.applyWrite who 0x1100 2 v = (s.setObj 0x1100 2 v).stateCmd v := rfl

theorem State.applyWrite_chooseSource : s.applyWrite who 0x1300 7 v = (s.setObj 0x1300 7 v).chooseSource v := rfl

theorem State.applyWrite_clearRecord : s.applyWrite who 0x1300 9 v = s.mapRec (fun r => { r with clearMark := v == 1 }) := rfl

/-- A new stream record forgets the stream's sequence state (R498). -/
theorem State.applyWrite_streamRecord : s.applyWrite who 0x6900 2 v =
    (s.setObjI 0x6900 2 (s.obj 0x6900 1) v).resetStream ((s.setObjI 0x6900 2 (s.obj 0x6900 1) v).obj 0x6900 1) := rfl

theorem State.applyWrite_perf : s.applyWrite who 0xA000 3 v =
    if v = 1 then (s.perfSync.setObj 0xA000 3 v).perfClear else s.perfSync.setObj 0xA000 3 v := by
  by_cases hv : v = 1
  · rw [hv]
    rfl
  · exact (if_neg (fun h => hv h.2)).trans ((if_neg (fun h => absurd h.1 (by decide))).trans (if_neg hv).symm)

/-- Pairing enabled on an unpaired part leaves it ISOLATED with rank 1 (R470, R479). -/
theorem State.setPairing_unpaired (h : s.pair.st = .unpaired) : s.setPairing true = s.setPair { Pair.none_ with
    st := .isolated, rank := 1, lostAt := s.clock.now, incomplete := s.pair.incomplete, data := s.pair.data
    cellOut := s.pair.cellOut } := if_pos h

/-- A reset asked for while none is pending runs 1 ms later (R636). -/
theorem State.stateCmd_reset {c : Nat} (hc : c = 5 ∨ c = 6) (h : s.dev.cmd = none) :
    s.stateCmd c = { s with dev := { s.dev with cmd := some (c, s.clock.now + Config.ms) } } := by
  rcases hc with rfl | rfl
  · simp only [State.stateCmd, h, if_true]
  · simp only [State.stateCmd, h, if_true]

end effects

theorem State.begun_pair (s : State) (p : Path) : (s.begun p).pair = s.pair := by cases p <;> rfl

/-- Settles O46: each row is a plain WRITE (`exec_plainWrite`, `exec_flashWrite`) with the effect of its object. -/
theorem pairFaultAndStateWritesAct : Obligations.PairFaultAndStateWritesAct := by
  unfold Obligations.PairFaultAndStateWritesAct
  refine ⟨?_, fun s t p tag val => ⟨_, rfl⟩, fun s t p tag => ⟨_, rfl⟩, fun s t p tag => ⟨_, rfl⟩, fun s t p tag => ⟨_, rfl⟩,
    fun s t p tag => ⟨_, rfl⟩, fun s t p tag val => ⟨_, rfl⟩, fun s t p tag val => ⟨_, rfl⟩, fun s t p tag val => ⟨_, rfl⟩,
    fun s t p tag val => ⟨_, rfl⟩, fun s t p tag val => ⟨_, rfl⟩, fun s t p tag val => ⟨_, rfl⟩, fun s t p tag => ⟨_, rfl⟩,
    fun s t p tag => ⟨_, rfl⟩, fun s t p tag => ⟨_, rfl⟩, fun s t p tag => ⟨_, rfl⟩, fun s t p tag => ⟨_, rfl⟩,
    fun s t p tag => ⟨_, rfl⟩, fun s t p tag val => ⟨_, rfl⟩, fun s t p tag val => ⟨_, rfl⟩⟩
  intro s t p tag val hready u v who actsOn acts later cmd runs
  have act {i : Instr} {idx sub : Nat} {b : List Byte} {w : State}
      (hobj : plainObject idx sub = true ∧ waitsForFlash idx sub = false)
      (hrow : exec i s = .next (s.at_ t (fun s => s.request p 2 tag idx sub b)))
      (hrange : idx < 0x5000 ∨ 0x5102 ≤ idx ∧ idx < 0x5310 ∨ 0x5320 ≤ idx)
      (hw : u.applyWrite who idx sub (leNat b) = w) : actsOn i idx sub b w := fun hok =>
    exec_plainWrite (f := fun _ => w) hobj.1 hrow hready hok hw (w.afterFault_other hrange) hobj.2
  have wait {i : Instr} {idx sub : Nat} {w : State} (hobj : plainObject idx sub = true ∧ waitsForFlash idx sub = true)
      (hrow : exec i s = .next (s.at_ t (fun s => s.request p 2 tag idx sub val)))
      (hrange : idx < 0x5000 ∨ 0x5102 ≤ idx ∧ idx < 0x5310 ∨ 0x5320 ≤ idx)
      (hw : u.applyWrite who idx sub v = w) : later i idx sub w := fun hdiv hok =>
    exec_flashWrite (f := fun _ => w) hobj.1 hrow hready hok hw (w.afterFault_other hrange) hobj.2 hdiv
  have hpair {c : Byte} {i : Instr} {w : State} (hrow : exec i s = .next (s.at_ t (fun s => s.request p 2 tag 0x6800 0xB [c])))
      (hw : (u.setObj 0x6800 0xB c.toNat).pairCmd c.toNat = w) : actsOn i 0x6800 0xB [c] w :=
    act (by decide +kernel) hrow (.inr (.inr (by decide))) (by rw [u.applyWrite_pairCmd, leNat_singleton, hw])
  have hstate {c : Byte} {i : Instr} {w : State} (hrow : exec i s = .next (s.at_ t (fun s => s.request p 2 tag 0x1100 2 [c])))
      (hw : (u.setObj 0x1100 2 c.toNat).stateCmd c.toNat = w) : actsOn i 0x1100 2 [c] w :=
    act (by decide +kernel) hrow (.inl (by decide)) (by rw [u.applyWrite_stateCmd, leNat_singleton, hw])
  have hdev : u.dev = s.dev := (State.begun_dev _ p).trans (s.tick_dev t)
  have hp : u.pair = s.pair := (State.begun_pair _ p).trans (s.tick_pair t)
  have hreset {c : Nat} (hc : c = 5 ∨ c = 6) (hnone : s.dev.cmd = none) : (u.setObj 0x1100 2 c).stateCmd c =
      { u.setObj 0x1100 2 c with dev := { u.dev with cmd := some (c, u.clock.now + Config.ms) } } := by
    rw [State.stateCmd_reset _ hc (by rw [u.setObj_dev, hdev]; exact hnone)]
    simp only [State.setObj_dev, State.setObj_clock]
  refine ⟨?_, ?_, ?_, ?_, ?_, ?_, ?_, ?_, ?_, ?_, ?_, ?_, ?_, ?_, ?_, ?_, ?_, ?_, ?_, ?_, ?_⟩
  · exact fun hv => wait (by decide +kernel) rfl (.inr (.inr (by decide))) (by rw [hv, u.applyWrite_pairing]; rfl)
  · intro hv hst
    refine wait (by decide +kernel) rfl (.inr (.inr (by decide))) ?_
    have hset : (u.setObj 0x6800 1 1).pair = s.pair := (u.setObj_pair 0x6800 1 1).trans hp
    rw [hv, u.applyWrite_pairing, show ((1 : Nat) == 1) = true from rfl,
        State.setPairing_unpaired _ (by rw [hset]; exact hst), hset, u.setObj_clock]
  · exact hpair rfl rfl
  · refine hpair rfl ?_
    show (u.setObj 0x6800 0xB 2).setPair { (u.setObj 0x6800 0xB 2).pair with
      request := true, requestAt := (u.setObj 0x6800 0xB 2).clock.now } = _
    rw [u.setObj_pair, u.setObj_clock]
  · exact hpair rfl rfl
  · exact hpair rfl rfl
  · refine act (by decide +kernel) rfl (.inr (.inr (by decide))) ?_
    rw [u.applyWrite_streamRecord, State.resetStream, u.setObjI_streams]
  · exact wait (by decide +kernel) rfl (.inr (.inr (by decide))) (u.applyWrite_floor who v)
  · refine act (by decide +kernel) rfl (.inr (.inr (by decide))) ?_
    rw [u.applyWrite_ackEvent, State.ackEvent, u.setObj_faults]
  · refine act (by decide +kernel) rfl (.inr (.inr (by decide))) ?_
    rw [u.applyWrite_ackClass, State.ackClass, u.setObj_faults]
  · exact act (by decide +kernel) rfl (.inr (.inr (by decide))) (u.applyWrite_fltHold who v)
  · intro hv
    refine act (by decide +kernel) rfl (.inr (.inr (by decide))) ((u.applyWrite_perf who v).trans ?_)
    rw [hv, if_neg Nat.zero_ne_one]
  · intro hv
    refine act (by decide +kernel) rfl (.inr (.inr (by decide))) ((u.applyWrite_perf who v).trans ?_)
    rw [hv, if_pos rfl]
  · exact hstate rfl rfl
  · exact hstate rfl rfl
  · exact hstate rfl rfl
  · exact hstate rfl rfl
  · exact fun hnone => hstate rfl (hreset (.inl rfl) hnone)
  · exact fun hnone => hstate rfl (hreset (.inr rfl) hnone)
  · exact act (by decide +kernel) rfl (.inl (by decide)) (u.applyWrite_chooseSource who v)
  · exact wait (by decide +kernel) rfl (.inl (by decide)) (u.applyWrite_clearRecord who v)

end Sys2Proof.Machine
end

section
/-! PROOFS. Claim cells and the pair states they make (R473 to R475, R479, R497). -/

namespace Sys2Proof.Machine

/-! ### Sending claim cells (R473) -/

section send
variable {s : State}

theorem State.claimTick_not (h : s.claimsRun = false ∨ s.coreCycle % 256 ≠ 0 ∨ s.coreCycle / 256 = s.pair.lastTick) :
    s.claimTick = s := by
  refine if_pos ?_
  rcases h with h | h
  · exact .inl (by rw [h]; decide)
  · exact .inr h

theorem State.claimTick_sent (hrun : s.claimsRun = true) (hcycle : s.coreCycle % 256 = 0)
    (hnew : s.coreCycle / 256 ≠ s.pair.lastTick) :
    s.claimTick = s.sendClaim.setPair { s.sendClaim.pair with lastTick := s.coreCycle / 256 } := by
  refine if_neg ?_
  rintro (h | h | h)
  · exact h hrun
  · exact h hcycle
  · exact hnew h

end send

/-! ### A valid claim cell noted -/

/-- Objects stand in the part's values and in its device record. -/
theorem State.obj_congr {u v : State} (ho : v.objs = u.objs) (hr : v.record = u.record) (i n : Nat) : v.obj i n =
    u.obj i n := by
  simp only [State.obj, State.objI, ho, hr]

section note
variable (s : State) (b : List Byte)

/-- An acknowledgement changes the items that wait for it, and nothing else. -/
theorem State.takeAck_kept (ack : Nat) : (s.takeAck ack).pair.st = s.pair.st ∧ (s.takeAck ack).pair.request = s.pair.request ∧
    (s.takeAck ack).pair.incomplete = s.pair.incomplete ∧ (s.takeAck ack).objs = s.objs ∧
    (s.takeAck ack).record = s.record := by
  unfold State.takeAck
  extract_lets d done
  split
  · exact ⟨rfl, rfl, rfl, rfl, rfl⟩
  · exact ⟨rfl, rfl, rfl, rfl, rfl⟩

theorem State.noteClaimCell_kept : (s.noteClaimCell b).pair.st = s.pair.st ∧
    (s.noteClaimCell b).pair.request = s.pair.request ∧ (s.noteClaimCell b).pair.incomplete = s.pair.incomplete ∧
    (s.noteClaimCell b).objs = s.objs ∧ (s.noteClaimCell b).record = s.record := State.takeAck_kept _ _

end note

/-! ### The transition that a claim makes (R479) -/

section transition
variable {s : State} {was : PairSt} {ack : Nat}

theorem State.onClaim_tie (h : s.pair.st = .isolated) (ht : s.pair.pClaim % 16 = s.obj 0x6800 3) :
    s.onClaim was ack = s.pairNote 2 1 0x12 := by
  simp only [State.onClaim, h, ht, if_true]

theorem State.onClaim_joins (h : s.pair.st = .isolated) (ht : s.pair.pClaim % 16 ≠ s.obj 0x6800 3)
    (hrun : s.dev.st.inService = true) (hthey : s.pair.partnerSt = .active) : s.onClaim was ack = s.enterSync := by
  have hruns : ¬ ¬ s.pairRuns = true := not_not.mpr hrun
  simp only [State.onClaim, h, if_neg ht, if_neg hruns, hthey, if_true]

theorem State.onClaim_wins (h : s.pair.st = .isolated) (ht : s.pair.pClaim % 16 < s.obj 0x6800 3)
    (hrun : s.dev.st.inService = true) (hthey : s.pair.partnerSt = .isolated) (hwhole : s.pair.incomplete = false) :
    s.onClaim was ack = s.setPair { s.pair with st := .active, rank := 2 } := by
  have hruns : ¬ ¬ s.pairRuns = true := not_not.mpr hrun
  simp only [State.onClaim, h, if_neg (Nat.ne_of_lt ht), if_neg hruns, hthey, reduceCtorEq, if_false, ht, hwhole,
    Bool.false_eq_true, not_false_eq_true, and_self, if_true]

theorem State.onClaim_stands (h : s.pair.st = .standby) (hthey : s.pair.partnerSt = .active) : s.onClaim was ack = s := by
  simp only [State.onClaim, h, hthey, true_or, if_true]

theorem State.onClaim_takes (h : s.pair.st = .standby) (hthey : s.pair.partnerSt ≠ .active) (hrel : s.pair.released = false) :
    s.onClaim was ack = s.takeover := by
  simp only [State.onClaim, h, hthey, hrel, Bool.false_eq_true, or_self, if_false]

theorem State.onClaim_fails (h : s.pair.st = .sync) (hthey : s.pair.partnerSt ≠ .active) : s.onClaim was ack = s.syncFail := by
  simp only [State.onClaim, h, hthey, if_false]

theorem State.onClaim_yields (h : s.pair.st = .active) (hthey : s.pair.partnerSt = .active)
    (hrank : s.claimNo < s.pair.pClaim) : s.onClaim was ack = (s.pairNote 7 1 0xE).enterSync := by
  simp only [State.onClaim, h, hthey, hrank, true_and, if_true]

theorem State.onClaim_handsOver (h : s.pair.st = .active) (hthey : s.pair.partnerSt ≠ .active)
    (hreq : s.pair.request = true) (hready : bit s.pair.pFlags 2 = true) : s.onClaim was ack =
      (s.setPair { s.pair with
        st := .standby, rank := 1, released := true, request := false, items := [], itemOut := [] }).bump 0x6800 0x10 := by
  simp only [State.onClaim, h, hthey, false_and, if_false, hreq, hready, and_self, if_true]

end transition

/-! ### A claim cell received (R475, R497) -/

/-- How far a claim cell is ahead of the last one taken; the first one taken is ahead. -/
def Pair.ahead (p : Pair) (b : List Byte) : Nat :=
  match p.pSeq with
  | some q => (beAt b 6 2 + 65536 - q) % 65536
  | none => 1

section receive
variable {s : State} {c : List Byte}

theorem State.claimReceive_given (lane : Nat) (h : c ≠ []) : s.claimReceive lane (given c) = s.claimCell c := by
  rw [given, if_neg h]
  rfl

theorem State.claimCell_other (h : s.pair.st = .unpaired ∨ cellKind c ≠ 1) : s.claimCell c = s := by
  refine if_pos ?_
  rcases h with h | h
  · exact .inl h
  · exact .inr (.inr h)

variable (hst : s.pair.st ≠ .unpaired) (hlen : c.length = 264) (hkind : cellKind c = 1)
include hst hlen hkind

/-- A claim cell of a paired part is looked at. -/
theorem State.claimCell_looked : s.claimCell c = if beAt (c.drop 8) 4 2 % 512 ≠ s.partner then s.pairNote 0 1 0x12
    else if claimBad (c.drop 8) then s.pairNote 1 0 0x12
    else if s.pair.ahead (c.drop 8) = 0 ∨ 32768 ≤ s.pair.ahead (c.drop 8) then s
    else (s.noteClaimCell (c.drop 8)).onClaim s.pair.partnerSt (beAt (c.drop 8) 16 4) := by
  refine if_neg ?_
  rintro (h | h | h)
  · exact hst h
  · omega
  · exact h hkind

theorem State.claimCell_stranger (h : beAt (c.drop 8) 4 2 % 512 ≠ s.partner) : s.claimCell c = s.pairNote 0 1 0x12 :=
  (State.claimCell_looked hst hlen hkind).trans (if_pos h)

variable (hunit : beAt (c.drop 8) 4 2 % 512 = s.partner)
include hunit

theorem State.claimCell_malformed (h : claimBad (c.drop 8) = true) : s.claimCell c = s.pairNote 1 0 0x12 :=
  (State.claimCell_looked hst hlen hkind).trans ((if_neg (not_not.mpr hunit)).trans (if_pos h))

variable (hgood : claimBad (c.drop 8) = false)
include hgood

theorem State.claimCell_stale (h : s.pair.ahead (c.drop 8) = 0 ∨ 32768 ≤ s.pair.ahead (c.drop 8)) : s.claimCell c = s :=
  (State.claimCell_looked hst hlen hkind).trans ((if_neg (not_not.mpr hunit)).trans
    ((if_neg (Bool.eq_false_iff.mp hgood)).trans (if_pos h)))

theorem State.claimCell_taken (hpos : 0 < s.pair.ahead (c.drop 8)) (hless : s.pair.ahead (c.drop 8) < 32768) :
    s.claimCell c = (s.noteClaimCell (c.drop 8)).onClaim s.pair.partnerSt (beAt (c.drop 8) 16 4) :=
  (State.claimCell_looked hst hlen hkind).trans ((if_neg (not_not.mpr hunit)).trans
    ((if_neg (Bool.eq_false_iff.mp hgood)).trans (if_neg (by omega))))

end receive

/-- Settles O47: each claim cell sent or received by its own equation, each transition by that of the pair state. -/
theorem claimCellsAreSentAndMovePairs : Obligations.ClaimCellsAreSentAndMovePairs := by
  unfold Obligations.ClaimCellsAreSentAndMovePairs
  refine ⟨⟨?_, ?_⟩, fun s t => ⟨_, rfl⟩, fun s t lane slot => ⟨_, rfl⟩⟩
  · intro s t u n q c
    have hp : u.pair = s.pair := s.tick_pair t
    refine ⟨fun h => next_settle_eq (State.claimTick_not (by rw [hp]; exact h)), fun hrun hcycle hnew => ?_⟩
    refine next_settle_eq ((State.claimTick_sent hrun hcycle (by rw [hp]; exact hnew)).trans ?_)
    simp only [State.sendClaim, State.setPair, hp]
    rfl
  · intro s t lane slot hlen u b d v own goes
    have hp : u.pair = s.pair := s.tick_pair t
    have hd : u.pair.ahead b = d := congrArg (fun q : Pair => q.ahead b) hp
    have hgoes {w : State} (h : u.claimCell slot = w) : goes w :=
      next_settle_eq ((State.claimReceive_given lane (List.ne_nil_of_length_eq_add_one hlen)).trans h)
    obtain ⟨hvst, hvreq, hvinc, hvobjs, hvrecord⟩ := u.noteClaimCell_kept b
    rw [hp] at hvst hvreq hvinc
    refine ⟨fun h => hgoes (State.claimCell_other (by rw [hp]; exact h)), fun hst hkind => ?_⟩
    have hust : u.pair.st ≠ .unpaired := by rw [hp]; exact hst
    refine ⟨fun h => hgoes (State.claimCell_stranger hust hlen hkind h), fun hunit => ⟨?_, ?_, ?_⟩⟩
    · exact fun hbad => hgoes (State.claimCell_malformed hust hlen hkind hunit hbad)
    · exact fun hgood h => hgoes (State.claimCell_stale hust hlen hkind hunit hgood (by rw [hd]; exact h))
    · intro hgood hpos hless they
      have hown : v.obj 0x6800 3 = own :=
        State.obj_congr hvobjs hvrecord 0x6800 3
      have htakes {w : State} (h : v.onClaim u.pair.partnerSt (beAt b 16 4) = w) : goes w :=
        hgoes ((State.claimCell_taken hust hlen hkind hunit hgood (by rw [hd]; exact hpos) (by rw [hd]; exact hless)).trans h)
      refine ⟨?_, ?_, ?_, ?_, ?_, ?_, ?_, ?_⟩
      · exact fun h ht => htakes (State.onClaim_tie (hvst.trans h) (ht.trans hown.symm))
      · exact fun h ht hrun hthey => htakes (State.onClaim_joins (hvst.trans h) (by rw [hown]; exact ht) hrun hthey)
      · exact fun h ht hrun hthey hwhole => htakes (State.onClaim_wins (hvst.trans h) (by rw [hown]; exact ht) hrun hthey
          (hvinc.trans hwhole))
      · exact fun h hthey => htakes (State.onClaim_stands (hvst.trans h) hthey)
      · exact fun h hthey hrel => htakes (State.onClaim_takes (hvst.trans h) hthey hrel)
      · exact fun h hthey => htakes (State.onClaim_fails (hvst.trans h) hthey)
      · exact fun h hthey hrank => htakes (State.onClaim_yields (hvst.trans h) hthey hrank)
      · exact fun h hthey hreq hready => htakes (State.onClaim_handsOver (hvst.trans h) hthey (hvreq.trans hreq) hready)

end Sys2Proof.Machine
end

section
/-! PROOFS. Pair timers and transfer items (R70, R476, R479, R483, R487, R489, R491, R492, R494, R495, R497, R503). -/

namespace Sys2Proof.Machine

/-! ### What leaves the pair and the journal slots -/

/-- The pair and the dictionary's state, its journal slots among it, are as before. -/
structure State.SamePairing (s v : State) : Prop where
  pair : v.pair = s.pair
  dict : v.dict = s.dict

section pairing
variable (s : State)

theorem State.SamePairing.refl : s.SamePairing s := ⟨rfl, rfl⟩

theorem State.SamePairing.trans {s v u : State} (h : s.SamePairing v) (g : v.SamePairing u) : s.SamePairing u :=
  ⟨g.pair.trans h.pair, g.dict.trans h.dict⟩

theorem foldl_samePairing {α : Type} {f : State → α → State} (hf : ∀ (s : State) a, s.SamePairing (f s a)) (l : List α) :
    s.SamePairing (l.foldl f s) := by
  induction l generalizing s with
  | nil => exact .refl s
  | cons a l ih => exact (hf s a).trans (ih _)

theorem State.bump_samePairing (i n : Nat) : s.SamePairing (s.bump i n) := ⟨State.bump_pair .., State.bump_dict ..⟩

theorem State.msix_samePairing (n : Nat) : s.SamePairing (s.msix n) := ⟨State.msix_pair .., State.msix_dict ..⟩

theorem State.moveRules_samePairing (table src dst : Nat) (l : List RulePlace) :
    s.SamePairing (s.moveRules table src dst l) := by
  refine foldl_samePairing s (fun s p => ?_) l
  have hb := State.bump_samePairing { s with tables := s.tables.moveRule table p.slot src dst } 0x4200 4
  exact ⟨hb.pair, hb.dict⟩

theorem State.mergeBucket_samePairing (table b : Nat) : s.SamePairing (s.mergeBucket table b) := by
  unfold State.mergeBucket
  dsimp only
  split
  · exact .refl s
  · split
    · have hm := State.moveRules_samePairing s.fresh.2
      exact ⟨(hm _ _ _ _).pair, (hm _ _ _ _).dict⟩
    · exact ⟨rfl, rfl⟩

theorem State.unplaceRule_samePairing (p : RulePlace) : s.SamePairing (s.unplaceRule p) := by
  have hm := State.mergeBucket_samePairing { s with tables := s.tables.clearValid p.table p.slot p.bucket } p.table p.bucket
  exact ⟨hm.pair, hm.dict⟩

theorem State.placeRule_samePairing (table slot : Nat) : s.SamePairing (s.placeRule table slot) := by
  unfold State.placeRule
  dsimp only
  split
  · exact .refl s
  · split
    · exact ⟨rfl, rfl⟩
    · have hm := State.moveRules_samePairing s.fresh.2
      exact ⟨(hm _ _ _ _).pair, (hm _ _ _ _).dict⟩

theorem State.settlePlaces_samePairing (w : TxWork) : s.SamePairing (s.settlePlaces w) :=
  (foldl_samePairing s State.unplaceRule_samePairing _).trans
    (foldl_samePairing _ (fun s (p : PWrite) => s.placeRule_samePairing p.table p.key) _)

theorem State.commitChange_samePairing (c : GratChange) : s.SamePairing (s.commitChange c) := by
  unfold State.commitChange
  dsimp only
  split
  · exact ⟨State.bump_pair .., State.bump_dict ..⟩
  · exact ⟨rfl, rfl⟩

theorem State.commitGrats_samePairing (w : TxWork) (n : Nat) : s.SamePairing (s.commitGrats w n) := by
  refine foldl_samePairing s (fun s port => ?_) _
  show s.SamePairing (match s.gates.changeOf w.grats port n s.time80 with
    | some c => s.commitChange c
    | none => s)
  split
  · exact s.commitChange_samePairing _
  · exact .refl s

theorem State.countCommit_samePairing (waits : Nat) : s.SamePairing (s.countCommit waits) := by
  have counts (c : Prop) [Decidable c] (s : State) (n : Nat) : s.SamePairing (if c then s.bump 0x4500 n else s) := by
    split
    · exact s.bump_samePairing _ _
    · exact .refl s
  exact (((s.bump_samePairing _ _).trans (counts _ _ _)).trans (counts _ _ _)).trans (counts _ _ _)

/-- What a commit sends to a partner leaves the pair state. -/
theorem State.mirrorWork_pairSt (w : TxWork) (who n : Nat) : (s.mirrorWork w who n).pair.st = s.pair.st := by
  have hsent (l : List (List Byte)) (s : State) :
      (l.foldl (fun s b => s.sendItem 1 (who * 2 ^ 32 + w.tag) b) s).pair.st = s.pair.st := by
    induction l generalizing s with
    | nil => rfl
    | cons b l ih => exact (ih _).trans rfl
  unfold State.mirrorWork
  split
  · exact hsent w.recs s
  · rfl

theorem State.commitWork_pairSt (w : TxWork) : (s.commitWork w).pair.st = s.pair.st := by
  have after (x : State) (who n waits : Nat) :
      ((((((x.settlePlaces w).commitGrats w n).countCommit waits).msix 1).mirrorWork w who n)).pair.st = x.pair.st := by
    rw [State.mirrorWork_pairSt, ((((x.settlePlaces_samePairing w).trans (State.commitGrats_samePairing _ w n)).trans
      (State.countCommit_samePairing _ waits)).trans (State.msix_samePairing _ 1)).pair]
  unfold State.commitWork
  dsimp only
  exact after _ _ _ _

theorem State.commitNext_pairSt : s.commitNext.pair.st = s.pair.st := by
  unfold State.commitNext
  split
  · rfl
  · split
    · rfl
    · dsimp only
      split
      · exact s.commitWork_pairSt _
      · rfl

/-- A line of an image goes to the tables alone. -/
theorem State.imagePiece_kept (table : Nat) (b : List Byte) :
    s.SamePairing (s.imagePiece table b) ∧ (s.imagePiece table b).tx = s.tx := by
  unfold State.imagePiece
  dsimp only
  split
  · exact ⟨.refl s, rfl⟩
  · split
    · have hp := State.placeRule_samePairing
      have hx := State.placeRule_sameHistory
      exact ⟨⟨(hp _ _ _).pair, (hp _ _ _).dict⟩, (hx _ _ _).tx⟩
    · exact ⟨⟨rfl, rfl⟩, rfl⟩

theorem State.journalPiece_samePairing (b : List Byte) : s.SamePairing (s.journalPiece b) := by
  unfold State.journalPiece
  dsimp only
  split
  case h_4 => split <;> exact ⟨rfl, rfl⟩
  case h_5 => split <;> exact ⟨rfl, rfl⟩
  all_goals exact ⟨rfl, rfl⟩

end pairing

/-! ### Mirrored records leave the pair -/

section mirror
variable (s : State)

theorem State.abandon_pair (tag cause result : Nat) : (s.abandon tag cause result).pair = s.pair := by
  unfold State.abandon
  dsimp only
  split
  · rfl
  · simp

theorem State.refuse_pair (tag a : Nat) : (s.refuse tag a).1.pair = s.pair := by
  unfold State.refuse
  split
  · split
    · exact s.abandon_pair _ _ _
    · rfl
  · rfl

theorem State.keystone_pair (tag : Nat) : (s.keystone tag).1.pair = s.pair := by
  unfold State.keystone
  split
  · rfl
  · dsimp only
    split
    · exact State.abandon_pair _ _ _ _
    · rfl

theorem State.thenKeystone_pair (r : TxRec) (a : TxAns) : (s.thenKeystone r a).1.pair = s.pair := by
  cases a with
  | done =>
    show (if r.key then s.keystone r.tag else (s, .done)).1.pair = s.pair
    split
    · exact s.keystone_pair r.tag
    · rfl
  | abort c => exact s.refuse_pair r.tag c
  | wait => rfl

theorem State.txOpen_pair (requester tag : Nat) : (s.txOpen requester tag).1.pair = s.pair := by
  unfold State.txOpen
  split
  · rfl
  · split
    · rfl
    · rfl

theorem State.txWrite_pair (w : TxWork) (records : Nat) (r : TxRec) : (s.txWrite w records r).1.pair = s.pair := by
  unfold State.txWrite
  dsimp only
  split
  · rfl
  · split
    · rfl
    · split
      · rfl
      · split
        · rfl
        · split
          · rfl
          · rfl

theorem State.txProgram_pair (w : TxWork) (records : Nat) (r : TxRec) : (s.txProgram w records r).1.pair = s.pair := by
  unfold State.txProgram
  dsimp only
  split
  · rfl
  · split
    · rfl
    · split
      · rfl
      · rfl

theorem State.txGrat_pair (w : TxWork) (records : Nat) (r : TxRec) : (s.txGrat w records r).1.pair = s.pair := by
  unfold State.txGrat
  dsimp only
  split
  · rfl
  · split
    · rfl
    · split
      · rfl
      · rfl

theorem State.txAct_pair (w : TxWork) (records : Nat) (r : TxRec) : (s.txAct w records r).1.pair = s.pair := by
  unfold State.txAct
  split
  · exact (State.thenKeystone_pair _ r _).trans (s.txWrite_pair w records r)
  · exact (State.thenKeystone_pair _ r _).trans (s.txProgram_pair w records r)
  · exact (State.thenKeystone_pair _ r _).trans (s.txGrat_pair w records r)
  · exact s.keystone_pair r.tag
  · exact s.abandon_pair r.tag 1 0

theorem State.txServe_pair (requester : Nat) (r : TxRec) : (s.txServe requester r).1.pair = s.pair := by
  unfold State.txServe
  split
  · dsimp only
    split
    · exact (State.refuse_pair _ _ _).trans (s.txOpen_pair requester r.tag)
    · exact s.txOpen_pair requester r.tag
  · split
    · rfl
    · split
      · exact State.txAct_pair _ _ _ _
      · rfl

/-- A mirrored record goes to its transaction and leaves the pair. -/
theorem State.txMirror_pair (requester : Nat) (bs : List Byte) : (s.txMirror requester bs).1.pair = s.pair := by
  have hkept (x : State × TxAns) : (keepRec (txParse bs).tag bs x).1.pair = x.1.pair := by
    unfold keepRec
    split
    · rfl
    · rfl
  unfold State.txMirror
  dsimp only
  split
  · exact s.refuse_pair _ _
  · exact (hkept _).trans (s.txServe_pair requester _)

end mirror

/-! ### The end of a resynchronisation -/

/-- An item taken: its sequence number is the last one. -/
def State.gotItem (s : State) (q : Nat) : State := s.setPair { s.pair with got := q }

section sync
variable {s : State}

/-- Outside SYNC nothing is checked. -/
theorem State.syncCheck_outside (h : s.pair.st ≠ .sync) : s.syncCheck = s := if_pos h

theorem State.syncCheck_open (hend : s.pair.syncEnd ≠ some s.tx.commit) (hop : s.syncBroken = false) : s.syncCheck = s := by
  by_cases hst : s.pair.st = .sync
  · exact (if_neg (not_not.mpr hst)).trans ((if_neg hend).trans (if_neg (Bool.eq_false_iff.mp hop)))
  · exact State.syncCheck_outside hst

theorem State.syncBroken_none (h : s.pair.syncOp = none) : s.syncBroken = false := by
  simp only [State.syncBroken, h]

/-- A member just entered into SYNC has no sync end and no operation yet; one that failed is out of it. -/
theorem State.diverge_quiet (s : State) : s.diverge.pair.st ≠ .sync ∨
    s.diverge.pair.syncEnd = none ∧ s.diverge.pair.syncOp = none := by
  unfold State.diverge
  split
  · left
    unfold State.syncFail
    dsimp only
    split
    · exact PairSt.noConfusion
    · exact PairSt.noConfusion
  · right
    unfold State.enterSync
    dsimp only
    rw [State.bump_pair]
    exact ⟨rfl, rfl⟩

/-- The position of a resynchronisation is noted for its own items alone. -/
theorem State.markSync_mirror (b : List Byte) (q : Nat) (h : beAt b 0 1 < 3 ∨ s.pair.st ≠ .sync) : s.markSync b q =
    s := if_pos h

theorem State.markSync_moved {b : List Byte} (q : Nat) (h : 3 ≤ beAt b 0 1) (hst : s.pair.st = .sync) :
    s.markSync b q = s.setPair { s.pair with syncMark := syncMark b q, syncMoved := true } := by
  refine if_neg ?_
  rintro (hlt | hne)
  · omega
  · exact hne hst

/-- Steps and ends of operations go to the journal slots, a change of the pair does not. -/
theorem State.stepsTo_setPair (p : Pair) (i n : Nat) (mark : List Byte) :
    (s.setPair p).stepsTo i n mark = (s.stepsTo i n mark).setPair p := by
  unfold State.stepsTo
  show (if n ≤ (s.slot i).steps then s.setPair p else _) = _
  split
  · rfl
  · rfl

theorem State.endOp_setPair (p : Pair) (i final result : Nat) :
    (s.setPair p).endOp i final result = (s.endOp i final result).setPair p := rfl

end sync

/-! ### A transfer item (R491, R492, R497) -/

section item
variable {s : State} {b : List Byte}

/-- A transfer item of each kind. -/
theorem State.takeItem_mirror (h : beAt b 0 1 = 1) : s.takeItem b =
    s.mirrorItem (beAt b 8 8) (bytesAt ((b.drop 16).take (min 240 (beAt b 2 2))) 0 192) := by
  simp only [State.takeItem, h]

theorem State.takeItem_marker (h : beAt b 0 1 = 2) :
    s.takeItem b = if s.markerWaits then none else some (s.markerItem (beAt b 8 8)) := by
  simp only [State.takeItem, h]

/-- Outside SYNC only records and markers have an effect. -/
theorem State.takeItem_outside (h : beAt b 0 1 = 0 ∨ 3 ≤ beAt b 0 1) (hst : s.pair.st ≠ .sync) : s.takeItem b = some s := by
  have hid (v : State) : (if s.pair.st = .sync then v else s) = s := if_neg hst
  unfold State.takeItem
  dsimp only
  split
  · omega
  · omega
  · rw [hid]
  · rw [hid]
  · rw [hid]
  · rfl

theorem State.takeItem_image (h : beAt b 0 1 = 3) (hst : s.pair.st = .sync) : s.takeItem b =
    some (s.imagePiece (beAt b 8 8 / 2 ^ 48) ((b.drop 16).take (min 240 (beAt b 2 2)))) := by
  simp only [State.takeItem, h, hst, if_true]

theorem State.takeItem_journal (h : beAt b 0 1 = 4) (hst : s.pair.st = .sync) : s.takeItem b =
    some (s.journalPiece ((b.drop 16).take (min 240 (beAt b 2 2)))) := by
  simp only [State.takeItem, h, hst, if_true]

theorem State.takeItem_end (h : beAt b 0 1 = 5) (hst : s.pair.st = .sync) : s.takeItem b =
    some (s.setPair { s.pair with syncEnd := some (beAt b 8 8) }) := by
  simp only [State.takeItem, h, hst, if_true]

/-- A mirrored record: laid, made to wait, or refused, which is divergence (R487, R489). -/
def State.mirroring (s : State) (arg : Nat) (r : List Byte) : State :=
  if beAt r 0 1 = 1 then s.setPair { s.pair with mirrored := s.pair.mirrored ++ [arg % 2 ^ 32] } else s

theorem State.mirroring_st (s : State) (arg : Nat) (r : List Byte) : (s.mirroring arg r).pair.st = s.pair.st := by
  unfold State.mirroring
  split
  · rfl
  · rfl

variable {arg : Nat} {r : List Byte}

theorem State.mirrorItem_done (h : ((s.mirroring arg r).txMirror (arg / 2 ^ 32 % 65536) r).2 = .done) :
    s.mirrorItem arg r = some ((s.mirroring arg r).txMirror (arg / 2 ^ 32 % 65536) r).1 := by
  unfold State.mirrorItem
  extract_lets tag v
  split
  next v heq => exact congrArg some (congrArg Prod.fst heq).symm
  next heq => exact TxAns.noConfusion ((congrArg Prod.snd heq).symm.trans h)
  next v c heq => exact TxAns.noConfusion ((congrArg Prod.snd heq).symm.trans h)

theorem State.mirrorItem_wait (h : ((s.mirroring arg r).txMirror (arg / 2 ^ 32 % 65536) r).2 = .wait) :
    s.mirrorItem arg r = none := by
  unfold State.mirrorItem
  extract_lets tag v
  split
  next v heq => exact TxAns.noConfusion ((congrArg Prod.snd heq).symm.trans h)
  next heq => rfl
  next v c heq => exact TxAns.noConfusion ((congrArg Prod.snd heq).symm.trans h)

theorem State.mirrorItem_abort {c : Nat} (h : ((s.mirroring arg r).txMirror (arg / 2 ^ 32 % 65536) r).2 = .abort c) :
    s.mirrorItem arg r = some ((s.mirroring arg r).txMirror (arg / 2 ^ 32 % 65536) r).1.diverge := by
  unfold State.mirrorItem
  extract_lets tag v
  split
  next v heq => exact TxAns.noConfusion ((congrArg Prod.snd heq).symm.trans h)
  next heq => exact TxAns.noConfusion ((congrArg Prod.snd heq).symm.trans h)
  next v c heq => exact congrArg (fun w : State => some w.diverge) (congrArg Prod.fst heq).symm

theorem State.markerItem_stray (h : s.pair.mirrored = []) : s.markerItem arg = s.diverge := by
  simp only [State.markerItem, h]

variable {tag : Nat} {rest : List Nat} (hm : s.pair.mirrored = tag :: rest)
include hm

theorem State.markerItem_diverges (h : arg ≠ s.tx.commit + 1 ∨ s.tx.staged.all (fun w => w.tag != tag) = true) :
    s.markerItem arg = s.diverge := by
  simp only [State.markerItem, hm]
  exact if_pos h

theorem State.markerItem_commits (h : arg = s.tx.commit + 1) (hstaged : s.tx.staged.all (fun w => w.tag != tag) = false) :
    s.markerItem arg = (s.setPair { s.pair with mirrored := rest }).commitNext := by
  simp only [State.markerItem, hm]
  refine if_neg ?_
  rintro (hne | hall)
  · exact hne h
  · exact absurd hall (Bool.eq_false_iff.mp hstaged)

end item

section cell
variable {s : State} {c : List Byte}

theorem State.itemReceive_given (lane : Nat) (h : c ≠ []) : s.itemReceive lane (given c) = s.itemCell c := by
  rw [given, if_neg h]
  rfl

theorem State.itemCell_unpaired (h : s.pair.st = .unpaired) : s.itemCell c = s := if_pos h

/-- A member that is neither STANDBY nor in SYNC takes no item (R497). -/
theorem State.itemCell_refused (h : s.pair.st = .active ∨ s.pair.st = .isolated) : s.itemCell c = s.pairNote 3 0 0x12 := by
  refine (if_neg ?_).trans (if_pos ?_)
  · rcases h with h | h
    · rw [h]; decide
    · rw [h]; decide
  · rcases h with h | h
    · rw [State.pairTakesNone, h]; decide
    · rw [State.pairTakesNone, h]; decide

variable (hst : s.pair.st = .standby ∨ s.pair.st = .sync)
include hst

/-- A member that takes items looks at the sequence. -/
theorem State.itemCell_looked : s.itemCell c = if beAt (c.drop 8) 4 4 ≠ (s.pair.got + 1) % 2 ^ 32 then s
    else match s.takeItem (c.drop 8) with
    | none => s
    | some v => ((v.gotItem (beAt (c.drop 8) 4 4)).markSync (c.drop 8) (beAt (c.drop 8) 4 4)).syncCheck := by
  refine (if_neg ?_).trans (if_neg ?_)
  · rcases hst with h | h
    · rw [h]; decide
    · rw [h]; decide
  · rcases hst with h | h
    · rw [State.pairTakesNone, h]; decide
    · rw [State.pairTakesNone, h]; decide

theorem State.itemCell_outOfOrder (hq : beAt (c.drop 8) 4 4 ≠ (s.pair.got + 1) % 2 ^ 32) : s.itemCell c = s :=
  (State.itemCell_looked hst).trans (if_pos hq)

variable (hq : beAt (c.drop 8) 4 4 = (s.pair.got + 1) % 2 ^ 32)
include hq

theorem State.itemCell_held (h : s.takeItem (c.drop 8) = none) : s.itemCell c = s := by
  rw [State.itemCell_looked hst, if_neg (not_not.mpr hq), h]

theorem State.itemCell_taken {v : State} (h : s.takeItem (c.drop 8) = some v) : s.itemCell c =
    ((v.gotItem (beAt (c.drop 8) 4 4)).markSync (c.drop 8) (beAt (c.drop 8) 4 4)).syncCheck := by
  rw [State.itemCell_looked hst, if_neg (not_not.mpr hq), h]

/-- An item that is none of a resynchronisation, taken by a member that has none to end. -/
theorem State.itemCell_quiet {v : State} (h : s.takeItem (c.drop 8) = some v)
    (hmark : beAt (c.drop 8) 0 1 < 3 ∨ v.pair.st ≠ .sync)
    (hv : v.pair.st ≠ .sync ∨ v.pair.syncEnd = none ∧ v.pair.syncOp = none) :
    s.itemCell c = v.gotItem (beAt (c.drop 8) 4 4) := by
  rw [State.itemCell_taken hst hq h, State.markSync_mirror (s := v.gotItem (beAt (c.drop 8) 4 4)) _ _ hmark]
  rcases hv with hout | ⟨hend, hop⟩
  · exact State.syncCheck_outside hout
  · refine State.syncCheck_open ?_ (State.syncBroken_none hop)
    show v.pair.syncEnd ≠ _
    rw [hend]
    exact (Option.some_ne_none _).symm

end cell

/-! ### Timers of the pair (R476, R479, R483, R492, R494, R503) -/

/-- The partner taken for lost, and counted. -/
def State.partnerGone (s : State) : State :=
  (s.setPair { s.pair with partnerSt := .unpaired, pClaim := 0, pFlags := 0, rankOne := 0, lostAt := s.clock.now }).bump
    0x6800 0xF

section timers
variable {s : State}

theorem State.claimLoss_not (h : s.pair.st = .unpaired ∨ s.pair.partnerSt = .unpaired ∨
    s.clock.now < s.pair.pAt + 1184 * Config.core) : s.claimLoss = s := by
  refine if_pos ?_
  rcases h with h | h | h
  · exact .inl h
  · exact .inr (.inl (by rw [State.partnerLost, h]; decide))
  · exact .inr (.inr h)

/-- The loss of a partner: what each pair state makes of it. -/
theorem State.claimLoss_lost (h : s.pair.st ≠ .unpaired) (hp : s.pair.partnerSt ≠ .unpaired)
    (ht : s.pair.pAt + 1184 * Config.core ≤ s.clock.now) : s.claimLoss = match s.pair.st with
      | .standby => if s.partnerGone.obj 0x6800 4 = 0 then s.partnerGone.takeover else s.partnerGone.isolate
      | .sync => s.partnerGone.syncFail
      | .active => (s.partnerGone.setPair { s.partnerGone.pair with lostFlag := true }).pairEvent 0 0xF
      | _ => s.partnerGone := by
  refine if_neg ?_
  rintro (hu | hl | hb)
  · exact h hu
  · exact hp (eq_of_beq hl)
  · exact absurd ht (Nat.not_le.mpr hb)

theorem State.loneStart_starts (h : s.pair.st = .isolated) (hp : s.pair.partnerSt = .unpaired)
    (hrun : s.dev.st.inService = true) (hpol : s.obj 0x6800 4 = 0) (hinc : s.pair.incomplete = false)
    (ht : s.pair.lostAt + s.obj 0x6800 5 * Config.ms ≤ s.clock.now) : s.loneStart = s.takeover :=
  if_pos ⟨h, by rw [State.partnerLost, hp]; decide, hrun, hpol, by rw [hinc]; decide, ht⟩

theorem State.loneStart_not (h : s.pair.st ≠ .isolated ∨ s.pair.partnerSt ≠ .unpaired ∨ s.obj 0x6800 4 ≠ 0 ∨
    s.pair.incomplete = true ∨ s.clock.now < s.pair.lostAt + s.obj 0x6800 5 * Config.ms) : s.loneStart = s := by
  refine if_neg ?_
  rintro ⟨hst, hlost, _, hpol, hinc, ht⟩
  rcases h with h | h | h | h | h
  · exact h hst
  · exact h (eq_of_beq hlost)
  · exact h hpol
  · exact hinc h
  · exact absurd ht (Nat.not_le.mpr h)

theorem State.handoverTimeout_ends (h : s.pair.request = true) (ht : s.pair.requestAt + Config.sec ≤ s.clock.now) :
    s.handoverTimeout = (s.setPair { s.pair with request := false }).pairEvent 1 0 := if_pos ⟨h, ht⟩

theorem State.handoverTimeout_not (h : s.pair.request = false ∨ s.clock.now < s.pair.requestAt + Config.sec) :
    s.handoverTimeout = s := by
  refine if_neg ?_
  rintro ⟨hreq, ht⟩
  rcases h with h | h
  · exact absurd hreq (Bool.eq_false_iff.mp h)
  · exact absurd ht (Nat.not_le.mpr h)

theorem State.rankLower_lowers (h : s.pair.st = .active) (hr : 2 < s.pair.rank) (hp : s.pair.partnerSt ≠ .unpaired)
    (hone : s.pair.rankOne ≠ 0) (ht : s.pair.rankOne - 1 + 6 * Config.ms ≤ s.clock.now) :
    s.rankLower = s.setPair { s.pair with rank := 2 } := if_pos ⟨h, hr, fun hl => hp (eq_of_beq hl), hone, ht⟩

theorem State.rankLower_not (h : s.pair.st ≠ .active ∨ s.pair.rank ≤ 2 ∨ s.pair.partnerSt = .unpaired ∨
    s.pair.rankOne = 0 ∨ s.clock.now < s.pair.rankOne - 1 + 6 * Config.ms) : s.rankLower = s := by
  refine if_neg ?_
  rintro ⟨hst, hr, hlost, hone, ht⟩
  rcases h with h | h | h | h | h
  · exact h hst
  · omega
  · exact hlost (by rw [State.partnerLost, h]; decide)
  · exact hone h
  · exact absurd ht (Nat.not_le.mpr h)

theorem State.itemResend_again (h : s.pair.items ≠ []) (ht : s.pair.ackAt + 1024 * Config.core ≤ s.clock.now) :
    s.itemResend = s.setPair { s.pair with itemOut := s.pair.items.map (·.2), ackAt := s.clock.now } := by
  refine if_neg ?_
  rintro (he | hb)
  · exact h (List.isEmpty_iff.mp he)
  · exact absurd ht (Nat.not_le.mpr hb)

theorem State.itemResend_not (h : s.pair.items = [] ∨ s.clock.now < s.pair.ackAt + 1024 * Config.core) : s.itemResend = s :=
  if_pos (h.imp_left List.isEmpty_iff.mpr)

theorem State.resyncStart_not (h : s.pair.st ≠ .sync ∨ s.resyncSlot.isSome = true) : s.resyncStart = s := if_pos h

/-- A member in SYNC starts its resynchronisation on the first free slot of the part (R494). -/
theorem State.resyncStart_starts {i : Nat} (h : s.pair.st = .sync) (hnone : s.resyncSlot = none)
    (hfree : s.freeSlot true = some i) : s.resyncStart =
      ((({ s with dict := { s.dict with nextHandle := nextHandle s.dict.nextHandle } } : State).setSlot i
        ⟨s.dict.nextHandle, 0, 0x6800, 0xB, selfId, 0, 157, 0, 0, zeros 12, 0, false, resyncArg⟩).setPair
          { s.pair with syncOp := some s.dict.nextHandle }) := by
  have hruns : ¬ (s.pair.st ≠ .sync ∨ s.resyncSlot.isSome = true) := by
    rw [hnone]
    rintro (hst | hsome)
    · exact hst h
    · exact Bool.noConfusion hsome
  rw [State.resyncStart, if_neg hruns, State.startOp, hfree]
  rfl

theorem State.streamReset_resets {n : Nat} (h1 : bit (s.objI 0x6900 2 n) 127 = true) (h2 : bit (s.objI 0x6900 2 n) 125 = true)
    (hany : (s.stream n).takeAny = false)
    (ht : (s.stream n).last + bits (s.objI 0x6900 2 n) 76 67 * Config.ms ≤ s.clock.now) :
    s.streamReset n = (s.setStream { s.stream n with takeAny := true }).bumpI 0x6900 0xA n 1 :=
  if_pos ⟨h1, h2, by rw [hany]; decide, ht⟩

theorem State.streamReset_not {n : Nat} (h : bit (s.objI 0x6900 2 n) 127 = false ∨ bit (s.objI 0x6900 2 n) 125 = false ∨
    (s.stream n).takeAny = true ∨ s.clock.now < (s.stream n).last + bits (s.objI 0x6900 2 n) 76 67 * Config.ms) :
    s.streamReset n = s := by
  refine if_neg ?_
  rintro ⟨h1, h2, hany, ht⟩
  rcases h with h | h | h | h
  · exact absurd h1 (Bool.eq_false_iff.mp h)
  · exact absurd h2 (Bool.eq_false_iff.mp h)
  · exact hany h
  · exact absurd ht (Nat.not_le.mpr h)

end timers

/-! ### Items of a resynchronisation (R494, R495) -/

/-- The pair after an item of a resynchronisation: its number and its position. -/
def Pair.moved (p : Pair) (b : List Byte) (q : Nat) : Pair :=
  { p with got := q, syncMark := Machine.syncMark b q, syncMoved := true }

section resync
variable {s : State} {c : List Byte} (hst : s.pair.st = .sync)
  (hq : beAt (c.drop 8) 4 4 = (s.pair.got + 1) % 2 ^ 32) (hkind : 3 ≤ beAt (c.drop 8) 0 1)
include hst hq hkind

/-- An item of a resynchronisation taken moves its position, and may end it. -/
theorem State.itemCell_resync {v : State} (h : s.takeItem (c.drop 8) = some v) (hv : v.pair.st = .sync) :
    s.itemCell c = (v.setPair (v.pair.moved (c.drop 8) (beAt (c.drop 8) 4 4))).syncCheck := by
  rw [State.itemCell_taken (.inr hst) hq h, State.markSync_moved (s := v.gotItem (beAt (c.drop 8) 4 4)) _ hkind hv]
  rfl

theorem State.itemCell_goesOn {v : State} (h : s.takeItem (c.drop 8) = some v) (hv : v.pair.st = .sync)
    (hend : v.pair.syncEnd ≠ some v.tx.commit) (hop : v.syncBroken = false) :
    s.itemCell c = v.setPair (v.pair.moved (c.drop 8) (beAt (c.drop 8) 4 4)) :=
  (State.itemCell_resync hst hq hkind h hv).trans (State.syncCheck_open hend hop)

end resync

/-- An operation is broken off by its handle and the journal slots alone. -/
theorem State.syncBroken_congr {s v : State} (hop : v.pair.syncOp = s.pair.syncOp) (hd : v.dict = s.dict) :
    v.syncBroken = s.syncBroken := by
  have hslot (i : Nat) : v.slot i = s.slot i := by rw [State.slot, State.slot, hd]
  have hopen : v.resyncSlot = s.resyncSlot := by simp only [State.resyncSlot, State.openOp, hslot]
  simp only [State.syncBroken, hop, hopen, hslot]

/-- The sync end with the commit number reached ends the resynchronisation: STANDBY, the operation DONE (R494, R495). -/
theorem State.syncCheck_ends {s : State} (hst : s.pair.st = .sync) (hend : s.pair.syncEnd = some s.tx.commit) : s.syncCheck =
    (match s.resyncSlot with
      | some i => (s.stepsTo i 157 (leBytes 2 0xFFFF ++ zeros 6 ++ leBytes 4 s.pair.got)).endOp i 2 0
      | none => s).setPair { s.pair with st := .standby, incomplete := false, syncEnd := none, syncOp := none } := by
  have hkept (v : State) (i n : Nat) (mark : List Byte) : ((v.stepsTo i n mark).endOp i 2 0).pair = v.pair := by
    unfold State.stepsTo
    split
    · rfl
    · rfl
  refine (if_neg (not_not.mpr hst)).trans ((if_pos hend).trans ?_)
  cases s.resyncSlot with
  | none => rfl
  | some i =>
    dsimp only
    rw [hkept]

/-- Settles O48: each timer by its own equation; a transfer item by what it makes of the part, which leaves the pair state
but where it diverges, and by the end of SYNC. -/
theorem pairTimersAndTransferItems : Obligations.PairTimersAndTransferItems := by
  unfold Obligations.PairTimersAndTransferItems
  refine ⟨?_, ?_, fun s t => ⟨_, rfl⟩, fun s t => ⟨_, rfl⟩, fun s t => ⟨_, rfl⟩, fun s t => ⟨_, rfl⟩,
    fun s t lane slot => ⟨_, rfl⟩, fun s t => ⟨_, rfl⟩, fun s t => ⟨_, rfl⟩, fun s t n => ⟨_, rfl⟩⟩
  · intro s t u p lost
    have hp : u.pair = p := s.tick_pair t
    have hlost : u.partnerGone = lost := by
      rw [State.partnerGone, hp]
    refine ⟨?_, ?_, ?_, ?_, ?_, ?_, ?_, ?_, ?_, ?_, ?_, ?_, ?_⟩
    · exact fun h => next_settle_eq (State.claimLoss_not (by rw [hp]; exact h))
    · intro h hpartner ht goes
      have hpol : lost.obj 0x6800 4 = u.obj 0x6800 4 :=
        State.bump_objI_ne (by decide +kernel) (by decide)
      have hloss := State.claimLoss_lost (s := u) (by rw [hp]; exact h) (by rw [hp]; exact hpartner) (by rw [hp]; exact ht)
      rw [hp, hlost] at hloss
      refine ⟨fun hst h4 => next_settle_eq (hloss.trans ?_), fun hst h4 => next_settle_eq (hloss.trans ?_),
        fun hst => next_settle_eq (hloss.trans ?_), fun hst => next_settle_eq (hloss.trans ?_),
        fun hst => next_settle_eq (hloss.trans ?_)⟩
      · simp only [hst, hpol, h4, if_true]
      · simp only [hst, hpol, h4, if_false]
      · simp only [hst]
      · simp only [hst]
      · simp only [hst]
    · intro hst hpartner hrun hpol hinc ht
      exact next_settle_eq (State.loneStart_starts (by rw [hp]; exact hst) (by rw [hp]; exact hpartner) hrun hpol
        (by rw [hp]; exact hinc) (by rw [hp]; exact ht))
    · exact fun h => next_settle_eq (State.loneStart_not (by rw [hp]; exact h))
    · intro hreq ht
      refine next_settle_eq ((State.handoverTimeout_ends (by rw [hp]; exact hreq) (by rw [hp]; exact ht)).trans ?_)
      rw [hp]
    · exact fun h => next_settle_eq (State.handoverTimeout_not (by rw [hp]; exact h))
    · intro hst hr hpartner hone ht
      refine next_settle_eq ((State.rankLower_lowers (by rw [hp]; exact hst) (by rw [hp]; exact hr)
        (by rw [hp]; exact hpartner) (by rw [hp]; exact hone) (by rw [hp]; exact ht)).trans ?_)
      rw [hp]
    · exact fun h => next_settle_eq (State.rankLower_not (by rw [hp]; exact h))
    · intro hitems ht
      refine next_settle_eq ((State.itemResend_again (by rw [hp]; exact hitems) (by rw [hp]; exact ht)).trans ?_)
      rw [hp]
    · exact fun h => next_settle_eq (State.itemResend_not (by rw [hp]; exact h))
    · exact fun h => next_settle_eq (State.resyncStart_not (by rw [hp]; exact h))
    · intro i hst hnone hfree
      refine next_settle_eq ((State.resyncStart_starts (by rw [hp]; exact hst) hnone hfree).trans ?_)
      rw [hp]
    · intro n hruns r x
      have hx : u.stream n = x := by
        show (s.tick t).stream n = s.stream n
        simp only [State.stream, State.tick_streams]
      refine ⟨fun h1 h2 hany ht => next_on_tm t hruns ?_, fun h => next_on_tm t hruns ?_⟩
      · refine (State.streamReset_resets (s := u) h1 h2 (by rw [hx]; exact hany) (by rw [hx]; exact ht)).trans ?_
        rw [hx]
      · exact State.streamReset_not (s := u) (by rw [hx]; exact h)
  · intro s t lane slot hslot u b q kind arg data goes got mark at_
    have hp : u.pair = s.pair := s.tick_pair t
    have htx : u.tx = s.tx := s.tick_tx t
    have hgoes {w : State} (h : u.itemCell slot = w) : goes w :=
      next_settle_eq ((State.itemReceive_given lane hslot).trans h)
    refine ⟨fun h => hgoes (State.itemCell_unpaired (by rw [hp]; exact h)),
      fun h => hgoes (State.itemCell_refused (by rw [hp]; exact h)),
      fun h hq => hgoes (State.itemCell_outOfOrder (by rw [hp]; exact h) (by rw [hp]; exact hq)), ?_, ?_⟩
    · intro hstandby hq
      have hst : u.pair.st = .standby := by rw [hp]; exact hstandby
      have hseq : beAt (slot.drop 8) 4 4 = (u.pair.got + 1) % 2 ^ 32 := by rw [hp]; exact hq
      have hout {v : State} (h : v.pair.st = u.pair.st) : v.pair.st ≠ .sync := by rw [h, hst]; decide
      have hheld (h : u.takeItem b = none) : goes u := hgoes (State.itemCell_held (.inl hst) hseq h)
      have htaken {v : State} (h : u.takeItem b = some v) (hv : v.pair.st = u.pair.st) : goes (got v) :=
        hgoes (State.itemCell_quiet (.inl hst) hseq h (.inr (hout hv)) (.inl (hout hv)))
      have hdiverged {v : State} (hkind : kind < 3) (h : u.takeItem b = some v.diverge) : goes (got v.diverge) :=
        hgoes (State.itemCell_quiet (.inl hst) hseq h (.inl hkind) v.diverge_quiet)
      refine ⟨?_, ?_, ?_, ?_, ?_, ?_⟩
      · intro hkind r v x
        have hv : u.mirroring arg r = v := by
          rw [State.mirroring, hp]
        have hx : (u.mirroring arg r).txMirror (arg / 2 ^ 32 % 65536) r = x := by rw [hv]
        have hpair : x.1.pair.st = u.pair.st := by
          rw [← hx, State.txMirror_pair]
          exact u.mirroring_st arg r
        have htake := State.takeItem_mirror (s := u) (b := b) hkind
        refine ⟨fun h => htaken (htake.trans ?_) hpair, fun h => hheld (htake.trans ?_),
            fun c h => hdiverged ?_ (htake.trans ?_)⟩
        · rw [State.mirrorItem_done (s := u) (arg := arg) (r := r) (by rw [hx]; exact h), hx]
        · rw [State.mirrorItem_wait (s := u) (arg := arg) (r := r) (by rw [hx]; exact h)]
        · rw [hkind]; decide
        · rw [State.mirrorItem_abort (s := u) (arg := arg) (r := r) (by rw [hx]; exact h), hx]
      · intro hkind hw
        exact hheld ((State.takeItem_marker hkind).trans (if_pos hw))
      · intro hkind hw hm
        refine hdiverged (by rw [hkind]; decide) ((State.takeItem_marker hkind).trans ((if_neg ?_).trans ?_))
        · rw [hw]; decide
        · rw [State.markerItem_stray (by rw [hp]; exact hm)]
      · intro hkind
        exact htaken (State.takeItem_outside hkind (hout rfl)) rfl
      · intro tag rest hkind hw hm h
        refine hdiverged (by rw [hkind]; decide) ((State.takeItem_marker hkind).trans ((if_neg ?_).trans ?_))
        · rw [hw]; decide
        · rw [State.markerItem_diverges (by rw [hp]; exact hm) (by rw [htx] at h ⊢; exact h)]
      · intro tag rest hkind hw hm harg hstaged
        refine htaken ((State.takeItem_marker hkind).trans ((if_neg ?_).trans ?_))
          ((State.commitNext_pairSt _).trans (show s.pair.st = u.pair.st by rw [hp]))
        · rw [hw]; decide
        · rw [State.markerItem_commits (by rw [hp]; exact hm) (by rw [htx]; exact harg) hstaged, hp]
    · intro hsync hq hbroken
      have hst : u.pair.st = .sync := by rw [hp]; exact hsync
      have hseq : beAt (slot.drop 8) 4 4 = (u.pair.got + 1) % 2 ^ 32 := by rw [hp]; exact hq
      have hmark : mark = syncMark b q := rfl
      have hgoesOn {v : State} (hkind : 3 ≤ kind) (h : u.takeItem b = some v) (hv : v.pair.st = .sync)
          (hend : v.pair.syncEnd ≠ some v.tx.commit) (hop : v.syncBroken = false) : goes (at_ v) :=
        hgoes (State.itemCell_goesOn hst hseq hkind h hv hend hop)
      refine ⟨?_, ?_, ?_, ?_⟩
      · intro hkind hend
        obtain ⟨hpairing, hkept⟩ := u.imagePiece_kept (arg / 2 ^ 48) data
        refine hgoesOn (by rw [hkind]) (State.takeItem_image hkind hst) (by rw [hpairing.pair]; exact hst) ?_
          ((State.syncBroken_congr (congrArg Pair.syncOp hpairing.pair) hpairing.dict).trans hbroken)
        rw [hpairing.pair, hkept, hp]
        exact hend
      · intro hkind hend
        have hpairing := u.journalPiece_samePairing data
        refine hgoesOn (by rw [hkind]; decide) (State.takeItem_journal hkind hst) (by rw [hpairing.pair]; exact hst) ?_
          ((State.syncBroken_congr (congrArg Pair.syncOp hpairing.pair) hpairing.dict).trans hbroken)
        rw [hpairing.pair, hp, hend]
        exact (Option.some_ne_none _).symm
      · intro hkind harg
        refine hgoesOn (by rw [hkind]; decide) ((State.takeItem_end hkind hst).trans ?_) hsync ?_ ?_
        · rw [hp]
        · exact fun h => harg (Option.some.inj h)
        · exact (State.syncBroken_congr (s := u) (v := u.setPair { s.pair with syncEnd := some arg })
            (show s.pair.syncOp = u.pair.syncOp by rw [hp]) rfl).trans hbroken
      · intro hkind harg ended
        have hlast : u.itemCell slot = (u.setPair (Pair.moved { s.pair with syncEnd := some arg } b q)).syncCheck :=
          State.itemCell_resync (v := u.setPair { s.pair with syncEnd := some arg }) hst hseq
            (by show 3 ≤ kind; rw [hkind]; decide)
            ((State.takeItem_end hkind hst).trans (by rw [hp])) hsync
        rw [State.syncCheck_ends (s := u.setPair (Pair.moved { s.pair with syncEnd := some arg } b q)) hsync
          (congrArg some harg)] at hlast
        have hslot : (u.setPair (Pair.moved { s.pair with syncEnd := some arg } b q)).resyncSlot = u.resyncSlot := rfl
        refine ⟨fun hnone => hgoes (hlast.trans ?_), fun i hi => hgoes (hlast.trans ?_)⟩
        · rw [hslot, hnone]
          rfl
        · rw [hslot, hi]
          dsimp only
          rw [State.stepsTo_setPair, State.endOp_setPair]
          rfl

end Sys2Proof.Machine
end

section
/-! PROOFS. A reading of a benchmark whose level stands twice in the levels kept (R516). -/

namespace Sys2Proof.Machine

/-- A READY part whose levels hold HBM benchmark 0x3000 twice, at level 2, with a remedy of level 3 given for it. -/
def doubledPart : State := { readyPart with
  survey := { readyPart.survey with levels := [(0x3000, 2), (0x3000, 2)], given := [(0x3000, 3)] }
  faults := { readyPart.faults with ctls := List.replicate 32 ⟨true, 0, false⟩ } }

/-- The last resort noted for benchmark 0x3000 that a row leaves. -/
def outcomeGiven : Out → Option Nat
  | .next u => some (nget u.survey.given 0x3000 0)
  | _ => none

/-- Refutes O49: a reading of level 0 takes one of the two entries out of the levels, so the benchmark still stands at level 2
and keeps what was given for it; the statement has what was given follow the level of the reading. -/
theorem not_readingsAndPasses : ¬ Obligations.ReadingsAndPasses := by
  unfold Obligations.ReadingsAndPasses
  intro h
  obtain ⟨hrows, -⟩ := h
  obtain ⟨hreading, -⟩ := hrows doubledPart 0
  obtain ⟨-, hother, -⟩ := hreading 0x3000 0
  have hsame := congrArg outcomeGiven (hother (by decide +kernel) (.inl (by decide)))
  have hkept : outcomeGiven (exec (.benchmarkReading 0 0x3000 0) doubledPart) = some 3 := by decide +kernel
  rw [hkept] at hsame
  exact absurd hsame (by decide +kernel)

end Sys2Proof.Machine
end

section
/-! PROOFS. Remedies and repairs (R15, R211, R212, R517, R519, R523 to R525, R529 to R531, R534, R536, R538). -/

namespace Sys2Proof.Machine

variable (s : State)

/-! ### Rails -/

@[simp] theorem State.avs_setAvs (d : Nat) (a : Avs) : (s.setAvs d a).avs d = a := by
  unfold State.avs State.setAvs
  by_cases hd : d = 1
  · simp only [hd, if_pos]
  · simp only [hd, if_false]

@[simp] theorem State.setAvs_setAvs (d : Nat) (a b : Avs) : (s.setAvs d a).setAvs d b = s.setAvs d b := by
  unfold State.setAvs
  by_cases hd : d = 1
  · simp only [hd, if_pos]
  · simp only [hd, if_false]

theorem State.avs_congr {u v : State} (h : v.survey = u.survey) (d : Nat) : v.avs d = u.avs d := by
  unfold State.avs
  rw [h]

/-- A rail requested: the request goes out, and the read-back decides about the next try. -/
theorem State.requestRail_eq (d : Nat) (rb : Option Nat) : s.requestRail d rb =
    (s.out (.avs (1 - d) (s.railPlan d))).setAvs d { s.avs d with
      at_ := s.clock.now, tries := if avsOk (s.railPlan d) rb then 0 else (s.avs d).tries + 1 } := rfl

/-- A rail set and then requested. -/
theorem State.requestRail_setAvs (d : Nat) (a : Avs) (rb : Option Nat) : (s.setAvs d a).requestRail d rb =
    (s.out (.avs (1 - d) (s.railPlan d))).setAvs d { a with
      at_ := s.clock.now, tries := if avsOk (s.railPlan d) rb then 0 else a.tries + 1 } := by
  rw [State.requestRail_eq, State.avs_setAvs]
  exact State.setAvs_setAvs (s.out _) d a _

theorem State.avsRetry_waits {d : Nat} (h : (s.avs d).tries = 0 ∨ s.clock.now < (s.avs d).at_ + Config.ms) (rb : Option Nat) :
    s.avsRetry d rb = s := if_pos h

theorem State.avsRetry_asks {d : Nat} (h : (s.avs d).tries ≠ 0) (hlate : (s.avs d).at_ + Config.ms ≤ s.clock.now)
    (rb : Option Nat) : s.avsRetry d rb =
      if ((s.requestRail d rb).avs d).tries ≤ 3 then s.requestRail d rb
      else ((s.requestRail d rb).setAvs d { (s.requestRail d rb).avs d with tries := 0, stuck := true }).surveyEvent 1 d
        0xFFFF 0x02 0 d 0 :=
  if_neg (not_or.mpr ⟨h, Nat.not_lt.mpr hlate⟩)

theorem State.avsRetry_confirmed {d : Nat} (h : (s.avs d).tries ≠ 0) (hlate : (s.avs d).at_ + Config.ms ≤ s.clock.now)
    {rb : Option Nat} (hok : avsOk (s.railPlan d) rb = true) : s.avsRetry d rb =
      (s.out (.avs (1 - d) (s.railPlan d))).setAvs d { s.avs d with tries := 0, at_ := s.clock.now } := by
  rw [s.avsRetry_asks h hlate, State.requestRail_eq, State.avs_setAvs]
  simp only [hok, if_true, Nat.zero_le]

theorem State.avsRetry_again {d : Nat} (h : (s.avs d).tries ≠ 0) (hlate : (s.avs d).at_ + Config.ms ≤ s.clock.now)
    {rb : Option Nat} (hok : avsOk (s.railPlan d) rb = false) (hfew : (s.avs d).tries < 3) : s.avsRetry d rb =
      (s.out (.avs (1 - d) (s.railPlan d))).setAvs d { s.avs d with tries := (s.avs d).tries + 1, at_ := s.clock.now } := by
  rw [s.avsRetry_asks h hlate, State.requestRail_eq, State.avs_setAvs]
  simp only [hok, Bool.false_eq_true, if_false, if_pos (Nat.succ_le_of_lt hfew)]

theorem State.avsRetry_gives_up {d : Nat} (h : (s.avs d).tries ≠ 0) (hlate : (s.avs d).at_ + Config.ms ≤ s.clock.now)
    {rb : Option Nat} (hok : avsOk (s.railPlan d) rb = false) (hmany : 3 ≤ (s.avs d).tries) : s.avsRetry d rb =
      ((s.out (.avs (1 - d) (s.railPlan d))).setAvs d { s.avs d with
        tries := 0, stuck := true, at_ := s.clock.now }).surveyEvent 1 d 0xFFFF 0x02 0 d 0 := by
  rw [s.avsRetry_asks h hlate, State.requestRail_eq, State.avs_setAvs, State.setAvs_setAvs]
  simp only [hok, Bool.false_eq_true, if_false, if_neg (Nat.not_le.mpr (Nat.lt_succ_of_le hmany))]

/-! ### What the change record and an event leave -/

theorem State.logOwn_sameWork (i n old new : Nat) : s.SameWork (s.logOwn i n old new) := by
  constructor <;> rfl

theorem State.rewriteRecord_sameWork : s.SameWork s.rewriteRecord := by
  unfold State.rewriteRecord
  dsimp only
  split <;> constructor <;> rfl

theorem State.surveyEvent_sameWork (level die bench action code unit errors : Nat) :
    s.SameWork (s.surveyEvent level die bench action code unit errors) := s.raise_sameWork _

theorem State.logs_sameWork (l : List (Nat × Nat × Nat)) :
    s.SameWork (l.foldl (fun (s : State) x => s.logOwn 0x7100 x.1 x.2.1 x.2.2) s) := by
  induction l generalizing s with
  | nil => exact .refl s
  | cons x r ih => exact (s.logOwn_sameWork _ _ _ _).trans (ih _)

/-- A margin value changed leaves all but the record and what its event touches. -/
theorem State.margin_sameWork (bench action unit : Nat) (logs : List (Nat × Nat × Nat)) (f : Margin → Margin) :
    (s.mapMargin f).SameWork (s.margin bench action unit logs f) :=
  ((s.mapMargin f).logs_sameWork logs).trans ((State.rewriteRecord_sameWork _).trans (State.surveyEvent_sameWork ..))

/-! ### The first benchmark that waits -/

theorem State.surveyRemedy_idle {d : Nat} (h : s.dev.st = .boot ∨ s.dev.st = .init ∨ (s.avs d).tries ≠ 0) (rb : Option Nat)
    (trim : HbmTrim) : s.surveyRemedy d rb trim = s := if_pos h

theorem State.retireNext_nil (h : s.survey.retires = []) : s.retireNext = s := by
  unfold State.retireNext
  rw [h]
  rfl

section remedy
variable {d : Nat} (rb : Option Nat) (trim : HbmTrim)

section looks
variable (hboot : s.dev.st ≠ .boot) (hinit : s.dev.st ≠ .init) (htries : (s.avs d).tries = 0) (hret : s.survey.retires = [])
include hboot hinit htries hret

/-- A die at work whose pipelines wait for no retirement: the repairs called for come first. -/
theorem State.surveyRemedy_repairs {code row : Nat} (h : s.nextRepair d = some (code, row)) :
    s.surveyRemedy d rb trim = s.repairRow code row := by
  have hretire : (if d = 1 then s.retireNext else s) = s := by rw [s.retireNext_nil hret, ite_self]
  unfold State.surveyRemedy
  rw [if_neg (not_or.mpr ⟨hboot, not_or.mpr ⟨hinit, not_not.mpr htries⟩⟩), hretire]
  simp only [h]

/-- With no repair called for, the benchmarks that wait are tried in their order. -/
theorem State.surveyRemedy_tries (h : s.nextRepair d = none) :
    s.surveyRemedy d rb trim = s.tryRemedies rb trim (s.waiters d) := by
  have hretire : (if d = 1 then s.retireNext else s) = s := by rw [s.retireNext_nil hret, ite_self]
  unfold State.surveyRemedy
  rw [if_neg (not_or.mpr ⟨hboot, not_or.mpr ⟨hinit, not_not.mpr htries⟩⟩), hretire]
  simp only [h]

end looks

theorem State.tryRemedies_act {b : Nat} {rest : List Nat} {w : State} (h : s.actRemedy b rb trim = .act w) :
    s.tryRemedies rb trim (b :: rest) = w.giveMark b 1 := by
  simp only [State.tryRemedies, State.giveRemedy, h]

theorem State.tryRemedies_wait {b : Nat} {rest : List Nat} (h : s.actRemedy b rb trim = .wait) :
    s.tryRemedies rb trim (b :: rest) = s := by
  simp only [State.tryRemedies, State.giveRemedy, h]

theorem State.actRemedy_path {b : Nat} (hb : b / 0x1000 = 2) :
    s.actRemedy b rb trim = s.railRaise (benchDie b) b rb := by
  simp only [State.actRemedy, hb]

theorem State.actRemedy_lane {b : Nat} (hb : b / 0x1000 = 6) : s.actRemedy b rb trim = s.laneAct b := by
  simp only [State.actRemedy, hb]

end remedy

/-- The plan voltage of a die's rail raised, and the raise counted. -/
def railRaised (d plan : Nat) (m : Margin) : Margin :=
  if d = 1 then { m with railFe := plan, raises := m.raises + 1 } else { m with railTm := plan, raises := m.raises + 1 }

theorem State.railPlan_raised {u v : State} (d plan : Nat)
    (h : v.record.mem.margin = railRaised d plan u.record.mem.margin) : v.railPlan d = plan := by
  unfold State.railPlan
  rw [h]
  unfold railRaised
  by_cases hd : d = 1
  · simp only [hd, if_pos]
  · simp only [hd, if_false]

section rail
variable {d b : Nat} (hceil : s.railPlan d + 5 ≤ s.railCeiling d) (hstuck : (s.avs d).stuck = false)
include hceil hstuck

theorem State.railRaise_waits {r : Tick} (hr : (s.avs d).raised = some r) (hsoon : s.clock.now < r + 100 * Config.ms)
    (rb : Option Nat) : s.railRaise d b rb = .wait := by
  unfold State.railRaise
  dsimp only
  rw [if_neg (by rw [hstuck]; exact not_or.mpr ⟨Nat.not_lt.mpr hceil, Bool.false_ne_true⟩), if_pos]
  rw [hr]
  exact .inr hsoon

/-- A rail raised by 5 mV: entered in the change record, raised as an event, requested. -/
theorem State.railRaise_acts (htries : (s.avs d).tries = 0)
    (hlate : ∀ r, (s.avs d).raised = some r → r + 100 * Config.ms ≤ s.clock.now) (rb : Option Nat) :
    s.railRaise d b rb = .act (((s.margin b 0x02 d
      [(if d = 1 then 1 else 2, s.railPlan d, s.railPlan d + 5), (5, s.record.mem.margin.raises,
          s.record.mem.margin.raises + 1)]
      (railRaised d (s.railPlan d + 5))).out (.avs (1 - d) (s.railPlan d + 5))).setAvs d { s.avs d with
        raised := some s.clock.now, at_ := s.clock.now
        tries := if avsOk (s.railPlan d + 5) rb then 0 else 1 }) := by
  have hnow : ¬ s.clock.now < ((s.avs d).raised.map (· + 100 * Config.ms)).getD 0 := by
    cases hr : (s.avs d).raised with
    | none => exact Nat.not_lt_zero _
    | some r => exact Nat.not_lt.mpr (hlate r hr)
  unfold State.railRaise
  dsimp only
  rw [if_neg (by rw [hstuck]; exact not_or.mpr ⟨Nat.not_lt.mpr hceil, Bool.false_ne_true⟩),
    if_neg (not_or.mpr ⟨not_not.mpr htries, hnow⟩), State.requestRail_setAvs, Nat.add_sub_cancel]
  have hsame := s.margin_sameWork b 0x02 d [(if d = 1 then 1 else 2, s.railPlan d, s.railPlan d + 5),
    (5, s.record.mem.margin.raises, s.record.mem.margin.raises + 1)] (railRaised d (s.railPlan d + 5))
  have hplan := State.railPlan_raised (u := s) d (s.railPlan d + 5) hsame.margin
  have hclock := hsame.clock
  unfold railRaised at hplan hclock ⊢
  rw [hplan, hclock, Nat.zero_add]
  rfl

end rail

theorem State.laneAct_steps {b : Nat} (h : nget s.record.mem.margin.laneSteps (b % 0x1000) 0 < 7) :
    s.laneAct b = .act (s.margin b 0x04 (b % 0x1000) [] (fun m => { m with
      laneSteps := nset m.laneSteps (b % 0x1000) (nget s.record.mem.margin.laneSteps (b % 0x1000) 0 + 1) 0 })) :=
  if_pos h

/-! ### Errors and repairs -/

/-- The history of errors of the last 24 h with one more. -/
def State.found (code row : Nat) (hard : Bool) : State :=
  { s with survey := { s.survey with
    finds := ⟨code, row, s.clock.now, hard⟩ ::
      s.survey.finds.filter (fun f => decide (s.clock.now < f.at_ + 86400 * Config.sec)) } }

/-- A repair called for. -/
def State.repairCalled (code row : Nat) : State :=
  { s with survey := { s.survey with repairs := s.survey.repairs ++ [(code, row)] } }

section repair
variable {code row : Nat} {hard : Bool}

theorem State.memoryRepair_nothing (h : isRow code row = false ∨
    (code = 10 ∧ s.record.mem.spares.wires.contains row = true)) : s.memoryRepair code row hard = s := by
  refine if_pos (h.imp_left fun hr => ?_)
  rw [hr]
  exact Bool.false_ne_true

section due
variable (hrow : isRow code row = true) (hmap : ¬ (code = 10 ∧ s.record.mem.spares.wires.contains row = true))
include hrow hmap

/-- An error of a row whose repair is not called for yet. -/
theorem State.memoryRepair_notes (hnew : (code, row) ∉ s.survey.repairs) : s.memoryRepair code row hard =
    if (s.noteError code row hard).survey.repairs.contains (code, row) ∧ (s.noteError code row hard).repairReady code row then
      (s.noteError code row hard).repairRow code row
    else s.noteError code row hard := by
  have hnone : s.survey.repairs.contains (code, row) = false := by
    rw [← Bool.not_eq_true, List.contains_iff_mem]
    exact hnew
  unfold State.memoryRepair
  rw [if_neg (not_or.mpr ⟨not_not.mpr hrow, hmap⟩), hnone]
  rfl

theorem State.memoryRepair_few (hnew : (code, row) ∉ s.survey.repairs)
    (hfails : (s.found code row hard).rowFails code row = false) : s.memoryRepair code row hard = s.found code row hard := by
  have hnote : s.noteError code row hard = s.found code row hard := by
    refine if_neg fun h => ?_
    exact absurd (h.1.symm.trans hfails) (by decide)
  have hnone : (s.found code row hard).survey.repairs.contains (code, row) = false := by
    rw [← Bool.not_eq_true, List.contains_iff_mem]
    exact hnew
  rw [s.memoryRepair_notes hrow hmap hnew, hnote, hnone]
  exact if_neg fun h => absurd h.1 Bool.false_ne_true

theorem State.memoryRepair_calls (hnew : (code, row) ∉ s.survey.repairs)
    (hfails : (s.found code row hard).rowFails code row = true) : s.memoryRepair code row hard =
      if ((s.found code row hard).repairCalled code row).repairReady code row = true then
        ((s.found code row hard).repairCalled code row).repairRow code row
      else (s.found code row hard).repairCalled code row := by
  have hnote : s.noteError code row hard = (s.found code row hard).repairCalled code row := if_pos ⟨hfails, hnew⟩
  have hmem : ((s.found code row hard).repairCalled code row).survey.repairs.contains (code, row) = true :=
    List.contains_iff_mem.mpr (List.mem_append_right _ (List.mem_singleton.mpr rfl))
  rw [s.memoryRepair_notes hrow hmap hnew, hnote]
  simp only [hmem, true_and]

theorem State.memoryRepair_called (hold : (code, row) ∈ s.survey.repairs) : s.memoryRepair code row hard =
    if s.repairReady code row = true then s.repairRow code row else s := by
  unfold State.memoryRepair
  rw [if_neg (not_or.mpr ⟨not_not.mpr hrow, hmap⟩)]
  have hmem : s.survey.repairs.contains (code, row) = true := List.contains_iff_mem.mpr hold
  simp only [hmem, if_true, true_and]

end due

/-- The errors of a row, the newest just found. -/
theorem State.found_rowFails : (s.found code row hard).rowFails code row =
    let mine := (⟨code, row, s.clock.now, hard⟩ : Find) ::
      (s.survey.finds.filter (fun f => decide (s.clock.now < f.at_ + 86400 * Config.sec))).filter
        (fun f => f.code == code && f.row == row)
    if code = 10 then decide (16 < (mine.filter (fun f => decide (s.clock.now < f.at_ + Config.sec))).length)
    else decide (2 ≤ mine.length) || mine.any (·.hard) := by
  have hhead (l : List Find) : ((⟨code, row, s.clock.now, hard⟩ : Find) :: l).filter (fun f => f.code == code && f.row == row) =
      (⟨code, row, s.clock.now, hard⟩ : Find) :: l.filter (fun f => f.code == code && f.row == row) :=
    List.filter_cons_of_pos (by simp)
  unfold State.rowFails State.found
  dsimp only
  rw [hhead]

/-- A row's errors and its call forgotten, once they have been dealt with (R529). -/
def State.dealtWith (code row : Nat) : State :=
  { s with survey := { s.survey with
    finds := s.survey.finds.filter (fun f => !(f.code == code && f.row == row))
    repairs := s.survey.repairs.filter (fun x => x != (code, row)) } }

theorem State.repairRow_wire : s.repairRow 10 row =
    (s.dealtWith 10 row).mapWire (row / 65536) (row % 65536) (s.errorHistory 10 row) := rfl

theorem State.repairRow_spare (hcode : code ≠ 10) (hleft : s.spareLeft code (spareUnit code row) = true) :
    s.repairRow code row = (((s.dealtWith code row).spend code (spareUnit code row)
      (if code = 11 then row else spareUnit code row) 0xFFFF (s.errorHistory code row)).burnRepair code
        (spareUnit code row)).rewriteRecord :=
  (if_neg hcode).trans (if_pos hleft)

theorem State.repairRow_spent (hcode : code ≠ 10) (hleft : s.spareLeft code (spareUnit code row) = false) :
    s.repairRow code row =
      if code ≤ 3 then (s.dealtWith code row).bankBeyond (spareUnit code row) (s.errorHistory code row)
      else if code ≤ 5 then (s.dealtWith code row).stageLimit (spareUnit code row) 0xFFFF (s.errorHistory code row)
      else if code ≤ 7 then (s.dealtWith code row).surveyEvent 3 (if spareUnit code row < 192 then 0 else 1) 0xFFFF 0x00 code
        (spareUnit code row) (s.errorHistory code row)
      else (s.dealtWith code row).withdrawGroup row (s.errorHistory code row) :=
  (if_neg hcode).trans (if_neg (by
    have h : (s.dealtWith code row).spareLeft code (spareUnit code row) = false := hleft
    exact Bool.eq_false_iff.mp h))

end repair

/-! ### Banks beyond repair (R211, R212) -/

section bank
variable {b : Nat} (errors : Nat)

theorem State.bankBeyond_known (h : s.record.mem.spares.banksRelaid.contains b = true ∨ ∃ x ∈ s.tables.relaying, x.1 = b) :
    s.bankBeyond b errors = s := by
  refine if_pos (h.imp_right fun hx => ?_)
  obtain ⟨x, hx, hxb⟩ := hx
  exact List.any_eq_true.mpr ⟨x, hx, beq_iff_eq.mpr hxb⟩

theorem State.bankBeyond_new (hlaid : s.record.mem.spares.banksRelaid.contains b = false)
    (hnew : ∀ x ∈ s.tables.relaying, x.1 ≠ b) : s.bankBeyond b errors =
      if 2 ≤ s.record.mem.spares.banksRelaid.length + s.tables.relaying.length then
        { s with faults := { s.faults with bankLost := true } }.surveyEvent 3 1 0xFFFF 0x00 2 b errors
      else { s with tables := { s.tables with relaying := s.tables.relaying ++ [(b, errors)] } } := by
  refine if_neg (not_or.mpr ⟨Bool.eq_false_iff.mp hlaid, fun h => ?_⟩)
  obtain ⟨x, hx, hxb⟩ := List.any_eq_true.mp h
  exact hnew x hx (beq_iff_eq.mp hxb)

end bank

theorem State.mapWire_spare {dir wire : Nat} (errors : Nat)
    (hnew : s.record.mem.spares.wires.contains (dir * 65536 + wire) = false) (hleft : s.spareLeft 10 dir = true) :
    s.mapWire dir wire errors =
      (((s.mapSpares (fun p => { p with wires := p.wires ++ [dir * 65536 + wire] })).spend 10 dir (dir * 65536 + wire) 0xFFFF
        errors).burnEntry 0x0A (dir * 2 ^ 23 + wire)).rewriteRecord :=
  (if_neg (Bool.eq_false_iff.mp hnew)).trans (if_pos hleft)

theorem State.mapWire_none {dir wire : Nat} (errors : Nat)
    (hnew : s.record.mem.spares.wires.contains (dir * 65536 + wire) = false) (hleft : s.spareLeft 10 dir = false) :
    s.mapWire dir wire errors = s.surveyEvent 3 2 0xFFFF 0x00 10 (dir * 65536 + wire) errors :=
  (if_neg (Bool.eq_false_iff.mp hnew)).trans (if_neg (Bool.eq_false_iff.mp hleft))

theorem isRow_iff (code row : Nat) : isRow code row = true →
    2 ≤ code ∧ code ≤ 11 ∧ code ≠ 8 ∧ code ≠ 9 := by
  intro h
  exact of_decide_eq_true (Bool.and_eq_true_iff.mp h).1

/-- Settles O50: the statement follows the branches of a remedy, a retry, an error of a row and its repair; the raise of a rail
turns on the record changes and the event leaving the clock, the Survey and the margins as the raise set them. -/
theorem remediesAndRepairs : Obligations.RemediesAndRepairs := by
  unfold Obligations.RemediesAndRepairs
  refine ⟨?_, ⟨?_, ?_⟩, fun _ _ _ _ _ => ⟨_, rfl⟩, fun _ _ _ _ => ⟨_, rfl⟩, fun _ _ _ _ _ => ⟨_, rfl⟩,
    fun _ _ _ _ => ⟨_, rfl⟩⟩
  · intro s t die rb trim u d a plan
    have hst : u.dev.st = s.dev.st := congrArg Dev.st (s.tick_dev t)
    have ha : u.avs d = a := State.avs_congr (s.tick_survey t) d
    have hretires : u.survey.retires = s.survey.retires := congrArg Survey.retires (s.tick_survey t)
    refine ⟨?_, ?_, ?_, ?_⟩
    · intro h
      refine next_settle_eq (u.surveyRemedy_idle ?_ rb trim)
      rw [hst, ha]
      exact h
    · intro hboot hinit htries hret
      rw [← hst] at hboot hinit
      rw [← ha] at htries
      rw [← hretires] at hret
      refine ⟨?_, ?_, ?_⟩
      · intro code row hnext
        exact next_settle_eq (u.surveyRemedy_repairs rb trim hboot hinit htries hret hnext)
      · intro hnext hwait
        refine next_settle_eq ((u.surveyRemedy_tries rb trim hboot hinit htries hret hnext).trans ?_)
        rw [hwait]
        rfl
      · intro b rest hnext hwait
        have htry : u.surveyRemedy d rb trim = u.tryRemedies rb trim (b :: rest) := by
          rw [u.surveyRemedy_tries rb trim hboot hinit htries hret hnext, hwait]
        refine ⟨?_, ?_⟩
        · intro hb hdie hceil hstuck
          rw [← ha] at hstuck
          have hact : u.actRemedy b rb trim = u.railRaise d b rb := by rw [u.actRemedy_path rb trim hb, hdie]
          refine ⟨?_, ?_⟩
          · intro r hr hsoon
            rw [← ha] at hr
            exact next_settle_eq (htry.trans (u.tryRemedies_wait rb trim
              (hact.trans (u.railRaise_waits hceil hstuck hr hsoon rb))))
          · intro hlate n f v
            rw [← ha] at hlate
            refine next_settle_eq (htry.trans ((u.tryRemedies_act rb trim
              (hact.trans (u.railRaise_acts hceil hstuck htries hlate rb))).trans ?_))
            have hbench : (if b / 0x1000 = 7 then 2 else benchDie b) = d := by rw [hb, if_neg (by decide), hdie]
            unfold State.margin
            rw [hbench, ha]
            rfl
        · intro hb hfew n v
          refine next_settle_eq (htry.trans ((u.tryRemedies_act rb trim
            ((u.actRemedy_lane rb trim hb).trans (u.laneAct_steps hfew))).trans ?_))
          have hbench : (if b / 0x1000 = 7 then 2 else benchDie b) = benchDie b := by rw [hb, if_neg (by decide)]
          unfold State.margin
          rw [hbench]
          rfl
    · intro h
      rw [← ha] at h
      exact next_settle_eq (u.avsRetry_waits h rb)
    · intro htries hlate asked goes
      rw [← ha] at htries hlate
      have hplan : u.railPlan d = plan := rfl
      refine ⟨?_, ?_, ?_⟩
      · intro hok
        refine next_settle_eq ((u.avsRetry_confirmed htries hlate hok).trans ?_)
        rw [ha]
      · intro hok hfew
        rw [← ha] at hfew
        refine next_settle_eq ((u.avsRetry_again htries hlate hok hfew).trans ?_)
        rw [ha]
      · intro hok hmany
        rw [← ha] at hmany
        refine next_settle_eq ((u.avsRetry_gives_up htries hlate hok hmany).trans ?_)
        rw [ha]
  · intro s t code row hard u now recent mine fails noted called mapped goes
    have hsurvey : u.survey = s.survey := s.tick_survey t
    have hrecord : u.record = s.record := s.tick_record t
    have hnoted : u.found code row hard = noted := by
      unfold State.found
      rw [hsurvey]
    have hcalled : (u.found code row hard).repairCalled code row = called := by
      rw [hnoted]
      rfl
    have hfails : (u.found code row hard).rowFails code row = fails := by
      rw [State.found_rowFails, hsurvey]
    refine ⟨?_, ?_, fun _ _ => rfl⟩
    · intro h
      refine next_settle_eq (u.memoryRepair_nothing ?_)
      rw [hrecord]
      exact h
    · intro hrow hmap
      have hmap' : ¬ (code = 10 ∧ u.record.mem.spares.wires.contains row = true) := by
        rw [hrecord]
        exact hmap
      refine ⟨?_, ?_⟩
      · intro hnew
        rw [← hsurvey] at hnew
        refine ⟨?_, ?_, ?_⟩
        · intro hf
          exact next_settle_eq ((u.memoryRepair_few hrow hmap' hnew (hfails.trans hf)).trans hnoted)
        · intro hf hready
          refine next_settle_eq ((u.memoryRepair_calls hrow hmap' hnew (hfails.trans hf)).trans ?_)
          rw [hcalled, if_neg (Bool.eq_false_iff.mp hready)]
        · intro hf hready
          refine next_settle_eq ((u.memoryRepair_calls hrow hmap' hnew (hfails.trans hf)).trans ?_)
          rw [hcalled, if_pos hready]
      · intro hold
        rw [← hsurvey] at hold
        refine ⟨?_, ?_⟩
        · intro hready
          exact next_settle_eq ((u.memoryRepair_called hrow hmap' hold).trans (if_neg (Bool.eq_false_iff.mp hready)))
        · intro hready
          exact next_settle_eq ((u.memoryRepair_called hrow hmap' hold).trans (if_pos hready))
  · intro s code row hrow unit errors u relaid lost goes
    obtain ⟨hlow, hhigh, h8, h9⟩ := isRow_iff code row hrow
    refine ⟨?_, ?_, ?_⟩
    · intro hcode hleft
      exact s.repairRow_spare hcode hleft
    · intro hcode hleft
      have hspent := s.repairRow_spent hcode hleft
      refine ⟨?_, ?_, ?_, ?_, ?_⟩
      · intro hbank hknown
        exact hspent.trans ((if_pos hbank).trans (State.bankBeyond_known u errors hknown))
      · intro hbank hlaid hnew
        have hbeyond := hspent.trans ((if_pos hbank).trans (State.bankBeyond_new u errors hlaid hnew))
        refine ⟨?_, ?_⟩
        · intro hroom
          exact hbeyond.trans (if_neg (Nat.not_le.mpr hroom))
        · intro hfull
          exact hbeyond.trans (if_pos hfull)
      · intro hstage
        exact hspent.trans ((if_neg (by omega)).trans (if_pos (by omega)))
      · intro hpool
        exact hspent.trans ((if_neg (by omega)).trans ((if_neg (by omega)).trans (if_pos (by omega))))
      · intro hhbm
        exact hspent.trans ((if_neg (by omega)).trans ((if_neg (by omega)).trans (if_neg (by omega))))
    · intro hcode hnew wire
      subst hcode
      have hkey : row / 65536 * 65536 + row % 65536 = row := Nat.div_add_mod' row 65536
      have hkeyNew : (State.dealtWith s 10 row).record.mem.spares.wires.contains (row / 65536 * 65536 + row % 65536) =
          false := by
        rw [hkey]
        exact hnew
      refine ⟨?_, ?_⟩
      · intro hleft
        refine (s.repairRow_wire.trans (State.mapWire_spare _ errors hkeyNew hleft)).trans ?_
        rw [hkey]
        rfl
      · intro hleft
        refine (s.repairRow_wire.trans (State.mapWire_none _ errors hkeyNew hleft)).trans ?_
        rw [hkey]
        rfl

end Sys2Proof.Machine
end

section
/-! PROOFS. Fault sources raise events and signals (R266, R529, R540, R544, R545, R556, R557, R562). -/

namespace Sys2Proof.Machine

/-! ### Events and messages leave a calm part calm -/

/-- The last event's number, the events that stand and the history, as an event changes them. -/
theorem State.Calm.withEvents {s : State} (h : s.Calm) (num : Nat) (l : List Standing) (q : List Event) :
    ({ s with faults := { s.faults with newest := num, standing := l, queue := q } } : State).Calm := by
  obtain ⟨htodo, hpaths, hholds, hflt, hnodes, hpunts, hstamps, hpair, hhalt, hlanes⟩ := h
  refine ⟨htodo, hpaths, hholds, hflt, hnodes, hpunts, hstamps, hpair, hhalt, fun x hx hlt => ?_⟩
  have hstate (n : Nat) :
      ({ s with faults := { s.faults with newest := num, standing := l, queue := q } } : State).laneState n =
        s.laneState n := by
    unfold State.laneState State.laneContained
    rw [hholds]
    rfl
  rw [hstate]
  exact hlanes x hx hlt

theorem State.Calm.withSurvey {s : State} (h : s.Calm) (x : Survey) : ({ s with survey := x } : State).Calm := h

theorem State.msix_calm {s : State} (h : s.Calm) (v : Nat) : (s.msix v).Calm := by
  unfold State.msix
  split
  · exact h
  · split <;> exact h

theorem State.ibi_calm {s : State} (h : s.Calm) (d : Nat) : (s.ibi d).Calm := by
  unfold State.ibi
  split <;> exact h

theorem State.enterEvent_calm {s : State} (h : s.Calm) (e : Event) : (s.enterEvent e).Calm := by
  unfold State.enterEvent
  split
  · exact h.withEvents s.faults.newest s.faults.standing _
  · split
    · exact h.withEvents s.faults.newest s.faults.standing _
    · exact State.bump_calm h (by decide) (by decide) (by decide) (by decide)

theorem classCounter_row : ∀ (c : Fin 16) (k : Fin 5),
    objClass (0x800F + (c.val + 1)) (3 + k) = .counter ∧ objDfltI (0x800F + (c.val + 1)) (3 + k) 0 = 0 := by decide +kernel

/-- A count of the events of a class at a level leaves a calm part calm. -/
theorem State.classCounter_calm {s : State} (h : s.Calm) (c : Fin 16) (k : Fin 5) :
    (s.bump (0x800F + (c.val + 1)) (3 + k)).Calm :=
  State.bump_calm h (classCounter_row c k).1 (classCounter_row c k).2 (by omega) (by omega)

/-! ### An event at the two lowest levels -/

section raised
variable {s : State} {r : Raise} (hflat : r.failed = false) (hctr : r.ctrIdx = 0 ∧ r.ctrSub = 0) (hrest : r.rest = [])
include hflat hctr hrest

/-- The event that a raise enters when its class's level stays as named. -/
def State.plainEvent (s : State) (r : Raise) : Event :=
  ⟨(s.faults.newest + 1) % 2 ^ 32, r.cls, r.level, r.level, if r.level = 0 then 4 else 0, 0, 0, r.die, r.path,
      s.dev.st.code, s.time80,
    if r.level = 0 then selfId else 0, leBytes 4 r.object ++ leBytes 4 r.value ++ zeros 24⟩

theorem State.raise_flat (hlevel : r.level = 0) :
    s.raise r = (({ s with faults := { s.faults with newest := (s.faults.newest + 1) % 2 ^ 32 } } : State).enterEvent
      (s.plainEvent r)).bump (0x800F + r.cls) 3 := by
  have hraised : s.faults.raisedLevel r.cls r.level = (0, false) := by
    rw [hlevel]
    exact if_pos (.inl rfl)
  unfold State.raise State.plainEvent Raise.detail
  rw [hraised, hrest, hflat, hlevel, hctr.1, hctr.2]
  rfl

theorem State.raise_one (hlevel : r.level = 1) (hraised : s.faults.raisedLevel r.cls 1 = (1, false)) :
    s.raise r = ((({ s with faults := { s.faults with
      newest := (s.faults.newest + 1) % 2 ^ 32
      standing := s.faults.standing ++ [Standing.mk ((s.faults.newest + 1) % 2 ^ 32) r.cls 1
        (s.clock.now + s.obj (0x800F + r.cls) 1 * Config.us) r.object r.value r.port
        (leBytes 4 r.object ++ leBytes 4 r.value ++ zeros 24)] } } : State).enterEvent
      (s.plainEvent r)).bump (0x800F + r.cls) 4).signal 1 := by
  unfold State.raise State.plainEvent Raise.detail
  rw [hlevel, hraised, hrest, hflat, hctr.1, hctr.2]
  rfl

end raised

theorem State.signal_one_silent {s : State} (h : 2 ≤ s.obj 0x8200 3) : s.signal 1 = s :=
  if_neg (fun hs => absurd hs.2 (Nat.not_le.mpr h))

theorem State.signal_one_heard {s : State} (h : s.obj 0x8200 3 ≤ 1) : s.signal 1 = (s.msix 2).ibi 0x46 :=
  if_pos ⟨Nat.le_refl 1, h⟩

/-! ### What a source does beside its event (R266, R529) -/

section source
variable (s : State) (x : FaultSource)

/-- The raise of a source's event. -/
def sourceRaise (x : FaultSource) (path : Option Nat) : Raise :=
  { cls := x.cls.val + 1, level := x.level.val, die := x.die.val, path := path.getD 0xFFFF
    object := x.object, value := x.value, own := x.ownAction, port := x.die.val == 1 }

theorem poolCell_iff : poolCell x = true ↔
    x.object / 2 ^ 24 = 0xF0 ∨ x.object / 2 ^ 24 = 0xF1 ∨ x.object / 2 ^ 24 = 0xF3 := by
  unfold poolCell
  rw [List.contains_iff_mem]
  simp only [List.mem_cons, List.not_mem_nil, or_false]

theorem State.pathAssert_deaf {path : Option Nat} (h : path.any s.deafTo = true) : s.pathAssert path x = s := if_pos h

theorem State.pathAssert_plain {path : Option Nat} (h : path.any s.deafTo = false)
    (hcell : ¬ (x.cls.val = 0 ∧ poolCell x = true)) :
    s.pathAssert path x = ((s.poolError x).hardError x).raise (sourceRaise x path) := by
  have hcount : (sourceClass x == 1 && poolCell x) = false := by
    rw [Bool.eq_false_iff, ne_eq, Bool.and_eq_true, beq_iff_eq]
    exact fun hc => hcell ⟨Nat.succ_injective hc.1, hc.2⟩
  refine (if_neg (Bool.eq_false_iff.mp h)).trans ?_
  simp only [hcount, Bool.false_eq_true, if_false]
  rfl

theorem State.pathAssert_counted {path : Option Nat} (h : path.any s.deafTo = false)
    (hcls : x.cls.val = 0) (hcell : poolCell x = true) : s.pathAssert path x =
      (s.bump 0x5001 0xF).raise { sourceRaise x path with ctrIdx := 0x5001, ctrSub := 0xF } := by
  have hclass : sourceClass x = 1 := congrArg (· + 1) hcls
  refine (if_neg (Bool.eq_false_iff.mp h)).trans ?_
  simp only [State.poolError, State.hardError, hclass, hcell, beq_self_eq_true, Bool.and_self, if_true,
    show ¬ (1 = 2) by decide, if_false, sourceRaise, hcls]

theorem State.poolError_other (hcell : poolCell x = false ∨ x.cls.val = 2 ∨ 4 ≤ x.cls.val)
    (hown : x.cls.val ≠ 3 ∨ ¬ (x.level.val = 2 ∧ x.ownAction = true)) : s.poolError x = s := by
  have hclass : sourceClass x = x.cls.val + 1 := rfl
  unfold State.poolError
  split
  · next h => exact if_neg (Bool.eq_false_iff.mp (hcell.resolve_right (by omega)))
  · next h => exact if_neg (Bool.eq_false_iff.mp (hcell.resolve_right (by omega)))
  · next h => exact if_neg (hown.resolve_left (by omega))
  · rfl

theorem State.poolError_bad (hcls : x.cls.val = 1) (hcell : poolCell x = true) :
    s.poolError x = s.cellBad (x.object / 2 ^ 24 - 0xF0) (x.object % 2 ^ 24) := by
  have hclass : sourceClass x = 2 := congrArg (· + 1) hcls
  simp only [State.poolError, hclass, hcell, if_true]

theorem State.poolError_withdrawn (hcls : x.cls.val = 3) (hlevel : x.level.val = 2) (hown : x.ownAction = true) :
    s.poolError x = s.containCell x.object := by
  have hclass : sourceClass x = 4 := congrArg (· + 1) hcls
  simp only [State.poolError, hclass, hlevel, hown, and_self, if_true]

theorem State.hardError_other (hcls : x.cls.val ≠ 1) : s.hardError x = s :=
  if_neg (fun h => hcls (Nat.succ_injective h))

end source

/-- The error of a row noted leaves what the collector has, and a calm part calm. -/
theorem State.hardError_kept (s : State) (x : FaultSource) : (s.hardError x).faults = s.faults ∧
    (s.Calm → (s.hardError x).Calm) := by
  unfold State.hardError
  split
  · split
    · unfold State.noteError
      dsimp only
      split <;> exact ⟨rfl, fun h => h⟩
    · exact ⟨rfl, fun h => h⟩
  · exact ⟨rfl, fun h => h⟩

/-- Settles O51: the statement follows what a path asserts, by the class of its source; the events at the two lowest levels
leave a calm part calm. -/
theorem faultSourcesRaiseEvents : Obligations.FaultSourcesRaiseEvents := by
  unfold Obligations.FaultSourcesRaiseEvents
  refine ⟨?_, fun _ _ _ _ => ⟨_, rfl⟩⟩
  intro s t path x t0 cls noted u n o pool cell detail goes source ev num stands
  have hcell : poolCell x = true ↔ cell := poolCell_iff x
  refine ⟨fun hdeaf => next_settle_eq (t0.pathAssert_deaf x hdeaf), fun hheard => ⟨fun hother => ?_, ?_, ?_, ?_⟩⟩
  · have hplain (hown : x.cls.val ≠ 3 ∨ ¬ (x.level.val = 2 ∧ x.ownAction = true)) :
        t0.pathAssert (path.map (·.val)) x = u.raise source := by
      have hmiss : poolCell x = false ∨ x.cls.val = 2 ∨ 4 ≤ x.cls.val := by
        refine hother.imp (fun h => Bool.eq_false_iff.mpr (mt hcell.mp h)) (Or.imp ?_ ?_)
        · exact fun h => Nat.succ_injective h
        · exact fun h => Nat.le_of_succ_le_succ h
      have hnot : ¬ (x.cls.val = 0 ∧ poolCell x = true) := by
        rintro ⟨h0, hpool⟩
        rcases hmiss with hm | hm
        · exact absurd (hpool.symm.trans hm) (by decide)
        · omega
      rw [t0.pathAssert_plain x hheard hnot, t0.poolError_other x hmiss hown]
      rfl
    have hfaults : u.faults = s.faults := (t0.hardError_kept x).1.trans (s.tick_faults t)
    have hcalm (hs : s.Calm) : u.Calm := (t0.hardError_kept x).2 (s.tick_calm hs t)
    have hnum : (u.faults.newest + 1) % 2 ^ 32 = n := by rw [hfaults]
    refine ⟨?_, ?_, ?_⟩
    · intro hs hlevel _
      have hflat := State.raise_flat (s := u) (r := source) rfl ⟨rfl, rfl⟩ rfl hlevel
      unfold State.plainEvent at hflat
      rw [hnum, show source.level = 0 from hlevel] at hflat
      refine next_settle_calm ((hplain (.inr (by omega))).trans (hflat.trans ?_)) ?_
      · rw [← hfaults]
      · exact State.classCounter_calm (State.enterEvent_calm ((hcalm hs).withEvents n s.faults.standing u.faults.queue) _)
            x.cls 0
    · intro hs hlevel hraised v
      have hone := State.raise_one (s := u) (r := source) rfl ⟨rfl, rfl⟩ rfl hlevel hraised
      unfold State.plainEvent at hone
      rw [hnum, show source.level = 1 from hlevel] at hone
      have hv : t0.pathAssert (path.map (·.val)) x = v.signal 1 := by
        refine (hplain (.inr (by omega))).trans (hone.trans ?_)
        rw [show u.faults.standing = s.faults.standing from congrArg Faults.standing hfaults]
      have hvcalm : v.Calm :=
        State.classCounter_calm (State.enterEvent_calm ((hcalm hs).withEvents n stands u.faults.queue) _) x.cls 1
      refine ⟨?_, ?_⟩
      · intro hlow
        exact next_settle_calm (hv.trans (State.signal_one_silent hlow)) hvcalm
      · intro hhigh
        exact next_settle_calm (hv.trans (State.signal_one_heard hhigh)) (State.ibi_calm (State.msix_calm hvcalm 2) 0x46)
    · intro hown
      refine next_settle_eq (hplain (hown.imp (fun h hc => h (congrArg (· + 1) hc)) (fun h hc => ?_)))
      rcases h with h | h
      · omega
      · exact absurd (h.symm.trans hc.2) (by decide)
  · intro hcls hc
    have hzero : x.cls.val = 0 := Nat.succ_injective hcls
    have hunote : u = t0 := t0.hardError_other x (by omega)
    refine next_settle_eq ((t0.pathAssert_counted x hheard hzero (hcell.mpr hc)).trans ?_)
    rw [hunote]
    rfl
  · intro hcls hc
    have hone : x.cls.val = 1 := Nat.succ_injective hcls
    refine next_settle_eq ((t0.pathAssert_plain x hheard (by omega)).trans ?_)
    rw [t0.poolError_bad x hone (hcell.mpr hc)]
    have hnoted (w : State) : w.hardError x = noted w := if_pos hcls
    rw [hnoted]
    rfl
  · intro hcls hlevel hown
    have hthree : x.cls.val = 3 := Nat.succ_injective hcls
    have hunote : u = t0 := t0.hardError_other x (by omega)
    refine next_settle_eq ((t0.pathAssert_plain x hheard (by omega)).trans ?_)
    rw [t0.poolError_withdrawn x hthree hlevel hown, State.hardError_other _ x (by omega), hunote]
    rfl

end Sys2Proof.Machine
end

section
/-! PROOFS. A path that recovers after its event was acknowledged, and the fabric lane that was its source (R542, R552). -/

namespace Sys2Proof.Machine

/-- The failed path 0, whose source is FC-08 of fabric lane 0; its event has been acknowledged. -/
def lanePath : FailedPath := ⟨0, 1, false, true, ⟨7, 0, 0, 0, 0, false⟩⟩

/-- A READY part whose fabric lane 0 is UNUSABLE with the path of which it is the source. -/
def heldLanePart : State := { readyPart with
  lanes := [{ FLane.fresh 0 with bad := false }]
  faults := { readyPart.faults with ctls := List.replicate 32 ⟨true, 0, false⟩, paths := [lanePath] } }

theorem heldLanePart_calm : heldLanePart.Calm := by decide +kernel

/-- Whether fabric lane 0 has been seen USABLE. -/
def outcomeLaneSeen : Out → Option Bool
  | .next u => some (u.lane 0).up
  | _ => none

/-- Refutes O52: the path's recovery takes it back into use, by which the lane that was its source becomes USABLE; the statement
has nothing follow but the device state. -/
theorem not_faultPathsPinsAndTheBond : ¬ Obligations.FaultPathsPinsAndTheBond := by
  unfold Obligations.FaultPathsPinsAndTheBond
  intro h
  obtain ⟨hrows, -⟩ := h
  obtain ⟨-, -, hrecover, -⟩ := hrows heldLanePart 1
  have hsame := congrArg outcomeLaneSeen (hrecover 0 lanePath heldLanePart_calm rfl rfl)
  have hreal : outcomeLaneSeen (exec (.faultPathRecover 1 0) heldLanePart) = some true := by decide +kernel
  rw [hreal] at hsame
  exact absurd hsame (by decide +kernel)

end Sys2Proof.Machine
end

section
/-! PROOFS. Watchdogs and load checks (R18, R548, R555, R626, R627, R703). -/

namespace Sys2Proof.Machine

/-! ### What leaves the device's state as it was: everything but an event at level F4 -/

theorem foldl_dev {α : Type} {f : State → α → State} (hf : ∀ (s : State) a, (f s a).dev = s.dev) (l : List α) (s : State) :
    (l.foldl f s).dev = s.dev := by
  induction l generalizing s with
  | nil => rfl
  | cons a l ih => rw [List.foldl_cons, ih, hf]

section dev
variable (s : State)

theorem Faults.raisedLevel_below (f : Faults) (cls : Nat) {level : Nat} (h : level < 4) :
    (f.raisedLevel cls level).1 < 4 := by
  unfold Faults.raisedLevel
  dsimp only
  split
  · exact h
  · generalize (if f.levelOf cls = 0 then 0 else f.levelOf cls + 1) = up
    split
    · exact Nat.lt_succ_of_le (Nat.min_le_left 3 up)
    · exact h

theorem State.enterEvent_dev (e : Event) : (s.enterEvent e).dev = s.dev := by
  unfold State.enterEvent
  split
  · rfl
  · split
    · rfl
    · exact State.bump_dev ..

theorem State.signal_dev (level : Nat) : (s.signal level).dev = s.dev := by
  unfold State.signal
  dsimp only
  split <;> split <;> simp [State.fltPulse]

theorem State.levelThree_dev : s.levelThree.dev = s.dev := by
  unfold State.levelThree
  split <;> rfl

/-- The device's state is the same. -/
structure State.SameDev (s u : State) : Prop where
  dev : u.dev = s.dev

theorem State.SameDev.trans {s u v : State} (h : s.SameDev u) (k : u.SameDev v) : s.SameDev v := ⟨k.dev.trans h.dev⟩

theorem State.SameDev.ite {s u : State} (c : Prop) [Decidable c] (h : c → s.SameDev u) : s.SameDev (if c then u else s) := by
  split
  · next hc => exact h hc
  · exact ⟨rfl⟩

/-- An event below level F4 halts no die. -/
theorem State.raise_dev {r : Raise} (h : r.level < 4) : (s.raise r).dev = s.dev := by
  have hnot : ¬ (s.faults.raisedLevel r.cls r.level).1 = 4 := Nat.ne_of_lt (s.faults.raisedLevel_below r.cls h)
  refine State.SameDev.dev ?_
  unfold State.raise
  refine State.SameDev.trans ?_ ⟨State.signal_dev _ _⟩
  refine State.SameDev.trans ?_ (.ite _ fun _ => ⟨rfl⟩)
  refine State.SameDev.trans ?_ (.ite _ fun h4 => absurd h4 hnot)
  refine State.SameDev.trans ?_ (.ite _ fun _ => ⟨State.levelThree_dev _⟩)
  refine State.SameDev.trans ?_ (.ite _ fun _ => ⟨State.bump_dev ..⟩)
  refine State.SameDev.trans ?_ ⟨State.bump_dev ..⟩
  refine State.SameDev.trans ?_ ⟨State.enterEvent_dev _ _⟩
  exact State.SameDev.trans (by constructor; rfl) (.ite _ fun _ => by constructor; rfl)

@[simp] theorem State.badFree_dev (sub k n : Nat) : (s.badFree sub k n).dev = s.dev :=
  (State.raise_dev _ (show 1 < 4 by decide)).trans (State.bump_dev ..)

@[simp] theorem State.freeCell_dev (pool n code : Nat) : (s.freeCell pool n code).dev = s.dev := by
  unfold State.freeCell
  split
  · simp
  · split
    · simp
    · split
      · simp
      · split <;> rfl

@[simp] theorem State.freeBlock_dev (n code : Nat) : (s.freeBlock n code).dev = s.dev := by
  unfold State.freeBlock
  split
  · simp
  · split
    · simp
    · rfl

@[simp] theorem State.poolSync_dev (k : Nat) : (s.poolSync k).dev = s.dev := by
  unfold State.poolSync
  dsimp only
  have hset (c : Prop) [Decidable c] (u : State) (i n v : Nat) : (if c then u.setObj i n v else u).dev = u.dev := by
    split <;> simp
  split
  · exact (State.raise_dev _ (show 0 < 4 by decide)).trans ((State.bump_dev ..).trans (hset ..))
  · exact hset ..

@[simp] theorem State.pfcTimes_dev (p : Nat) (times : List (Nat × Nat)) : (s.pfcTimes p times).dev = s.dev := by
  refine foldl_dev (fun s x => ?_) times s
  split
  · unfold State.pausePrio
    dsimp only
    split <;> rfl
  · rfl

@[simp] theorem State.pfcLoop_dev (p : Nat) (again : Bool) (times : List (Nat × Nat)) : (s.pfcLoop p again times).dev =
    s.dev := by
  unfold State.pfcLoop
  split
  · rfl
  · split <;> simp

@[simp] theorem State.sendPfc_dev (port : Nat) (times : List (Nat × Nat)) : (s.sendPfc port times).dev = s.dev := by
  unfold State.sendPfc
  split
  · rfl
  · dsimp only
    split
    · split
      · rfl
      · split <;> simp
    · split <;> simp

@[simp] theorem State.pfcSyncAll_dev (ports : List Nat) : (s.pfcSyncAll ports).dev = s.dev :=
  foldl_dev (fun s port => by simp [State.pfcSync]) ports s

@[simp] theorem State.sweepBlocks_dev (qid : Nat) : (s.sweepBlocks qid).dev = s.dev :=
  foldl_dev (fun s (b : Block) => s.freeBlock_dev b.num b.owner) _ s

@[simp] theorem State.releaseCells_dev (l : List Pkt) : (s.releaseCells l).dev = s.dev := by
  simp only [State.releaseCells, State.pfcSyncAll_dev, State.poolSync_dev]
  rw [foldl_dev State.sweepBlocks_dev, foldl_dev]
  intro s x
  cases x with
  | block b i => rfl
  | die n =>
    dsimp only
    split <;> simp

@[simp] theorem State.release_dev (l : List Pkt) : (s.release l).dev = s.dev := by
  refine (State.releaseCells_dev _ l).trans ((foldl_dev (f := fun s p => { s with fabric := s.fabric.forget p.id })
    (fun _ _ => rfl) l _).trans (foldl_dev (fun s p => ?_) l s))
  unfold State.stampLost
  split <;> rfl

/-! ### A lane's port looked at -/

theorem State.flushPort_dev (node : Nat) : (s.flushPort node).dev = s.dev :=
  foldl_dev (fun s qid => by simp [State.flushQueue, State.portFlushed]) _ s

theorem State.undoGrants_dev (node : Nat) : (s.undoGrants node).dev = s.dev := by
  unfold State.undoGrants
  split
  · rfl
  · refine foldl_dev (fun s g => ?_) _ s
    unfold State.undoGrant
    dsimp only
    split <;> rfl

theorem State.reportDown_dev (p : Nat) : (s.reportDown p).dev = s.dev := by
  unfold State.reportDown
  split
  · rfl
  · split
    · rfl
    · dsimp only
      split
      · exact State.flushPort_dev _ _
      · exact State.undoGrants_dev _ _

theorem State.goDown_dev (p link : Nat) : (s.goDown p link).dev = s.dev := by
  unfold State.goDown
  dsimp only
  split
  · exact State.setPort_dev ..
  · have hdown (u : State) : ((u.bump (0x3000 + p) 0x2D).reportDown p).dev = u.dev :=
      (State.reportDown_dev _ p).trans (State.bump_dev ..)
    split
    · refine (State.raise_dev _ (show 1 < 4 by decide)).trans ((State.bump_dev ..).trans ?_)
      exact (hdown _).trans (State.setPort_dev ..)
    · exact (hdown _).trans (State.setPort_dev ..)

theorem State.portSync_dev (p : Nat) : (s.portSync p).dev = s.dev := by
  unfold State.portSync
  extract_lets ok was u x g w
  have hu : u.dev = s.dev := by
    unfold u
    split <;> rfl
  split
  · exact hu
  · split
    · exact hu
    · split
      · exact (State.goDown_dev w p _).trans hu
      · exact hu

theorem State.floorSync_dev : s.floorSync.dev = s.dev := by
  unfold State.floorSync
  dsimp only
  split
  · exact State.raise_dev _ (show 3 < 4 by decide)
  · rfl

theorem State.laneChanged_dev {code : Nat} (h : code < 0x80) : (s.laneChanged code).dev = s.dev := by
  unfold State.laneChanged
  rw [if_pos h]
  split
  · exact State.portSync_dev ..
  · rfl

/-- A controller set leaves the device's state. -/
theorem State.setCtl_dev (c : Nat) (x : Ctl) : (s.setCtl c x).dev = s.dev := by
  unfold State.setCtl
  dsimp only
  split
  · next hc =>
    suffices h : ∀ (l : List Nat), (∀ i ∈ l, i < 16) → ∀ u : State,
        (l.foldl (fun s i => s.laneChanged (16 * c + i)) u).dev = u.dev from
      h (List.range 16) (fun _ hi => List.mem_range.mp hi) _
    intro l hl
    induction l with
    | nil => exact fun _ => rfl
    | cons i r ih =>
      intro u
      rw [List.foldl_cons, ih fun j hj => hl j (List.mem_cons_of_mem i hj)]
      have hi := hl i List.mem_cons_self
      exact State.laneChanged_dev _ (by omega)
  · split
    · exact State.floorSync_dev _
    · rfl

end dev

/-! ### The service core and the controllers -/

section core
variable (s : State)

theorem State.coreWatchdog_deaf (h : s.dev.st = .boot ∨ s.faults.restarting = true) : s.coreWatchdog = s := if_pos h

/-- The event of a silent service core. -/
def State.coreSilent : State :=
  (s.bump 0x8000 0xF).raise { cls := 15, level := 2, object := 0xFF, own := true, ctrIdx := 0x8000, ctrSub := 0xF }

theorem State.coreSilent_sess : s.coreSilent.update = s.update :=
  (State.raise_sameWork _ _).update.trans (s.bump_sameWork _ _).update

theorem State.coreWatchdog_restarts (hboot : s.dev.st ≠ .boot) (hre : s.faults.restarting = false) :
    s.coreWatchdog = (if s.update.sess.st = 5 ∨ s.update.sess.st = 6 then s.coreSilent.revertTrial 0x13
      else s.coreSilent).beginRestart := by
  rw [← s.coreSilent_sess]
  exact if_neg (not_or.mpr ⟨hboot, Bool.eq_false_iff.mp hre⟩)

theorem State.coreRestarted_not (ok : Bool) (h : s.faults.restarting = false) : s.coreRestarted ok = s :=
  if_pos (Bool.eq_false_iff.mp h)

theorem State.coreRestarted_failed (h : s.faults.restarting = true) :
    s.coreRestarted false = s.raise { cls := 15, level := 4, die := 0, object := 0xFF } :=
  (if_neg (not_not.mpr h)).trans (if_neg Bool.false_ne_true)

theorem State.coreRestarted_ok (h : s.faults.restarting = true) : s.coreRestarted true =
    if s.update.sess.st = 5 then s
    else { s.restartEffects false with faults := { (s.restartEffects false).faults with restarting := false } } :=
  (if_neg (not_not.mpr h)).trans (if_pos rfl)

end core

section ctl
variable (s : State) {c : Nat}

theorem State.ctlWatchdog_deaf (h : s.dev.st = .boot ∨ s.ctlOut c = true ∨ (s.faults.ctls.getD c ⟨false, 0,
    false⟩).loaded = false) :
    s.ctlWatchdog c = s := if_pos (h.imp_right (Or.imp_right Bool.eq_false_iff.mp))

theorem State.ctlWatchdog_reloads (hc : c < 24) (hboot : s.dev.st ≠ .boot) (hin : s.ctlOut c = false)
    (hload : (s.faults.ctls.getD c ⟨false, 0, false⟩).loaded = true) : s.ctlWatchdog c =
      (s.raise { cls := 15, level := 2, die := if c < 8 ∨ c = 23 then 1 else 0, object := c, own := true }).setCtl c
        ⟨false, 0, true⟩ := by
  refine (if_neg (not_or.mpr ⟨hboot, not_or.mpr ⟨Bool.eq_false_iff.mp hin, not_not.mpr hload⟩⟩)).trans ?_
  unfold State.containCtl
  rw [if_neg (by omega), if_neg (by omega)]

theorem State.ctlCheck_not (ok : Bool) (h : (s.faults.ctls.getD c ⟨false, 0, false⟩).loaded = true ∨
    2 ≤ (s.faults.ctls.getD c ⟨false, 0, false⟩).fails ∨ s.dev.st = .boot) : s.ctlCheck c ok = s := if_pos h

section check
variable (hload : (s.faults.ctls.getD c ⟨false, 0, false⟩).loaded = false)
  (hfew : (s.faults.ctls.getD c ⟨false, 0, false⟩).fails < 2) (hboot : s.dev.st ≠ .boot)
include hload hfew hboot

theorem State.ctlCheck_passed : s.ctlCheck c true =
    if c = 23 then { s.setCtl c ⟨true, 0, false⟩ with dev := { (s.setCtl c ⟨true, 0, false⟩).dev with feAlive := true } }
    else s.setCtl c ⟨true, 0, false⟩ :=
  (if_neg (not_or.mpr ⟨Bool.eq_false_iff.mp hload, not_or.mpr ⟨Nat.not_le.mpr hfew, hboot⟩⟩)).trans (if_pos rfl)

theorem State.ctlCheck_failed {x : Ctl} (hx : s.faults.ctls.getD c ⟨false, 0, false⟩ = x) : s.ctlCheck c false =
    if x.fails = 0 then s.setCtl c { x with fails := x.fails + 1 }
    else if s.dev.st = .init then (s.setCtl c { x with fails := x.fails + 1 }).raise
      { cls := 15, level := 2, die := if c < 8 ∨ c = 23 then 1 else 0, object := c, own := true }
    else (s.setCtl c { x with fails := x.fails + 1 }).raise
      { cls := 15, level := 3, die := if c < 8 ∨ c = 23 then 1 else 0, object := c } := by
  rw [← hx, ← s.setCtl_dev c { s.faults.ctls.getD c ⟨false, 0, false⟩ with
    fails := (s.faults.ctls.getD c ⟨false, 0, false⟩).fails + 1 }]
  exact (if_neg (not_or.mpr ⟨Bool.eq_false_iff.mp hload, not_or.mpr ⟨Nat.not_le.mpr hfew, hboot⟩⟩)).trans
    (if_neg Bool.false_ne_true)

end check

end ctl

/-- Settles O53: the statement follows the branches of the watchdogs and of the load checks; a controller set leaves the
device's
state, by which the event of a second failure is chosen. -/
theorem watchdogsAndLoadChecks : Obligations.WatchdogsAndLoadChecks := by
  unfold Obligations.WatchdogsAndLoadChecks
  refine ⟨?_, fun _ _ => ⟨_, rfl⟩, fun _ _ _ => ⟨_, rfl⟩, fun _ _ _ => ⟨_, rfl⟩, fun _ _ _ _ => ⟨_, rfl⟩⟩
  intro s t u
  have hdev : u.dev = s.dev := s.tick_dev t
  have hfaults : u.faults = s.faults := s.tick_faults t
  have hupdate : u.update = s.update := s.tick_update t
  refine ⟨?_, ?_, ?_, ?_, ?_⟩
  · intro h
    rw [← hdev, ← hfaults] at h
    exact next_settle_eq (u.coreWatchdog_deaf h)
  · intro hboot hre v restarts
    rw [← hdev] at hboot
    rw [← hfaults] at hre
    have hrestart := u.coreWatchdog_restarts hboot hre
    rw [hupdate] at hrestart
    refine ⟨?_, ?_⟩
    · intro h5 h6
      exact next_settle_eq (hrestart.trans (congrArg State.beginRestart (if_neg (not_or.mpr ⟨h5, h6⟩))))
    · intro h
      exact next_settle_eq (hrestart.trans (congrArg State.beginRestart (if_pos h)))
  · intro ok h
    rw [← hfaults] at h
    exact next_settle_eq (u.coreRestarted_not ok h)
  · intro h
    rw [← hfaults] at h
    have hok := u.coreRestarted_ok h
    rw [hupdate] at hok
    exact ⟨fun h5 => next_settle_eq (hok.trans (if_neg h5)), fun h5 => next_settle_eq (hok.trans (if_pos h5)),
      next_settle_eq (u.coreRestarted_failed h)⟩
  · intro c x die put setIn set
    have hx : u.faults.ctls.getD c ⟨false, 0, false⟩ = x := by rw [hfaults]
    refine ⟨?_, ?_, ?_, ?_⟩
    · intro h
      rw [← hdev, ← hx] at h
      exact next_settle_eq (u.ctlWatchdog_deaf h)
    · intro hboot hin hload
      rw [← hdev] at hboot
      rw [← hx] at hload
      exact next_settle_eq (u.ctlWatchdog_reloads c.isLt hboot hin hload)
    · intro ok h
      rw [← hdev, ← hx] at h
      exact next_settle_eq (u.ctlCheck_not ok h)
    · intro hload hfew hboot
      rw [← hdev] at hboot
      have hloadu : (u.faults.ctls.getD c ⟨false, 0, false⟩).loaded = false := by rw [hx]; exact hload
      have hfewu : (u.faults.ctls.getD c ⟨false, 0, false⟩).fails < 2 := by rw [hx]; exact hfew
      have hpass := u.ctlCheck_passed hloadu hfewu hboot
      have hfail := u.ctlCheck_failed hloadu hfewu hboot hx
      rw [hdev] at hfail
      refine ⟨?_, ?_, ?_, ?_, ?_⟩
      · intro h23
        exact next_settle_eq (hpass.trans (if_neg h23))
      · intro h23
        rw [State.setCtl_dev] at hpass
        exact next_settle_eq (hpass.trans (if_pos h23))
      · intro h0
        rw [h0] at hfail
        exact next_settle_eq (hfail.trans (if_pos rfl))
      · intro h1 hinit
        rw [h1] at hfail
        exact next_settle_eq (hfail.trans ((if_neg Nat.one_ne_zero).trans (if_pos hinit)))
      · intro h1 hinit
        rw [h1] at hfail
        exact next_settle_eq (hfail.trans ((if_neg Nat.one_ne_zero).trans (if_neg hinit)))

end Sys2Proof.Machine
end

section
/-! PROOFS. DMA channel registers, PCIe resets, counter reads (R552, R565 to R568, R570 to R573, R588, R597 to R599, R601,
R642). -/

namespace Sys2Proof.Machine

variable (s : State)

/-! ### A BAR that takes no access -/

section away
variable {who : Nat}

theorem State.memOk_off (h : s.pcie.memory = false) : s.memOk who = false := by
  unfold State.memOk
  rw [h]
  rfl

theorem State.memOk_memory (h : s.memOk who = true) : s.pcie.memory = true := by
  cases hm : s.pcie.memory
  · exact absurd ((s.memOk_off hm).symm.trans h) (by decide)
  · rfl

theorem State.turnedAway_off (h : s.pcie.memory = false) : s.turnedAway = s.out (.pcieStatus 1) :=
  if_neg (Bool.eq_false_iff.mp h)

theorem State.turnedAway_ignored (h : s.pcie.memory = true) : s.turnedAway = s := if_pos h

end away

theorem barSize_zero : barSize 0 = 131072 := by decide
theorem barSize_two : barSize 2 = 65536 := by decide

theorem inBar_iff (n o len : Nat) : inBar n o len = true ↔ o + len ≤ barSize n := decide_eq_true_iff

/-! ### The registers of a channel (R570 to R573) -/

section closed
variable (h : s.memOk 0x2020 = false)
include h

theorem State.writeTail_away (k v : Nat) : s.writeTail k v = s.turnedAway := if_pos (Bool.eq_false_iff.mp h)
theorem State.writeEn_away (k : Nat) (on : Bool) : s.writeEn k on = s.turnedAway := if_pos (Bool.eq_false_iff.mp h)
theorem State.resumeChan_away (k : Nat) : s.resumeChan k = s.turnedAway := if_pos (Bool.eq_false_iff.mp h)
theorem State.writeCfg_away (k : Nat) (r : ChReg) (v : Nat) : s.writeCfg k r v = s.turnedAway :=
  if_pos (Bool.eq_false_iff.mp h)
theorem State.bar0Access_away (o n : Nat) (d : Option (List Byte)) : s.bar0Access o n d = s.turnedAway :=
  if_pos (Bool.eq_false_iff.mp h)

end closed

section opened
variable (h : s.memOk 0x2020 = true)
include h

theorem State.writeTail_beyond {k v : Nat} (hv : (s.chan k).size ≤ v % 65536) :
    s.writeTail k v = s.hostMis 0x2000 0xB 0x2020 := (if_neg (not_not.mpr h)).trans (if_pos hv)

theorem State.writeTail_within {k v : Nat} (hv : v % 65536 < (s.chan k).size) :
    s.writeTail k v = s.mapChan k (fun c => { c with tail := v % 65536, starved := false }) :=
  (if_neg (not_not.mpr h)).trans (if_neg (Nat.not_le.mpr hv))

theorem State.writeEn_rise (k : Nat) : s.writeEn k true = s.mapChan k (fun c => if c.en then c else { c with
    en := true, head := 0, tail := 0, done := 0, stopped := false, starved := false }) := by
  refine (if_neg (not_not.mpr h)).trans (congrArg (s.mapChan k) (funext fun c => ?_))
  obtain ⟨base, cfg, tail, head, en, stopped, stopErr, stopIdx, done, starved⟩ := c
  cases en
  · rfl
  · rfl

theorem State.writeEn_fall (k : Nat) : s.writeEn k false = s.mapChan k (fun c => { c with en := false }) := by
  refine (if_neg (not_not.mpr h)).trans (congrArg (s.mapChan k) (funext fun c => ?_))
  exact if_neg fun hc => absurd hc.1 Bool.false_ne_true

theorem State.resumeChan_goes (k : Nat) : s.resumeChan k = s.mapChan k (fun c =>
    if c.stopped then { c with stopped := false, head := (c.stopIdx + 1) % c.size } else c) := if_neg (not_not.mpr h)

theorem State.writeCfg_enabled {k : Nat} (hen : (s.chan k).en = true) (r : ChReg) (v : Nat) :
    s.writeCfg k r v = s.hostMis 0x2000 0xC 0x2020 := (if_neg (not_not.mpr h)).trans (if_pos hen)

section disabled
variable {k : Nat} (hen : (s.chan k).en = false) (v : Nat)
include hen

theorem State.writeCfg_cfg : s.writeCfg k .cfg v = s.mapChan k (fun c => { c with cfg := v % 2 ^ 32 &&& 0xF0FFFF00 }) :=
  (if_neg (not_not.mpr h)).trans (if_neg (Bool.eq_false_iff.mp hen))

theorem State.writeCfg_low : s.writeCfg k .baseLow v =
    s.mapChan k (fun c => { c with base := c.base / 2 ^ 32 * 2 ^ 32 + v % 2 ^ 32 / 32 * 32 }) :=
  (if_neg (not_not.mpr h)).trans (if_neg (Bool.eq_false_iff.mp hen))

theorem State.writeCfg_high : s.writeCfg k .baseHigh v =
    s.mapChan k (fun c => { c with base := v % 2 ^ 32 * 2 ^ 32 + c.base % 2 ^ 32 }) :=
  (if_neg (not_not.mpr h)).trans (if_neg (Bool.eq_false_iff.mp hen))

end disabled

/-! ### Other accesses of BAR0 (R566 to R568) -/

section bar0
variable {o n : Nat}

theorem State.bar0Access_beyond (ho : 131072 < o + n) (d : Option (List Byte)) :
    s.bar0Access o n d = s.out (.pcieStatus 1) := by
  refine (if_neg (not_not.mpr h)).trans (if_pos ?_)
  rw [inBar_iff, barSize_zero]
  exact Nat.not_le.mpr ho

theorem State.bar0Access_mailbox (ho : 0x10000 ≤ o ∧ o + n ≤ 0x13000) (d : Option (List Byte)) :
    s.bar0Access o n d = s.mailboxAccess (o - 0x10000) n d := by
  refine (if_neg (not_not.mpr h)).trans ((if_neg ?_).trans (if_pos ho))
  rw [inBar_iff, barSize_zero]
  exact not_not.mpr (Nat.le_trans ho.2 (by decide))

theorem State.bar0Access_msi (ho : 0x8000 ≤ o ∧ o + n ≤ 0x8400 ∨ 0x9000 ≤ o ∧ o + n ≤ 0x9008) (d : Option (List Byte)) :
    s.bar0Access o n d = s.msiAccess o n d := by
  have hmsi : inMsi o n = true := by
    unfold inMsi
    simpa only [Bool.or_eq_true, Bool.and_eq_true, decide_eq_true_eq] using ho
  refine (if_neg (not_not.mpr h)).trans ((if_neg ?_).trans ((if_neg (by omega)).trans (if_pos hmsi)))
  rw [inBar_iff, barSize_zero]
  exact not_not.mpr (Nat.le_trans (show o + n ≤ 0x9008 by omega) (by decide))

theorem State.bar0Access_register (ho : o + n ≤ 131072) (hmbx : ¬ (0x10000 ≤ o ∧ o + n ≤ 0x13000))
    (htable : ¬ (0x8000 ≤ o ∧ o + n ≤ 0x8400)) (hbits : ¬ (0x9000 ≤ o ∧ o + n ≤ 0x9008)) (d : Option (List Byte)) :
    s.bar0Access o n d = s.registerAccess o n d := by
  have hmsi : ¬ inMsi o n = true := by
    unfold inMsi
    simp only [Bool.or_eq_true, Bool.and_eq_true, decide_eq_true_eq]
    exact not_or.mpr ⟨htable, hbits⟩
  refine (if_neg (not_not.mpr h)).trans ((if_neg ?_).trans ((if_neg hmbx).trans (if_neg hmsi)))
  rw [inBar_iff, barSize_zero]
  exact not_not.mpr ho

end bar0

end opened

theorem State.mailboxAccess_request {o : Nat} (ho : o < 0x1000) (n : Nat) (d : List Byte) :
    s.mailboxAccess o n (some d) = { s with dict := { s.dict with mbx := { s.dict.mbx with
      reqBuf := (putBytes (bytesAt s.dict.mbx.reqBuf 0 4096) o d).take 4096 } } } := if_pos ho

theorem State.mailboxAccess_go (n : Nat) {d : List Byte} (hd : bit (leNat d) 0 = true) :
    s.mailboxAccess 0x2000 n (some d) = s.mbxGo s.dict.mbx.reqBuf := if_pos ⟨rfl, hd⟩

theorem State.mailboxAccess_clear (n : Nat) (d : List Byte) :
    s.mailboxAccess 0x2004 n (some d) = s.mbxClear (bit (leNat d) 1) (bit (leNat d) 2) := rfl

theorem State.mailboxAccess_other {o n : Nat} {d : List Byte} (ho : 0x1000 ≤ o) (hgo : o = 0x2000 → bit (leNat d) 0 = false)
    (hclear : o ≠ 0x2004) : s.mailboxAccess o n (some d) = s := by
  refine (if_neg (Nat.not_lt.mpr ho)).trans ((if_neg fun hg => ?_).trans (if_neg hclear))
  exact absurd (hg.2.symm.trans (hgo hg.1)) (by decide)

theorem State.mbxClear_goes (h : s.memOk 0x2000 = true) (done ovr : Bool) : s.mbxClear done ovr =
    { s with dict := { s.dict with mbx := { s.dict.mbx with
      done := s.dict.mbx.done && !done, ovr := s.dict.mbx.ovr && !ovr } } } :=
  if_neg (not_not.mpr h)

section register
variable {o : Nat}

theorem State.registerAccess_size {n : Nat} (hn : n ≠ 4) (d : Option (List Byte)) :
    s.registerAccess o n d = s.hostMis 0x2000 0xA 0x2020 := if_pos hn

theorem State.registerAccess_read : s.registerAccess o 4 none =
    s.out (.readData (if o % 4 = 0 then (s.register o).getD 0 else 0) 4) := rfl

theorem State.registerAccess_write (d : List Byte) : s.registerAccess o 4 (some d) =
    if o % 4 = 0 ∧ (s.register o).isSome then s else s.hostMis 0x2000 0xA 0x2020 := rfl

end register

/-! ### Resets and the configuration space (R565, R566, R588, R642) -/

/-- With no descriptor in service the engines stay, and no cell is freed. -/
theorem State.channelsOff_idle (hnone : ∀ e : Fin 4, (s.engine e).xfer = none) (hlen : s.pcie.engines.length = 4) :
    s.channelsOff = { s with pcie := { s.pcie with
      chans := s.pcie.chans.map (fun c => { c with en := false, head := 0, starved := false }) } } := by
  have hall : ∀ g ∈ s.pcie.engines, g.xfer = none := by
    intro g hg
    obtain ⟨i, hi, rfl⟩ := List.mem_iff_getElem.mp hg
    have h := hnone ⟨i, hlen ▸ hi⟩
    unfold State.engine at h
    rwa [List.getD_eq_getElem _ _ hi] at h
  have hengines : s.pcie.engines.map (fun g => { g with xfer := none }) = s.pcie.engines := by
    refine (List.map_congr_left fun g hg => ?_).trans (List.map_id _)
    rw [← hall g hg]
    rfl
  unfold State.channelsOff
  dsimp only
  rw [if_pos, hengines]
  rw [List.isEmpty_iff, List.flatMap_eq_nil_iff]
  intro g hg
  rw [hall g hg]

theorem barSize_three : ∀ n : Fin 3, barSize n = if n = 0 then 2 ^ 17 else if n = 1 then 2 ^ 29 else 2 ^ 16 := by decide

theorem State.configRequest_bar (h : s.dev.st ≠ .boot) (n : Fin 3) (v : Nat) : s.configRequest (.bar n v) =
    { s with pcie := { s.pcie with bars := s.pcie.bars.set n (v % 2 ^ 32 / barSize n * barSize n) } } := if_neg h

theorem configReg_class : s.configReg 2 / 256 = 0x028000 := by
  have h : s.configReg 2 = 0x028000 * 256 + Config.pciRevision % 256 := rfl
  rw [h]
  omega

theorem configReg_bar : ∀ n : Fin 3, s.configReg (4 + n) = s.pcie.bars.getD n 0
  | 0 => rfl
  | 1 => rfl
  | 2 => rfl

/-! ### The user window and the gatherer (R597 to R599) -/

theorem State.perfOne_kept (k : Nat) : (s.perfOne k).objs = s.objs ∧ (s.perfOne k).record = s.record ∧
    (s.perfOne k).pcie.snap = s.pcie.snap := by
  have hcount (b ctl n : Nat) : (s.perfCount b ctl n).2.objs = s.objs ∧ (s.perfCount b ctl n).2.record = s.record ∧
      (s.perfCount b ctl n).2.pcie = s.pcie := by
    unfold State.perfCount
    dsimp only
    split
    · exact ⟨rfl, rfl, rfl⟩
    · split
      · exact ⟨rfl, rfl, rfl⟩
      · split <;> exact ⟨rfl, rfl, rfl⟩
  unfold State.perfOne
  dsimp only
  split
  · exact ⟨rfl, rfl, rfl⟩
  · obtain ⟨hobjs, hrecord, hpcie⟩ := hcount (k / 8) (s.perfCtl (k / 8) (k % 8))
      (cyclesAt (k / 8) s.clock.now - cyclesAt (k / 8) s.pcie.perfAt)
    have hsnap := congrArg Pcie.snap hpcie
    exact ⟨hobjs, hrecord, hsnap⟩

/-- The instant and the events' totals up to which every counter stands. -/
def State.perfMarked : State := { s with pcie := { s.pcie with perfAt := s.clock.now, perfMarks := s.perfMark } }

theorem State.perfSync_eq : s.perfSync = ((List.range 768).foldl State.perfOne s).perfMarked := rfl

theorem State.perfOnes_kept (l : List Nat) : (l.foldl State.perfOne s).objs = s.objs ∧
    (l.foldl State.perfOne s).record = s.record ∧ (l.foldl State.perfOne s).pcie.snap = s.pcie.snap := by
  induction l generalizing s with
  | nil => exact ⟨rfl, rfl, rfl⟩
  | cons k r ih =>
    obtain ⟨hobjs, hrecord, hsnap⟩ := ih (s.perfOne k)
    obtain ⟨kobjs, krecord, ksnap⟩ := s.perfOne_kept k
    exact ⟨hobjs.trans kobjs, hrecord.trans krecord, hsnap.trans ksnap⟩

theorem State.perfMarked_kept {w : State} (h : w.objs = s.objs ∧ w.record = s.record ∧ w.pcie.snap = s.pcie.snap) :
    w.perfMarked.objs = s.objs ∧ w.perfMarked.record = s.record ∧ w.perfMarked.pcie.snap = s.pcie.snap := h

theorem State.perfSync_kept : s.perfSync.objs = s.objs ∧ s.perfSync.record = s.record ∧ s.perfSync.pcie.snap = s.pcie.snap := by
  rw [State.perfSync_eq]
  exact s.perfMarked_kept (s.perfOnes_kept _)

section window
variable {o len : Nat}

theorem State.userWindowRead_away (h : s.memOk 0x2022 = false) : s.userWindowRead o len = s.turnedAway :=
  if_pos (Bool.eq_false_iff.mp h)

section admitted
variable (h : s.memOk 0x2022 = true)
include h

theorem State.userWindowRead_beyond (ho : 65536 < o + len) : s.userWindowRead o len = s.out (.pcieStatus 1) := by
  refine (if_neg (not_not.mpr h)).trans (if_pos ?_)
  rw [inBar_iff, barSize_two]
  exact Nat.not_le.mpr ho

theorem State.userWindowRead_within (ho : o + len ≤ 65536) : s.userWindowRead o len =
    if len = 8 ∧ o % 8 = 0 ∧ o / 64 < 96 ∧ bit (s.obj 0xA000 4) (o / 64 / 8) then
      s.perfSync.out (.readData (s.perfSync.perfVal (o / 8)) 8)
    else (s.out (.readData 0 len)).hostMis 0xA000 5 0x2022 := by
  refine (if_neg (not_not.mpr h)).trans (if_neg ?_)
  rw [inBar_iff, barSize_two]
  exact not_not.mpr ho

end admitted

end window

section snapshot

theorem State.counterSnapshot_not (h : s.obj 0xA000 6 = 0 ∨ timeToNs s.time80 % (s.obj 0xA000 7 * 1000) ≠ 0 ∨
    s.pcie.snapAt = timeToNs s.time80 + 1) : s.counterSnapshot = s := by
  refine if_pos (h.imp_right (Or.imp_left fun hd hl => ?_))
  exact hd (beq_iff_eq.mp hl)

/-- The latch of a snapshot noted. -/
def State.latched : State := { s with pcie := { s.pcie with snapAt := timeToNs s.time80 + 1 } }

/-- Slot `i` of the snapshots written: the body, then the number `n`; the write takes a time of its own. -/
def State.slotWritten (i n : Nat) : State :=
  let a := s.obj 0xA000 8 + i % s.obj 0xA000 9 * 6208
  let w := (s.out (.host (a + 8) s.snapshotBody false)).out (.host a (leBytes 8 n) false)
  ({ w with
    freeCtr := w.freeCtr + 1
    pcie := { w.pcie with snap := n, snapEnd := w.clock.now + Config.freeNat w.freeCtr } } : State).bump 0xA000 0xB

theorem State.slotWritten_obj (i n : Nat) : (s.slotWritten i n).obj 0xA000 0xA = s.obj 0xA000 0xA :=
  State.bump_objI_ne (by decide) (by decide)

/-- A snapshot of counters that stand at the latch: its slot, and the interrupt of its group. -/
def State.snapshotNow : State :=
  let n := s.pcie.snap + 1
  let w := s.slotWritten (n - 1) n
  if w.obj 0xA000 0xA ≠ 0 ∧ n % w.obj 0xA000 0xA = 0 then w.msix 3 else w

theorem State.snapshotNow_eq : s.snapshotNow =
    let n := s.pcie.snap + 1
    let a := s.obj 0xA000 8 + (n - 1) % s.obj 0xA000 9 * 6208
    let s := (s.out (.host (a + 8) s.snapshotBody false)).out (.host a (leBytes 8 n) false)
    let (d, s) := s.fresh
    let s := { s with pcie := { s.pcie with snap := n, snapEnd := s.clock.now + d } }
    let s := s.bump 0xA000 0xB
    if s.obj 0xA000 0xA ≠ 0 ∧ n % s.obj 0xA000 0xA = 0 then s.msix 3 else s := rfl

theorem State.counterSnapshot_eq : s.counterSnapshot =
    if s.obj 0xA000 6 = 0 ∨ ¬ s.latchDue = true ∨ s.pcie.snapAt = timeToNs s.time80 + 1 then s
    else if s.latched.clock.now < s.latched.pcie.snapEnd then s.latched.bump 0xA000 0xC
    else s.latched.perfSync.snapshotNow := by
  unfold State.counterSnapshot
  extract_lets k was u v n a w
  have hv : s.latched.perfSync = v := rfl
  rw [hv, State.snapshotNow_eq]
  rfl

section due
variable (hen : s.obj 0xA000 6 ≠ 0) (hdue : timeToNs s.time80 % (s.obj 0xA000 7 * 1000) = 0)
  (hnew : s.pcie.snapAt ≠ timeToNs s.time80 + 1)
include hen hdue hnew

theorem State.counterSnapshot_latched : s.counterSnapshot =
    if s.clock.now < s.pcie.snapEnd then s.latched.bump 0xA000 0xC else
      s.latched.perfSync.snapshotNow :=
  s.counterSnapshot_eq.trans (if_neg (not_or.mpr ⟨hen, not_or.mpr ⟨not_not.mpr (beq_iff_eq.mpr hdue), hnew⟩⟩))

theorem State.counterSnapshot_written (h : s.pcie.snapEnd ≤ s.clock.now) : s.counterSnapshot =
    if s.obj 0xA000 0xA ≠ 0 ∧ (s.pcie.snap + 1) % s.obj 0xA000 0xA = 0 then
      (s.latched.perfSync.slotWritten s.pcie.snap (s.pcie.snap + 1)).msix 3
    else s.latched.perfSync.slotWritten s.pcie.snap (s.pcie.snap + 1) := by
  obtain ⟨hobjs, hrecord, hsnap⟩ := s.latched.perfSync_kept
  have hsnap' : s.latched.perfSync.pcie.snap = s.pcie.snap := hsnap
  have hevery : s.latched.perfSync.obj 0xA000 0xA = s.obj 0xA000 0xA := State.obj_congr hobjs hrecord 0xA000 0xA
  rw [s.counterSnapshot_latched hen hdue hnew, if_neg (Nat.not_lt.mpr h)]
  unfold State.snapshotNow
  dsimp only
  rw [State.slotWritten_obj, hsnap', hevery, Nat.add_sub_cancel]

end due

end snapshot

/-- Settles O54: the statement follows the branches of the channel registers, of the accesses of BAR0, of the resets, of the
configuration requests and of the counter reads. -/
theorem channelRegistersResetsAndCounterReads : Obligations.ChannelRegistersResetsAndCounterReads := by
  unfold Obligations.ChannelRegistersResetsAndCounterReads
  refine ⟨?_, ?_, fun _ _ _ _ => ⟨_, rfl⟩, fun _ _ _ _ => ⟨_, rfl⟩, fun _ _ _ => ⟨_, rfl⟩, fun _ _ _ _ _ => ⟨_, rfl⟩,
    fun _ _ _ _ _ => ⟨_, rfl⟩, fun _ _ _ => ⟨_, rfl⟩, fun _ _ _ => ⟨_, rfl⟩, fun _ _ _ _ => ⟨_, rfl⟩, fun _ _ => ⟨_, rfl⟩⟩
  · intro s t ch v u c put no
    have hpcie : u.pcie = s.pcie := s.tick_pcie t
    refine ⟨?_, ?_, ?_⟩
    · intro hoff
      rw [← hpcie] at hoff
      have haway := u.turnedAway_off hoff
      have hno : u.memOk 0x2020 = false := u.memOk_off hoff
      exact ⟨next_settle_eq ((u.writeTail_away hno ch v).trans haway),
        fun b => next_settle_eq ((u.writeEn_away hno ch b).trans haway),
        next_settle_eq ((u.resumeChan_away hno ch).trans haway),
        fun r => next_settle_eq ((u.writeCfg_away hno ch r v).trans haway),
        fun o n d => next_settle_eq ((u.bar0Access_away hno o n d).trans haway)⟩
    · intro hon hno
      rw [← hpcie] at hon
      have haway := u.turnedAway_ignored hon
      exact ⟨next_settle_eq ((u.writeTail_away hno ch v).trans haway),
        fun b => next_settle_eq ((u.writeEn_away hno ch b).trans haway),
        next_settle_eq ((u.resumeChan_away hno ch).trans haway),
        fun r => next_settle_eq ((u.writeCfg_away hno ch r v).trans haway),
        fun o n d => next_settle_eq ((u.bar0Access_away hno o n d).trans haway)⟩
    · intro hok
      refine ⟨fun h => next_settle_eq (u.writeTail_beyond hok h), fun h => next_settle_eq (u.writeTail_within hok h),
        next_settle_eq (u.writeEn_rise hok ch), next_settle_eq (u.writeEn_fall hok ch),
        next_settle_eq (u.resumeChan_goes hok ch), fun r h => next_settle_eq (u.writeCfg_enabled hok h r v),
        fun h => next_settle_eq (u.writeCfg_cfg hok h v), fun h => next_settle_eq (u.writeCfg_low hok h v),
        fun h => next_settle_eq (u.writeCfg_high hok h v), ?_⟩
      intro o n data goes reads mbx table bits_
      refine ⟨?_, ?_, ?_, ?_, ?_, ?_, ?_, ?_⟩
      · intro ho
        exact next_settle_eq (u.bar0Access_beyond hok ho data)
      · rintro hm rfl
        exact next_settle_eq (u.bar0Access_mailbox hok hm none)
      · rintro d hm rfl
        have hbox := u.bar0Access_mailbox hok hm (some d)
        refine ⟨?_, ?_, ?_, ?_, ?_⟩
        · intro ho
          exact next_settle_eq (hbox.trans (u.mailboxAccess_request (by omega) n d))
        · rintro rfl hclear
          exact next_settle_eq (hbox.trans ((u.mailboxAccess_clear n d).trans (u.mbxClear_goes hclear _ _)))
        · rintro rfl hgo
          exact next_settle_eq (hbox.trans (u.mailboxAccess_go n hgo))
        · rintro rfl hgo
          exact next_settle_eq (hbox.trans (u.mailboxAccess_other (by decide) (fun _ => hgo) (by decide)))
        · intro ho hgo hclear
          exact next_settle_eq (hbox.trans (u.mailboxAccess_other (by omega) (fun h => absurd h (by omega)) (by omega)))
      · rintro ht rfl
        refine next_settle_eq ((u.bar0Access_msi hok (.inl ht) none).trans ?_)
        have ho : o < 0x9000 := by omega
        unfold State.msiAccess
        dsimp only
        rw [if_pos ho]
      · rintro d ht rfl
        exact next_settle_eq ((u.bar0Access_msi hok (.inl ht) (some d)).trans (if_pos (by omega)))
      · rintro hb rfl
        refine next_settle_eq ((u.bar0Access_msi hok (.inr hb) none).trans ?_)
        have ho : ¬ o < 0x9000 := by omega
        unfold State.msiAccess
        dsimp only
        rw [if_neg ho]
      · rintro d hb rfl
        exact next_settle_eq ((u.bar0Access_msi hok (.inr hb) (some d)).trans (if_neg (by omega)))
      · intro ho hm ht hb
        have hreg := u.bar0Access_register hok ho hm ht hb data
        refine ⟨?_, ?_, ?_, ?_, ?_⟩
        · intro hn
          exact next_settle_eq (hreg.trans (u.registerAccess_size hn data))
        · rintro rfl rfl h
          refine next_settle_eq (hreg.trans (u.registerAccess_read.trans ?_))
          rcases h with h | h
          · rw [if_neg h]
          · rw [h, Option.getD_none, ite_self]
        · rintro w rfl rfl ho4 hw
          refine next_settle_eq (hreg.trans (u.registerAccess_read.trans ?_))
          rw [if_pos ho4, hw, Option.getD_some]
        · rintro d rfl rfl ho4 hw
          exact next_settle_eq (hreg.trans ((u.registerAccess_write d).trans (if_pos ⟨ho4, Option.isSome_iff_ne_none.mpr hw⟩)))
        · rintro d rfl rfl h
          refine next_settle_eq (hreg.trans ((u.registerAccess_write d).trans (if_neg fun hd => ?_)))
          rcases h with h | h
          · exact h hd.1
          · exact Option.isSome_iff_ne_none.mp hd.2 h
  · intro s t u off reset
    have hpcie : u.pcie = s.pcie := s.tick_pcie t
    have hdev : u.dev = s.dev := s.tick_dev t
    refine ⟨rfl, rfl, ?_, ?_, ?_, ?_, ?_⟩
    · intro hnone hlen
      have hnoneu (e : Fin 4) : (u.engine e).xfer = none := by
        unfold State.engine
        rw [hpcie]
        exact hnone e
      refine (u.channelsOff_idle hnoneu (by rw [hpcie, hlen])).trans ?_
      rw [hpcie]
    · intro hboot r
      rw [← hdev] at hboot
      exact next_settle_eq (if_pos hboot)
    · intro hrun
      rw [← hdev] at hrun
      refine ⟨fun r => next_settle_eq (if_neg hrun), rfl, ?_, ?_, ?_, fun on mask => next_settle_eq (if_neg hrun),
        fun b => next_settle_eq (if_neg hrun), fun a w => next_settle_eq (if_neg hrun),
            fun m r b => next_settle_eq (if_neg hrun)⟩
      · exact configReg_class u
      · exact configReg_bar u
      · intro n v size
        refine next_settle_eq ((u.configRequest_bar hrun n v).trans ?_)
        rw [barSize_three n]
    · intro o len
      refine ⟨?_, ?_, ?_, ?_, ?_⟩
      · intro hoff
        rw [← hpcie] at hoff
        exact next_settle_eq ((u.userWindowRead_away (u.memOk_off hoff)).trans (u.turnedAway_off hoff))
      · intro hon hno
        rw [← hpcie] at hon
        exact next_settle_eq ((u.userWindowRead_away hno).trans (u.turnedAway_ignored hon))
      · intro hok ho
        exact next_settle_eq (u.userWindowRead_beyond hok ho)
      · rintro hok rfl ho8 ho hbit
        have hgroup : o / 64 / 8 = o / 512 := by omega
        refine next_settle_eq ((u.userWindowRead_within hok (by omega)).trans (if_pos ⟨rfl, ho8, by omega, ?_⟩))
        rw [hgroup]
        exact hbit
      · intro hok ho h
        have hgroup : o / 64 / 8 = o / 512 := by omega
        refine next_settle_eq ((u.userWindowRead_within hok ho).trans (if_neg ?_))
        rintro ⟨hlen, ho8, ho96, hbit⟩
        rw [hgroup] at hbit
        rcases h with h | h | h | h
        · exact h hlen
        · exact h ho8
        · omega
        · exact absurd (hbit.symm.trans h) (by decide)
    · intro ns interval every goes
      refine ⟨?_, ?_⟩
      · intro h
        rw [← hpcie] at h
        exact next_settle_eq (u.counterSnapshot_not h)
      · intro hen hdue hnew at_
        rw [← hpcie] at hnew
        refine ⟨?_, ?_⟩
        · intro h
          rw [← hpcie] at h
          exact next_settle_eq ((u.counterSnapshot_latched hen hdue hnew).trans (if_pos h))
        · intro h v a w x
          rw [← hpcie] at h
          have hwritten := u.counterSnapshot_written hen hdue hnew h
          have hv : u.latched.perfSync = v := rfl
          rw [hpcie, hv] at hwritten
          clear_value v
          refine ⟨?_, ?_⟩
          · intro hevery hgroup
            exact next_settle_eq (hwritten.trans (if_pos ⟨hevery, hgroup⟩))
          · intro hnot
            refine next_settle_eq (hwritten.trans (if_neg ?_))
            rintro ⟨hevery, hgroup⟩
            rcases hnot with hnot | hnot
            · exact hevery hnot
            · exact hnot hgroup

end Sys2Proof.Machine
end

section
/-! PROOFS. Descriptors are fetched, moved and completed (O55). Each function of the DMA engines is an equation per case:
`State.descriptorFetch_*`, `State.tryLock_*`, `State.lockRetry_*`, `State.dma*_*`, `State.withdraws_*`. Transaction
records leave the channels, so that an abort's code goes to the ring where the descriptor stood. -/

namespace Sys2Proof.Machine

/-! ### Transaction records leave the PCIe side -/

section records
variable (s : State)

theorem State.abandon_pcie (tag cause result : Nat) : (s.abandon tag cause result).pcie = s.pcie := by
  unfold State.abandon
  dsimp only
  split
  · rfl
  · simp

theorem State.refuse_pcie (tag a : Nat) : (s.refuse tag a).1.pcie = s.pcie := by
  unfold State.refuse
  split
  · split
    · exact s.abandon_pcie _ _ _
    · rfl
  · rfl

theorem State.keystone_pcie (tag : Nat) : (s.keystone tag).1.pcie = s.pcie := by
  unfold State.keystone
  split
  · rfl
  · dsimp only
    split
    · exact State.abandon_pcie _ _ _ _
    · rfl

theorem State.thenKeystone_pcie (r : TxRec) (a : TxAns) : (s.thenKeystone r a).1.pcie = s.pcie := by
  cases a with
  | done =>
    show (if r.key then s.keystone r.tag else (s, .done)).1.pcie = s.pcie
    split
    · exact s.keystone_pcie r.tag
    · rfl
  | abort c => exact s.refuse_pcie r.tag c
  | wait => rfl

theorem State.txOpen_pcie (requester tag : Nat) : (s.txOpen requester tag).1.pcie = s.pcie := by
  simp only [State.txOpen, apply_ite Prod.fst, apply_ite State.pcie, ite_self]

theorem State.txWrite_pcie (w : TxWork) (records : Nat) (r : TxRec) : (s.txWrite w records r).1.pcie = s.pcie := by
  unfold State.txWrite
  dsimp only
  split
  · rfl
  · split
    · rfl
    · split
      · rfl
      · simp only [State.laid, apply_ite Prod.fst, apply_ite State.pcie, ite_self]

theorem State.txProgram_pcie (w : TxWork) (records : Nat) (r : TxRec) : (s.txProgram w records r).1.pcie = s.pcie := by
  unfold State.txProgram
  dsimp only
  split
  · rfl
  · split
    · rfl
    · simp only [State.laid, apply_ite Prod.fst, apply_ite State.pcie, ite_self]

theorem State.txGrat_pcie (w : TxWork) (records : Nat) (r : TxRec) : (s.txGrat w records r).1.pcie = s.pcie := by
  unfold State.txGrat
  dsimp only
  split
  · rfl
  · split
    · rfl
    · split
      · rfl
      · rfl

theorem State.txAct_pcie (w : TxWork) (records : Nat) (r : TxRec) : (s.txAct w records r).1.pcie = s.pcie := by
  unfold State.txAct
  split
  · exact (State.thenKeystone_pcie _ r _).trans (s.txWrite_pcie w records r)
  · exact (State.thenKeystone_pcie _ r _).trans (s.txProgram_pcie w records r)
  · exact (State.thenKeystone_pcie _ r _).trans (s.txGrat_pcie w records r)
  · exact s.keystone_pcie r.tag
  · exact s.abandon_pcie r.tag 1 0

theorem State.txServe_pcie (requester : Nat) (r : TxRec) : (s.txServe requester r).1.pcie = s.pcie := by
  unfold State.txServe
  split
  · dsimp only
    split
    · exact (State.refuse_pcie _ _ _).trans (s.txOpen_pcie requester r.tag)
    · exact s.txOpen_pcie requester r.tag
  · split
    · rfl
    · split
      · exact State.txAct_pcie _ _ _ _
      · rfl

theorem keepRec_pcie (tag : Nat) (bs : List Byte) (x : State × TxAns) : (keepRec tag bs x).1.pcie = x.1.pcie := by
  unfold keepRec
  split
  · rfl
  · rfl

theorem State.txRecord_pcie (requester : Nat) (bs : List Byte) : (s.txRecord requester bs).1.pcie = s.pcie := by
  unfold State.txRecord
  dsimp only
  split
  · exact s.refuse_pcie _ _
  · split
    · exact s.refuse_pcie _ _
    · split
      · exact s.refuse_pcie _ _
      · exact (keepRec_pcie _ _ _).trans (s.txServe_pcie requester _)

theorem State.dmaRecord_pcie (e : Nat) (rest : List Byte) : (s.dmaRecord e rest).1.pcie = s.pcie := by
  unfold State.dmaRecord
  dsimp only
  split
  · exact s.refuse_pcie _ _
  · exact s.txRecord_pcie _ _

end records

/-! ### Engines and locks -/

theorem modAt_twice {α : Type} (l : List α) (i : Nat) (f g : α → α) : modAt (modAt l i f) i g = modAt l i (g ∘ f) := by
  induction l generalizing i with
  | nil => rfl
  | cons a l ih => cases i with
    | zero => rfl
    | succ i => exact congrArg (a :: ·) (ih i)

/-- The descriptor put into an engine last is the one in service. -/
theorem State.setXfer_twice (s : State) (e : Nat) (x y : Xfer) : (s.setXfer e x).setXfer e y = s.setXfer e y := by
  show ({ s with pcie := { s.pcie with engines := modAt (modAt s.pcie.engines e _) e _ } } : State) = _
  rw [modAt_twice]
  rfl

section trying
variable {s : State} {e : Fin 4} {x : Xfer}

theorem State.tryLock_untargeted (h : x.desc.target = none) : s.tryLock e x = s.setXfer e { x with lockFrom := none } := by
  simp only [State.tryLock, h]

theorem State.tryLock_granted {l : LockTarget} (h : x.desc.target = some l)
    (hheld : (s.tables.lock l (.dma e) s.clock.now).holds l (.dma e) = true) :
    s.tryLock e x = (s.setTables (s.tables.lock l (.dma e) s.clock.now)).setXfer e { x with lockFrom := none } := by
  simp only [State.tryLock, h, engineHolder, hheld, if_true]

theorem State.tryLock_refused {l : LockTarget} (h : x.desc.target = some l)
    (hheld : (s.tables.lock l (.dma e) s.clock.now).holds l (.dma e) = false) :
    s.tryLock e x = s.setXfer e { x with lockFrom := some (x.lockFrom.getD s.clock.now), lockTry := s.clock.now } := by
  simp [State.tryLock, h, engineHolder, hheld]

end trying

/-! ### Fetching -/

section fetching
variable {s : State} {e : Fin 4} {bytes : List Byte}

theorem State.descriptorFetch_idle (h : (s.engine e).xfer ≠ none ∨ s.sourceHeld 13 (engineId e) = true ∨ s.nextChan e = none) :
    s.descriptorFetch e bytes = s := by
  unfold State.descriptorFetch
  dsimp only
  by_cases hbusy : (s.engine e).xfer.isSome ∨ s.sourceHeld 13 (engineId e)
  · exact if_pos hbusy
  · rw [if_neg hbusy]
    have hnone : s.nextChan e = none := by
      rcases h with h | h | h
      · exact absurd (Or.inl (Option.isSome_iff_ne_none.mpr h)) hbusy
      · exact absurd (Or.inr h) hbusy
      · exact h
    simp only [hnone]

variable {k : Nat} (hfree : (s.engine e).xfer = none) (hheld : s.sourceHeld 13 (engineId e) = false)
  (hnext : s.nextChan e = some k)
include hfree hheld hnext

theorem State.descriptorFetch_unposted (h : (Desc.ofBytes bytes).own = false) :
    s.descriptorFetch e bytes = s.mapChan k (fun c => { c with starved := true }) := by
  simp [State.descriptorFetch, hfree, hheld, hnext, h]

/-- What an engine puts in service as it takes an owned descriptor. -/
def Chan.taken (c : Chan) (k : Nat) (d : Desc) : Xfer :=
  { ch := k, idx := c.head, desc := d, moved := 0, err := if d.malformed c.kind then 3 else 0, trunc := false
    wdrn := false, ended := d.malformed c.kind, begun := false, lockFrom := none, lockTry := 0, firstAt := none
    cells := [], mark := 0 }

theorem State.descriptorFetch_plain (h : (Desc.ofBytes bytes).own = true)
    (hacq : (Desc.ofBytes bytes).acq = false ∨ (Desc.ofBytes bytes).malformed (s.chan k).kind = true) :
    s.descriptorFetch e bytes = (s.mapChan k (fun c => { c with head := (c.head + 1) % c.size })).setXfer e
      ((s.chan k).taken k (Desc.ofBytes bytes)) := by
  have hno : ¬ ((Desc.ofBytes bytes).acq = true ∧ ¬ (Desc.ofBytes bytes).malformed (s.chan k).kind = true) := by
    rintro ⟨ha, hm⟩
    rcases hacq with hacq | hacq
    · exact absurd ha (by simp [hacq])
    · exact hm hacq
  unfold State.descriptorFetch
  dsimp only
  rw [if_neg (by simp [hfree, hheld]), hnext]
  dsimp only
  rw [if_neg (by simp [h]), if_neg hno]
  rfl

theorem State.descriptorFetch_locks (h : (Desc.ofBytes bytes).own = true) (hacq : (Desc.ofBytes bytes).acq = true)
    (hgood : (Desc.ofBytes bytes).malformed (s.chan k).kind = false) :
    s.descriptorFetch e bytes = ((s.mapChan k (fun c => { c with head := (c.head + 1) % c.size })).setXfer e
      ((s.chan k).taken k (Desc.ofBytes bytes))).tryLock e ((s.chan k).taken k (Desc.ofBytes bytes)) := by
  unfold State.descriptorFetch
  dsimp only
  rw [if_neg (by simp [hfree, hheld]), hnext]
  dsimp only
  rw [if_neg (by simp [h]), if_pos ⟨hacq, by simp [hgood]⟩]
  rfl

end fetching

/-! ### Completion -/

/-- The error code with which a descriptor ends: its own before the host's. -/
theorem endCode_eq (x : Xfer) (err : HostErr) :
    (if x.err = 0 then hostErrCode err else x.err) = if x.err ≠ 0 then x.err else hostErrCode err := by
  by_cases h : x.err = 0
  · simp [h]
  · simp [h]

theorem Chan.stop_eq (code idx : Nat) (c : Chan) :
    (if errStops code then { c with done := (c.done + 1) % 2 ^ 32, stopped := true, stopErr := code, stopIdx := idx }
      else { c with done := (c.done + 1) % 2 ^ 32 }) =
    { c with
      done := (c.done + 1) % 2 ^ 32, stopped := c.stopped || errStops code
      stopErr := if errStops code then code else c.stopErr, stopIdx := if errStops code then idx else c.stopIdx } := by
  by_cases h : errStops code = true
  · simp [h]
  · simp [h]

theorem State.countErr_eq (s : State) (e code : Nat) :
    s.countErr e code = if code = 1 ∨ code = 2 then s.hostMis 0x2003 5 (engineId e)
      else if code = 3 then s.hostMis 0x2003 4 (engineId e)
      else if code = 5 then s.bump 0x2003 4 else if code = 7 then s.bump 0x2003 5 else s := by
  unfold State.countErr
  split <;> simp_all

theorem State.countAer_eq (s : State) (err : HostErr) :
    s.countAer err = if err = .poisoned ∨ err = .timeout then s.bump 0x2000 8 else s := by
  cases err <;> rfl

theorem State.relLock_chan (s : State) (e : Fin 4) (x : Xfer) (k : Nat) : (s.relLock e x).chan k = s.chan k := by
  unfold State.relLock
  split
  · split <;> rfl
  · rfl

/-- What a channel keeps of a descriptor returned with a code. -/
def Chan.returned (c : Chan) (code idx : Nat) : Chan :=
  { c with
    done := (c.done + 1) % 2 ^ 32, stopped := c.stopped || errStops code
    stopErr := if errStops code then code else c.stopErr, stopIdx := if errStops code then idx else c.stopIdx }

/-- The words of a descriptor returned: its fence, its result word, its status word. -/
def State.returnWords (s : State) (x : Xfer) (c : Chan) : State :=
  let fenced := if x.desc.fence ∧ toHost x.desc.op ∧ 0 < x.moved then
    s.out (.hostFence (x.desc.addr + x.moved - 1)) else s
  (fenced.out (.host (c.base + 32 * x.idx + 24) (leBytes 4 (x.desc.length - x.moved)) false)).out
    (.host (c.base + 32 * x.idx + 28) (leBytes 4 (x.status c.done)) false)

/-- The cells of a descriptor returned go back to the pool. -/
def State.returnCells (s : State) (x : Xfer) : State :=
  if x.cells.isEmpty then s else s.freeCells 0 (x.cells.map (fun n => (n, 5)))

/-- A descriptor whose data part has ended, or whose transfer meets an error of the host, is returned. -/
theorem State.descriptorComplete_returns {s : State} {e : Fin 4} {x : Xfer} {err : HostErr} {code : Nat}
    (hx : (s.engine e).xfer = some x) (hgo : x.ended = true ∨ err ≠ .none)
    (hcode : (if x.err ≠ 0 then x.err else hostErrCode err) = code) :
    s.descriptorComplete e err =
      let y := { x with err := code }
      let c := s.chan x.ch
      let counted := (((((((s.relLock e y).returnWords y c).mapChan x.ch (fun c => c.returned code x.idx)).mapEngine e
        (fun _ => ⟨none, x.ch⟩)).returnCells x).countErr e code).countAer err)
      if x.desc.irq ∧ 4 ≤ c.vector then counted.msix c.vector else counted := by
  have hgo' : ¬ ((¬ x.ended = true) ∧ err = .none) := fun ⟨ho, he⟩ => hgo.elim ho (· he)
  have hstop : (fun c : Chan => if errStops code then
      { c with done := (c.done + 1) % 2 ^ 32, stopped := true, stopErr := code, stopIdx := x.idx }
      else { c with done := (c.done + 1) % 2 ^ 32 }) = fun c => c.returned code x.idx :=
    funext (Chan.stop_eq code x.idx)
  simp only [State.descriptorComplete, hx, if_neg hgo', endCode_eq, hcode, State.descAddr, State.relLock_chan, hstop]
  rfl

/-! ### Lock retries, withdrawal, flush -/

theorem tick_not_le {a b : Tick} (h : b < a) : ¬ a ≤ b := Nat.not_le.mpr h

section service
variable {s : State} {e : Fin 4} {x : Xfer} (hx : (s.engine e).xfer = some x)
include hx

theorem State.lockRetry_unasked (h : x.lockFrom = none) : s.lockRetry e = s := by
  simp only [State.lockRetry, hx, h]

variable {t0 : Tick} (hfrom : x.lockFrom = some t0)

include hfrom in
theorem State.lockRetry_over (h : t0 + 100 * Config.us ≤ s.clock.now) :
    s.lockRetry e = s.setXfer e { x with lockFrom := none, err := 6, ended := true } := by
  simp only [State.lockRetry, hx, hfrom, if_pos h]

include hfrom in
theorem State.lockRetry_early (h : s.clock.now < t0 + 100 * Config.us) (hsoon : s.clock.now < x.lockTry + Config.us) :
    s.lockRetry e = s := by
  simp only [State.lockRetry, hx, hfrom, if_neg (tick_not_le h), if_neg (tick_not_le hsoon)]

include hfrom in
theorem State.lockRetry_due (h : s.clock.now < t0 + 100 * Config.us) (hdue : x.lockTry + Config.us ≤ s.clock.now) :
    s.lockRetry e = s.tryLock e x := by
  simp only [State.lockRetry, hx, hfrom, if_neg (tick_not_le h), if_pos hdue]

theorem State.transferWithdrawn_stays (h : x.begun = false ∨ x.wdrn = true ∨ s.withdraws x = false) :
    s.transferWithdrawn e = s := by
  have hno : ¬ (x.begun = true ∧ ¬ x.wdrn = true ∧ s.withdraws x = true) := by
    rintro ⟨hb, hw, hd⟩
    rcases h with h | h | h
    · exact absurd hb (by simp [h])
    · exact hw h
    · exact absurd hd (by simp [h])
  simp only [State.transferWithdrawn, hx, if_neg hno]

theorem State.transferWithdrawn_goes (hbegun : x.begun = true) (hwdrn : x.wdrn = false) (h : s.withdraws x = true) :
    s.transferWithdrawn e = s.withdrawn e x := by
  simp [State.transferWithdrawn, hx, hbegun, hwdrn, h]

theorem State.serving_open {op : Nat} (hop : x.desc.op = op) (hopen : x.ended = false) (hlock : x.lockFrom = none) :
    s.serving e op = some x := by
  simp [State.serving, hx, hop, hopen, hlock]

end service

section withdrawing
variable {s : State} {x : Xfer}

theorem State.withdraws_other (h1 : x.desc.op ≠ 1) (h2 : x.desc.op ≠ 2) (h3 : x.desc.op ≠ 0x21) : s.withdraws x = false := by
  unfold State.withdraws
  split
  · exact absurd ‹x.desc.op = 1› h1
  · exact absurd ‹x.desc.op = 2› h2
  · exact absurd ‹x.desc.op = 0x21› h3
  · rfl

theorem State.withdraws_punt (h : x.desc.op = 1) : s.withdraws x = !(s.chan x.ch).en := by
  simp only [State.withdraws, h]

theorem State.withdraws_inject (h : x.desc.op = 2) :
    s.withdraws x = (!x.ended && decide (x.mark < 2 ^ 20) && s.noInject x.mark) := by
  simp only [State.withdraws, h]

theorem State.withdraws_samples_kept (h : x.desc.op = 0x21) (hle : s.obj (0x5310 + x.desc.arg / 2 ^ 60) 5 ≤ x.mark) :
    s.withdraws x = false := by
  simp only [State.withdraws, h, Nat.sub_eq_zero_of_le hle, Nat.min_zero, List.range_zero, List.any_nil]

theorem State.withdraws_samples_written {j : Nat} (h : x.desc.op = 0x21) (hj : j < 8388608)
    (hwritten : x.mark + j < s.obj (0x5310 + x.desc.arg / 2 ^ 60) 5)
    (hin : (x.mark + j + 8388608 - x.desc.arg % 8388608) % 8388608 < x.desc.length / 16) : s.withdraws x = true := by
  simp only [State.withdraws, h]
  exact List.any_eq_true.mpr ⟨j, List.mem_range.mpr (by omega), decide_eq_true hin⟩

end withdrawing

/-! ### What each op moves -/

section moving
variable {s : State} {e : Fin 4} {x : Xfer}

theorem State.dmaPunt_serves {p : Punt} (hs : s.serving e 1 = some x) (hp : s.puntOf (s.chan x.ch).ring = some p) :
    s.dmaPunt e = ({ s with flow := { s.flow with
        punts := dropFirst (fun q => s.puntRing q == (s.chan x.ch).ring) s.flow.punts } } : State).moveOut e
      { x with trunc := decide (x.desc.length < p.bytes.length), cells := p.cells }
      (if decide (x.desc.length < p.bytes.length) then
        (putBytes p.bytes 12 (beBytes 2 (x.desc.length - 48))).take x.desc.length else p.bytes) := by
  simp only [State.dmaPunt, hs, hp]

theorem State.dmaTimestamp_serves (hs : s.serving e 3 = some x) {k : Nat}
    (hk : min s.lines.stamps.length ((x.desc.length - x.moved) / 32) = k) :
    s.dmaTimestamp e = if k = 0 then s else
      (({ s with lines := { s.lines with stamps := s.lines.stamps.drop k } } : State).hostWrite (x.desc.addr + x.moved)
        (s.lines.stamps.take k).flatten).setXfer e
          { x with moved := x.moved + 32 * k, begun := true, ended := x.moved + 32 * k == x.desc.length
                   firstAt := some (x.firstAt.getD s.clock.now) } := by
  simp only [State.dmaTimestamp, hs, hk]

theorem State.timestampFlush_empty (hs : s.serving e 3 = some x) (hfirst : x.firstAt = none) : s.timestampFlush e = s := by
  simp only [State.timestampFlush, hs, hfirst]

theorem State.timestampFlush_from {t0 : Tick} (hs : s.serving e 3 = some x) (hfirst : x.firstAt = some t0) :
    s.timestampFlush e = if t0 + 100 * Config.us ≤ s.clock.now then s.setXfer e { x with ended := true } else s := by
  simp only [State.timestampFlush, hs, hfirst]

theorem State.dmaTableRead_serves (hs : s.serving e 0x11 = some x) {l : List Nat}
    (hl : (List.range (x.desc.length / entryBytes (x.desc.arg % 65536))).map (x.desc.arg / 65536 % 2 ^ 32 + ·) = l) :
    s.dmaTableRead e = if l.any (fun i => s.tables.poisoned (x.desc.arg % 65536) (s.tables.lineOf (x.desc.arg % 65536) i))
      then s.failXfer e x 7
      else s.moveOut e x (l.flatMap (fun i =>
        beBytes (entryBytes (x.desc.arg % 65536)) (verAt s.tables.vers (x.desc.arg % 65536) i s.tx.commit))) := by
  simp only [State.dmaTableRead, hs, hl]

theorem State.dmaBucketRead_serves (hs : s.serving e 0x12 = some x) :
    s.dmaBucketRead e = s.moveOut e x ((List.range (x.desc.length / 256)).flatMap (fun i => s.bucketBytes (x.desc.arg +
        i))) := by
  simp only [State.dmaBucketRead, hs]

theorem State.dmaCounterRead_serves (hs : s.serving e 0x14 = some x) :
    s.dmaCounterRead e = s.moveOut e x (s.pairBytes (8 * x.desc.arg) (x.desc.length / 16)) := by
  simp only [State.dmaCounterRead, hs]

theorem State.dmaStatsCounters_serves (hs : s.serving e 0x20 = some x) :
    s.dmaStatsCounters e =
      (s.bumpN 0xA100 4 (x.desc.length / 16)).moveOut e x (s.pairBytes x.desc.arg (x.desc.length / 16)) := by
  simp only [State.dmaStatsCounters, hs]

theorem State.dmaStatsSamples_serves (hs : s.serving e 0x21 = some x) :
    s.dmaStatsSamples e = (s.bumpN 0xA100 5 (x.desc.length / 16)).moveOut e
      { x with mark := s.obj (0x5310 + x.desc.arg / 2 ^ 60) 5 }
      ((List.range (x.desc.length / 16)).flatMap (fun i =>
        leBytes 16 (nget s.sched.samples (x.desc.arg / 2 ^ 60 * 8388608 + (x.desc.arg + i) % 8388608) 0))) := by
  simp only [State.dmaStatsSamples, hs]

variable {data : List Byte}

/-- A bucket of no table takes no entry. -/
theorem State.slotWrite_unsized {b : Nat} (h : s.bucketTable b = none) (i v : Nat) : s.slotWrite b i v = s := by
  simp only [State.slotWrite, h]

theorem State.bucketWrite_unsized {b : Nat} (h : s.bucketTable b = none) : s.bucketWrite b data = s := by
  have hfold (l : List Nat) : l.foldl (fun s i => s.slotWrite b i (leAt data (32 * i) 32)) s = s := by
    induction l with
    | nil => rfl
    | cons i l ih => rw [List.foldl_cons, State.slotWrite_unsized h, ih]
  exact hfold _

theorem State.dmaBucketWrite_taken (hs : s.serving e 0x13 = some x)
    (h : s.bucketTable x.desc.arg = none ∨ s.tables.holds (bucketTarget x.desc.arg) (.dma e) = true) :
    s.dmaBucketWrite e data = ((s.readBuffer x).bucketWrite x.desc.arg (bytesAt data 0 256)).setXfer e
      { x with moved := 256, begun := true, ended := true } := by
  have htake : (s.bucketTable x.desc.arg).isNone ∨ s.tables.holds (bucketTarget x.desc.arg) (engineHolder e) = true :=
    h.imp_left Option.isNone_iff_eq_none.mpr
  simp only [State.dmaBucketWrite, hs, if_pos htake]

theorem State.dmaBucketWrite_unlocked (hs : s.serving e 0x13 = some x) (htable : s.bucketTable x.desc.arg ≠ none)
    (hlock : s.tables.holds (bucketTarget x.desc.arg) (.dma e) = false) :
    s.dmaBucketWrite e data = (s.noLock (.dma e)).failXfer e x 6 := by
  have hno : ¬ ((s.bucketTable x.desc.arg).isNone ∨ s.tables.holds (bucketTarget x.desc.arg) (engineHolder e) = true) := by
    rintro (h | h)
    · exact htable (Option.isNone_iff_eq_none.mp h)
    · exact absurd h (by simp [engineHolder, hlock])
  simp only [State.dmaBucketWrite, hs, if_neg hno]
  rfl

theorem State.dmaCounterWrite_serves (hs : s.serving e 0x15 = some x) :
    s.dmaCounterWrite e data = if s.tables.holds (blockTarget x.desc.arg) (.dma e) then
        ((s.readBuffer x).blockWrite x.desc.arg (bytesAt data 0 128)).setXfer e
          { x with moved := 128, begun := true, ended := true }
      else (s.noLock (.dma e)).failXfer e x 6 := by
  simp only [State.dmaCounterWrite, hs]
  rfl

/-- A read of the host buffer sends requests and does nothing else. -/
theorem State.readBuffer_outbox (s : State) (x : Xfer) : ∃ o, s.readBuffer x = { s with outbox := o } := by
  have hfold (l : List (Nat × Nat)) (s : State) :
      ∃ o, l.foldl (fun s p => s.out (.hostRead p.1 p.2)) s = { s with outbox := o } := by
    induction l generalizing s with
    | nil => exact ⟨s.outbox, rfl⟩
    | cons p l ih => exact ih (s.out (.hostRead p.1 p.2))
  unfold State.readBuffer
  split
  · exact ⟨s.outbox, rfl⟩
  · exact hfold _ s

theorem State.readBuffer_bucketTable (s : State) (x : Xfer) (b : Nat) : (s.readBuffer x).bucketTable b = s.bucketTable b := by
  obtain ⟨o, ho⟩ := s.readBuffer_outbox x
  rw [ho]
  rfl

end moving

/-! ### Inject frames -/

/-- The cells for an ingress-mode frame, or none while the allocator is busy. -/
def State.injectCells (s : State) (d : List Byte) : Option (List Nat) × State :=
  if s.allocBusy 1 then (none, s) else s.allocCells 1 (cellsOf (beAt d 8 2)) 5

/-- The token of an inject frame that asks for its timestamp. -/
def injectToken (d : List Byte) : Option Nat := if bit (beAt d 3 1) 0 then some (beAt d 12 4) else none

/-- An inject frame on its queue. -/
def State.injectTo (s : State) (d : List Byte) : Bool × State :=
  s.admitInject (beAt d 4 4) (bytesAt d 32 (beAt d 8 2)) (bytesAt d 16 16) (beAt d 10 1) (injectToken d)

section inject
variable {s : State} {e : Fin 4} {x : Xfer} {data d : List Byte} (hs : s.serving e 2 = some x)
  (hd : bytesAt data 0 x.desc.length = d)
include hs hd

theorem State.dmaInject_short (h : x.desc.length < 32) : s.dmaInject e data = (s.readBuffer x).failXfer e x 5 := by
  simp only [State.dmaInject, hs, hd, if_pos h, State.injectRefused]

variable (hlong : 32 ≤ x.desc.length)
include hlong

theorem State.dmaInject_bad (h : injectBad d = true) :
    s.dmaInject e data = ((s.readBuffer x).bump 0x4001 8).failXfer e x 5 := by
  simp only [State.dmaInject, hs, hd, if_neg (Nat.not_lt.mpr hlong), h, if_true, State.injectRefused]

variable (hgood : injectBad d = false)
include hgood

theorem State.dmaInject_misfit (h : x.desc.length ≠ 32 + beAt d 8 2) :
    s.dmaInject e data = (s.readBuffer x).failXfer e x 5 := by
  simp only [State.dmaInject, hs, hd, if_neg (Nat.not_lt.mpr hlong), hgood, Bool.false_eq_true, if_false, if_pos h,
    State.injectRefused]

variable (hfit : x.desc.length = 32 + beAt d 8 2)
include hfit

theorem State.dmaInject_ingress_waits {v : State} (hmode : beAt d 1 1 = 2)
    (hcells : (s.readBuffer x).injectCells d = (none, v)) :
    s.dmaInject e data = v.setXfer e { x with begun := true, mark := 2 ^ 20 } := by
  have hlen : (injectFrame e d).data.length = beAt d 8 2 := bytesAt_length d 32 (beAt d 8 2)
  unfold State.injectCells at hcells
  simp only [State.dmaInject, hs, hd, if_neg (Nat.not_lt.mpr hlong), hgood, Bool.false_eq_true, if_false,
    if_neg (not_not_intro hfit), hmode, show ¬ (2 = 1) by decide, hlen, hcells]

theorem State.dmaInject_ingress_goes {l : List Nat} {v : State} (hmode : beAt d 1 1 = 2)
    (hcells : (s.readBuffer x).injectCells d = (some l, v)) :
    s.dmaInject e data =
      ({ v with flow := { v.flow with injectIn := v.flow.injectIn ++ [(injectFrame e d, l)] } } : State).setXfer e
        { x with moved := x.desc.length, begun := true, ended := true, mark := 2 ^ 20 } := by
  have hlen : (injectFrame e d).data.length = beAt d 8 2 := bytesAt_length d 32 (beAt d 8 2)
  unfold State.injectCells at hcells
  simp only [State.dmaInject, hs, hd, if_neg (Nat.not_lt.mpr hlong), hgood, Bool.false_eq_true, if_false,
    if_neg (not_not_intro hfit), hmode, show ¬ (2 = 1) by decide, hlen, hcells]

variable (hmode : beAt d 1 1 = 1)
include hmode

theorem State.dmaInject_egress_withdrawn (hbegun : x.begun = true) (hbar : (s.readBuffer x).noInject (beAt d 4 4) = true) :
    s.dmaInject e data = (s.readBuffer x).withdrawn e x := by
  simp only [State.dmaInject, hs, hd, if_neg (Nat.not_lt.mpr hlong), hgood, Bool.false_eq_true, if_false,
    if_neg (not_not_intro hfit), hmode, if_true, hbegun, hbar, and_self]

theorem State.dmaInject_egress_barred {v : State} (hbegun : x.begun = false)
    (hbar : (s.readBuffer x).noInject (beAt d 4 4) = true) (hto : (s.readBuffer x).injectTo d = (true, v)) :
    s.dmaInject e data = v.failXfer e x 5 := by
  unfold State.injectTo injectToken at hto
  simp only [State.dmaInject, hs, hd, if_neg (Nat.not_lt.mpr hlong), hgood, Bool.false_eq_true, if_false,
    if_neg (not_not_intro hfit), hmode, if_true, hbegun, hbar, false_and, hto, State.injectRefused]

variable (hbar : (s.readBuffer x).noInject (beAt d 4 4) = false)
include hbar

theorem State.dmaInject_egress_goes {v : State} (hto : (s.readBuffer x).injectTo d = (true, v)) :
    s.dmaInject e data =
      v.setXfer e { x with moved := x.desc.length, begun := true, ended := true, mark := beAt d 4 4 } := by
  unfold State.injectTo injectToken at hto
  simp only [State.dmaInject, hs, hd, if_neg (Nat.not_lt.mpr hlong), hgood, Bool.false_eq_true, if_false,
    if_neg (not_not_intro hfit), hmode, if_true, hbar, and_false, hto]

theorem State.dmaInject_egress_waits {v : State} (hto : (s.readBuffer x).injectTo d = (false, v)) :
    s.dmaInject e data = v.setXfer e { x with begun := true, mark := beAt d 4 4 } := by
  unfold State.injectTo injectToken at hto
  simp only [State.dmaInject, hs, hd, if_neg (Nat.not_lt.mpr hlong), hgood, Bool.false_eq_true, if_false,
    if_neg (not_not_intro hfit), hmode, if_true, hbar, and_false, hto]

end inject

/-- A frame for a queue that takes none is refused and counted. -/
theorem State.injectTo_barred {s : State} {d : List Byte} (h : s.noInject (beAt d 4 4) = true) :
    s.injectTo d = (true, (if bit (beAt d 3 1) 0 then s.noStamp (beAt d 12 4) ((s.outLine (s.portOf (beAt d 4 4))).getD 0)
      else s).bump 0x5101 0xA) := by
  have hbar : ¬ recEgress (s.qrec (beAt d 4 4)) = true ∨ ¬ recEnabled (s.qrec (beAt d 4 4)) = true := by
    simpa [State.noInject] using h
  unfold State.injectTo State.admitInject injectToken
  dsimp only
  rw [if_pos hbar]
  by_cases ht : bit (beAt d 3 1) 0 = true
  · simp only [if_pos ht]
  · simp only [if_neg ht]

/-! ### Transaction records of a descriptor -/

section tableRecords
variable {s : State} {e : Fin 4} {x : Xfer} {data : List Byte} (hs : s.serving e 0x10 = some x)
include hs

theorem State.dmaTableRecords_over (h : (bytesAt data 0 x.desc.length).drop x.moved = []) :
    s.dmaTableRecords e data = (s.readBuffer x).setXfer e { x with begun := true, ended := true, moved := x.desc.length } := by
  simp only [State.dmaTableRecords, hs, h]
  rfl

variable (hmoved : x.moved = 0) (hlen : data.length = x.desc.length) (hsome : 0 < x.desc.length)
include hmoved hlen hsome

theorem State.dmaTableRecords_begun : s.dmaTableRecords e data =
    (s.readBuffer x).dmaRecords e (x.desc.length / 16 + 1 + 1) data { x with begun := true } ∧ ¬ data.isEmpty = true := by
  have hdata : (bytesAt data 0 x.desc.length).drop x.moved = data := by rw [hmoved, bytesAt_whole hlen, List.drop_zero]
  refine ⟨?_, ?_⟩
  · simp only [State.dmaTableRecords, hs, hdata]
  · rw [List.isEmpty_iff_length_eq_zero]
    omega

variable {v : State} {n : Nat}

/-- A single record taken ends the descriptor. -/
theorem State.dmaTableRecords_done (h : (s.readBuffer x).dmaRecord e data = (v, .done, n)) (hn : x.desc.length = n) :
    s.dmaTableRecords e data = v.setXfer e { x with begun := true, ended := true, moved := x.desc.length } := by
  obtain ⟨hbegun, hempty⟩ := State.dmaTableRecords_begun hs hmoved hlen hsome
  have hrest : data.drop n = [] := List.drop_eq_nil_of_le (by omega)
  rw [hbegun, State.dmaRecords, if_neg hempty]
  simp only [h, hrest]
  rfl

theorem State.dmaTableRecords_waits (h : (s.readBuffer x).dmaRecord e data = (v, .wait, n)) :
    s.dmaTableRecords e data = (s.readBuffer x).setXfer e { x with begun := true } := by
  obtain ⟨hbegun, hempty⟩ := State.dmaTableRecords_begun hs hmoved hlen hsome
  rw [hbegun, State.dmaRecords, if_neg hempty]
  simp only [h]

/-- A record refused ends the descriptor; its code goes into the descriptor. -/
theorem State.dmaTableRecords_refused {c : Nat} (h : (s.readBuffer x).dmaRecord e data = (v, .abort c, n)) :
    s.dmaTableRecords e data = (v.out (.host ((v.chan x.ch).base + 32 * x.idx + 16) (leBytes 4 c) false)).setXfer e
      { x with begun := true, err := 4, ended := true, moved := x.desc.length } := by
  obtain ⟨hbegun, hempty⟩ := State.dmaTableRecords_begun hs hmoved hlen hsome
  have hpcie : v.pcie = (s.readBuffer x).pcie := by
    have := (s.readBuffer x).dmaRecord_pcie e data
    rwa [h] at this
  have hchan : v.chan x.ch = (s.readBuffer x).chan x.ch := congrArg (fun p => p.chans.getD x.ch Chan.fresh) hpcie
  rw [hbegun, State.dmaRecords, if_neg hempty, hchan]
  simp only [h]
  rfl

end tableRecords

theorem State.dmaRecord_cut (s : State) (e : Nat) {rest : List Byte} (h : rest.length < 16 + beAt rest 2 2) :
    s.dmaRecord e rest = ((s.refuse (beAt rest 4 4) (0x09010000 + (txHeadFault rest).getD 2)).1,
      (s.refuse (beAt rest 4 4) (0x09010000 + (txHeadFault rest).getD 2)).2, rest.length) := by
  simp only [State.dmaRecord, if_pos h]

theorem State.dmaRecord_whole (s : State) (e : Nat) {rest : List Byte} (h : 16 + beAt rest 2 2 ≤ rest.length) :
    s.dmaRecord e rest = ((s.txRecord (engineId e) (rest.take (16 + beAt rest 2 2))).1,
      (s.txRecord (engineId e) (rest.take (16 + beAt rest 2 2))).2, 16 + beAt rest 2 2) := by
  simp only [State.dmaRecord, if_neg (Nat.not_lt.mpr h)]

/-- The octet at fault in a record cut short. -/
theorem txHeadFault_getD (rest : List Byte) :
    (txHeadFault rest).getD 2 = if beAt rest 0 1 = 0 ∨ 6 < beAt rest 0 1 then 0
      else if 1 < beAt rest 1 1 ∨ (beAt rest 1 1 = 1 ∧ ¬ (2 ≤ beAt rest 0 1 ∧ beAt rest 0 1 ≤ 4)) then 1 else 2 := by
  unfold txHeadFault
  dsimp only
  split
  · rfl
  · split
    · rfl
    · rfl

/-! ### The claims -/

/-- Settles O55: each descriptor and each op is an equation of its case; a record refused finds its channel unchanged. -/
theorem descriptorsAndDmaOps : Obligations.DescriptorsAndDmaOps := by
  unfold Obligations.DescriptorsAndDmaOps
  refine ⟨?_, ?_, ?_⟩
  · intro s t e hruns u busy held
    refine ⟨?_, ?_, ?_⟩
    · intro bytes d fetch
      refine ⟨fun h => next_on_tm t hruns (State.descriptorFetch_idle h), ?_⟩
      intro k hbusy hheld hnext c bad x
      refine ⟨fun hown => next_on_tm t hruns (State.descriptorFetch_unposted hbusy hheld hnext hown),
        fun hown hacq => next_on_tm t hruns (State.descriptorFetch_plain hbusy hheld hnext hown hacq), ?_⟩
      intro hown hacq hgood v
      have hlocks := State.descriptorFetch_locks (bytes := bytes) hbusy hheld hnext hown hacq hgood
      refine ⟨fun l hl hgranted => next_on_tm t hruns (hlocks.trans ?_),
        fun l hl hrefused => next_on_tm t hruns (hlocks.trans ?_), fun hl => next_on_tm t hruns (hlocks.trans ?_)⟩
      · refine (State.tryLock_granted (s := v) hl hgranted).trans ?_
        exact State.setXfer_twice ((u.mapChan k _).setTables (u.tables.lock l (.dma e) u.clock.now)) e x x
      · exact State.tryLock_refused hl hrefused
      · exact (State.tryLock_untargeted hl).trans (State.setXfer_twice ..)
    · intro hbusy err
      have hb : (u.engine e).xfer = none := hbusy
      refine ⟨next_on_tm t hruns ?_, next_on_tm t hruns ?_, next_on_tm t hruns ?_⟩
      · show u.descriptorComplete e err = u
        simp only [State.descriptorComplete, hb]
      · show u.lockRetry e = u
        simp only [State.lockRetry, hb]
      · show u.transferWithdrawn e = u
        simp only [State.transferWithdrawn, hb]
    · intro x hx
      refine ⟨?_, ?_, ?_, ?_, ?_, ?_⟩
      · intro hopen
        refine next_on_tm t hruns ?_
        show u.descriptorComplete e .none = u
        have hb : (u.engine e).xfer = some x := hx
        simp [State.descriptorComplete, hb, hopen]
      · intro err hgo code c a stops freed fenced v w counted logged
        refine next_on_tm t hruns ((State.descriptorComplete_returns (code := code) hx hgo ?_).trans ?_)
        · cases err <;> rfl
        · dsimp only
          rw [State.countErr_eq, State.countAer_eq]
          rfl
      · exact fun h => next_on_tm t hruns (State.lockRetry_unasked hx h)
      · exact fun t0 hfrom => ⟨fun h => next_on_tm t hruns (State.lockRetry_over hx hfrom h),
          fun h hsoon => next_on_tm t hruns (State.lockRetry_early hx hfrom h hsoon),
          fun h hdue => next_on_tm t hruns (State.lockRetry_due hx hfrom h hdue)⟩
      · intro stays goes
        have hstays (h : x.begun = false ∨ x.wdrn = true ∨ u.withdraws x = false) : stays :=
          next_on_tm t hruns (State.transferWithdrawn_stays hx h)
        refine ⟨?_, ?_⟩
        · rintro (h | h | ⟨h1, h2, h3⟩)
          · exact hstays (.inl h)
          · exact hstays (.inr (.inl h))
          · exact hstays (.inr (.inr (State.withdraws_other h1 h2 h3)))
        · intro hbegun hwdrn
          have hgoes (h : u.withdraws x = true) : goes :=
            next_on_tm t hruns (State.transferWithdrawn_goes hx hbegun hwdrn h)
          refine ⟨fun hop hen => hstays (.inr (.inr ?_)), fun hop hen => hgoes ?_, fun hop h => hstays (.inr (.inr ?_)),
            fun hop hopen hmark hbar => hgoes ?_,
            fun hop h => hstays (.inr (.inr (State.withdraws_samples_kept hop h))),
            fun j hop hj hwritten hin => hgoes (State.withdraws_samples_written hop hj hwritten hin)⟩
          · simp [State.withdraws_punt hop, hen]
          · simp [State.withdraws_punt hop, hen]
          · rw [State.withdraws_inject hop]
            rcases h with h | h | h
            · simp [h]
            · simp only [decide_eq_false (Nat.not_lt.mpr h), Bool.and_false, Bool.false_and]
            · simp [h]
          · simp only [State.withdraws_inject hop, hopen, decide_eq_true hmark, hbar, Bool.not_false, Bool.and_self]
      · intro hop hopen hlock
        have hs := State.serving_open hx hop hopen hlock
        refine ⟨fun hfirst => next_on_tm t hruns (State.timestampFlush_empty hs hfirst), ?_⟩
        exact fun t0 hfirst =>
          ⟨fun h => next_on_tm t hruns ((State.timestampFlush_from hs hfirst).trans (if_neg (tick_not_le h))),
            fun h => next_on_tm t hruns ((State.timestampFlush_from hs hfirst).trans (if_pos h))⟩
  · intro s t e x data hruns u n b moves fails takes hx hopen hlock
    have hserves {op : Nat} (hop : x.desc.op = op) : u.serving e op = some x := State.serving_open hx hop hopen hlock
    refine ⟨?_, ?_, ?_, ?_, ?_, ?_, ?_, ?_, ?_, ?_, ?_, ?_⟩
    · intro hop p hp v
      have hflow : u.flow = s.flow := s.tick_flow t
      have hmoves := State.dmaPunt_serves (hserves hop) hp
      rw [hflow] at hmoves
      refine ⟨fun h => next_on_tm t hruns (hmoves.trans ?_), fun h => next_on_tm t hruns (hmoves.trans ?_)⟩
      · rw [decide_eq_false (Nat.not_lt.mpr h)]
        rfl
      · rw [decide_eq_true h]
        rfl
    · intro hop d len fine stays done
      have hs := hserves hop
      refine ⟨fun h => next_on_tm t hruns (State.dmaInject_short hs rfl h),
        fun hlong h => next_on_tm t hruns (State.dmaInject_bad hs rfl hlong h),
        fun hlong hgood h => next_on_tm t hruns (State.dmaInject_misfit hs rfl hlong hgood h), ?_, ?_⟩
      · rintro ⟨hgood, hfit⟩ hmode
        have hlong : 32 ≤ x.desc.length := (Nat.le_add_right 32 len).trans hfit.ge
        refine ⟨fun hbusy => next_on_tm t hruns
            (State.dmaInject_ingress_waits hs rfl hlong hgood hfit hmode (v := b) (if_pos hbusy)),
          fun v hidle hcells => next_on_tm t hruns (State.dmaInject_ingress_waits hs rfl hlong hgood hfit hmode ?_),
          fun l v hidle hcells => next_on_tm t hruns (State.dmaInject_ingress_goes hs rfl hlong hgood hfit hmode ?_)⟩
        · exact (if_neg (ne_true_of_eq_false hidle)).trans hcells
        · exact (if_neg (ne_true_of_eq_false hidle)).trans hcells
      · rintro ⟨hgood, hfit⟩ hmode q r
        have hlong : 32 ≤ x.desc.length := (Nat.le_add_right 32 len).trans hfit.ge
        refine ⟨fun hbegun hbar => next_on_tm t hruns
            ((State.dmaInject_egress_withdrawn hs rfl hlong hgood hfit hmode hbegun hbar).trans ?_),
          fun hbar hr => next_on_tm t hruns
            (State.dmaInject_egress_goes hs rfl hlong hgood hfit hmode hbar (v := r.2) (Prod.ext hr rfl)),
          fun hbar hr => next_on_tm t hruns
            (State.dmaInject_egress_waits hs rfl hlong hgood hfit hmode hbar (v := r.2) (Prod.ext hr rfl)),
          fun hbegun hbar => next_on_tm t hruns
            (State.dmaInject_egress_barred hs rfl hlong hgood hfit hmode hbegun hbar (State.injectTo_barred hbar))⟩
        show (b.bump 0x2003 3).setXfer e { x with
          wdrn := true, ended := true, moved := if x.desc.op = 2 then x.desc.length else x.moved } = _
        rw [if_pos hop]
    · intro hop k
      have hlines : u.lines = s.lines := s.tick_lines t
      have hmoves := State.dmaTimestamp_serves (k := k) (hserves hop) (by rw [hlines])
      rw [hlines] at hmoves
      exact ⟨fun h => next_on_tm t hruns (hmoves.trans (if_pos h)), fun h => next_on_tm t hruns (hmoves.trans (if_neg h))⟩
    · exact fun hop h => next_on_tm t hruns (State.dmaTableRecords_over (hserves hop) h)
    · intro hop hmoved hlen hsome whole kind flags first r
      have hs := hserves hop
      have hrecord : b.dmaRecord e data = (r.1, r.2, if n < whole then data.length else whole) := by
        by_cases hcut : n < whole
        · have hr : r = b.refuse (beAt data 4 4) (0x09010000 + first) := if_pos hcut
          rw [hr, if_pos hcut, State.dmaRecord_cut b e (by rw [hlen]; exact hcut), txHeadFault_getD]
        · have hr : r = b.txRecord (engineId e) (data.take whole) := if_neg hcut
          rw [hr, if_neg hcut, State.dmaRecord_whole b e (by rw [hlen]; exact Nat.not_lt.mp hcut)]
      refine ⟨fun hwhole hdone => ?_, fun hwhole hwait => ?_, fun c habort => ?_⟩
      · rw [hdone, if_neg (by omega)] at hrecord
        exact next_on_tm t hruns (State.dmaTableRecords_done hs hmoved hlen hsome hrecord hwhole)
      · rw [hwait] at hrecord
        exact next_on_tm t hruns (State.dmaTableRecords_waits hs hmoved hlen hsome hrecord)
      · rw [habort] at hrecord
        exact next_on_tm t hruns (State.dmaTableRecords_refused hs hmoved hlen hsome hrecord)
    · intro hop table first w l bad
      have hmoves := State.dmaTableRead_serves (l := l) (hserves hop) rfl
      refine ⟨fun h => next_on_tm t hruns (hmoves.trans (if_pos h)), fun h => next_on_tm t hruns (hmoves.trans ?_)⟩
      exact if_neg (ne_true_of_eq_false h)
    · exact fun hop => next_on_tm t hruns (State.dmaBucketRead_serves (hserves hop))
    · intro hop
      have hs := hserves hop
      refine ⟨fun h => next_on_tm t hruns ((State.dmaBucketWrite_taken hs (.inl h)).trans ?_),
        fun h => next_on_tm t hruns (State.dmaBucketWrite_taken hs (.inr h)),
        fun htable h => next_on_tm t hruns (State.dmaBucketWrite_unlocked hs htable h)⟩
      rw [State.bucketWrite_unsized ((u.readBuffer_bucketTable x x.desc.arg).trans h)]
      rfl
    · exact fun hop => next_on_tm t hruns (State.dmaCounterRead_serves (hserves hop))
    · intro hop
      have hmoves := State.dmaCounterWrite_serves (data := data) (hserves hop)
      refine ⟨fun h => next_on_tm t hruns (hmoves.trans (if_pos h)), fun h => next_on_tm t hruns (hmoves.trans (if_neg ?_))⟩
      exact ne_true_of_eq_false h
    · exact fun hop => next_on_tm t hruns (State.dmaStatsCounters_serves (hserves hop))
    · intro hop k
      have hsched : u.sched = s.sched := s.tick_sched t
      rw [← hsched]
      exact next_on_tm t hruns (State.dmaStatsSamples_serves (hserves hop))
  · exact ⟨fun s t e bytes => ⟨_, rfl⟩, fun s t e err => ⟨_, rfl⟩, fun s t e => ⟨_, rfl⟩, fun s t e data => ⟨_, rfl⟩,
      fun s t e => ⟨_, rfl⟩, fun s t e data => ⟨_, rfl⟩, fun s t e => ⟨_, rfl⟩, fun s t e => ⟨_, rfl⟩,
      fun s t e data => ⟨_, rfl⟩, fun s t e => ⟨_, rfl⟩, fun s t e data => ⟨_, rfl⟩, fun s t e => ⟨_, rfl⟩,
      fun s t e => ⟨_, rfl⟩, fun s t e => ⟨_, rfl⟩, fun s t e => ⟨_, rfl⟩, fun s t e => ⟨_, rfl⟩⟩

end Sys2Proof.Machine
end

section
/-! PROOFS. The update session (O56). The statement has every chunk on a ready path served at once; R621 makes one wait while a
write of the device record is pending. -/

namespace Sys2Proof.Machine

/-- A ready part whose device record is still to be written. -/
def owingPart : State := { readyPart with record := { readyPart.record with dirty := true } }

/-- A chunk of one octet at offset 0. -/
def oneOctetChunk : List Byte := [0, 0, 0, 0, 1, 0] ++ zeros 1018

/-- How many I3C requests wait. -/
def outcomeQueued : Out → Option Nat
  | .next s => some s.dict.i3c.queue.length
  | _ => none

/-- Refutes O56: a chunk sent without the lock is not refused at once while a write of the device record is pending; it waits in
its queue (R621, log entry 130), which the premise `Ready` does not rule out. -/
theorem not_updateSessionRowsAct : ¬ Obligations.UpdateSessionRowsAct := by
  unfold Obligations.UpdateSessionRowsAct
  intro h
  obtain ⟨-, -, hrun⟩ := h.1 owingPart 1 .i3c 0 oneOctetChunk (by decide +kernel) (by decide +kernel)
  obtain ⟨-, -, -, hchunk, -⟩ := hrun (by decide)
  have hrefused := (hchunk 1 (by decide +kernel) (by decide +kernel) (by decide +kernel) (by decide)).1 (by decide +kernel)
  have hsame := congrArg outcomeQueued hrefused
  have hreal : outcomeQueued (exec (.chunk 1 .i3c 0 oneOctetChunk) owingPart) = some 1 := by decide +kernel
  rw [hreal] at hsame
  exact absurd hsame (by decide +kernel)

end Sys2Proof.Machine
end

section
/-! PROOFS. Activation, trial and reversion (O57): each is an equation of its case. The requests discarded at the end of a
reload leave the update session, the clock and the objects. -/

namespace Sys2Proof.Machine

/-! ### What discarded requests leave -/

/-- The update session, the clock and the objects stand as they did. -/
structure State.SameUpdate (s v : State) : Prop where
  update : v.update = s.update
  clock : v.clock = s.clock
  objs : v.objs = s.objs
  kept : v.record.mem.objs = s.record.mem.objs

theorem State.SameUpdate.trans {s v u : State} (h : s.SameUpdate v) (g : v.SameUpdate u) : s.SameUpdate u :=
  ⟨g.update.trans h.update, g.clock.trans h.clock, g.objs.trans h.objs, g.kept.trans h.kept⟩

theorem State.SameUpdate.obj {s v : State} (h : s.SameUpdate v) (i n : Nat) : v.obj i n = s.obj i n := by
  unfold State.obj State.objI
  split
  · rw [h.kept]
  · rw [h.objs]

theorem State.logDeferred_sameUpdate (s : State) (d : Deferred) : s.SameUpdate (s.logDeferred d) := ⟨rfl, rfl, rfl, rfl⟩

theorem State.logAll_sameUpdate (l : List Deferred) (s : State) : s.SameUpdate (l.foldl State.logDeferred s) := by
  induction l generalizing s with
  | nil => exact ⟨rfl, rfl, rfl, rfl⟩
  | cons d l ih => exact (s.logDeferred_sameUpdate d).trans (ih _)

theorem State.discardRequests_sameUpdate (s : State) : s.SameUpdate s.discardRequests := by
  refine (s.logAll_sameUpdate (s.dict.deferred.filter (·.counted))).trans ?_
  unfold State.discardRequests
  dsimp only
  split
  · exact ⟨rfl, rfl, rfl, rfl⟩
  · exact ⟨rfl, rfl, rfl, rfl⟩

/-! ### Activation -/

/-- The checks of an image look at the fuses alone. -/
theorem State.imageFault_congr {s v : State} (h : v.fuses = s.fuses) (i : Image) (payload : Bool) :
    v.imageFault i payload = s.imageFault i payload := by
  have hfuses : v.imageFault i payload = ({ s with fuses := v.fuses } : State).imageFault i payload := rfl
  rw [hfuses, h]

section session
variable {s : State}

theorem State.updateActivate_starts {f : Nat} (hst : s.update.sess.st = 4) (hdue : s.update.sess.act ≤ s.time80)
    (hdev : s.dev.st ∈ [DevState.run, .degraded, .standby, .ready, .maint])
    (hgood : s.imageFault (s.bank s.update.sess.bank).img false = none) (hactive : s.activeBank = some f) :
    s.updateActivate = ((((s.setBank s.update.sess.bank 3).setLoaded s.update.sess.bank).mapSess (fun x =>
      { x with st := 5, bank := s.update.sess.bank, former := f, reverting := false })).restartEffects true).beginRestart := by
  have hgo : ¬ (s.update.sess.st ≠ 4 ∨ s.time80 < s.update.sess.act) := by
    rintro (h | h)
    · exact h hst
    · exact Nat.not_lt.mpr hdue h
  have hin : ¬ ¬ [DevState.run, .degraded, .standby, .ready, .maint].contains s.dev.st = true :=
    not_not_intro (List.contains_iff_mem.mpr hdev)
  simp only [State.updateActivate, if_neg hgo, if_neg hin, hgood, State.activate, hactive, Option.getD_some]

theorem State.updateActivate_late (hst : s.update.sess.st = 4) (hdue : s.update.sess.act ≤ s.time80)
    (hdev : s.dev.st ∉ [DevState.run, .degraded, .standby, .ready, .maint]) :
    s.updateActivate = s.endSession 8 0x11 (abortCode 4 1 s.dev.st.code) false := by
  have hgo : ¬ (s.update.sess.st ≠ 4 ∨ s.time80 < s.update.sess.act) := by
    rintro (h | h)
    · exact h hst
    · exact Nat.not_lt.mpr hdue h
  have hout : ¬ [DevState.run, .degraded, .standby, .ready, .maint].contains s.dev.st = true :=
    fun h => hdev (List.contains_iff_mem.mp h)
  simp only [State.updateActivate, if_neg hgo, if_pos hout]

theorem DevState.abortCode_state (d : DevState) : abortCode 4 1 d.code = 0x04010000 + d.code := by
  cases d <;> rfl

theorem State.loadsComplete_fails (hst : s.update.sess.st = 5) : s.loadsComplete false = s.revertTrial 0x10 := by
  simp [State.loadsComplete, hst]

theorem State.loadsComplete_tries (hst : s.update.sess.st = 5) (hrev : s.update.sess.reverting = false) :
    s.loadsComplete true = ({ s.discardRequests with faults := { s.discardRequests.faults with restarting := false } } :
        State).mapSess
      (fun x => { x with st := 6, trialEnd := s.discardRequests.clock.now + s.discardRequests.obj 0x9000 8 * Config.sec }) := by
  simp [State.loadsComplete, hst, hrev]
  rfl

theorem State.loadsComplete_ends (hst : s.update.sess.st = 5) (hrev : s.update.sess.reverting = true) :
    s.loadsComplete true =
      ({ s.discardRequests with faults := { s.discardRequests.faults with restarting := false } } : State).promote := by
  simp [State.loadsComplete, hst, hrev]

theorem State.trialExpire_due (hst : s.update.sess.st = 6) (hdue : s.update.sess.trialEnd ≤ s.clock.now) :
    s.trialExpire = s.revertTrial 0x12 := by
  simp only [State.trialExpire, if_pos (And.intro hst hdue)]

theorem State.trialExpire_early (h : s.clock.now < s.update.sess.trialEnd) : s.trialExpire = s :=
  if_neg fun ⟨_, hdue⟩ => Nat.not_le.mpr h hdue

theorem State.endSession_kept {x : Session} (hx : s.update.sess = x) (st cause result : Nat) :
    s.endSession st cause result false =
      { s with update := { s.update with sess := { x with st := st, cause := cause, result := result, holder := 0 } } } := by
  subst hx
  rfl

/-- The session and its bank as an activation leaves them, before the service core restarts. -/
theorem State.activated_eq {x : Session} (hx : s.update.sess = x) (f : Nat) :
    ((s.setBank s.update.sess.bank 3).setLoaded s.update.sess.bank).mapSess (fun y =>
      { y with st := 5, bank := s.update.sess.bank, former := f, reverting := false }) =
    { s with update := { (s.setBank x.bank 3).update with
      loaded := x.bank
      loadable := true
      sess := { x with st := 5, former := f, reverting := false } } } := by
  subst hx
  rfl

/-- A bank's new state rests on the update session and the clock alone. -/
theorem State.setBank_congr {v : State} (hu : v.update = s.update) (hc : v.clock = s.clock) (b st : Nat) :
    v.setBank b st = { v with update := (s.setBank b st).update } := by
  unfold State.setBank
  rw [hu, hc]

theorem State.mapSess_kept {v : State} {x : Session} (hu : v.update = s.update) (hx : s.update.sess = x)
    (f : Session → Session) : v.mapSess f = { v with update := { s.update with sess := f x } } := by
  subst hx
  rw [State.mapSess, hu]

/-- The end of a reversion by command. -/
theorem State.promote_kept {v : State} {x : Session} (hu : v.update = s.update) (hc : v.clock = s.clock)
    (hx : s.update.sess = x) (hdiff : x.former ≠ x.bank) :
    v.promote = { v with update := { ((s.setBank x.former 5).setBank x.bank 4).update with
      sess := { x with st := 7, cause := 0, result := 0, holder := 0 } } } := by
  have hv : v.update.sess = x := (congrArg (·.sess) hu).trans hx
  unfold State.promote
  dsimp only
  rw [hv, if_neg hdiff, State.setBank_congr hu hc,
    State.setBank_congr (s := s.setBank x.former 5) (v := { v with update := _ }) rfl hc]
  exact State.mapSess_kept (v := { v with update := ((s.setBank x.former 5).setBank x.bank 4).update })
    (s := (s.setBank x.former 5).setBank x.bank 4) rfl hx _

/-- The session and its bank as a reversion leaves them, before the service core restarts. -/
def State.reversion (s : State) (x : Session) (cause : Nat) : State :=
  { s with update := { (s.setBank x.bank 6).update with
      loaded := x.former
      loadable := true
      sess := { x with st := 8, cause := cause, result := 0, holder := 0 } } }

theorem State.revertTrial_eq {x : Session} (hx : s.update.sess = x) (cause : Nat) :
    s.revertTrial cause = (((s.reversion x cause).restartEffects false).beginRestart).raise
      { cls := 15, level := 1, object := 0xFF, value := x.bank } := by
  subst hx
  rfl

end session

/-- Settles O57: each by the equation of its case; what is discarded at the end of a reload leaves the session. -/
theorem activationsAndTrialsProceed : Obligations.ActivationsAndTrialsProceed := by
  unfold Obligations.ActivationsAndTrialsProceed
  refine ⟨?_, fun s t => ⟨_, rfl⟩, fun s t ok => ⟨_, rfl⟩, fun s t => ⟨_, rfl⟩⟩
  intro s t u x reverted
  have hu : u.update = s.update := s.tick_update t
  have hx : u.update.sess = x := congrArg (·.sess) hu
  have hbank (b : Nat) : u.bank b = s.bank b := congrArg (fun w : Update => w.banks.getD b ⟨0, .none⟩) hu
  have hdevice : u.dev.st = s.dev.st := congrArg (·.st) (s.tick_dev t)
  have hreverts (cause : Nat) : (u.revertTrial cause).settle = reverted cause :=
    congrArg State.settle (State.revertTrial_eq hx cause)
  refine ⟨?_, ?_, ?_, ?_⟩
  · intro hst hdue
    rw [← hx] at hst hdue
    refine ⟨?_, ?_⟩
    · intro hdev hgood f hactive v r
      have hchecked : u.imageFault (u.bank u.update.sess.bank).img false = none := by
        rw [State.imageFault_congr (s.tick_fuses t), hx, hbank]
        exact hgood
      have hone : u.activeBank = some f := by
        simp only [State.activeBank, hbank]
        exact hactive
      exact next_settle_eq ((State.updateActivate_starts hst hdue (hdevice ▸ hdev) hchecked hone).trans
        (congrArg (fun v : State => (v.restartEffects true).beginRestart) (State.activated_eq hx f)))
    · intro hdev
      refine next_settle_eq ((State.updateActivate_late hst hdue (hdevice ▸ hdev)).trans ?_)
      rw [DevState.abortCode_state, hdevice]
      exact State.endSession_kept hx 8 0x11 _
  · intro hst d
    rw [← hx] at hst
    have hkept := u.discardRequests_sameUpdate
    refine ⟨fun hrev => next_settle_eq ((State.loadsComplete_tries hst (hx ▸ hrev)).trans ?_),
      fun hrev hdiff => next_settle_eq ((State.loadsComplete_ends hst (hx ▸ hrev)).trans ?_),
      (congrArg (fun v : State => (.next v.settle : Out)) (State.loadsComplete_fails hst)).trans (congrArg
          Host.Outcome.next (hreverts _))⟩
    · have hend : u.discardRequests.clock.now + u.discardRequests.obj 0x9000 8 * Config.sec =
          u.clock.now + s.obj 0x9000 8 * Config.sec := by
        rw [hkept.obj, hkept.clock, State.obj_congr (s.tick_objs t) (s.tick_record t)]
      rw [hend]
      exact State.mapSess_kept (v := { d with faults := { d.faults with restarting := false } }) hkept.update hx
        (fun y => { y with st := 6, trialEnd := u.clock.now + s.obj 0x9000 8 * Config.sec })
    · exact State.promote_kept hkept.update hkept.clock hx hdiff
  · intro hst hdue
    rw [← hx] at hst hdue
    exact (congrArg (fun v : State => (.next v.settle : Out)) (State.trialExpire_due hst hdue)).trans
      (congrArg Host.Outcome.next (hreverts _))
  · intro hst hearly
    exact next_settle_eq (State.trialExpire_early (hx ▸ hearly))

end Sys2Proof.Machine
end

section
/-! PROOFS. What resets leave (O58). The statement has every reset leave no lane; a warm one leaves the lanes in test mode,
    since
R37 keeps the object that sets it (R653). -/

namespace Sys2Proof.Machine

/-- A part whose fabric lane 0 is in test mode. -/
def testingPart : State := readyPart.setObj 0x6120 3 1

/-- Refutes O58: after a warm reset a lane in test mode stands in its test state, so the lanes are not empty. -/
theorem not_resetsTakeHoldAndClear : ¬ Obligations.ResetsTakeHoldAndClear := by
  unfold Obligations.ResetsTakeHoldAndClear
  intro h
  obtain ⟨⟨-, -, -, -, -, -, -, hlanes, -⟩, -⟩ := h.2.1 testingPart true 4
  have hreal : (testingPart.beginReset true 4).lanes.length = 1 := by decide +kernel
  exact absurd (congrArg List.length hlanes) (by rw [hreal]; decide)

end Sys2Proof.Machine
end

section
/-! PROOFS. A start proceeds to READY (O60): each row's equation in the case in which it acts,
    and in that in which it does not. -/

namespace Sys2Proof.Machine

theorem State.enter_other {s : State} {d : DevState} (h : s.dev.st ≠ d) :
    s.enter d = { s with dev := { s.dev with st := d, entered := s.time80 } } := if_neg h

section start
variable {s : State} (found : Found)

theorem State.pinRise_rst (hlow : s.dev.rstN = false) (hpower : s.dev.pwrgd = true) (hheld : s.dev.phase = .held) :
    s.pinRise .rst found = (s.setPins true s.dev.wrstN s.dev.pwrgd).startBoot found true := by
  simp [State.pinRise, State.setPins, hlow, hpower, hheld]

theorem State.pinRise_wrst (hhigh : s.dev.rstN = true) (hlow : s.dev.wrstN = false) (hpower : s.dev.pwrgd = true)
    (hheld : s.dev.phase = .held) :
    s.pinRise .wrst found = (s.setPins s.dev.rstN true s.dev.pwrgd).startBoot found true := by
  simp [State.pinRise, State.setPins, hhigh, hlow, hpower, hheld]

theorem State.powerRise_up (hpower : s.dev.pwrgd = false) (hrst : s.dev.rstN = false) :
    s.powerRise found = { s with dev := { s.dev with pwrgd := true, cause := 1 } } := by
  simp [State.powerRise, State.setPins, hpower, hrst]

theorem State.powerRise_again {v : State} (hpower : s.dev.pwrgd = false) (hrst : s.dev.rstN = true)
    (hv : ({ s with dev := { s.dev with pwrgd := true, cause := 3, phase := .held } } : State).startBoot found false = v) :
    s.powerRise found = { v with dev := { v.dev with rise := v.clock.now + Config.ms } } := by
  subst hv
  simp [State.powerRise, State.setPins, hpower, hrst]

theorem State.rewriteRecord_dev (s : State) : s.rewriteRecord.dev = { s.dev with burn := none } := by
  unfold State.rewriteRecord
  dsimp only
  split
  · rfl
  · rfl

theorem State.resetWorkDone_starts (hwork : s.dev.finishing = true) (hphase : s.dev.phase = .finishing) :
    s.resetWorkDone found = ({ s.rewriteRecord with
      dev := { s.rewriteRecord.dev with finishing := false } } : State).boot found false := by
  have hstill : s.rewriteRecord.dev.phase = .finishing := by rw [State.rewriteRecord_dev, hphase]
  simp only [State.resetWorkDone, hwork, not_true_eq_false, if_false, hstill, if_true]

theorem State.resetWorkDone_idle (hwork : s.dev.finishing = false) : s.resetWorkDone found = s := by
  simp [State.resetWorkDone, hwork]

theorem State.coreStart_starts (hst : s.dev.st = .boot) (hphase : s.dev.phase = .booting) (hbank : s.update.loadable = true)
    (hrise : s.dev.rise ≤ s.clock.now) :
    s.coreStart = { s with dev := { s.dev with st := .init, phase := .bringUp, entered := s.time80 } } := by
  have hgo : ¬ (s.dev.st ≠ .boot ∨ s.dev.phase ≠ .booting ∨ ¬ s.update.loadable = true ∨ s.clock.now < s.dev.rise) := by
    rintro (h | h | h | h)
    · exact h hst
    · exact h hphase
    · exact h hbank
    · exact tick_not_le h hrise
  have henter := State.enter_other (s := s) (d := .init) (by rw [hst]; decide)
  simp only [State.coreStart, if_neg hgo, henter]

theorem State.recordRewrite_owed (hdirty : s.record.dirty = true) (hst : s.dev.st ≠ .boot) :
    s.recordRewrite = s.rewriteRecord := if_neg (by simp [hdirty, hst])

theorem State.recordRewrite_kept (hdirty : s.record.dirty = false) : s.recordRewrite = s :=
  if_pos (.inr (by simp [hdirty]))

/-! ### The end of INIT -/

theorem State.initComplete_waits (fe tm : Option Nat) (h : s.dev.st ≠ .init ∨ ∃ c ∈ s.faults.ctls, c.loaded = false ∨
    c.out = true) :
    s.initComplete fe tm = s := by
  refine if_pos (h.imp_right ?_)
  rintro ⟨c, hc, hbad⟩ hall
  have hgood := List.all_eq_true.mp hall c hc
  simp only [Bool.and_eq_true, Bool.not_eq_true'] at hgood
  rcases hbad with hbad | hbad
  · exact absurd hgood.1 (by simp [hbad])
  · exact absurd hgood.2 (by simp [hbad])

/-- READY as INIT ends in it, before the ports come up. -/
def State.readied (s : State) (time : Time80) (duration : Nat) : State :=
  { s with dev := { s.dev with st := .ready, phase := .done, entered := time, duration := duration } }

/-- Both rails asked for, and the record written that is owed. -/
def State.preparedForReady (s : State) (fe tm : Option Nat) : State :=
  if s.record.dirty then ((s.requestRail 1 fe).requestRail 0 tm).rewriteRecord else (s.requestRail 1 fe).requestRail 0 tm

theorem State.preparedForReady_kept (s : State) (fe tm : Option Nat) :
    (s.preparedForReady fe tm).dev.st = s.dev.st ∧ (s.preparedForReady fe tm).dev.rise = s.dev.rise ∧
      (s.preparedForReady fe tm).clock = s.clock := by
  unfold State.preparedForReady
  split
  · rw [State.rewriteRecord_dev, ((s.requestRail 1 fe).requestRail 0 tm).rewriteRecord_sameWork.clock]
    exact ⟨rfl, rfl, rfl⟩
  · exact ⟨rfl, rfl, rfl⟩

theorem State.initComplete_ready {ready : State} (fe tm : Option Nat) (hst : s.dev.st = .init)
    (hctls : ∀ c ∈ s.faults.ctls, c.loaded = true ∧ c.out = false)
    (hready : (((s.preparedForReady fe tm).readied s.time80 ((s.clock.now - s.dev.rise) /
        Config.ms)).bringUpAll).sessionLate = ready) :
    s.initComplete fe tm = if ready.obj 0x1100 3 = 1 then ready.enter (ready.pairDev ready.degraded) else ready := by
  have hloaded : s.ctlsLoaded = true := List.all_eq_true.mpr fun c hc => by
    obtain ⟨hl, ho⟩ := hctls c hc
    simp [hl, ho]
  have hgo : ¬ (s.dev.st ≠ .init ∨ ¬ s.ctlsLoaded = true) := by simp [hst, hloaded]
  obtain ⟨hpst, hprise, hpclock⟩ := s.preparedForReady_kept fe tm
  have hreadied : ({ (s.preparedForReady fe tm).enter .ready with dev := { ((s.preparedForReady fe tm).enter .ready).dev with
      phase := .done
      duration := (((s.preparedForReady fe tm).enter .ready).clock.now - ((s.preparedForReady fe tm).enter .ready).dev.rise) /
        Config.ms } } : State) = (s.preparedForReady fe tm).readied s.time80 ((s.clock.now - s.dev.rise) / Config.ms) := by
    have htime : (s.preparedForReady fe tm).time80 = s.time80 :=
      congrArg (fun c : Clock => ({ s with clock := c } : State).time80) hpclock
    rw [State.enter_other (by rw [hpst, hst]; decide), htime, ← hpclock, ← hprise]
    rfl
  subst hready
  unfold State.initComplete
  rw [if_neg hgo, ← hreadied]
  rfl

end start

/-- Settles O60: each row by the equation of its case. -/
theorem startsProceedToReady : Obligations.StartsProceedToReady := by
  unfold Obligations.StartsProceedToReady
  refine ⟨?_, fun s t pin found => ⟨_, rfl⟩, fun s t found => ⟨_, rfl⟩, fun s t found => ⟨_, rfl⟩, fun s t => ⟨_, rfl⟩,
    fun s e => ⟨_, rfl⟩, fun s t => ⟨_, rfl⟩⟩
  intro s t found u
  have hdev : u.dev = s.dev := s.tick_dev t
  have hrecord : u.record = s.record := s.tick_record t
  have hupdate : u.update = s.update := s.tick_update t
  have hfaults : u.faults = s.faults := s.tick_faults t
  rw [← hdev, ← hrecord, ← hupdate, ← hfaults]
  refine ⟨fun hpower hheld => ⟨fun hlow => next_settle_eq (State.pinRise_rst found hlow hpower hheld),
      fun hhigh hlow => next_settle_eq (State.pinRise_wrst found hhigh hlow hpower hheld)⟩,
    fun hpower hrst => next_settle_eq (State.powerRise_up found hpower hrst),
    fun hpower hrst => next_settle_eq (State.powerRise_again found hpower hrst rfl),
    fun hwork hphase => next_settle_eq (State.resetWorkDone_starts found hwork hphase),
    fun hwork => next_settle_eq (State.resetWorkDone_idle found hwork),
    fun hst hphase hbank hrise => next_settle_eq (State.coreStart_starts hst hphase hbank hrise), ?_,
    fun hdirty hst => next_settle_eq (State.recordRewrite_owed hdirty hst),
    fun hdirty => next_settle_eq (State.recordRewrite_kept hdirty)⟩
  intro fe tm asked rails w ready goes
  exact ⟨fun h => next_settle_eq (State.initComplete_waits fe tm h),
    fun hst hctls => next_settle_eq (State.initComplete_ready fe tm hst hctls rfl)⟩

end Sys2Proof.Machine
end

section
/-! PROOFS. Time pulses and lane services (O44), by cases of each function; and the four statements about a step and a reset
(O1, O3, O4, O5). -/

namespace Sys2Proof.Machine

/-! ### Time steps and pulses -/

section time
variable {s : State}

theorem State.gratEffect_none {port : Nat} (h : s.gates.pending = []) : s.gratEffect port = s := by
  have hnone : s.gates.change port = none := by simp [Gates.change, h]
  simp only [State.gratEffect, hnone]

theorem State.gratEffect_all_none (h : s.gates.pending = []) (l : List Nat) : l.foldl State.gratEffect s = s := by
  induction l with
  | nil => rfl
  | cons p l ih => rw [List.foldl_cons, State.gratEffect_none h, ih]

theorem State.stepApply_unasked (h : s.clock.step = none) : s.stepApply = s := by simp only [State.stepApply, h]

theorem State.stepApply_early {v : Time80} {sec : Nat} (h : s.clock.step = some (v, sec)) (hsec : s.clock.sec ≤ sec) :
    s.stepApply = s := by
  simp only [State.stepApply, h, if_pos hsec]

theorem State.stepApply_due {v : Time80} {sec : Nat} (h : s.clock.step = some (v, sec)) (hsec : s.clock.sec = sec + 1)
    (hgates : s.gates.pending = []) : s.stepApply =
      ({ s with clock := { s.clock with sec := timeSec v % 2 ^ 48, step := none } } : State).bump 0x5400 4 := by
  have hlate : ¬ s.clock.sec ≤ sec := by omega
  have hwhole : timeSec v + (s.clock.sec - sec - 1) = timeSec v := by omega
  unfold State.stepApply
  rw [h]
  dsimp only
  rw [if_neg hlate, hwhole]
  exact State.gratEffect_all_none (by rw [State.bump_gates]; exact hgates) _

theorem State.ppsEnd_due (hhigh : s.clock.ppsHigh = true) (hdue : s.clock.ppsUntil ≤ s.clock.now) :
    s.ppsEnd = ({ s with clock := { s.clock with ppsHigh := false } } : State).out (.pin ppsPin false) := if_pos ⟨hhigh, hdue⟩

theorem State.ppsEnd_not (h : s.clock.ppsHigh = false ∨ s.clock.now < s.clock.ppsUntil) : s.ppsEnd = s := by
  refine if_neg ?_
  rintro ⟨hhigh, hdue⟩
  rcases h with h | h
  · exact absurd hhigh (by simp [h])
  · exact tick_not_le h hdue

/-- What the clock keeps of its step and its pulse as it advances. -/
theorem State.tick_clock_kept (s : State) (t : Tick) :
    (s.tick t).clock.step = s.clock.step ∧ (s.tick t).clock.edges = s.clock.edges ∧
      (s.tick t).clock.ppsHigh = s.clock.ppsHigh ∧ (s.tick t).clock.ppsUntil = s.clock.ppsUntil := by
  unfold State.tick
  split
  · exact ⟨rfl, rfl, rfl, rfl⟩
  · exact ⟨rfl, rfl, rfl, rfl⟩

end time

/-! ### Lanes -/

section lanes
variable {s : State} {c : Nat}

theorem State.laneWake_held (h : s.sourceHeld 7 c = true) (receive : Bool) : s.laneWake c receive = s := if_pos h

theorem State.laneWake_receive (h : s.sourceHeld 7 c = false) (hwaking : (s.serdes c).rxWaking = true) :
    s.laneWake c true =
      (s.setSerdes { s.serdes c with rxWaking := false, locked := true, adapting := false }).laneChanged c := by
  simp [State.laneWake, h, hwaking]

theorem State.laneWake_transmit (h : s.sourceHeld 7 c = false) (hwaking : (s.serdes c).txWaking = true) :
    s.laneWake c false = (s.setSerdes { s.serdes c with txWaking := false }).laneChanged c := by
  simp [State.laneWake, h, hwaking]

theorem State.laneWake_received (h : (s.serdes c).rxWaking = false) : s.laneWake c true = s := by
  simp [State.laneWake, h]

theorem State.laneWake_transmitted (h : (s.serdes c).txWaking = false) : s.laneWake c false = s := by
  simp [State.laneWake, h]

theorem State.checkerLock_off {checked errors : Nat} (h : s.checkOf c = 0 ∨ s.nearLoop c = true ∧ s.genOf c ≠ s.checkOf c) :
    s.checkerLock c checked errors = s := if_pos h

theorem State.checkerLock_on {checked errors : Nat} (hpattern : s.checkOf c ≠ 0)
    (hown : s.nearLoop c = false ∨ s.genOf c = s.checkOf c) :
    s.checkerLock c checked errors = ((s.setSerdes { s.serdes c with checkLock := true }).bumpI 0x3201 9 c checked).bumpI 0x3201
      0xA c (if s.nearLoop c then 0 else min errors checked) := by
  refine if_neg ?_
  rintro (h | ⟨hnear, hother⟩)
  · exact hpattern h
  · rcases hown with hown | hown
    · exact absurd hnear (by simp [hown])
    · exact hother hown

end lanes

/-- Settles O44: each service by the equation of its case. -/
theorem timePulsesAndLaneServices : Obligations.TimePulsesAndLaneServices := by
  unfold Obligations.TimePulsesAndLaneServices
  refine ⟨?_, fun s t => ⟨_, rfl⟩, fun s t => ⟨_, rfl⟩, fun s t => ⟨_, rfl⟩, fun s t lane receive => ⟨_, rfl⟩,
    fun s t lane n errors => ⟨_, rfl⟩, fun s t => ⟨_, rfl⟩⟩
  intro s t u
  obtain ⟨hstep, hedges, hhigh, huntil⟩ := s.tick_clock_kept t
  have hgates : u.gates = s.gates := s.tick_gates t
  have hserdes (c : Nat) : u.serdes c = s.serdes c :=
    congrArg (fun l : Lines => ({ s with lines := l } : State).serdes c) (s.tick_lines t)
  rw [← hstep, ← hedges, ← hhigh, ← huntil, ← hgates]
  refine ⟨fun h => next_settle_eq (State.stepApply_unasked h), ?_, rfl, fun h => next_settle_eq (if_neg (ne_true_of_eq_false h)),
    fun h => next_settle_eq (if_pos h), fun h hdue => next_settle_eq (State.ppsEnd_due h hdue),
    fun h => next_settle_eq (State.ppsEnd_not h), ?_, ?_⟩
  · exact fun v sec h => ⟨fun hsec => next_settle_eq (State.stepApply_early h hsec),
      fun hsec hnone => next_settle_eq (State.stepApply_due h hsec hnone)⟩
  · intro lane checked errors c
    rw [← hserdes]
    exact ⟨fun h => next_settle_eq (State.checkerLock_off h),
      fun hpattern hown => next_settle_eq (State.checkerLock_on hpattern hown)⟩
  · intro lane c x
    have hx : u.serdes c = x := hserdes c
    rw [← hx]
    exact ⟨fun h receive => next_settle_eq (State.laneWake_held h receive),
      fun h hwaking => next_settle_eq (State.laneWake_receive h hwaking),
      fun h hwaking => next_settle_eq (State.laneWake_transmit h hwaking),
      fun h => next_settle_eq (State.laneWake_received h), fun h => next_settle_eq (State.laneWake_transmitted h)⟩

/-! ### A step, and what reset leaves -/

/-- Settles O1: a step takes the front command; with none the state stays. -/
theorem stepRunsTheFrontCommand : Obligations.StepRunsTheFrontCommand := by
  unfold Obligations.StepRunsTheFrontCommand
  refine ⟨fun c rest s h => ?_, fun s h => ?_⟩
  · simp only [step, h]
  · simp only [step, h]

/-- Settles O3: the state at reset is a single one, in which nothing is followed. -/
theorem resetIsFollowed : Obligations.ResetIsFollowed := by
  unfold Obligations.ResetIsFollowed
  decide

/-- Settles O4: a command of a stage answers the state it makes, every other one a settled state. -/
theorem noCommandStopsThePart : Obligations.NoCommandStopsThePart := by
  unfold Obligations.NoCommandStopsThePart
  intro i s
  cases h : stageCtl i with
  | none =>
    obtain ⟨u, hu⟩ := exec_settles i s h
    exact ⟨u.settle, hu⟩
  | some o =>
    obtain ⟨u, hu, -⟩ := exec_stage_same i s o h
    exact ⟨u, hu⟩

/-- An empty memory gives every object its Default. -/
theorem State.reset_objI (idx sub inst : Nat) : State.reset.objI idx sub inst = objDfltI idx sub inst := by
  unfold State.objI
  split
  · rfl
  · rfl

/-- Settles O5: by the fields of the state at reset. -/
theorem resetLeavesDefaults : Obligations.ResetLeavesDefaults := by
  unfold Obligations.ResetLeavesDefaults
  exact ⟨rfl, by decide, State.reset_objI, rfl, rfl, rfl, rfl, rfl, rfl, fun p => rfl, rfl, rfl, rfl, rfl⟩

end Sys2Proof.Machine
end
